-- ==== Sys2Proof/Word.lean ====
section
/-!
DEFINITION. Word.lean: the word types and their plainest arithmetic.

Registers, addresses and fields that the manual adds, shifts or masks are bit vectors; counts, indices and times
are `Nat`; a table with few entries in use is a list of (key, value) pairs.
-/
namespace Sys2Proof

/-- A byte. -/
abbrev Byte := BitVec 8
/-- The content of one register; a 32-bit register uses bits 31..0 (R449). -/
abbrev Word := BitVec 64
/-- A table held as (key, value) pairs, keys rising: an absent key has the table's own empty value. -/
abbrev Assoc (α : Type) := List (Nat × α)

/-- The value of a little-endian byte string (R7). -/
def leNat : List Byte → Nat
  | [] => 0
  | b :: bs => b.toNat + 256 * leNat bs

/-- The `n` low bytes of a number, least significant first (R7). -/
def natLe : Nat → Nat → List Byte
  | 0, _ => []
  | n + 1, v => BitVec.ofNat 8 v :: natLe n (v / 256)

end Sys2Proof
end

