-- ==== Sys2Proof/Syntax.lean ====
section
/-!
DEFINITION. Syntax.lean: the commands of the part, one constructor of `Instr` for each row of the opcode table, and
the types of their operands.

A command is a step of the part: a signal or a packet that arrives, a timer that runs out, a register access, a
command of a manager, or an operation that an engine of the part completes.  An operand holds what the outside
world brings with it (an address, a measured value, a frame); everything else the step needs is in the state.
-/
namespace Sys2Proof

/-- The fault classes (R354), lowest first. -/
inductive FaultClass where
  | corrected | contained | fenced | fatal | terminal
  deriving DecidableEq, Repr

/-- The CLASS code of a fault class (R356). -/
def FaultClass.code : FaultClass → Nat
  | .corrected => 0 | .contained => 1 | .fenced => 2 | .fatal => 3 | .terminal => 4

/-- The fault class of a CLASS code; codes above 4 are none. -/
def FaultClass.ofCode : Nat → Option FaultClass
  | 0 => some .corrected | 1 => some .contained | 2 => some .fenced | 3 => some .fatal | 4 => some .terminal
  | _ => none

/-- A unit to which a fault is charged: KIND and INDEX of its UNIT code (R352). -/
structure UnitId where
  kind : Nat
  index : Nat
  deriving DecidableEq, Repr

/-- The UNIT code: [31:24] KIND, [23:16] 0, [15:0] INDEX. -/
def UnitId.code (u : UnitId) : Nat := u.kind % 256 * 16777216 + u.index % 65536

/-- The unit that a 32-bit UNIT code names. -/
def UnitId.ofCode (c : Nat) : UnitId := ⟨c / 16777216 % 256, c % 65536⟩

/-- A fault as its source reports it (R354): what the Fault Collection Unit is given. -/
structure FaultReq where
  source : Nat
  cls : FaultClass
  unit : UnitId
  detail : Nat
  injected : Bool
  deriving DecidableEq, Repr

/-- A clock source watched by an AON monitor (R379). -/
inductive ClockSrc where
  | xo | rootPll | refclk (g : Fin 4)
  deriving DecidableEq, Repr

/-- A supply rail other than VDD_AON (R477). -/
inductive Rail where
  | vddCore | vddSram | vddaLane | vddhLane | vdd2 | vddqLp | vddioSb
  deriving DecidableEq, Repr

/-- A cause that wakes the device from Dormant (R387), by its code. -/
inductive WakeCause where
  | line (t : Fin 16) | pollChange (p : Fin 64) | hostPerst | bmc | timer | eclipseIn
  deriving DecidableEq, Repr

/-- The LAST_WAKE code of a wake cause (R387). -/
def WakeCause.code : WakeCause → Nat
  | .line _ => 1 | .pollChange _ => 2 | .hostPerst => 3 | .bmc => 4 | .timer => 5 | .eclipseIn => 6

/-- The ordering class of a TLP (R65). -/
inductive TlpClass where
  | posted | nonPosted | completion
  deriving DecidableEq, Repr

/-- The number of a class in the order of R65's table: posted 0, non-posted 1, completion 2. -/
def TlpClass.code : TlpClass → Nat
  | .posted => 0 | .nonPosted => 1 | .completion => 2

/-- What a TLP asks for. -/
inductive TlpOp where
  | memRead | memReadLocked | memWrite | ioRead | ioWrite
  | cfgRead (type1 : Bool) | cfgWrite (type1 : Bool)
  | atomic
  | completion
  /-- A message, by its message code. -/
  | message (code : Nat)
  deriving DecidableEq, Repr

/-- How a TLP is routed within a vSwitch (R55, step 2). -/
inductive TlpRoute where
  | byAddress | byId | toRoot | broadcast | toLocal
  deriving DecidableEq, Repr

/-- A TLP as it stands on a link.  `hdr` holds its header bytes with prefixes and OHC in their order on the wire;
the other fields are what stage 1 decodes from it. -/
structure Tlp where
  op : TlpOp
  route : TlpRoute
  tc : Nat
  ro : Bool
  ido : Bool
  /-- AT = translated (R136). -/
  translated : Bool
  /-- Address (address routing), register offset of a configuration request, or Lower Address of a completion. -/
  addr : Nat
  /-- Target of ID routing; of a completion, the requester ID it goes to. -/
  destId : Nat
  reqId : Nat
  tag : Nat
  cplId : Nat
  /-- Completion status: 0 Successful Completion, 1 Unsupported Request, 2 Configuration Request Retry Status, 4 Completer Abort. -/
  status : Nat
  /-- Bytes of payload, the bytes that a read asks for, or the Byte Count of a completion. -/
  len : Nat
  data : List Byte
  poisoned : Bool
  /-- An MCTP vendor-defined message. -/
  mctp : Bool
  /-- A vendor-defined message that the base configuration marks as lossy (R64). -/
  lossy : Bool
  /-- Stage 1 finds the TLP malformed. -/
  malformed : Bool
  /-- The TLP carries an IDE prefix or IDE OHC (R294). -/
  ide : Bool
  /-- First double word byte enables of a configuration request. -/
  be : Nat
  hdr : List Byte
  deriving DecidableEq, Repr

/-- The class of a TLP: requests without a completion are posted. -/
def Tlp.cls (t : Tlp) : TlpClass :=
  match t.op with
  | .memWrite => .posted
  | .message _ => .posted
  | .completion => .completion
  | _ => .nonPosted

/-- A message (KIND 3 of R92). -/
def Tlp.isMessage (t : Tlp) : Bool :=
  match t.op with
  | .message _ => true
  | _ => false

/-- The KIND that a record gives a TLP (R92): 0 posted, 1 non-posted, 2 completion, 3 message. -/
def Tlp.kind (t : Tlp) : Nat := if t.isMessage then 3 else t.cls.code

/-- Payload bytes that a TLP carries: reads and I/O or configuration reads carry none. -/
def Tlp.payload (t : Tlp) : Nat := t.data.length

/-- How much of a TLP has come in (R67, R68): all of it; its header and the first 64 bytes of payload, with the rest on its way; or that rest,
good, or failing its check or ending early. -/
inductive Arrival where
  | whole | first | restGood | restBad
  deriving DecidableEq, Repr

/-- The fabric header of a TLP frame (R179). -/
structure FabHdr where
  destNode : Nat
  srcNode : Nat
  destPort : Nat
  srcVsw : Nat
  path : Nat
  ctx : Nat
  gen : Nat
  sprayed : Bool
  marked : Bool
  colour : Nat
  frc : Option Nat
  lossy : Bool
  /-- µs left to the source deadline of a non-posted request. -/
  remain : Nat
  srcPort : Nat
  /-- 0 posted, 1 non-posted, 2 completion, 3 message. -/
  kind : Nat
  deriving DecidableEq, Repr

/-- An entry of a feedback frame (R89). -/
structure FeedbackEntry where
  frc : Nat
  cn : Nat
  worst : Nat
  drop : Bool
  ackValid : Bool
  path : Nat
  ack : Nat
  deriving DecidableEq, Repr

/-- An entry of a route advertisement (R143): EVENT 0 WITHDRAW, 1 RESTORE, 2 TAKEOVER, 3 ignored. -/
structure AdvEntry where
  node : Nat
  event : Nat
  server : Nat
  deriving DecidableEq, Repr

/-- An entry of a Fabric Error Report (R154); TYPE 0 posted, 1 non-posted, others ignored. -/
structure FerItem where
  type : Nat
  vsw : Nat
  reason : Nat
  count : Nat
  dropNode : Nat
  port : Nat
  detail : Nat
  deriving DecidableEq, Repr

/-- A Fabric Error Report (R154). -/
structure FerFrame where
  fromNode : Nat
  toNode : Nat
  seq : Nat
  ack : Bool
  bootId : Nat
  items : List FerItem
  deriving DecidableEq, Repr

/-- A RESOLVE payload (R191). -/
structure Resolve where
  fromNode : Nat
  toNode : Nat
  fromPort : Nat
  toPort : Nat
  session : Nat
  rxLast : Nat
  deriving DecidableEq, Repr

/-- What a frame carries (R177). -/
inductive FrameBody where
  /-- The first segment of a TLP (R179): its fabric header and the TLP that it opens. -/
  | tlp (h : FabHdr) (t : Tlp)
  /-- A later segment of a TLP, with its bytes. -/
  | part (bytes : List Byte)
  | feedback (fromNode toNode : Nat) (es : List FeedbackEntry)
  | routeAdv (fromNode : Nat) (es : List AdvEntry)
  | fer (f : FerFrame)
  | icp (bytes : List Byte)
  | resolve (r : Resolve)
  /-- A TEST frame (R205): its payload, and the bits of it that differ from PRBS31. -/
  | test (errBits : Nat) (bytes : List Byte)
  | abort
  | unknown
  deriving DecidableEq, Repr

/-- A frame as it stands on a Calez link (R176). -/
structure Frame where
  type : Nat
  vc : Nat
  pool : Nat
  first : Bool
  last : Bool
  abort : Bool
  seq : Nat
  ack : Nat
  len : Nat
  /-- Credit returns: VC, pool and LIMIT. -/
  cr0 : Option (Nat × Nat × Nat)
  cr1 : Option (Nat × Nat × Nat)
  session : Nat
  body : FrameBody
  deriving DecidableEq, Repr

/-- The content of the three PARAM blocks (R195). -/
structure Param where
  node : Nat
  twin : Bool
  port : Nat
  widths : Nat
  rates : Nat
  session : Nat
  ka : Nat
  prevValid : Bool
  prevNode : Nat
  prevSession : Nat
  prevRxLast : Nat
  prevPort : Nat
  laneOk : Nat
  deriving DecidableEq, Repr

/-- A control block that the part sends (R174). -/
inductive Block where
  | idle
  | keepalive (node session ack : Nat)
  | ack (ack : Nat) (nak : Bool)
  | credit (vc pool limit : Nat)
  | replay (first : Nat)
  | reset (node reason : Nat)
  | quiet (op : Nat)
  | resume (ack session : Nat)
  | train (lane state port eqOp eqArg node : Nat)
  | param (index : Nat) (seen : Bool) (p : Param)
  | timeReq (id : Nat)
  | timeT2 (id t2 : Nat)
  | timeHi (id t2 : Nat)
  | timeT3 (id t3 : Nat)
  deriving DecidableEq, Repr

/-- An access to a register on the internal interconnect or through a BAR (R449, R451). -/
inductive Space where
  /-- Chip Register Space. -/
  | crs
  /-- BAR0 of the management function of a vSwitch (R109). -/
  | mgmtBar0 (v : Fin 32)
  /-- BAR0 of the Mover PF of a vSwitch. -/
  | moverBar0 (v : Fin 32)
  /-- BAR2 of the Mover PF of a vSwitch: the instance pages (R236). -/
  | moverBar2 (v : Fin 32)
  deriving DecidableEq, Repr

/-- The issuer of an access: master ID and privilege level (R451), and for master 13 the vSwitch whose BAR0 carried
the access (R109). -/
structure Master where
  id : Fin 16
  priv : Fin 3
  vsw : Fin 32
  deriving DecidableEq, Repr

/-- A register access: its issuer, where, of how many bytes, and whether it is locked or exclusive (R449, R463). -/
structure Access where
  by_ : Master
  space : Space
  offset : Nat
  bytes : Nat
  locked : Bool
  deriving DecidableEq, Repr

/-- A host configuration request (R103). -/
structure CfgReq where
  write : Bool
  type1 : Bool
  bus : Nat
  dev : Nat
  fn : Nat
  /-- Double-word number of the register. -/
  reg : Nat
  /-- Byte enables. -/
  be : Nat
  data : Nat
  tag : Nat
  reqId : Nat
  deriving DecidableEq, Repr

/-- The outcome of a sideband transfer (R462, R464). -/
inductive SbResult where
  | done (value : Byte)
  /-- Failed, with the REASON of the bridge error log. -/
  | failed (reason : Nat)
  deriving DecidableEq, Repr

/-- Whose ATS request a translation completion answers (R243, R244): an engine's, or that of an instance for its ring. -/
inductive XlatFor where
  | engine (e : Fin 16)
  | ring (n : Fin 4096)
  deriving DecidableEq, Repr

/-- The result that an ATS translation completion carries (R244). -/
inductive AtsResult where
  | granted (size addr : Nat) (read write : Bool)
  | error
  deriving DecidableEq, Repr

/-- A data link layer packet (R283, R290, R299). -/
inductive Dllp where
  | ack (seq : Nat)
  | nak (seq : Nat)
  | updateFc (vc : Nat) (cls : TlpClass) (hdr data : Nat)
  /-- The first credits of a class (R60): header and data credits, and the scale of each (R290): 0 none negotiated, 1, 2, 3 for factors 1, 4, 16. -/
  | initFc (cls : TlpClass) (hdr data hdrScale dataScale : Nat)
  | feature (scaled : Bool)
  /-- A request for L1 from below: ASPM (PM_Active_State_Request_L1), or PCI-PM (PM_Enter_L1) as its function goes to a low-power state (R283). -/
  | pmEnterL1
  | pmEnterPciL1
  | pmRequestAck
  deriving DecidableEq, Repr

/-- A receiver margining command of a lane (R278), as PCI Express names them: a report of one of the capability values, Go to Normal Settings, Clear
Error Log, or a step of timing (to the left or right) or of voltage (up or down) by a number of steps. -/
inductive MarginCmd where
  | capabilities | numVoltageSteps | numTimingSteps | maxTimingOffset | maxVoltageOffset | samplingRateVoltage | samplingRateTiming | maxLanes
  | normal
  | clearErrors
  | stepTiming (left : Bool) (steps : Nat)
  | stepVoltage (down : Bool) (steps : Nat)
  deriving DecidableEq, Repr

/-- A margining command and the lane of the tile that it is for (R278, R279). -/
structure LaneMargin where
  lane : Fin 16
  cmd : MarginCmd
  deriving DecidableEq, Repr

/-- What the state that a link's training leaves has found (R193): lanes, and at ALIGN the partner's node and port. -/
structure TrainExit where
  lanes : Nat
  peerNode : Nat
  peerPort : Nat
  deriving DecidableEq, Repr

/-- A PTM Request that arrives on a port, with its requester ID (R100). -/
structure PtmReq where
  port : Fin 64
  rid : Nat
  deriving DecidableEq, Repr

/-- The errors of R306 that take a PCIe link down. -/
inductive LinkError where
  | receiverOverflow | flowControl | dataLink
  deriving DecidableEq, Repr

/-- The transport of an SPDM request (R446): MCTP channel, or the DOE mailbox of a management function. -/
inductive SpdmVia where
  | mctp (ch : Fin 67) (src tag : Nat)
  | doe (v : Fin 32)
  deriving DecidableEq, Repr

/-- What an access of LAUNDER or of the SP scrub finds (R403, R404). -/
inductive EccResult where
  | clean | corrected | uncorrectable
  deriving DecidableEq, Repr

/-- The commands of the part, in the order of the opcode table. -/
inductive Instr where
  /-- POR_N_ASSERT (R476).  POR_N held low for 1 µs starts a cold reset, and any power-fail flush in progress is cut short. -/
  | porNAssert
  /-- POR_N_DEASSERT (R380).  Deassertion of POR_N samples MODE[2:0] and starts the cold-reset boot timeline. -/
  | porNDeassert (strap : Fin 8)
  /-- XO_STABLE (R378).  After 65,536 XO cycles without failure, the XO counts as stable, the reset reason is updated and the SP ROM is released at 25 MHz. -/
  | xoStable
  /-- ROOT_PLL_STABLE (R378).  The root PLL becomes stable, all fast domains start on one common edge, and the SP and AON clocks switch to their root sources. -/
  | rootPllStable
  /-- CLOCK_MONITOR_FAIL (R379).  An AON monitor finds the XO, the root PLL or a watched REFCLK failed, and a cold reset follows. -/
  | clockMonitorFail (src : ClockSrc)
  /-- FIRMWARE_READY (R437).  Firmware finishes initialising and the device becomes READY; a trial boot writes TRIAL 0 and burns FW_ARB. -/
  | firmwareReady
  /-- WARM_RESET (R381).  A warm reset resets every domain but AON and the clocks, keeps RWS fields and buffered journal records, and reboots under R30. -/
  | warmReset
  /-- PWRFAIL_N_RECOGNISED (R394).  PWRFAIL_N low for two AON cycles clears HB_RUN, sheds every block but AON, the SP, PERI and flash, and flushes the journal. -/
  | pwrfailNRecognised
  /-- POWER_FAIL_FLUSH_DONE (R394).  The journal flush ends, the flash goes idle, and the device holds itself in reset with STATE POWER_FAIL. -/
  | powerFailFlushDone
  /-- PWRFAIL_N_RISE (R397).  PWRFAIL_N rises again with the supplies held, and a cold reset with cause 0x0B follows the completed sequence. -/
  | pwrfailNRise
  /-- VDD_AON_LOSS (R480).  VDD_AON falls below 0.70 V, which clears the TERMINAL latch, every retained AON field and LPDDR4X retention. -/
  | vddAonLoss
  /-- SUPPLY_LOSS (R479).  A supply other than VDD_AON is lost without warning, and the in-flight state is lost as in the no-warning case. -/
  | supplyLoss (rail : Rail)
  /-- SP_WATCHDOG_EXPIRED (R350).  The SP fails to restart its AON watchdog within 1 ms, which is a TERMINAL fault. -/
  | spWatchdogExpired
  /-- FIRMWARE_WATCHDOG_EXPIRED (R354).  The 100 ms firmware watchdog expires and raises a CONTAINED fault against the management complex. -/
  | firmwareWatchdogExpired
  /-- HOST_PERST_N_ASSERT (R126).  HOST_PERST_N of a vSwitch is asserted, resetting its hierarchy, direct ports, bound functions and Mover instances. -/
  | hostPerstNAssert (v : Fin 32)
  /-- HOST_PERST_N_DEASSERT (R126).  HOST_PERST_N deasserts and the 20 ms hold of the vSwitch begins. -/
  | hostPerstNDeassert (v : Fin 32)
  /-- HOST_PERST_HOLD_END (R126).  The 20 ms after HOST_PERST_N deassertion expire and the vSwitch leaves reset, so READY can return. -/
  | hostPerstHoldEnd (v : Fin 32)
  /-- AON_READ (R484).  The JTAG instruction AON_READ shifts out RST_REASON, RST_DETAIL, the TERMINAL latch and FAULT_N_LOW without changing anything. -/
  | aonRead
  /-- TILE_PARK (R383).  PARK_IDLE expires with every slot allowing it, and the tile enters PARKED. -/
  | tilePark (t : Fin 16)
  /-- TILE_DARK (R383).  DARK_IDLE expires with every slot allowing it, and the tile enters DARK. -/
  | tileDark (t : Fin 16)
  /-- TILE_WAKE_CAUSE (R384).  A TLP, line activity, a slot or CLKREQ# event, or a due time exchange wakes a tile, reversing any entry in progress. -/
  | tileWakeCause (t : Fin 16)
  /-- BEACON_DETECTED (R281).  A squelch detector sees four beacon edges or line activity and the DARK tile starts its PLLs. -/
  | beaconDetected (t : Fin 16)
  /-- TILE_PLL_STABLE (R261).  A tile PLL becomes stable 2,048 reference cycles after lock, and its lanes may use it. -/
  | tilePllStable (t : Fin 16) (lc : Bool)
  /-- TILE_PLL_LOCK_LOST (R263).  A tile PLL loses lock with a good reference: its links go down, a CONTAINED fault is raised and the PLL restarts. -/
  | tilePllLockLost (t : Fin 16) (lc : Bool)
  /-- POWER_UP_CALIBRATION_DONE (R280).  The power-up calibration of a tile leaving OFF completes and training starts from the training point. -/
  | powerUpCalibrationDone (t : Fin 16)
  /-- DORMANT_ENTRY (R386).  The Dormant conditions hold for DORMANT_IDLE, and the SP puts LPDDR4X in self-refresh, SRAM in retention, sets WAKE_TIMER and stops the root PLL. -/
  | dormantEntry
  /-- DORMANT_WAKE (R388).  A wake cause recognised at an AON edge restarts the root PLL and the named tile PLLs. -/
  | dormantWake (c : WakeCause)
  /-- WAKE_TIMER_EXPIRY (R387).  Device time reaches WAKE_TIMER and the device wakes from Dormant. -/
  | wakeTimerExpiry
  /-- PRESS_STEP_DONE (R273).  A live or quiet PRESS step completes a lane pass, setting AGE to 0 and updating SNR and LOW_SNR. -/
  | pressStepDone (t : Fin 16) (lane : Fin 16) (snr : Byte)
  /-- BACKGROUND_LEVEL_CHANGE (R401).  An activity's age passes its deadline or CRIT_MULT times it, changing its level and on CRITICAL raising a CONTAINED fault. -/
  | backgroundLevelChange (key : Nat)
  /-- MARGIN_COMMAND (R279).  A Lane Margining command is carried out on the spare slice, or NAKed while the lane is URGENT or CRITICAL. -/
  | marginCommand (t : Fin 16) (x : LaneMargin)
  /-- KEEPALIVE_SEND (R187).  KA_INTERVAL passes since the last frame or KEEPALIVE and a KEEPALIVE block is sent. -/
  | keepaliveSend (n : Fin 32)
  /-- LINK_DOWN_TIMEOUT (R187).  No valid block arrives for the effective timeout and the Calez link is declared down with reason 0x01. -/
  | linkDownTimeout (n : Fin 32)
  /-- ALIGNMENT_LOST (R172).  Three consecutive codeword rows disagree on CW_SEQ, AM or LANE and the link goes down. -/
  | alignmentLost (n : Fin 32)
  /-- UNCORRECTABLE_LIMIT (R173).  A lane counts 16 uncorrectable codewords within 100 µs and the link goes down. -/
  | uncorrectableLimit (n : Fin 32)
  /-- ACK_SEND_TIMER (R184).  An accepted frame has gone unreported for 0.2 µs, or 32 have been accepted, and an ACK block is sent. -/
  | ackSendTimer (n : Fin 32)
  /-- REPLAY_TIMEOUT (R185).  Frames are unacknowledged and the ACK has not advanced for 2 µs, so the sender replays. -/
  | replayTimeout (n : Fin 32)
  /-- CREDIT_REFRESH (R181).  At least every 2 µs the receiver sends every LIMIT again in CREDIT blocks. -/
  | creditRefresh (n : Fin 32)
  /-- KEEPALIVE_RX (R187).  A KEEPALIVE block naming the partner arrives and counts as a valid block. -/
  | keepaliveRx (n : Fin 32) (node session ack : Nat)
  /-- ACK_BLOCK_RX (R185).  An ACK block frees acknowledged frames from the replay store, or with NAK set causes a replay. -/
  | ackBlockRx (n : Fin 32) (ack : Nat) (nak : Bool)
  /-- CREDIT_RX (R181).  A CREDIT block or header credit return updates the sender's LIMIT for a VC and pool. -/
  | creditRx (n : Fin 32) (vc pool limit : Nat)
  /-- REPLAY_BLOCK_RX (R185).  A REPLAY block announces the first frame of a replay. -/
  | replayBlockRx (n : Fin 32) (first : Nat)
  /-- RESET_BLOCK_RX (R200).  A RESET block puts the side into RESET, sending its own RESET blocks, or joins a reset under way. -/
  | resetBlockRx (n : Fin 32) (node reason : Nat)
  /-- QUIET_REQ_RX (R201).  A QUIET REQ is answered ACK or REJECT, and crossing REQs act as ACK. -/
  | quietReqRx (n : Fin 32)
  /-- QUIET_ACK_RX (R201).  A QUIET ACK leads the side to send 16 IDLE rows and go electrically idle. -/
  | quietAckRx (n : Fin 32)
  /-- QUIET_REJECT_RX (R201).  A QUIET REJECT returns the side to ACTIVE. -/
  | quietRejectRx (n : Fin 32)
  /-- QUIET_IDLE_EXPIRY (R201).  A side has been idle for QUIET_IDLE µs with QUIET enabled and sends QUIET REQ. -/
  | quietIdleExpiry (n : Fin 32)
  /-- QUIET_HANDSHAKE_TIMEOUT (R201).  No answer to QUIET REQ within 1 µs returns the side to ACTIVE. -/
  | quietHandshakeTimeout (n : Fin 32)
  /-- QUIET_WAKE (R203).  A TLP, frame or due time exchange wakes a QUIET link, which sends TRAIN blocks and relocks without EQ or PARAM. -/
  | quietWake (n : Fin 32)
  /-- RESUME_RX (R203).  A RESUME block with a matching SESSION returns the waking link to ACTIVE; a different SESSION is a protocol error. -/
  | resumeRx (n : Fin 32) (ack session : Nat)
  /-- WAKE_TIMEOUT (R203).  The link is not back in ACTIVE 100 µs after the wake and goes down with reason 0x07. -/
  | wakeTimeout (n : Fin 32)
  /-- TRAIN_SET_RX (R269).  A TRAIN SET asks the partner to apply a legal transmit setting within 1 µs and answer HOLD. -/
  | trainSetRx (n : Fin 32) (lane arg : Nat)
  /-- TRAIN_HOLD_RX (R269).  A TRAIN HOLD reports the sender's setting, and the partner answers FOM for a changed leader setting. -/
  | trainHoldRx (n : Fin 32) (lane arg snr : Nat)
  /-- TRAIN_FOM_RX (R269).  A TRAIN FOM gives the partner's receive SNR for a leader setting. -/
  | trainFomRx (n : Fin 32) (lane arg : Nat)
  /-- TRAIN_DONE_RX (R269).  A TRAIN DONE ends EQ on a lane and the partner answers DONE. -/
  | trainDoneRx (n : Fin 32) (lane arg snr : Nat)
  /-- PARAM_RX (R196).  PARAM blocks are exchanged and the width and rate result decides ACTIVE, another pass, or RESET with reason 0x0B or 0x0C. -/
  | paramRx (n : Fin 32) (p : Param)
  /-- CZ_TRAIN_STATE_EXIT (R193).  A Calez training state reaches its exit and the link moves to the next state: with the lanes that passed it, and
the partner's node and port, which ALIGN exchanges. -/
  | czTrainStateExit (n : Fin 32) (x : TrainExit)
  /-- CZ_TRAIN_STATE_TIMEOUT (R193).  LOCK, ALIGN, EQ or PARAM fails to exit in time and the link returns to RESET without counting a down. -/
  | czTrainStateTimeout (n : Fin 32)
  /-- CZ_DETECT_RETRY (R193).  DETECT found fewer than four lanes and retries after 1 ms. -/
  | czDetectRetry (n : Fin 32) (lanes : Nat)
  /-- CZ_SIGNAL_LOSS (R193).  Loss of signal on every included lane during training returns the link to RESET. -/
  | czSignalLoss (n : Fin 32)
  /-- CONTROL_BLOCK_UNKNOWN (R175).  A control block of an unlisted type is ignored and counted. -/
  | controlBlockUnknown (n : Fin 32) (type : Nat)
  /-- FRAME_RX (R183).  A frame arrives whole and is accepted, NAKed, discarded as duplicate or declared a protocol error by its SEQ. -/
  | frameRx (n : Fin 32) (f : Frame) (intact : Bool)
  /-- TLP_FRAME_RX (R179).  An accepted TLP frame whose LAST segment completes a TLP is handed to the core with its fabric header. -/
  | tlpFrameRx (n : Fin 32)
  /-- ABORT_FRAME_RX (R178).  An abort frame ends the object in progress on its VC as unusable. -/
  | abortFrameRx (n : Fin 32)
  /-- TEST_FRAME_RX (R205).  In mode 5 a TEST frame of PRBS31 is checked and its bit errors counted. -/
  | testFrameRx (n : Fin 32)
  /-- FEEDBACK_RX (R90).  A feedback frame's entries subtract acknowledgements from spray counters and apply marks to flow-rate contexts. -/
  | feedbackRx (n : Fin 32)
  /-- ROUTE_ADV_RX (R142).  A route advertisement's WITHDRAW, RESTORE and TAKEOVER entries are applied and passed on within 1.5 µs. -/
  | routeAdvRx (n : Fin 32)
  /-- FER_RX (R157).  A Fabric Error Report is accepted or found a repeat, acknowledged, and its entries logged or used to end contexts. -/
  | ferRx (n : Fin 32)
  /-- FER_ACK_RX (R156).  An ACK frame frees the unacknowledged FER frame towards its source node. -/
  | ferAckRx (n : Fin 32)
  /-- ICP_FRAME_RX (R327).  An ICP packet on the twin link is taken whole and handed to the twin mirror agent, the SP or the relay channel. -/
  | icpFrameRx (n : Fin 32)
  /-- RESOLVE_RX (R190).  A RESOLVE settles the ended session's unacknowledged frames as accepted or not delivered. -/
  | resolveRx (n : Fin 32)
  /-- RESOLVE_SEND (R191).  The receiver side of a downed link sends RESOLVE, then twice more at 20 µs intervals. -/
  | resolveSend (n : Fin 32)
  /-- RESOLVE_TIMEOUT (R190).  RESOLVE_TO passes since the down and every unsettled frame settles in doubt. -/
  | resolveTimeout (n : Fin 32)
  /-- TIME_EXCHANGE_DUE (R98).  EXCH_PERIOD passes and the node sends TIME_REQ towards the grandmaster. -/
  | timeExchangeDue
  /-- TIME_REQ_RX (R174).  A TIME_REQ is timestamped and answered with TIME_T2, TIME_HI and TIME_T3. -/
  | timeReqRx (n : Fin 32) (id : Nat)
  /-- TIME_T2_RX (R174).  A TIME_T2 block delivers t2 bits [47:0]. -/
  | timeT2Rx (n : Fin 32) (id t2 : Nat)
  /-- TIME_HI_RX (R174).  A TIME_HI block delivers t2 bits [63:48]. -/
  | timeHiRx (n : Fin 32) (id hi : Nat)
  /-- TIME_T3_RX (R98).  TIME_T3 completes the exchange, the offset is computed and device time is stepped or slewed. -/
  | timeT3Rx (n : Fin 32) (id t3 : Nat)
  /-- TLP_INGRESS (R52).  A TLP received whole or cut through passes parse, classification, lookup, access check, cell write and VOQ. -/
  | tlpIngress (p : Fin 64) (t : Tlp) (a : Arrival)
  /-- EGRESS_SCHEDULE (R65).  The egress scheduler picks an eligible head and sends the TLP, splitting it to the egress MPS where needed. -/
  | egressSchedule (p : Fin 64)
  /-- PACING_RELEASE (R85).  Tokens reach 0 or more and the head TLP of a pacing queue passes to its VOQ on the current route. -/
  | pacingRelease (frc : Nat)
  /-- MOVE_FENCE_EXPIRY (R144).  SPRAY_FENCE_TO passes since a path was added and the TLPs held by the move fence become eligible. -/
  | moveFenceExpiry (node : Fin 4096)
  /-- SPRAY_COUNTER_TIMEOUT (R87).  A non-zero spray counter unchanged for SPRAY_FENCE_TO, or one of a withdrawn path, is cleared. -/
  | sprayCounterTimeout (frc path : Nat)
  /-- FEEDBACK_HOLD_EXPIRY (R88).  A feedback frame is full or FB_HOLD core cycles pass since its first entry, and it is sent on VC7. -/
  | feedbackHoldExpiry
  /-- INC_PERIOD_END (R86).  An INC_PERIOD without marks ends and RATE rises by AI or 4 × AI. -/
  | incPeriodEnd (frc : Nat)
  /-- FRC_RETIRE (R84).  A flow-rate context idle for FRC_IDLE with zero spray counters and an empty pacing queue is retired. -/
  | frcRetire (frc : Nat)
  /-- CONTEXT_SWEEP (R149).  The sweep visits a context, ends it if its deadline has passed, and retires expired destination contexts. -/
  | contextSweep (ctx : Nat)
  /-- QUARANTINE_EXPIRY (R150).  QUAR_TIME passes and a quarantined remapped tag becomes free again. -/
  | quarantineExpiry (p : Fin 64) (tag : Nat)
  /-- EPOCH_SLOT_DRAINED (R161).  A waiting epoch advance proceeds once its slot drains or SYNC_LIMIT has passed, flagging the rest for recheck. -/
  | epochSlotDrained
  /-- SYNC_LIMIT_EXPIRY (R162).  An ended epoch passes SYNC_LIMIT and its requests not yet at stage 8 are flagged for recheck. -/
  | syncLimitExpiry
  /-- EPOCH_SYNC_COMPLETE (R164).  Every request stamped before the target epoch has left or been flagged, and EPOCH_SYNC replies OK. -/
  | epochSyncComplete
  /-- FER_HOLD_EXPIRY (R155).  FER_HOLD passes since a frame's first entry and the FER frame is sent if R156 allows. -/
  | ferHoldExpiry (node : Fin 4096)
  /-- FER_RETRY_EXPIRY (R156).  An unacknowledged FER frame is resent, and after three resends it is discarded with a CONTAINED fault. -/
  | ferRetryExpiry (node : Fin 4096)
  /-- PCIE_DL_UP (R305).  A PCIe link reaches DL_Active, sends Set_Slot_Power_Limit and directs a speed change to the highest common rate. -/
  | pcieDlUp (p : Fin 64) (rate : Fin 6) (width : Nat) (flit reversed : Bool) (partnerRate : Fin 6)
  /-- PCIE_LINK_DOWN (R287).  A PCIe link leaves L0 under R287, dropping its VOQs and orphaning contexts whose OUT_PORT it is. -/
  | pcieLinkDown (p : Fin 64) (ltssm : Fin 11)
  /-- SURPRISE_DOWN (R306).  A Surprise Down takes the link down, raises a CONTAINED fault and triggers DPC as R123 sets out. -/
  | surpriseDown (p : Fin 64)
  /-- LINK_FATAL_ERROR (R306).  Receiver Overflow, a flow control protocol error or a data link protocol error takes the link down with a CONTAINED fault. -/
  | linkFatalError (p : Fin 64) (e : LinkError)
  /-- PCIE_RATE_CHANGE (R286).  A rate or width change completes, updating CORE_PORT_BW and raising the port event. -/
  | pcieRateChange (p : Fin 64) (rate : Fin 6) (width : Nat)
  /-- PCIE_L1_REQUEST (R299).  An upstream port idle for L1_IDLE µs with L1 enabled requests ASPM L1. -/
  | pcieL1Request (p : Fin 64)
  /-- PCIE_L1_EXIT (R297).  A PCIe link leaves L1 and its tile resumes within the reported exit latency. -/
  | pcieL1Exit (p : Fin 64)
  /-- CLKREQ_SAMPLE (R299).  CLKREQ# is sampled every 10 µs while the port is in L1.1 or L1.2. -/
  | clkreqSample (p : Fin 64) (asserted : Bool)
  /-- PTM_DIALOGUE (R296).  Every PERIOD an upstream port runs a PTM dialogue and sets HOST_TIME_OFS and VALID. -/
  | ptmDialogue (p : Fin 64) (offset : Word)
  /-- PTM_REQUEST_RX (R100).  A downstream port answers a PTM Request with device time plus the vSwitch's host offset. -/
  | ptmRequestRx (x : PtmReq)
  /-- PME_TURN_OFF_RX (R300).  PME_Turn_Off is forwarded below and acknowledgements are collected. -/
  | pmeTurnOffRx (v : Fin 32)
  /-- PME_TO_ACK_RX (R300).  A PME_TO_Ack from below is collected, and with all collected the upstream port acknowledges and enters L2/L3 Ready. -/
  | pmeToAckRx (p : Fin 64)
  /-- PME_TO_ACK_TIMEOUT (R300).  A link that does not answer PME_Turn_Off within 10 ms is taken as answered. -/
  | pmeToAckTimeout (p : Fin 64)
  /-- LTR_RX (R301).  An LTR message from below is recorded and consumed, and the upstream port sends a new LTR if the minimum changes. -/
  | ltrRx (p : Fin 64) (snoop nosnoop : Nat)
  /-- INTX_MESSAGE_RX (R295).  An Assert or Deassert INTx is swizzled and routed, and a composed bridge sends upstream only when its OR changes. -/
  | intxMessageRx (p : Fin 64) (rid pin : Nat) (on : Bool)
  /-- ERROR_MESSAGE_RX (R121).  An error message from a bound function is forwarded to its host under its host ID, or dropped if unbound. -/
  | errorMessageRx (p : Fin 64) (rid severity : Nat)
  /-- CONFIG_REQUEST (R103).  A host configuration request is answered, routed to a bound function, guarded under R118, or completed with Unsupported Request. -/
  | configRequest (v : Fin 32) (r : CfgReq)
  /-- ACS_CONTROL_WRITE (R159).  A host write to ACS Control of a virtual bridge changes its ACS rules as one epoch. -/
  | acsControlWrite (v : Fin 32) (bridge : Nat) (acs vec : Nat)
  /-- BME_CLEAR (R125).  Clearing Bus Master Enable on a bridge or function refuses or stops its requests as R125 sets out. -/
  | bmeClear (v : Fin 32) (fn : Nat)
  /-- MOVER_PF_D3HOT (R254).  The Mover PF entering D3hot ends its fetched descriptors with ABORTED_BME as a BME clear does. -/
  | moverPfD3hot (v : Fin 32)
  /-- FLR_ENDPOINT (R125).  An FLR of a bound endpoint function is forwarded, unless PF_SHARED guards it. -/
  | flrEndpoint (v : Fin 32) (hostRid : Nat)
  /-- FLR_MOVER_PF (R125).  An FLR of the Mover PF retires its tags, loses its descriptors and returns its instances to DISABLED. -/
  | flrMoverPf (v : Fin 32)
  /-- FLR_MGMT_FUNCTION (R324).  An FLR of the management function ends its ICP ring channel and discards replies still to come. -/
  | flrMgmtFunction (v : Fin 32)
  /-- SECONDARY_BUS_RESET (R125).  Secondary Bus Reset hot-resets a direct bridge's link or sends an FLR to each function bound to a composed bridge. -/
  | secondaryBusReset (v : Fin 32) (bridge : Nat)
  /-- DPC_TRIGGER_STATUS_CLEAR (R124).  The host clears DPC Trigger Status and the bridge leaves containment, or reports link down while DPC_HELD is set. -/
  | dpcTriggerStatusClear (v : Fin 32) (bridge : Nat)
  /-- LINK_DISABLE_WRITE (R307).  A host sets or clears Link Disable, disabling the link or letting it train from Detect. -/
  | linkDisableWrite (v : Fin 32) (bridge : Nat) (set : Bool)
  /-- RETRAIN_LINK_WRITE (R285).  Target Link Speed and Retrain Link act on the physical link, capped by MAX_RATE; on a composed bridge they have no effect. -/
  | retrainLinkWrite (v : Fin 32) (bridge : Nat) (speed : Nat)
  /-- SLOT_POWER_ON_REQUEST (R303).  Power Controller Control On sends a power-on request for EGV_SLOT to the EGV. -/
  | slotPowerOnRequest (v : Fin 32) (bridge : Nat)
  /-- SLOT_POWER_OFF_REQUEST (R303).  Power Controller Control Off asserts PERST#, then sends a power-off request to the EGV 100 µs later; on a composed bridge it completes an orderly unbinding. -/
  | slotPowerOffRequest (v : Fin 32) (bridge : Nat)
  /-- SLOT_INDICATOR_WRITE (R303).  An Attention or Power Indicator Control write is written to the expander outputs. -/
  | slotIndicatorWrite (v : Fin 32) (bridge : Nat) (attn power : Fin 4)
  /-- PRI_ATS_DISABLE (R244).  Disabling PRI, PASID or ATS on the Mover PF ends every parked descriptor with XLAT_FAULT. -/
  | priAtsDisable (v : Fin 32) (enables : Nat)
  /-- PRESENCE_CHANGE (R304).  A polled presence change sets Presence Detect Changed and, on loss with power on, triggers the presence cut. -/
  | presenceChange (p : Fin 64) (present : Bool)
  /-- MRL_OPEN (R304).  An MRL opening with power on acts as presence lost and sets MRL Sensor Changed. -/
  | mrlOpen (p : Fin 64)
  /-- POWER_FAULT_ASSERT (R304).  A polled power fault asserts PERST#, sets Power Fault Detected and cuts any ramp. -/
  | powerFaultAssert (p : Fin 64)
  /-- POWER_GOOD (R392).  Power good after a power-on ends the ramp, sets POWER_ON and starts the PERST_DELAY wait. -/
  | powerGood (p : Fin 64)
  /-- ATTENTION_BUTTON_PRESS (R304).  A polled attention button press sets Attention Button Pressed. -/
  | attentionButtonPress (p : Fin 64)
  /-- WAKE_ASSERT (R304).  WAKE# asserted with the link not in L0 or L1 raises the WAKE event and a PM_PME upstream. -/
  | wakeAssert (p : Fin 64)
  /-- PERST_DELAY_EXPIRY (R305).  PERST_DELAY passes after power good and slot PERST# is deasserted. -/
  | perstDelayExpiry (p : Fin 64)
  /-- POLL_SAMPLE (R466).  A poll entry falls due, reads its target and passes changes of bound bits to the port. -/
  | pollSample (i : Fin 256) (value : Option (BitVec 16))
  /-- EGV_ADMISSION (R391).  When a ramp ends, a window entry ages out, or at least every 100 µs, queued power-on requests are re-evaluated in order. -/
  | egvAdmission
  /-- EGV_WINDOW_EXPIRY (R391).  An admitted ramp's window charge ages out 100 ms after admission. -/
  | egvWindowExpiry
  /-- EGV_ACCUMULATOR_READ (R392).  Every 1 ms during a ramp the eFuse accumulator is read, and a reading above INRUSH cuts the slot. -/
  | egvAccumulatorRead (slot : Fin 32) (mj : Nat)
  /-- EGV_RAMP_TIMEOUT (R392).  RAMP_TO passes without power good and the EGV cuts the slot. -/
  | egvRampTimeout (slot : Fin 32)
  /-- SB_WINDOW_WRITE (R462).  A window write is queued for its bus as a posted one-byte transfer, holding the master while the queue is full. -/
  | sbWindowWrite (a : Access) (value : Byte)
  /-- SB_WINDOW_READ (R462).  A window read makes a one-byte transfer and completes after it. -/
  | sbWindowRead (a : Access)
  /-- SB_TRANSFER_DONE (R462).  A sideband transfer ends; a failed posted write is logged in the bridge error log with MSI-X vector 9. -/
  | sbTransferDone (bus : Fin 4) (r : SbResult)
  /-- SB_LOCKED_ACCESS (R463).  A locked or exclusive access ends with NOT_SUPPORTED and a log entry with reason 0x06. -/
  | sbLockedAccess (a : Access)
  /-- SB_BUS_ENABLE (R472).  Enabling a bus measures SCL idle, then treats it as a legacy bus or runs RSTDAA, SETDASA and DISEC. -/
  | sbBusEnable (bus : Fin 4) (sclHigh : Bool)
  /-- SB_BUS_STUCK (R460).  A bus line low for 10 ms raises source 0x0800; the bridge sends nine clocks and a STOP and retries once. -/
  | sbBusStuck (bus : Fin 4) (sda : Bool)
  /-- SB_SCL_STRETCH_TIMEOUT (R460).  A legacy target holding SCL low for 10 ms ends its transfer with reason 0x03. -/
  | sbSclStretchTimeout (bus : Fin 4)
  /-- SB_POLL_WRITE (R465).  A poll entry write is accepted, or refused with ERR set if it would raise its bus load above 80 %. -/
  | sbPollWrite (m : Master) (i : Fin 256) (value : Word)
  /-- BMC_TARGET_ACCESS (R461).  The BMC addresses the I3C target, carrying MCTP or, in Dormant, waking the device with the first transaction NACKed. -/
  | bmcTargetAccess
  /-- TWIN_HB_TOGGLE (R215).  With HB_RUN set, TWIN_HB_OUT toggles every 4 AON cycles. -/
  | twinHbToggle
  /-- TWIN_HB_LOST (R216).  TWIN_HB_IN shows no edge for 5.12 µs and the partner's heartbeat is lost, possibly causing takeover from SPLIT. -/
  | twinHbLost
  /-- TWIN_HB_ALIVE (R216).  Four edges within 5.12 µs of each other make the heartbeat alive again and clear HB_FAULT. -/
  | twinHbAlive
  /-- HB_FAULT_SET (R216).  The heartbeat stays lost for 16 µs while the twin link stays ACTIVE, setting HB_FAULT and raising a CONTAINED fault. -/
  | hbFaultSet
  /-- TWIN_LINK_DOWN (R218).  The twin link goes down and the SP moves the pair state to SERVING, SPLIT or keeps JOINING. -/
  | twinLinkDown
  /-- TWIN_LINK_ACTIVE (R227).  The twin link reaches ACTIVE and the twins exchange T_HELLO. -/
  | twinLinkActive
  /-- JOIN_WAIT_EXPIRY (R218).  JOIN_WAIT passes without an ACTIVE twin link and the twin enters SERVING or SPLIT and lifts its refusal. -/
  | joinWaitExpiry
  /-- RESYNC_END (R228).  Both resynchronisation directions end and the twin reaches PAIRED, or a SERVING twin begins handback. -/
  | resyncEnd
  /-- HANDBACK_GRACE_END (R229).  100 µs plus twice SPRAY_FENCE_TO after T_HANDOVER, the serving twin stops serving its partner and enters PAIRED. -/
  | handbackGraceEnd
  /-- HANDOVER_DRAIN_END (R231).  A LEFT twin's destination contexts reach 0 or 100 ms pass, and it clears HB_RUN. -/
  | handoverDrainEnd
  /-- TWIN_REPLY_TIMEOUT (R211).  A vote, commit reply or T_HANDOVER reply is missing after its wait, giving TIMEOUT, settling or staying SERVING. -/
  | twinReplyTimeout
  /-- TWIN_STAGED_DISCARD (R211).  A partner discards a staged transaction that received no T_COMMIT 2 ms after its vote. -/
  | twinStagedDiscard
  /-- T_QUERY_TIMER (R212).  While settling with the twin link ACTIVE, the coordinator sends T_QUERY every 1 ms. -/
  | tQueryTimer
  /-- T_PREPARE_REPLY (R211).  The partner's vote arrives and the coordinator sends T_COMMIT, with ABORT unless the vote was OK. -/
  | tPrepareReply
  /-- T_COMMIT_REPLY (R211).  The partner's commit reply arrives and the coordinator applies its part and replies to the sender. -/
  | tCommitReply
  /-- T_QUERY_REPLY (R212).  A T_QUERY answer settles the transaction as applied on both or on neither. -/
  | tQueryReply
  /-- T_HELLO_REPLY (R228).  The partner's T_HELLO reply opens the session and selects the resynchronisation direction. -/
  | tHelloReply
  /-- T_HANDOVER_REPLY (R229).  The partner's reply to T_HANDOVER completes a handover or handback. -/
  | tHandoverReply
  /-- RELAY_REPLY_RX (R327).  A relayed packet's reply returns over the twin link and leaves on the original channel. -/
  | relayReplyRx
  /-- RELAY_TIMEOUT (R327).  A relayed packet gets no reply within 100 ms, or the twin link goes down first, and TIMEOUT is returned. -/
  | relayTimeout
  /-- INST_TAIL_WRITE (R243).  A doorbell write sets TAIL, or is discarded with DB_ERR, and lets the instance fetch descriptors. -/
  | instTailWrite (v : Fin 32) (n : Fin 4096) (count : BitVec 32)
  /-- DESCRIPTOR_FETCH_DONE (R241).  A fetched descriptor is checked and becomes pending, or ends with BAD_DESC or, for NOP, OK. -/
  | descriptorFetchDone (n : Fin 4096) (ok : Bool) (desc : List Byte)
  /-- ENGINE_DISPATCH (R246).  A free engine takes the pending descriptor of highest capped priority. -/
  | engineDispatch (e : Fin 16)
  /-- MOVER_READ_COMPLETION (R248).  A source read completes and the engine issues the writes for its bytes, or ends the descriptor with READ_ERROR. -/
  | moverReadCompletion (e : Fin 16) (ok : Bool) (data : List Byte)
  /-- ATS_TRANSLATION_COMPLETION (R244).  A translation completion is cached, or parks the descriptor with a page request, or ends it with XLAT_FAULT. -/
  | atsTranslationCompletion (q : XlatFor) (r : AtsResult)
  /-- PRG_RESPONSE_RX (R244).  A PRG Response makes a parked descriptor pending again or ends it, and Response Failure stops page requests. -/
  | prgResponseRx (v : Fin 32) (index code : Nat)
  /-- INVALIDATE_REQUEST_RX (R245).  An Invalidate Request drops matching ATC entries of the vSwitch at once. -/
  | invalidateRequestRx (v : Fin 32) (pasid iova size itag : Nat)
  /-- INVALIDATE_COMPLETE (R245).  Once every read under the dropped translations has ended, the Invalidate Completion is sent. -/
  | invalidateComplete (v : Fin 32) (itag : Nat)
  /-- INST_ENABLE (R235).  ENABLE moves an instance from DISABLED, QUIESCED or ERROR to ENABLED with a valid set-up. -/
  | instEnable (v : Fin 32)
  /-- INST_DISABLE (R235).  DISABLE moves an instance from QUIESCED or ERROR to DISABLED. -/
  | instDisable (v : Fin 32)
  /-- INST_QUIESCE (R254).  QUIESCE, with or without ABORT, moves an ENABLED instance to QUIESCING and stops its fetching. -/
  | instQuiesce (v : Fin 32) (abort : Bool)
  /-- INSTANCE_QUIESCED (R254).  The last descriptor and read of a quiescing instance end, the instance is QUIESCED and PF vector 1 is raised. -/
  | instanceQuiesced (n : Fin 4096)
  /-- INST_SETUP_WRITE (R237).  A set-up write is stored, or discarded while ENABLED or QUIESCING apart from the mask bits. -/
  | instSetupWrite (v : Fin 32) (offset : Nat) (bytes : List Byte)
  /-- MB_SEND (R253).  SEND hands the MB_TO_DEVICE packet to the device as a Tenant-role ICP request. -/
  | mbSend (v : Fin 32) (n : Fin 4096)
  /-- MB_ACK (R253).  ACK frees MB_FROM_DEVICE so the next reply can be written. -/
  | mbAck (v : Fin 32) (n : Fin 4096)
  /-- MB_REPLY_WRITE (R253).  Host software's MB_REPLY write sends the relay reply to the instance's mailbox. -/
  | mbReplyWrite (v : Fin 32) (len : Nat) (send : Bool)
  /-- ATC_FLUSH (R245).  Writing ATC_FLUSH empties the ATC, entries in use finishing as under R245. -/
  | atcFlush
  /-- ENGINE_DISABLE (R353).  Clearing an engine's ENG_EN bit lets it finish its chunk and take no more work. -/
  | engineDisable (e : Fin 16)
  /-- HARVEST_DONE (R251).  The last dirty word of a HARVEST has been written and the reply is sent. -/
  | harvestDone (n : Fin 4096)
  /-- ICP_RING_ENABLE (R324).  Setting EN zeroes the ring pointers and ALIVE values and clears FETCH_ERR and DB_ERR. -/
  | icpRingEnable (v : Fin 32) (sqLog2 cqLog2 : Nat)
  /-- ICP_RING_DISABLE (R324).  Clearing EN ends the channel; commands in decoders finish with their replies discarded. -/
  | icpRingDisable (v : Fin 32)
  /-- ICP_SQ_TAIL_WRITE (R322).  A submission doorbell sets SQ_TAIL, or is discarded with DB_ERR, and lets the agent read slots. -/
  | icpSqTailWrite (v : Fin 32) (count : BitVec 32)
  /-- ICP_SLOT_FETCH_DONE (R322).  A submission slot read completes, SQ_HEAD advances and the packet is checked, or FETCH_ERR stops the ring. -/
  | icpSlotFetchDone (v : Fin 32) (ok : Bool) (slot : List Byte)
  /-- ICP_CQ_HEAD_WRITE (R323).  The host advances CQ_HEAD and a waiting reply can be written. -/
  | icpCqHeadWrite (v : Fin 32) (count : BitVec 32)
  /-- ICP_REPLY (R323).  A reply is written into the completion slot, CQ_TAIL advances and MSI-X vector 0 is raised. -/
  | icpReply (v : Fin 32)
  /-- MCTP_MESSAGE_RX (R325).  A reassembled MCTP message carries an ICP packet, SPDM, or a control command, and may be refused with BUSY. -/
  | mctpMessageRx (ch : Fin 67) (src tag : Nat) (som eom ic : Bool) (type : Nat) (bytes : List Byte)
  /-- MCTP_REASSEMBLY_TIMEOUT (R325).  A message whose last packet arrives more than 100 ms after its first is discarded. -/
  | mctpReassemblyTimeout (ch : Fin 67) (src tag : Nat)
  /-- SET_ENDPOINT_ID (R325).  MCTP Set Endpoint ID sets the endpoint ID and resets the channel's ALIVE values. -/
  | setEndpointId (ch : Fin 67) (tag eid : Nat)
  /-- GET_ENDPOINT_ID (R325).  MCTP Get Endpoint ID returns the endpoint ID. -/
  | getEndpointId (ch : Fin 67) (tag : Nat)
  /-- GET_MCTP_VERSION_SUPPORT (R325).  MCTP Get MCTP Version Support returns the versions supported. -/
  | getMctpVersionSupport (ch : Fin 67) (tag : Nat)
  /-- GET_MESSAGE_TYPE_SUPPORT (R325).  MCTP Get Message Type Support reports types 0x00, 0x05 and 0x7E. -/
  | getMessageTypeSupport (ch : Fin 67) (tag : Nat)
  /-- DOE_DISCOVERY (R446).  A DOE Discovery request reports DOE Discovery and SPDM. -/
  | doeDiscovery (v : Fin 32) (index : Nat)
  /-- SPDM_GET_VERSION (R446).  SPDM GET_VERSION reports version 1.4. -/
  | spdmGetVersion (via : SpdmVia)
  /-- SPDM_GET_CAPABILITIES (R446).  SPDM GET_CAPABILITIES reports CERT_CAP, CHAL_CAP and MEAS_CAP. -/
  | spdmGetCapabilities (via : SpdmVia)
  /-- SPDM_NEGOTIATE_ALGORITHMS (R446).  SPDM NEGOTIATE_ALGORITHMS selects ML-DSA-44 and SHA3-256. -/
  | spdmNegotiateAlgorithms (via : SpdmVia)
  /-- SPDM_GET_DIGESTS (R445).  SPDM GET_DIGESTS returns the digest of certificate slot 0. -/
  | spdmGetDigests (via : SpdmVia)
  /-- SPDM_GET_CERTIFICATE (R445).  SPDM GET_CERTIFICATE returns the root, identity and alias certificate chain of slot 0. -/
  | spdmGetCertificate (via : SpdmVia) (slot offset len : Nat)
  /-- SPDM_CHALLENGE (R446).  SPDM CHALLENGE is answered with a signature under the alias key. -/
  | spdmChallenge (via : SpdmVia) (slot : Nat) (nonce : List Byte)
  /-- SPDM_GET_MEASUREMENTS (R447).  SPDM GET_MEASUREMENTS reports measurement blocks 1 to 6 as they stand. -/
  | spdmGetMeasurements (via : SpdmVia) (op : Nat) (signed : Bool) (nonce : List Byte)
  /-- SPDM_UNSUPPORTED_REQUEST (R446).  Any other SPDM request is answered ERROR UnsupportedRequest, and a fifth concurrent one ERROR Busy. -/
  | spdmUnsupportedRequest (via : SpdmVia) (code : Nat)
  /-- DEVICE_INFO (R335).  Returns revision, mode, twin state, node, configuration, firmware version, bank and uptime. -/
  | deviceInfo
  /-- VSW_QUIESCE (R336).  Sets named vSwitches to refuse new requests, optionally quiescing their Mover instances, or lifts the refusal. -/
  | vswQuiesce
  /-- VSW_QUIESCED (R336).  Every named vSwitch becomes quiesced, or WAIT passes, and VSW_QUIESCE replies. -/
  | vswQuiesced
  /-- PORT_CONTROL (R309).  Releases, disables, enables, retrains a PCIe port or asserts or releases its slot PERST#. -/
  | portControl
  /-- EYE_SCAN (R337).  Scans the 64 × 32 margin points of a lane in mode 5 and returns the error map. -/
  | eyeScan
  /-- TILE_CALIBRATE (R337).  Takes a tile's links down, clears its records and runs the power-up calibration in mode 5. -/
  | tileCalibrate
  /-- BIST_RUN (R337).  Writes and reads back patterns in the buffer, table store, LPDDR4X or a tile loopback and reports failures. -/
  | bistRun
  /-- BIND_WRITE (R338).  Validates and applies binding records as one epoch, with orderly unbindings waiting for their hosts. -/
  | bindWrite
  /-- FAM_WRITE (R165).  Validates FAM records and applies them as one epoch, committed on both twins in mode 4. -/
  | famWrite
  /-- ROUTE_WRITE (R165).  Validates route records and applies them between two lookups without advertisements. -/
  | routeWrite
  /-- TABLE_READ (R339).  Returns up to the per-table limit of entries of a live or shadow table. -/
  | tableRead
  /-- EPOCH_SYNC (R164).  Waits until every request stamped before the target epoch has left or been flagged, on one or both twins. -/
  | epochSync
  /-- MOVER_BIND (R255).  Binds or unbinds a range of Mover instances, resetting their set-up. -/
  | moverBind
  /-- MOVER_QUIESCE (R255).  Quiesces a range of instances, with ABORT or RESUME, replying when quiesced or at WAIT. -/
  | moverQuiesce
  /-- MOVER_DIRTY (R251).  Starts, harvests or stops dirty logging for an instance. -/
  | moverDirty
  /-- MOVER_T_STATUS (R253).  Tenant command answered by the firmware with the instance's state, pointers and counts. -/
  | moverTStatus
  /-- MOVER_T_RELAY (R253).  Tenant packet relayed to host software through RELAY_PEND and an MSI-X vector. -/
  | moverTRelay
  /-- ORBIT_CONFIG (R340).  Sets the ORBIT period, destination, ring and telemetry sets. -/
  | orbitConfig
  /-- SLOT_POWER (R341).  Requests slot power on or off from the EGV under its energy limits. -/
  | slotPower
  /-- ENERGY_SET (R341).  Sets a slot's or the rack's energy limits for ramps that begin later. -/
  | energySet
  /-- ENERGY_STATUS (R341).  Returns a slot's power state, last inrush, declared energy and window use. -/
  | energyStatus
  /-- FAULT_READ (R342).  Returns the pending fault records of one class or all. -/
  | faultRead
  /-- FAULT_CLEAR (R364).  Clears a unit's faults of a class and below, frees their records and releases a fault fence. -/
  | faultClear
  /-- FENCE (R361).  Fences a unit by command or releases a command fence. -/
  | fence
  /-- RESET (R342).  Requests a warm reset 1 ms after the reply, or an immediate tile reset. -/
  | reset
  /-- FAULT_INJECT (R366).  In mode 5 corrupts check information at a site for the next COUNT events. -/
  | faultInject
  /-- TWIN_ROLE (R230).  Hands over, hands back, forces takeover, or writes AUTO_TAKEOVER and AUTO_HANDBACK. -/
  | twinRole
  /-- T_HELLO (R227).  Twin hello resets the session's ALIVE values and exchanges state, configuration and last transaction. -/
  | tHello
  /-- T_PREPARE (R211).  The partner checks TCHK and ALIVE, validates and stages the records, and votes. -/
  | tPrepare
  /-- T_COMMIT (R211).  The partner applies or discards the staged transaction and replies. -/
  | tCommit
  /-- T_QUERY (R212).  The partner reports whether a transaction was applied. -/
  | tQuery
  /-- T_SYNC (R228).  Writes a batch of table entries into the receiver's live or shadow table during resynchronisation. -/
  | tSync
  /-- T_HANDOVER (R231).  The SP takes over from a leaving partner, or re-enters PAIRED on a handback. -/
  | tHandover
  /-- GET_IDENTITY (R343).  Returns the identity or alias public key and its digest. -/
  | getIdentity
  /-- OTP_REVOKE (R343).  Burns a key slot's revocation bit after checking serial number and signature. -/
  | otpRevoke
  /-- FW_STAGE (R442).  Writes a piece of a firmware image into the inactive bank, erasing blocks as reached. -/
  | fwStage
  /-- FW_ACTIVATE (R443).  Verifies the staged image, copies the configuration area, writes a trial bank record and warm-resets. -/
  | fwActivate
  /-- CONFIG_STORE (R441).  Stores a configuration image in a free slot and verifies it at its last byte. -/
  | configStore
  /-- MODE_ACTIVATE (R49).  Validates a new base configuration or overlay, checks quiesce and the twin vote, and replies ACCEPTED. -/
  | modeActivate
  /-- MODE_ACTIVATE_APPLIED (R49).  The records are applied and EPOCH_SYNC has completed, the mode registers update and OK is replied. -/
  | modeActivateApplied
  /-- SELECTION_WRITE (R344).  The SP writes a new stored selection record after its checks. -/
  | selectionWrite
  /-- FLASH_MAINT (R344).  Erases the journal, rebuilds its erase counts, or erases the inactive bank. -/
  | flashMaint
  /-- ECLIPSE_TRIGGER (R345).  Triggers a snapshot into the named bank, optionally on the paired twin. -/
  | eclipseTrigger
  /-- REG_READ (R345).  Reads up to 1,016 CRS words as a management core. -/
  | regRead
  /-- REG_WRITE (R345).  Writes up to 1,016 CRS words as a management core, refused as a whole in forbidden ranges. -/
  | regWrite
  /-- FAULT_RAISED (R355).  A fault source reports a fault, which updates the unit state, fills or counts in a pending record, drives FAULT_N and is journalled. -/
  | faultRaised (f : FaultReq)
  /-- CORRECTABLE_WINDOW_EXPIRY (R354).  A correctable-event window runs out below its threshold and closes without a fault. -/
  | correctableWindowExpiry (u : UnitId) (group : Nat)
  /-- FAULT_N_RELEASE (R362).  FAULT_N is released once its conditions end and at least 10 µs after it went low. -/
  | faultNRelease
  /-- CV_DATA_WRITE (R369).  A write to CV_DATA8, CV_DATA16 or CV_DATA32 feeds its bytes into the CRC, holding the bus while busy. -/
  | cvDataWrite (n : Fin 8) (m : Master) (reg : Fin 3) (value : Word)
  /-- CV_INIT (R369).  Writing INIT loads the algorithm's initial value into CV_STATE. -/
  | cvInit (n : Fin 8) (m : Master)
  /-- CV_END_WRITE (R370).  Ending a message computes the result, compares it and the alive counter, and reloads the state. -/
  | cvEndWrite (n : Fin 8) (m : Master) (value : Word)
  /-- CV_STATE_WRITE (R371).  A write to CV_STATE restores the running CRC without loading the initial value. -/
  | cvStateWrite (n : Fin 8) (m : Master) (value : Word)
  /-- MPU_COMMIT_WRITE (R455).  Copies the staged region registers into force and advances GEN. -/
  | mpuCommitWrite (u : Fin 23) (m : Master)
  /-- MPU_DRAIN_READ (R455).  Completes once every access checked under an older generation has finished, returning the generation. -/
  | mpuDrainRead (u : Fin 23) (m : Master)
  /-- DDR_FILL_BLOCK (R459).  The controller zero-fills the next 8 MiB block with correct check bits. -/
  | ddrFillBlock
  /-- LAUNDER_ACCESS (R404).  LAUNDER reads a word in a granted slot and corrects, rewrites or reports it. -/
  | launderAccess (r : Fin 6) (e : EccResult)
  /-- DARN_SECTOR_ERASE (R409).  The reserve falls below 4 erased sectors and DARN erases the next sector ahead. -/
  | darnSectorErase
  /-- FLASH_OP_DONE (R408).  A flash program or erase completes, and a suspended erase resumes once no record waits. -/
  | flashOpDone (ok : Bool)
  /-- JOURNAL_RECORD_COMMIT (R407).  A journal record's page program completes, and CORRECTED faults it records clear themselves. -/
  | journalRecordCommit (ok : Bool)
  /-- RECORD_SECTOR_ERASE (R431).  After READY the SP erases a full record sector while the other holds the newest version. -/
  | recordSectorErase (pair : Fin 3)
  /-- ORBIT_REPORT (R413).  Each PERIOD ORBIT reads the chosen sets and delivers one report to host memory or an export slot. -/
  | orbitReport
  /-- ECLIPSE_IN_RISE (R416).  A qualifying rising edge on ECLIPSE_IN triggers a snapshot on the next common edge. -/
  | eclipseInRise
  /-- COUNTER_CARRY (R422).  A counter carries out of bit 47, wraps, sets OVF and with TRIG triggers ECLIPSE. -/
  | counterCarry (bank : Nat) (i : Fin 8)
  /-- ECLIPSE_AON_LATCH (R417).  The AON banks latch, the snapshot bank becomes VALID and MSI-X vector 5 is raised. -/
  | eclipseAonLatch
  /-- ECL_BANK_RELEASE (R417).  Writing 1 to a VALID bit releases that snapshot bank. -/
  | eclBankRelease (m : Master) (mask : Fin 4)
  /-- PC_FREEZE (R423).  Setting or clearing FREEZE stops or restarts PC_CYCLE and all counters on one cycle. -/
  | pcFreeze (m : Master) (bank : Nat) (on : Bool)
  /-- PC_CLEAR (R423).  Writing CLEAR sets all nine counts and OVF to 0 on one cycle. -/
  | pcClear (m : Master) (bank : Nat)
  /-- COMET_RECORD_WRITE (R93).  A staged COMET record is written to the ring and WR_PTR advances, or the record is lost. -/
  | cometRecordWrite
  /-- COMET_HOLDOFF_EXPIRY (R96).  HOLDOFF µs after the last record with records unread, COMET raises MSI-X vector 6. -/
  | cometHoldoffExpiry
  /-- COMET_EN_SET (R95).  Setting EN from 0 to 1 zeroes WR_PTR and RD_PTR and starts selection. -/
  | cometEnSet (m : Master) (value : Word)
  /-- COMET_EN_CLEAR (R95).  Clearing EN stops selection at once and staged records are still written. -/
  | cometEnClear (m : Master) (value : Word)
  /-- COMET_RD_PTR_WRITE (R95).  A write to RD_PTR frees records, or is discarded with CFG_ERR if out of range. -/
  | cometRdPtrWrite (m : Master) (value : Word)
  /-- SAMPLER_SPILL (R427).  A completed sampler entry's record is written to the LPDDR4X ring and the entry is freed. -/
  | samplerSpill
  /-- SMP_EN_SET (R427).  Setting sampler EN zeroes its ring pointers and starts sampling. -/
  | smpEnSet (m : Master) (value : Word)
  /-- SMP_RD_WRITE (R427).  A write to SMP_RING_RD frees records, or is discarded with CFG_ERR if out of range. -/
  | smpRdWrite (m : Master) (value : Word)
  /-- SMP_HOLDOFF_EXPIRY (R427).  HOLDOFF µs after the last spilled record with records unread, the sampler raises MSI-X vector 7. -/
  | smpHoldoffExpiry
  /-- PFL_RD_WRITE (R158).  A write to PFL_PTR RD frees Posted Failure Log entries, or is discarded if out of range. -/
  | pflRdWrite (m : Master) (v : Fin 32) (value : Word)
  /-- SB_ERR_RD_WRITE (R464).  A write to SB_ERR_PTR RD frees bridge error log entries, or is discarded if out of range. -/
  | sbErrRdWrite (m : Master) (value : Word)
  /-- TBL_ACC_READ (R79).  A read access copies a meter or flow-rate context entry into TBL_DATA. -/
  | tblAccRead (m : Master) (value : Word)
  /-- TBL_ACC_WRITE (R79).  A meter write is refused with ERR or fills both buckets and clears the counters. -/
  | tblAccWrite (m : Master) (value : Word)
  /-- METER_MAP_WRITE (R78).  A METER_MAP write whose highest index would reach 16,384 stores EN as 0. -/
  | meterMapWrite (m : Master) (p : Fin 64) (value : Word)
  /-- FAM_ACC_READ (R132).  A read access copies a FAM entry into FAM_DATA. -/
  | famAccRead (m : Master) (value : Word)
  /-- FAM_ACC_WRITE (R135).  A FAM entry write from masters 1–4 or 11 is refused or stored. -/
  | famAccWrite (m : Master) (value : Word)
  /-- BIND_ACC_READ (R113).  A read access copies a binding entry into BIND_DATA. -/
  | bindAccRead (m : Master) (value : Word)
  /-- BIND_ACC_WRITE (R114).  A binding entry write from masters 1–4 or 11 is refused or stored. -/
  | bindAccWrite (m : Master) (value : Word)
  /-- ROUTE_ACC_READ (R137).  A read access copies a route entry into ROUTE_DATA. -/
  | routeAccRead (m : Master) (value : Word)
  /-- ROUTE_ACC_WRITE (R137).  A route entry write from masters 1–4 or 11 is stored or refused with ERR. -/
  | routeAccWrite (m : Master) (value : Word)
  /-- CTX_ACC_READ (R148).  A read access copies a transaction context into CTX_DATA; any other OP is refused. -/
  | ctxAccRead (m : Master) (value : Word)
  /-- TWIN_SHADOW_READ (R209).  A read access copies a shadow FAM, binding or route entry into TWIN_SHADOW_DATA. -/
  | twinShadowRead (m : Master) (value : Word)
  /-- TILE_COEF_READ (R271).  A read access copies a lane's coefficient record into TILE_COEF_DATA. -/
  | tileCoefRead (m : Master) (t : Fin 16) (value : Word)
  /-- TILE_COEF_CLEAR (R271).  CLR clears every coefficient record of the lane. -/
  | tileCoefClear (m : Master) (t : Fin 16) (value : Word)
  /-- CZ_RESET_REQ (R200).  Writing RESET_REQ requests a Calez link reset, or restarts a link held in RESET. -/
  | czResetReq (m : Master) (n : Fin 32) (value : Word)
  /-- CZ_TRAIN_EN_CLEAR (R200).  Clearing TRAIN_EN takes an ACTIVE link down with reason 0x05 and holds it in RESET. -/
  | czTrainEnClear (m : Master) (n : Fin 32) (value : Word)
  /-- CZ_TRAIN_EN_SET (R200).  Setting TRAIN_EN lets the link train from DETECT. -/
  | czTrainEnSet (m : Master) (n : Fin 32) (value : Word)
  /-- CZ_OFFER_WRITE (R200).  A write to OFFER_W or OFFER_R applies at the next PARAM and restarts a link held with reason 0x0A–0x0C. -/
  | czOfferWrite (m : Master) (n : Fin 32) (value : Word)
  /-- CZ_STORED_CLEAR (R194).  Writing CLEAR clears the start point and the class 4 and 5 records of the port's lanes. -/
  | czStoredClear (m : Master) (n : Fin 32) (value : Word)
  /-- PORT_RETRAIN (R309).  Writing RETRAIN directs Recovery from L0. -/
  | portRetrain (m : Master) (p : Fin 64) (value : Word)
  /-- PORT_RELEASE (R308).  Writing RELEASE lets a port held in Disabled train; DPC_HELD clears at DL_Active. -/
  | portRelease (m : Master) (p : Fin 64) (value : Word)
  /-- PORT_PERST_FORCE (R305).  Setting or clearing PERST_FORCE holds or releases slot PERST#. -/
  | portPerstForce (m : Master) (p : Fin 64) (value : Word)
  /-- PORT_DISABLE (R307).  Setting DISABLE holds the link in Disabled as a DPC trigger does; clearing it lets it train. -/
  | portDisable (m : Master) (p : Fin 64) (value : Word)
  /-- READ_CLEAR_FIELD (R9).  A read of an RC field returns its value and then clears it, except when read by ORBIT. -/
  | readClearField (a : Access)
  /-- REGISTER_WRITE (R9).  A write to a register with no row of its own updates fields by their access codes, after MPU and SPW checks. -/
  | registerWrite (a : Access) (value : Word)
  /-- MOVER_QUIESCE_WAIT_EXPIRY (R255).  WAIT passes before every instance in the range is quiesced, and MOVER_QUIESCE replies TIMEOUT with REMAIN while those instances stay QUIESCING. -/
  | moverQuiesceWaitExpiry
  /-- DLLP_RX (R283).  A PCIe DLLP (Ack, Nak, UpdateFC, Data Link Feature or PM request) arrives, freeing the replay store, starting a replay, returning credits or answering an L1 request from below. -/
  | dllpRx (p : Fin 64) (d : Dllp)
  /-- REPLAY_TIMER_TIMEOUT (R306).  The PCIe replay timer expires, the port replays and the event is counted toward the Link correctable threshold. -/
  | replayTimerTimeout (p : Fin 64)
  /-- LTSSM_STATE_CHANGE (R265).  A PCIe LTSSM moves between Detect, Polling, Configuration, Recovery and L0 without reaching DL_Active, leaving L0 or changing rate. -/
  | ltssmStateChange (p : Fin 64) (ltssm : Fin 11)
  /-- T_SYNC_REPLY (R228).  The partner's status reply to a T_SYNC packet arrives, and the sender continues resynchronisation or ends its direction. -/
  | tSyncReply
  /-- EPOCH_SYNC_TWIN_REPLY (R165).  The partner's reply to an EPOCH_SYNC sent with BOTH arrives, so the command can reply once both twins have synchronised. -/
  | epochSyncTwinReply
  /-- SP_SRAM_SCRUB (R403).  Every 60 s the SP scrubs its own SRAM, correcting single-bit errors, counting corrections and raising a TERMINAL fault on an uncorrectable word. -/
  | spSramScrub (e : EccResult)
  /-- LANE_TEST (R279).  A JTAG IEEE 1149.10 lane test takes the lanes it tests out of service. -/
  | laneTest (t : Fin 16) (lanes : Nat)
  /-- IN_BAND_INTERRUPT_REQUEST (R460).  An I3C target on a controller bus requests an in-band interrupt or hot-join, and the bridge NACKs it. -/
  | inBandInterruptRequest (bus : Fin 4)
  /-- BOOT_CONFIG_APPLIED (R437).  The SP finishes verifying and applying the boot configuration, sets LOCKs, HB_RUN in mode 4 and device time LOCKED in modes 0–2 and 5, arms presence cuts and releases the management cores. -/
  | bootConfigApplied
  /-- FIRMWARE_RELOAD_DONE (R352).  After release of a fenced management complex, the SP finishes reloading and verifying the firmware and the cores run again. -/
  | firmwareReloadDone
  deriving DecidableEq, Repr

end Sys2Proof
end

