-- ==== Sys2Proof/Decode.lean ====
section
/-!
DEFINITION. Decode.lean: the command that a word spells by the bits of the opcode table.

The opcode table of this part gives no row any bits: its commands are signals, packets, timers and register
accesses, and none of them has an encoding of its own.  So no word spells a command.
-/
namespace Sys2Proof

/-- The command that the `nbits` low bits of `w` spell: none, since the opcode table gives no row bits. -/
def decodeTableWord (_nbits _w : Nat) : Option Instr := none

end Sys2Proof
end

