-- ==== Sys2Proof/Config.lean ====
section
/-!
DEFINITION. Config.lean: the values that the manual leaves open.

None of them has a body: nothing can evaluate one or prove a value of it, and a statement about one holds for every
value.  `freeNat` is applied to `State.free`, a counter that each use advances.
-/
namespace Sys2Proof

/-- A free value, fresh for each count (log entry 2). -/
opaque Config.freeNat : Nat → Nat

/-- SHA3-256 of a byte string, as a number: R432 names the function, its standard defines it (log entry 9). -/
opaque Config.sha3 : List Byte → Nat

/-- Whether an ML-DSA-44 signature verifies: key digest, message, signature (R433, log entry 9). -/
opaque Config.mldsaVerify : Nat → List Byte → List Byte → Bool

/-- The ML-DSA-44 signature of a message under a key pair named by a number (R446, log entry 9). -/
opaque Config.mldsaSign : Nat → List Byte → List Byte

/-- The ML-DSA-44 public key that a seed gives (R445, log entry 9). -/
opaque Config.mldsaPublic : Nat → List Byte

/-- The root certificate at the head of a chain of DER certificates (R445, log entry 9). -/
opaque Config.rootCert : List Byte → List Byte

/-- Whether a chain of DER certificates holds an identity certificate for a public key (R445, log entry 9). -/
opaque Config.certFor : List Byte → List Byte → Bool

/-- The alias certificate that the SP issues: identity seed, alias seed, serial number and SVN (R445, log entry 9). -/
opaque Config.aliasCert : Nat → Nat → Nat → Nat → List Byte

/-- SHA3-256 of the SP ROM, which the manual does not print (R447, log entry 9). -/
opaque Config.romDigest : Nat

/-- The device requester ID of the SR-IOV physical function of a virtual function, by port and the device requester ID of the
virtual function: the endpoint's SR-IOV capability gives it (R118, log entry 23). -/
opaque Config.pfOf : Nat → Nat → Nat

/-- What a double word of the configuration space of a function below a port is, by port, device requester ID and register:
1 its SR-IOV capability, 2 its Device Control, 3 the upper half of a 64-bit BAR, else none of these: the endpoint's own
capability list gives it (R108, R118, log entry 23). -/
opaque Config.regOf : Nat → Nat → Nat → Nat

/-- The size in bytes of the BAR of a function below a port that a double word of its configuration space belongs to, 0 where it
belongs to none: the endpoint's own (R108, log entry 23). -/
opaque Config.barSizeOf : Nat → Nat → Nat → Nat

/-- The UNIT code of the owner of a word of on-chip SRAM outside the buffer, the table store and management SRAM, by LAUNDER region and
word: the manual gives no map of those SRAMs (R403, log entry 33). -/
opaque Config.sramOwner : Nat → Nat → Nat

/-- The words of LAUNDER region 4, less one: the manual gives no size of it (R403, log entry 33). -/
opaque Config.otherSram : Nat

end Sys2Proof
end

