-- ==== Sys2Proof/Machine/State.lean ====
section
/-!
DEFINITION. Machine/State.lean: the state of the part, as plain data, and the state after cold reset.

The registers of the manual's register tables stand in `State.regs`, by the keys of Machine/RegMap.lean; a piece of
state that a register field shows stands in that register alone.  The structures here hold what no register shows:
queues, table stores, replay stores, protocol state, timers.  A table is a list of (key, value) pairs, keys rising.
Times are device time in sixteenths of a nanosecond unless a field says otherwise.
-/
namespace Sys2Proof.Machine

/-! ### Register map types -/

/-- A field of a register: its least significant bit and its width. -/
structure Field where
  lsb : Nat
  width : Nat
  deriving DecidableEq, Repr

/-- The access codes of R9; `spw` fields are written by the Safety Partition alone (R11). -/
inductive Acc where
  | ro | rw | rw1c | rws | rwsRo | rc | wo | spw
  deriving DecidableEq, Repr

/-- The address space of a register family: CRS, a BAR of a function of a vSwitch, or a counter bank (R421). -/
inductive RegSpace where
  | crs | mgmtBar0 | moverBar0 | moverBar2 | bank
  deriving DecidableEq, Repr

/-- A register family: the registers of one register table. -/
structure Family where
  name : String
  space : RegSpace
  base : Nat
  dim1 : Nat × Nat
  dim2 : Nat × Nat
  width : Nat
  reset : BitVec 64
  /-- Kept by the AON domain through resets (R13). -/
  retained : Bool
  fields : List (Acc × Field)
  deriving DecidableEq, Repr

/-! ### Reset, boot, clocks and power (chapters 2, 14, 16, 18) -/

/-- Where the device stands between a reset and READY (R380, R437). -/
inductive Phase where
  /-- POR_N low, or the device held in reset by PWRFAIL_N (R394, R476). -/
  | held
  /-- POR_N high; the XO is not stable yet. -/
  | waitXo
  /-- The SP ROM runs at 25 MHz; the root PLL is not stable yet. -/
  | romSlow
  /-- The root PLL is stable, the fast domains run; the boot configuration is not applied yet. -/
  | booting
  /-- The boot configuration is applied and the management cores are released. -/
  | configured
  /-- READY (R127). -/
  | ready
  deriving DecidableEq, Repr

/-- What a valid version of the bank record says (R431). -/
structure BankRec where
  active : Nat
  prev : Nat
  trial : Nat
  gen : Nat
  fwVersion : Nat
  deriving DecidableEq, Repr

/-- What a valid version of the stored selection record says (R31). -/
structure SelRec where
  pMode : Nat
  onceValid : Bool
  pConfig : Nat
  pOverlay : Nat
  oMode : Nat
  oConfig : Nat
  oOverlay : Nat
  gen : Nat
  deriving DecidableEq, Repr

/-- A record sector pair (R431): the 32-byte slots written in each of its two sectors, oldest first. -/
structure RecPair where
  sec0 : List (List Byte)
  sec1 : List (List Byte)
  deriving DecidableEq, Repr

/-- One flash bank (R429): its firmware area as staged or written, its selection records and its twelve image slots. -/
structure Bank where
  fw : List Byte
  sel : RecPair
  slots : Assoc (List Byte)
  deriving DecidableEq, Repr

/-- A journal record as it stands in a slot or waits in SP SRAM (R411); JCRC follows from the rest. -/
structure JRec where
  type : Nat
  seq : Nat
  ts : Nat
  aonT : Nat
  summary : Nat
  body : List Byte
  /-- CORRECTED faults that clear themselves when the record is committed (R363), as fault number and unit. -/
  clears : List (Nat × UnitId)
  deriving DecidableEq, Repr

/-- One 4 KiB journal sector (R409, R411): its header and the records in slots 1 to 15. -/
structure JSector where
  erased : Bool
  eraseCnt : Nat
  headed : Bool
  retired : Bool
  recs : List JRec
  /-- Slots that hold a record torn by a loss of supply (R396). -/
  torn : Nat
  deriving DecidableEq, Repr

/-- The xSPI NOR flash (R429). -/
structure Flash where
  bankRec : RecPair
  /-- The X.509 chain that Apyar writes at manufacture, in the identity area (R445). -/
  identity : List Byte
  bank0 : Bank
  bank1 : Bank
  /-- The journal: sectors that are not in their state of manufacture. -/
  journal : Assoc JSector
  deriving DecidableEq, Repr

/-- The OTP fuses (R434). -/
structure Otp where
  keyDigest : Assoc Nat
  keyProg : Nat
  keyRevoked : Nat
  fwArb : Nat
  uds : Nat
  udsSet : Bool
  serial : Nat
  deriving DecidableEq, Repr

/-- The configuration selected for the boot in progress (R30) and where it came from. -/
structure BootSel where
  base : Option (List Byte)
  overlay : Option (List Byte)
  src : Nat
  reason : Nat
  index : Nat
  fallback : Bool
  once : Bool
  deriving DecidableEq, Repr

/-- The FW_STAGE stream (R442), and the CONFIG_STORE stream in progress: its image slot and TOTAL (R441). -/
structure Staging where
  active : Bool
  cfg : Option (Nat × Nat)
  deriving DecidableEq, Repr

/-- A request that a decoder holds (R312, R328), with what its reply echoes. -/
structure IcpReq where
  /-- Channel it came on: 0–66 as R311 numbers them, 67 SP-internal, 128 + n the mailbox of Mover instance n. -/
  chan : Nat
  opcode : Nat
  seq : Nat
  /-- Byte 2 of the header. -/
  flags : Nat
  payload : List Byte
  /-- MCTP tag of the request, on an MCTP channel. -/
  tag : Nat
  /-- Session of a ring channel that it came in: a reply to an ended one is discarded (R324). -/
  ses : Nat
  /-- Device time of its arrival at the decoder. -/
  at_ : Nat
  /-- The whole packet, as relayed (R253, R327). -/
  raw : List Byte
  deriving DecidableEq, Repr

/-- A MODE_ACTIVATE between its acceptance and its final reply (R49). -/
structure ModeAct where
  req : IcpReq
  mode : Nat
  flags : Nat
  configId : Nat
  overlayId : Nat
  affected : Nat
  /-- Application has begun: ACCEPTED has been sent. -/
  voted : Bool
  /-- Its sender has been answered; the outcome is settled by T_QUERY (R212). -/
  told : Bool
  deriving DecidableEq, Repr

/-- Reset, power and boot state held in the AON domain and the SP. -/
structure Power where
  phase : Phase
  /-- MODE[2:0] as sampled at the deassertion of POR_N, held in AON (R30). -/
  strap : Nat
  /-- POR_N is low. -/
  porLow : Bool
  /-- PWRFAIL_N is low. -/
  pwrfailLow : Bool
  /-- The TERMINAL latch, retained in AON (R351). -/
  terminal : Bool
  /-- The shed of R394 has taken place and the flush is in progress. -/
  flushing : Bool
  /-- The flush of R394 has ended: the next rise of PWRFAIL_N is cause 0x0B. -/
  pfDone : Bool
  /-- Causes of a warm reset that has been asked for and not begun: CAUSE and, for FATAL, SOURCE and UNIT. -/
  warmReq : Option (Nat × Nat × Nat)
  /-- The supplies other than VDD_AON are within tolerance. -/
  railsOk : Bool
  /-- HB_RUN (R215). -/
  hbRun : Bool
  /-- Level driven on TWIN_HB_OUT. -/
  hbOut : Bool
  /-- Level of FAULT_N (true: driven low, R362). -/
  faultNLow : Bool
  /-- The common edge at which FAULT_N went low. -/
  faultNSince : Nat
  /-- The last one-time selection was used at this boot (ONCE_USED). -/
  sel : BootSel
  /-- The common edge at the start of the reset (BOOT_TIME). -/
  bootStart : Nat
  /-- ROM Service after the third FATAL reset in 60 s (R359): JNL_AON_T at the FATAL resets since cold reset. -/
  fatalTimes : List Nat
  /-- Management cores held (recovery, fence, before release). -/
  coresHeld : Bool
  /-- A fenced management complex has been released and its firmware is being reloaded (R352). -/
  reloading : Bool
  act : Option ModeAct
  /-- Cause of the cold reset in progress, which enters RST_REASON at XO_STABLE (R380, R382). -/
  cause : Option Nat
  staging : Staging
  /-- PUBKEY of each key slot that has verified an object since cold reset (R433). -/
  keptKeys : Assoc (List Byte)
  /-- EGV slots whose eFuse the last completed command turned on; the eFuses stand on the board (R393). -/
  efuses : List Nat
  deriving DecidableEq, Repr

/-! ### Faults, journal and observation (chapters 13, 15) -/

/-- A pending record of the FCU (R356). -/
structure FaultRec where
  ts : Nat
  unit : UnitId
  firstClass : Nat
  injected : Bool
  escalated : Bool
  cls : Nat
  second : Bool
  scount : Nat
  source : Nat
  seq : Nat
  detail : Nat
  deriving DecidableEq, Repr

/-- The FCU's state of one unit (R355): the mask of classes with an uncleared fault, the fences, and the time of
its last CONTAINED fault, in device time; one from before a warm reset, which sets device time to 0, is below 0 (log entry 38). -/
structure UnitState where
  unit : UnitId
  classes : Nat
  faultFenced : Bool
  cmdFenced : Bool
  lastContained : Option Int
  deriving DecidableEq, Repr

/-- A correctable-event window (R354): the unit and group it counts for, when it opened and its count. -/
structure CorrWindow where
  unit : UnitId
  group : Nat
  opened : Nat
  count : Nat
  deriving DecidableEq, Repr

/-- A FAULT_INJECT in force (R366). -/
structure Injection where
  unit : UnitId
  kind : Nat
  index : Nat
  left : Nat
  deriving DecidableEq, Repr

/-- The Fault Collection Unit (R355). -/
structure Fcu where
  /-- Units with an uncleared fault or a fence, or a CONTAINED fault still within reach of R357; oldest first. -/
  units : List UnitState
  /-- The pending record of each class. -/
  recs : Assoc FaultRec
  windows : List CorrWindow
  injections : List Injection
  /-- Faults detected and not yet taken by the FCU; empty between commands. -/
  due : List FaultReq
  /-- Units that the SP has decided to fence and not fenced yet; empty between commands. -/
  fenceDue : List UnitId
  deriving DecidableEq, Repr

/-- Background activities, journal buffer and snapshot triggers (chapter 15). -/
structure Background where
  /-- Journal records waiting in SP SRAM, oldest first (R407). -/
  jbuf : List JRec
  /-- Faults without a record of their own since the last record created (R410). -/
  summary : Nat
  /-- CORRECTED faults without a record of their own, journalled by the next record created (R410). -/
  summClears : List (Nat × UnitId)
  /-- The journal sector that an erase is in progress on; it is suspended while a record waits (R408). -/
  erasing : Option Nat
  /-- The highest journal SEQ committed before the last erase of the whole region. -/
  seqFloor : Nat
  /-- Device time at which an instance's age began (R400): keys 0–5 LAUNDER regions, 16 DARN, 17 ORBIT. -/
  since : Assoc Nat
  /-- Next word of each LAUNDER region's pass. -/
  ldPos : Assoc Nat
  /-- Report number since the last ORBIT_CONFIG, ring offset, and the export slot in use (R414, R415). -/
  orbitSeq : Nat
  orbitOfs : Nat
  exportSlots : Assoc (List Byte)
  /-- A snapshot between its latch edge and its AON latch: the bank and its sources (R417). -/
  eclBusy : Option (Nat × Nat)
  /-- Sources of triggers waiting for that AON latch. -/
  eclWait : Option Nat
  /-- Device time until which ECLIPSE_IN is ignored (R416). -/
  eclDeaf : Nat
  eclSeq : Nat
  /-- SEQ of the last latch edge that the counters have counted as an event (R424). -/
  eclSeen : Nat
  /-- Counters whose level condition held at the last common edge: bank × 8 + counter (R421). -/
  pcPrev : List Nat
  deriving DecidableEq, Repr

/-! ### Switch core, congestion control, COMET and time (chapters 3, 4) -/

/-- Where a TLP of a vSwitch comes from (R55): its host, one of its bridges, or its Mover PF. -/
inductive Origin where
  | host | bridge (k : Nat) | mover
  deriving DecidableEq, Repr

/-- A TLP held in the part, with what stages 2 to 6 have given it. -/
structure Held where
  /-- Serial number in the order in which TLPs entered a VOQ. -/
  id : Nat
  tlp : Tlp
  /-- Requester or completer ID, tag and address as received. -/
  ridIn : Nat
  tagIn : Nat
  addrIn : Nat
  /-- The port of arrival, 0–63; 64 for a TLP that the device itself makes. -/
  inPort : Nat
  /-- Where its vSwitch found it to come from (R55 step 1); none: not resolved, or from the fabric. -/
  org : Option Origin
  outPort : Nat
  vsw : Nat
  /-- The Mover instance that issued it (R235). -/
  inst : Option Nat
  vc : Nat
  colour : Nat
  /-- Fabric header of a TLP that travels between nodes (R179). -/
  fab : Option FabHdr
  /-- Transaction context: ID and generation. -/
  ctx : Option (Nat × Nat)
  /-- EPOCH_CUR modulo 4 at stage 4; flagged for recheck (R161, R162); no longer counted in its slot (R161). -/
  epoch : Nat
  recheck : Bool
  uncounted : Bool
  /-- Header and data cells charged (R58), and whether they come from the shared pool (R61). -/
  cells : Nat
  shared : Bool
  marked : Bool
  sprayed : Bool
  frc : Option Nat
  path : Nat
  /-- Cut-through granted (R67), and whether the rest of the TLP is still to come in. -/
  cut : Bool
  rest : Bool
  paced : Bool
  /-- Its wait at the head of its VOQ, for a tag or for a spray fence, has been counted. -/
  waited : Bool
  /-- Device time before which a move fence holds the TLP (R144). -/
  moveHold : Nat
  tsIn : Nat
  qdepth : Nat
  /-- Sampler entry that follows the TLP (R425). -/
  sample : Option Nat
  /-- What the read at egress finds in its cells (R59): 0 no error, 1 an uncorrectable one in the header slot, 2 one in the payload,
  3 a correctable one; and whether FAULT_INJECT put it there (R366). -/
  bad : Nat
  badInj : Bool
  deriving DecidableEq, Repr

/-- A request delivered to a function of the part (R109): to a BAR of a function, or a configuration request. -/
inductive LocalDue where
  /-- vSwitch, function (0 management, 1 Mover PF), BAR, offset, and the TLP that asks. -/
  | mem (v fn bar ofs : Nat) (h : Held)
  /-- vSwitch, the request, and the TLP that asks. -/
  | cfg (v : Nat) (r : CfgReq) (h : Held)
  /-- The answer to a read of the management function's CRS window that waited for a sideband transfer (R462): the data, or an error. -/
  | answer (v : Nat) (data : Option (List Byte)) (h : Held)
  deriving DecidableEq, Repr

/-- A TLP that waits for its rest before it goes on (R67): towards its VOQ, towards a function of the part, or, a completion, towards
its context. -/
inductive Stowed where
  | voq (h : Held)
  | due (d : LocalDue)
  | cpl (h : Held)
  deriving DecidableEq, Repr

/-- A meter table entry (R79); tokens in 1/16000 byte, times in sixteenths of a nanosecond. -/
structure Meter where
  cir : Nat
  pir : Nat
  cbs : Nat
  pbs : Nat
  tc : Nat
  tp : Nat
  green : Nat
  yellow : Nat
  red : Nat
  at_ : Nat
  deriving DecidableEq, Repr

/-- A flow-rate context (R84) with its pacing queue (R85) and the period counters of R86. -/
structure Frc where
  vc : Nat
  dest : Nat
  port : Nat
  k : Nat
  lastc : Nat
  rate : Nat
  rmax : Nat
  /-- Pacing tokens in 1/1600 byte, signed. -/
  tokens : Int
  tokensAt : Nat
  queue : List Held
  decreased : Bool
  lastDec : Nat
  periodMarked : Bool
  /-- Spray counter of path k, and the device time at which it last changed. -/
  spray : Assoc Nat
  sprayAt : Assoc Nat
  lastTlp : Nat
  marks : Nat
  deriving DecidableEq, Repr

/-- A feedback entry (R88) for (source node, context ID, path). -/
structure FbEntry where
  node : Nat
  frc : Nat
  path : Nat
  cn : Nat
  worst : Nat
  drop : Bool
  ackValid : Bool
  ack : Nat
  since : Nat
  deriving DecidableEq, Repr

/-- A selected COMET record in the staging queue (R92, R93): bytes 0–13, HDR_LEN, SEQ and bytes 20–63; its cell is charged to
a port's droppable class. -/
structure CometRec where
  head : List Byte
  hdrLen : Nat
  seq : Nat
  tail : List Byte
  port : Nat
  deriving DecidableEq, Repr

/-- A sampler entry (R426); `done` once its outcome is known. -/
structure Sample where
  tsIn : Nat
  lat : Option Nat
  inPort : Nat
  ct : Bool
  spray : Bool
  outPort : Nat
  mark : Bool
  paced : Bool
  colour : Nat
  kind : Nat
  vc : Nat
  trunc : Bool
  outcome : Nat
  vsw : Nat
  qdepth : Nat
  reason : Nat
  ctx : Option (Nat × Nat)
  addrOut : Nat
  hdr : List Byte
  done : Bool
  deriving DecidableEq, Repr

/-- A move fence for one destination node (R144): how long it holds and the ports of the equal-cost set before the change. -/
structure MoveFence where
  until_ : Nat
  oldSet : List Nat
  deriving DecidableEq, Repr

/-- The switch core's own state (chapter 3). -/
structure Core where
  nextId : Nat
  /-- VOQs, oldest head first; key (egress port × 8 + VC) × 3 + class. -/
  voqs : Assoc (List Held)
  /-- Shared cells held, S(p, c) of R63; key ingress port × 4 + class (3: droppable). -/
  sharedUse : Assoc Nat
  /-- Reserved cells held; key (ingress port × 8 + VC) × 3 + class. -/
  rsvUse : Assoc Nat
  /-- PORT_RSV_H and PORT_RSV_D in force (R62); key port × 8 + VC; absent: the reset values. -/
  rsvForce : Assoc (Nat × Nat)
  /-- Deficit of (egress port, VC), key port × 8 + VC; the VC and class served last by an egress port. -/
  deficit : Assoc Nat
  lastVc : Assoc Nat
  lastCls : Assoc Nat
  /-- Non-posted requests that wait for a context at their ingress port, oldest first (R146). -/
  ctxWait : List Held
  /-- TLPs that are stored until their rest has come in, and TLPs that have begun to leave before it has (R67, R68). -/
  storing : List Stowed
  leaving : List Held
  /-- Requests delivered to the part's own functions and not carried out yet; empty between commands. -/
  localDue : List LocalDue
  deriving DecidableEq, Repr

/-- Congestion control, COMET, sampler and device time (chapters 4 and 15). -/
structure Cong where
  meters : Assoc Meter
  /-- Average depth of each VOQ, in 1/256 cell (R80); keys as `Core.voqs`. -/
  voqAvg : Assoc Nat
  frcs : Assoc Frc
  feedback : List FbEntry
  moves : Assoc MoveFence
  /-- COMET records staged, oldest first (R93). -/
  staging : List CometRec
  /-- SEQ after that of the last record written: what lies between is lost (LOSS of R92). -/
  cometNext : Nat
  /-- Sample counters of the COMET filters, key point × 16 + filter, and of the sampler's filters. -/
  cometCnt : Assoc Nat
  smpCnt : Assoc Nat
  smpEntries : Assoc Sample
  /-- Sampler entries whose record waits for spill, oldest first (R427). -/
  smpDone : List Nat
  /-- Device time of the last record written, and whether the vector was raised since (R96); COMET and sampler. -/
  cometLast : Nat
  cometTold : Bool
  smpLast : Nat
  smpTold : Bool
  /-- Time exchange in progress (R98): ID, t1 and the halves of t2 received. -/
  timeId : Nat
  t1 : Nat
  t2lo : Option Nat
  t2hi : Option Nat
  t4 : Nat
  /-- Consecutive exchanges with |offset| below 16 ns, and the slew in force (an opaque function of the offset sets it). -/
  goodExch : Nat
  slew : Int
  /-- Node IDs with GM_ELIGIBLE learnt from advertisements. -/
  eligible : List Nat
  deriving DecidableEq, Repr

/-! ### Host hierarchies (chapter 5) -/

/-- One configuration function of a vSwitch (R102, R104): the registers that the manual gives an effect, and every
other double word as last written. -/
structure Func where
  /-- PCI Command: bit 0 I/O, bit 1 Memory Space Enable, bit 2 Bus Master Enable. -/
  command : Nat
  /-- D3hot (R129). -/
  d3hot : Bool
  /-- Base addresses written, by BAR number. -/
  bars : Assoc Nat
  priBus : Nat
  secBus : Nat
  subBus : Nat
  memBase : Nat
  memLimit : Nat
  prefBase : Nat
  prefLimit : Nat
  /-- ACS Control and the egress control vector (R119). -/
  acs : Nat
  acsVec : Nat
  ariFwd : Bool
  /-- DPC Trigger Enable: 0 none, 1 on an uncorrectable error of severity Fatal, 2 on one of any severity (R123). -/
  dpcEn : Nat
  dpcTrig : Bool
  dpcReason : Nat
  /-- DPC_HELD (R123). -/
  dpcHeld : Bool
  /-- The bridge is contained: TLPs through it are REASON 0x06. -/
  contained : Bool
  /-- Power Controller Control is Off, of the slot registers. -/
  powerOff : Bool
  attnInd : Nat
  powerInd : Nat
  /-- Slot Status: bit 0 Attention Button Pressed, 1 Power Fault Detected, 2 MRL Sensor Changed, 3 Presence Detect
  Changed, 4 Command Completed, 8 Data Link Layer State Changed. -/
  slotStatus : Nat
  /-- The level of the slot's interrupt that its host has last been told (R116). -/
  slotInt : Bool
  /-- PME Status of the bridge (R304). -/
  pme : Bool
  present : Bool
  dllActive : Bool
  linkDisabled : Bool
  /-- AER Uncorrectable Error Status, and the Correctable one. -/
  aerUnc : Nat
  aerCor : Nat
  /-- INTx levels below, as ORed by a composed bridge (R295). -/
  intx : Nat
  /-- ATS, PRI and PASID enables of the Mover PF: bit 0 ATS, 1 PRI, 2 PASID. -/
  ats : Nat
  other : Assoc Nat
  deriving DecidableEq, Repr

/-- A binding table entry (R113). -/
structure BindEnt where
  devRid : Nat
  kind : Nat
  port : Nat
  valid : Bool
  vsw : Nat
  bridge : Nat
  hostDevfn : Nat
  pfShared : Bool
  owner : Nat
  deriving DecidableEq, Repr

/-- One vSwitch beyond its CRS registers. -/
structure Vsw where
  /-- Captured bus B (R103). -/
  bus : Nat
  /-- Functions: key 0 management, 1 Mover PF, 2 upstream bridge, 8 + k virtual downstream bridge k. -/
  funcs : Assoc Func
  /-- In the 20 ms after its HOST_PERST_N was deasserted (R126). -/
  perstHold : Bool
  /-- Refuses new requests by VSW_QUIESCE (R336). -/
  refusing : Bool
  /-- In the affected set of a MODE_ACTIVATE in progress (R127). -/
  modeHeld : Bool
  /-- MSI-X vectors: masked vectors and pending bits of (function, vector). -/
  msixMask : List Nat
  msixPend : List Nat
  /-- MSI-X table double words 0 to 2 as written: (function × 65536 + vector) × 4 + double word. -/
  msixTab : Assoc Nat
  deriving DecidableEq, Repr

/-- Host side of the part: vSwitches, bindings and what it learns of bound functions. -/
structure Hosts where
  /-- The HOST_PERST_N inputs that are asserted. -/
  perstPins : List Nat
  vsws : Assoc Vsw
  bind : Assoc BindEnt
  /-- Memory ranges of a function below a port: key (port × 65536 + device requester ID), (BAR, base, size). -/
  ranges : Assoc (List (Nat × Nat × Nat))
  /-- Memory Space Enable of a bound function, same key. -/
  fnMse : List Nat
  fnBme : List Nat
  /-- Orderly unbindings that wait for the host: entry indices (R117). -/
  unbinding : List Nat
  deriving DecidableEq, Repr

/-! ### Fabric addressing, routing, contexts (chapter 6) -/

/-- A FAM entry (R132). -/
structure FamEnt where
  win : Nat
  remoteBase : Nat
  kind : Nat
  size : Nat
  valid : Bool
  port : Nat
  node : Nat
  nodeMask : Nat
  vsw : Nat
  read : Bool
  write : Bool
  atomic : Bool
  xlat : Bool
  noSpray : Bool
  proxyRid : Nat
  owner : Nat
  user : Nat
  deriving DecidableEq, Repr

/-- One configured path of a route table entry (R137). -/
structure PathEnt where
  valid : Bool
  nextNode : Nat
  metric : Nat
  port : Nat
  withdrawn : Bool
  deriving DecidableEq, Repr

/-- A route table entry (R137); SERVED_BY is the index while it is none. -/
structure RouteEnt where
  valid : Bool
  paths : Assoc PathEnt
  servedBy : Option Nat
  deriving DecidableEq, Repr

/-- A transaction context (R148). -/
structure CtxEnt where
  reqId : Nat
  tag : Nat
  outCalez : Bool
  outTag : Option Nat
  source : Bool
  inPort : Nat
  outPort : Nat
  gen : Nat
  peerNode : Nat
  peerCtx : Nat
  peerGen : Nat
  toData : Bool
  vc : Nat
  path : Nat
  kind : Nat
  remain : Nat
  deadline : Nat
  vsw : Nat
  /-- Core VC of its completions (R74). -/
  cvc : Nat
  /-- A completion of the request has left (R145). -/
  started : Bool
  deriving DecidableEq, Repr

/-- A Fabric Error Report entry (R154). -/
structure FerEntry where
  posted : Bool
  vsw : Nat
  reason : Nat
  count : Nat
  dropNode : Nat
  port : Nat
  detail : Nat
  deriving DecidableEq, Repr

/-- A FER frame sent and not acknowledged (R156). -/
structure FerSent where
  node : Nat
  seq : Nat
  entries : List FerEntry
  resends : Nat
  deriving DecidableEq, Repr

/-- A Posted Failure Log entry (R158). -/
structure PflEnt where
  ts : Nat
  addr : Nat
  dropNode : Nat
  port : Nat
  reason : Nat
  count : Nat
  remote : Bool
  seq : Nat
  deriving DecidableEq, Repr

/-- A rule change that advances the epoch (R159): records of a FAM_WRITE or of a binding command with the command that is
answered, or an ACS Control write. -/
inductive RuleChange where
  | fam (req : Option IcpReq) (recs : List (Nat × FamEnt))
  | bind (req : Option IcpReq) (recs : List (Nat × BindEnt))
  | acs (v k acs vec : Nat)
  deriving DecidableEq, Repr

/-- An EPOCH_SYNC that waits (R164): its command, target epoch, requests flagged before it came, and with BOTH whether the
partner has answered and how many requests the partner flagged. -/
structure EpochWait where
  req : IcpReq
  target : Nat
  from_ : Nat
  both : Bool
  twinDone : Bool
  twinFlagged : Nat
  deriving DecidableEq, Repr

/-- Fabric state (chapter 6). -/
structure Fabric where
  fam : Assoc FamEnt
  routes : Assoc RouteEnt
  ctxs : Assoc CtxEnt
  /-- Generation of each context ID that has been used. -/
  gens : Assoc Nat
  /-- Quarantined tags: key port × 16384 + tag, device time at which QUAR_TIME ends (R150). -/
  quarantine : Assoc Nat
  /-- Open coalescing slots, oldest first: source node, entry, and the time of the first drop (R155). -/
  ferOpen : List (Nat × FerEntry × Nat)
  /-- Closed entries, oldest first: source node and entry. -/
  ferQueue : List (Nat × FerEntry)
  ferSent : List FerSent
  /-- SEQ of the next frame towards each source node. -/
  ferSeq : Assoc Nat
  /-- BOOT_ID and SEQ kept for each dropping node. -/
  ferKept : Assoc (Nat × Nat)
  bootId : Nat
  /-- Posted Failure Log entries: key vSwitch × 32 + slot (R158). -/
  pfl : Assoc PflEnt
  pflSeq : Assoc Nat
  /-- Rule changes that wait for their epoch slot, oldest first (R161). -/
  waiting : List RuleChange
  /-- Requests flagged for recheck so far (R162, R164). -/
  flagged : Nat
  syncs : List EpochWait
  deriving DecidableEq, Repr

/-! ### Calez links (chapter 7) -/

/-- A frame in the replay store, and for a TLP frame the TLP it carries as held by the core (R185). -/
structure Stored where
  frame : Frame
  held : Option Held
  deriving DecidableEq, Repr

/-- The transmit side of a link's physical coding (R168–R172). -/
structure LineTx where
  /-- 66-bit blocks that wait for the next codeword row, oldest first: whether it is a control block, and its 64 payload bits. -/
  wait : List (Bool × Nat)
  /-- Hundredths of a nanosecond of the codeword row in progress. -/
  phase : Nat
  /-- Codewords sent since LOCK began (CW_SEQ and AM count them). -/
  count : Nat
  /-- The scrambler of each logical lane, its last 58 bits; none before the first row. -/
  scr : List Nat
  /-- IDLE rows still to be sent before electrical idle (R201). -/
  idle : Nat
  /-- State of the PRBS31 pattern of TEST frames (R205); none before the first. -/
  prbs : Option Nat
  deriving DecidableEq, Repr

/-- A session that has ended with frames unsettled (R190). -/
structure EndedSession where
  session : Nat
  node : Nat
  port : Nat
  frames : List Stored
  deriving DecidableEq, Repr

/-- The receiver side of an ended session (R191, R195): partner, its session and port, RX_LAST, and RESOLVE frames still to send. -/
structure PrevRx where
  node : Nat
  session : Nat
  port : Nat
  rxLast : Nat
  left : Nat
  deriving DecidableEq, Repr

/-- One Calez link beyond its CRS registers. -/
structure Link where
  nextTx : Nat
  nextRx : Nat
  /-- Frames not covered by an ACK, oldest first. -/
  unacked : List Stored
  /-- Consecutive replays that began at the same frame, and that frame (R185). -/
  replays : Nat
  replayAt : Nat
  ackMoved : Nat
  /-- Frames accepted since the last report, and when the oldest of them came (R184). -/
  unreported : Nat
  nakAt : Option Nat
  /-- After a bad frame, data blocks are discarded until the next control block (R183). -/
  discarding : Bool
  /-- LIMIT received and CONS of each (VC, pool), key VC × 4 + pool; absent: no LIMIT yet (R181). -/
  limit : Assoc Nat
  cons : Assoc Nat
  /-- LIMIT sent to the partner and credits it has used. -/
  rxLimit : Assoc Nat
  rxUsed : Assoc Nat
  /-- VCs with an object in progress in the receive direction. -/
  objRx : List Nat
  lastValid : Nat
  lastFrame : Nat
  partnerKa : Nat
  /-- PARAM blocks of the partner received, in this pass. -/
  param : Option Param
  /-- The width and rate code at which this pass trains, and whether from the start point (R194). -/
  tryWidth : Nat
  tryRate : Nat
  atStart : Bool
  laneOk : Nat
  /-- Frames of a TLP that has begun to leave on a VC and whose rest is still to come in (R67, R178). -/
  owed : Assoc (List Stored)
  /-- Held in RESET: refused, no agreement, pass limit, or AUTO_RETRAIN 0 (R189, R196, R197). -/
  held : Bool
  /-- The start point's LOCK has timed out: the next training begins at the training point (R194). -/
  skipStart : Bool
  /-- Equalisation (R269): own setting of each lane, the partner's as last reported, how often that changed, the FOM received, lanes DONE. -/
  eqTx : Assoc Nat
  eqPeer : Assoc Nat
  eqCnt : Assoc Nat
  eqFom : Assoc Nat
  eqDone : List Nat
  ended : Option EndedSession
  prev : Option PrevRx
  /-- QUIET REQ sent and not answered (R201). -/
  quietAsked : Bool
  /-- Frames that wait for credits or for room in the replay store, oldest first; their SEQ is given when they leave. -/
  txq : List Stored
  /-- Frames accepted and not yet taken by what their type names, oldest first. -/
  rxq : List Frame
  /-- ICP packet bytes of segments received so far (R178, R327). -/
  icpPart : List Byte
  /-- LIMITs changed since a frame header last carried them (R181), by VC × 4 + pool. -/
  crDue : List Nat
  /-- When RESET was entered, and the REASON that its RESET blocks carry (R193, R200). -/
  resetAt : Option (Nat × Nat)
  /-- OFFER_W and OFFER_R as read at the entry to PARAM (R195). -/
  offer : Nat × Nat
  /-- LANE_BASE of the start point (R194). -/
  startBase : Nat
  /-- The partner's node and port as ALIGN exchanged them (R193, R198). -/
  peer : Nat × Nat
  /-- This side's RESUME has gone out in the wake under way (R203). -/
  resumed : Bool
  /-- When uncorrectable codewords of the last 100 µs were counted (R173). -/
  uncorr : List Nat
  line : LineTx
  deriving DecidableEq, Repr

/-! ### ICP front end and decoders (chapter 12) -/

/-- A channel's expected request ALIVE and the ALIVE of its next reply (R311). -/
structure Alive where
  exp : Nat
  rep : Nat
  deriving DecidableEq, Repr

/-- A packet relayed to the partner whose reply has not come (R327). -/
structure Relay where
  req : IcpReq
  deadline : Nat
  deriving DecidableEq, Repr

/-- A packet received on the twin link that carries a reply (R214, R327). -/
structure TwinReply where
  opcode : Nat
  seq : Nat
  status : Nat
  payload : List Byte
  relayed : Bool
  deriving DecidableEq, Repr

/-- An MCTP message in reassembly (R325). -/
structure McPart where
  chan : Nat
  src : Nat
  tag : Nat
  type : Nat
  bytes : List Byte
  started : Nat
  deriving DecidableEq, Repr

/-- A VSW_QUIESCE that waits (R336). -/
structure QuiesceWait where
  req : IcpReq
  mask : Nat
  deriving DecidableEq, Repr

/-- The ICP front end, its decoders and its channels. -/
structure Icp where
  alive : Assoc Alive
  /-- Requests handed to the SP decoder, to the firmware and to the twin mirror agent, in the order they passed the front end. -/
  spQ : List IcpReq
  fwQ : List IcpReq
  tmaQ : List IcpReq
  /-- Commands begun whose final reply is still to be sent. -/
  running : List IcpReq
  /-- Packets of replies that wait for a completion slot, by ring channel, oldest first (R323). -/
  cplWait : Assoc (List (List Byte))
  /-- A slot read is outstanding, by ring channel. -/
  fetching : List Nat
  relays : List Relay
  twinReplies : List TwinReply
  mctpEid : Assoc Nat
  mctpParts : List McPart
  /-- Connection state of each SPDM requester (R446): MCTP channel × 256 + source endpoint ID, or 32768 + v for DOE; 1 GET_VERSION, 2 GET_CAPABILITIES, 3
  NEGOTIATE_ALGORITHMS answered. -/
  spdmConn : Assoc Nat
  /-- Sessions of each ring channel that have ended (R324). -/
  sessions : Assoc Nat
  quiesces : List QuiesceWait
  /-- ICP packets on their way to the twin link; empty between commands. -/
  twinTx : List (List Byte)
  deriving DecidableEq, Repr

/-! ### Twin pairing (chapter 8) -/

/-- What a transaction waits for on its coordinator (R211, R212). -/
inductive TxnStep where
  | vote | commit | settling
  deriving DecidableEq, Repr

/-- The transaction that this twin coordinates (R211). -/
structure CoordTxn where
  txn : Nat
  /-- 0 FAM_WRITE, 1 ROUTE_WRITE, 2 binding command, 3 MODE_ACTIVATE (R214). -/
  kind : Nat
  payload : List Byte
  /-- The command whose sender is answered; none: an orderly unbinding that takes effect, or already answered. -/
  req : Option IcpReq
  step : TxnStep
  deadline : Nat
  /-- The partner's transaction won (R213): this one ends with BUSY. -/
  beaten : Bool
  deriving DecidableEq, Repr

/-- A transaction staged on the partner (R211). -/
structure StagedTxn where
  txn : Nat
  kind : Nat
  payload : List Byte
  deriving DecidableEq, Repr

/-- Resynchronisation in progress (R228): each direction's end, and the records still to send as T_SYNC payloads. -/
structure Resync where
  toSend : List (List Byte)
  sentAll : Bool
  gotEnd : Bool
  /-- Tables of which a T_SYNC has come: TABLE × 2 + DEST. -/
  begun : List Nat
  deriving DecidableEq, Repr

/-- The twin pair beyond its CRS registers. -/
structure Twin where
  shadowFam : Assoc FamEnt
  shadowBind : Assoc BindEnt
  shadowRoute : Assoc RouteEnt
  coord : Option CoordTxn
  staged : Option StagedTxn
  nextTxn : Nat
  /-- Last transaction applied here as the partner's staged one, and whether a later Twin-role packet came (R212). -/
  applied : Option Nat
  laterPacket : Bool
  /-- Request ALIVE of the next Twin-role packet sent, and SEQ. -/
  txAlive : Nat
  txSeq : Nat
  /-- ALIVE expected in the next Twin-role reply, and the request ALIVE of the next packet relayed (R316, R327). -/
  rxRep : Nat
  relayTx : Nat
  helloDone : Bool
  /-- The partner's T_HELLO of this session has come (R311). -/
  helloSeen : Bool
  partnerState : Nat
  /-- JOINING was entered from SPLIT (R218). -/
  joinFromSplit : Bool
  restoreWithheld : Bool
  resync : Option Resync
  /-- Entries for the live tables that T_SYNC has brought (DEST 0), as TABLE, INDEX and entry, in their order: they go live as one epoch at the
  handover (R218, R229). -/
  syncLive : List (Nat × Nat × List Byte)
  /-- T_HANDOVER sent and not answered: its DIR, the command behind it, and its deadline. -/
  handover : Option (Nat × Option IcpReq × Nat)
  handbackDue : Option Nat
  handbackBlocked : Bool
  /-- FW_ACTIVATE waits for the handover (R232). -/
  fwAfter : Bool
  leftAt : Option Nat
  deriving DecidableEq, Repr

/-! ### Mover (chapter 9) -/

/-- Where a fetched descriptor stands (R243–R249). -/
inductive DescPhase where
  | pending
  | running (engine : Nat)
  /-- Parked: its PRG index, or none while it waits for one. -/
  | parked (prg : Option Nat)
  deriving DecidableEq, Repr

/-- What an engine waits for. -/
inductive EngWait where
  | none
  /-- A source read: descriptor offset and bytes. -/
  | read (ofs len : Nat)
  /-- The zero-length read before the record (R243). -/
  | flush
  /-- A translation: IOVA, and whether for a write. -/
  | xlat (iova : Nat) (write : Bool)
  deriving DecidableEq, Repr

/-- A fetched descriptor. -/
structure Desc where
  slot : Nat
  bytes : List Byte
  phase : DescPhase
  /-- Committed offset, and bytes of the chunk in progress already written. -/
  offset : Nat
  done : Nat
  crc : Nat
  /-- CRC after the bytes written of the chunk in progress. -/
  crcRun : Nat
  wait : EngWait
  /-- Order in which engines took their descriptors. -/
  started : Nat
  /-- 2 stopping for pre-emption, 3 stopping for quiesce, 0 neither. -/
  stopping : Nat
  deriving DecidableEq, Repr

/-- What an instance's ring waits for (R243, R244): nothing, a translation, or, parked, a page request with its PRG index or none yet. -/
inductive RingWait where
  | none
  | xlat (iova : Nat) (write : Bool)
  | parked (prg : Option Nat) (iova : Nat) (write : Bool)
  deriving DecidableEq, Repr

/-- Dirty logging of an instance (R250–R252): its copy lies at `ofs` in the region, in `State.mem`. -/
structure Dirty where
  pages : Nat
  iovaBase : Nat
  ofs : Nat
  lost : Bool
  outOfRange : Bool
  /-- A HARVEST in progress: the command and the number of words written. -/
  harvest : Option (IcpReq × Nat)
  deriving DecidableEq, Repr

/-- A Mover instance beyond its registers. -/
structure Inst where
  /-- The 64-byte set-up (R237); missing bytes are 0. -/
  setup : List Byte
  descs : List Desc
  /-- Count of the next slot to fetch, and whether a fetch is outstanding. -/
  nextFetch : Nat
  fetching : Bool
  /-- Counts past HEAD whose record has been written. -/
  written : List Nat
  /-- Descriptors that have ended with a STATUS, whose record waits for the translation of its slot (R243). -/
  recs : List (Desc × Nat)
  ringWait : RingWait
  /-- QUIESCE came through INST_CTRL (PF vector 1). -/
  byCtrl : Bool
  mbTo : List Byte
  mbFrom : List Byte
  mbWait : List (List Byte)
  /-- MOVER_T_RELAY not yet answered. -/
  relay : Option IcpReq
  relayIn : List Byte
  relayOut : List Byte
  dirty : Option Dirty
  deriving DecidableEq, Repr

/-- An ATC entry (R244). -/
structure AtcEnt where
  vsw : Nat
  pasid : Nat
  iova : Nat
  size : Nat
  read : Bool
  write : Bool
  addr : Nat
  deriving DecidableEq, Repr

/-- An Invalidate Request not yet completed (R245): the engines whose reads it waits for, and 16 + n for the ring read of instance n. -/
structure Inval where
  vsw : Nat
  itag : Nat
  engines : List Nat
  deriving DecidableEq, Repr

/-- A MOVER_QUIESCE that waits (R255). -/
structure MvQuiesce where
  req : IcpReq
  first : Nat
  count : Nat
  deadline : Nat
  deriving DecidableEq, Repr

/-- The Mover beyond its registers. -/
structure Mover where
  insts : Assoc Inst
  /-- ATC entries, least recently used first. -/
  atc : List AtcEnt
  /-- Page requests outstanding: key vSwitch × 512 + PRG index, the instance and the count of its descriptor, or 2^32 for its ring. -/
  prg : Assoc (Nat × Nat)
  /-- Mover PFs whose page requests a Response Failure has stopped. -/
  prgStopped : List Nat
  invals : List Inval
  quiesces : List MvQuiesce
  /-- Reads outstanding whose descriptor or ring waits for them no more, with their instance: key an engine, which waits for the completion, or 16 + n for
  the ring of instance n. -/
  orphans : Assoc Nat
  /-- RELAY_PEND: instances with a relayed packet (R253). -/
  relayPend : List Nat
  /-- Completions of the part itself for reads of the Mover (R151): tag, completion status and data.  An engine's reads have
  its number as tag, those of the ring of instance n 16 + n. -/
  due : List (Nat × Nat × List Byte)
  /-- Interrupts raised whose writes have not entered the core (R238): instance and entry. -/
  irqs : List (Nat × Nat)
  /-- Instance served last, for the round robin of R246, and the count of dispatches. -/
  lastInst : Nat
  order : Nat
  deriving DecidableEq, Repr

/-! ### Lane tiles and PCI Express ports (chapters 10, 11) -/

/-- A lane tile beyond its registers. -/
structure Tile where
  /-- Coefficient records of 64 bytes (R272): key lane × 8 + rate class. -/
  coef : Assoc (List Byte)
  /-- Device time of each lane's last pass; while the tile is DARK or OFF, the age in ms held (R274). -/
  passAt : Assoc Nat
  ageHeld : Assoc Nat
  /-- The PRESS step in progress: its lane, and whether it is a live step. -/
  press : Option (Nat × Bool)
  /-- Lanes being margined, and lanes out of service for a lane test (R279). -/
  margined : List Nat
  testLanes : Nat
  /-- Power-up calibration running: it was asked for by TILE_CALIBRATE, or follows from leaving OFF. -/
  calFor : Option IcpReq
  calRunning : Bool
  /-- The tile is to enter OFF as soon as no cell is charged to its ports (R77, R383). -/
  offDue : Bool
  deriving DecidableEq, Repr

/-- A Slot Control command in progress (R303): the sideband writes still to complete. -/
structure SlotCmd where
  /-- The vSwitch and the virtual downstream bridge whose host wrote it. -/
  vsw : Nat
  bridge : Nat
  /-- 0 indicators only, 1 power on, 2 power off. -/
  power : Nat
  writesLeft : Nat
  failed : Bool
  deriving DecidableEq, Repr

/-- A PCIe port beyond its registers. -/
structure Port where
  slotCmd : Option SlotCmd
  /-- The Slot Control write held behind it: vSwitch, bridge, power, attention and power indicator. -/
  heldSlot : Option (Nat × Nat × Nat × Option (Nat × Nat))
  /-- Device time at which PERST_DELAY ends. -/
  perstDue : Option Nat
  ltrSeen : Bool
  /-- vSwitches that have sent PME_Turn_Off towards the link, and whether PME_TO_Ack is awaited, with its deadline. -/
  pmeOff : List Nat
  pmeWait : Option Nat
  /-- CLKREQ# as last sampled, and as the device last drove it (R299). -/
  clkreqIn : Bool
  clkreqOut : Bool
  /-- Sequence number of the next TLP sent, and the TLPs not acknowledged with their sequence numbers, as held by the core (R66). -/
  txSeq : Nat
  unacked : List (Nat × Held)
  replayNum : Nat
  /-- Scaled Flow Control negotiated; credits granted by the partner and used, header and data, key VC × 3 + class. -/
  scaled : Bool
  fcLimit : Assoc (Nat × Nat)
  fcUsed : Assoc (Nat × Nat)
  /-- The host had set Power Controller Control to Off before the link went (R304). -/
  hostOff : Bool
  /-- Device time at which the power-off request of a Slot Control write goes to the EGV, 100 µs after PERST# (R303). -/
  powerOffDue : Option Nat
  deriving DecidableEq, Repr

/-! ### EGV, sideband bridge, MPUs, LPDDR4X (chapters 14, 17) -/

/-- A power-on request of the EGV (R390, R391). -/
structure EgvReq where
  slot : Nat
  /-- The port whose host asked (R303), or the SLOT_POWER command that waits. -/
  port : Option Nat
  req : Option IcpReq
  at_ : Nat
  deriving DecidableEq, Repr

/-- The EGV beyond its registers. -/
structure Egv where
  queue : List EgvReq
  /-- Window charges: slot, energy in mJ, device time of the admission. -/
  charges : List (Nat × Nat × Nat)
  /-- Ramps in progress: slot, device time of its begin, INRUSH limit and charge it began with. -/
  ramps : List (Nat × Nat × Nat × Nat)
  deriving DecidableEq, Repr

/-- What a sideband transfer is for (R462, R466, R303, R467). -/
inductive SbFor where
  | windowWrite (m : Master) (offset : Nat)
  /-- A read through the window; where a host asked through its CRS window (R109), its TLP. -/
  | windowRead (m : Master) (offset : Nat) (h : Option Held)
  /-- A word of a REG_READ that lies in the window (R345, R462): the command, and the words read before it. -/
  | regRead (req : IcpReq) (words : List Byte)
  | poll (entry : Nat)
  /-- A bound output of a port: a Slot Control write in progress counts on it. -/
  | slotOut (port : Nat) (counted : Bool)
  /-- An eFuse command of the EGV for a slot: on or off. -/
  | eFuse (slot : Nat) (on : Bool)
  | bring (step : Nat)
  deriving DecidableEq, Repr

/-- A sideband transfer queued on a bus. -/
structure SbXfer where
  addr : Nat
  legacy : Bool
  reg : Nat
  write : Bool
  value : Nat
  purpose : SbFor
  deriving DecidableEq, Repr

/-- The sideband bridge beyond its registers. -/
structure Sideband where
  /-- Transfers of each bus, the one in progress first. -/
  queue : Assoc (List SbXfer)
  /-- Window writes held because their bus's queue is full (R462). -/
  heldWrites : Assoc (List SbXfer)
  /-- Consecutive failed samples of each poll entry. -/
  fails : Assoc Nat
  /-- Buses that carry legacy targets only, found at enable (R472). -/
  legacyBus : List Nat
  retried : List Nat
  deriving DecidableEq, Repr

/-- The LPDDR4X controller beyond its registers. -/
structure Ddr where
  /-- 8 MiB blocks filled ahead of FILL_BLOCK because an access waited for them (R459). -/
  filled : List Nat
  /-- 64-byte bursts with an uncorrectable error (R458). -/
  bad : List Nat
  /-- Next 8 MiB block that the initial fill writes, 1,792 once it has ended; it outlasts a reset (R459). -/
  fillNext : Nat
  /-- The dies hold what the fill or an access put there: no supply of theirs has been lost since (R459). -/
  kept : Bool
  deriving DecidableEq, Repr

/-- Half of a 64-bit register held or captured for a master (R449). -/
structure Access64 where
  /-- The master that holds the low half of a 64-bit register, its key, whether it is a held write, and the value (R449). -/
  master : Nat
  key : Nat
  isWrite : Bool
  value : Nat
  deriving DecidableEq, Repr

/-! ### What the part sends -/

/-- Something that the part sends or drives (the model's record of it). -/
inductive Out where
  | tlp (port : Nat) (t : Tlp)
  /-- A TLP that has begun to leave is nullified (R59, R68). -/
  | nullified (port : Nat) (t : Tlp)
  /-- A completion handed to the Mover, of an instance's request (R239). -/
  | moverCpl (vsw inst : Nat) (t : Tlp)
  /-- A TLP of the part itself towards the host of a vSwitch. -/
  | hostTlp (vsw : Nat) (t : Tlp)
  | frame (link : Nat) (f : Frame)
  | block (link : Nat) (b : Block)
  /-- A codeword row of a Calez link: port lanes, and the PAM4 levels of the codeword that each carries (R170–R172). -/
  | row (link : Nat) (lanes : List (Nat × List Int))
  /-- A PCIe message on a port, by its code; `arg` is the message's operand. -/
  | message (port : Nat) (code arg : Nat)
  | dllp (port : Nat) (d : Dllp)
  /-- The slot of a virtual downstream bridge raises or lowers its interrupt (R116). -/
  | slotInterrupt (vsw bridge : Nat) (on : Bool)
  /-- The CRC of the next frame, flit or TLP of a link goes out inverted (R366), by KIND and INDEX of the link. -/
  | crcInverted (kind index : Nat)
  | hotReset (port : Nat)
  /-- An FLR issued to a function below a port, by its device requester ID. -/
  | flr (port devRid : Nat)
  | replay (port : Nat)
  /-- An MSI-X write of a function of a vSwitch (0 management, 1 Mover PF). -/
  | msix (vsw fn vector : Nat)
  | instInterrupt (inst entry addr data : Nat)
  /-- An ICP packet on a channel: a reply, or a Twin-role or relayed packet on channels 65 and 66. -/
  | icp (chan tag : Nat) (packet : List Byte)
  | mctp (chan tag : Nat) (type : Nat) (bytes : List Byte)
  | doe (vsw : Nat) (type : Nat) (bytes : List Byte)
  | slotRead (chan slot : Nat)
  | sideband (bus : Nat) (x : SbXfer)
  /-- Nine clocks and a STOP on a bus (R460). -/
  | busClear (bus : Nat)
  /-- An answer to a register read, and whether it is an error response. -/
  | readData (m : Master) (value : Word) (err : Bool)
  | writeErr (m : Master)
  | jtag (bits : List Nat)
  | heartbeat (level : Bool)
  | faultN (low : Bool)
  | eclipseOut
  /-- Receiver margining answer of a lane: carried out, with the error count of its spare slice, or Margin NAK; and the answer to a report. -/
  | margin (tile lane : Nat) (ok : Bool) (errors : Nat)
  | marginReport (tile lane value : Nat)
  | beacon (link : Nat)
  | bmcNack
  | ibiNack (bus : Nat)
  /-- A Mover request: fetch, page request or translation request, by instance. -/
  | fetch (inst slot : Nat)
  | atsRequest (vsw pasid iova : Nat)
  | pageRequest (vsw index pasid iova : Nat)
  | invalidateDone (vsw itag : Nat)
  deriving DecidableEq, Repr

/-! ### The whole machine -/

/-- The state of the part. -/
structure State where
  /-- The register file: registers of the register map that differ from their reset value. -/
  regs : Assoc Word
  /-- LPDDR4X contents, in canonical form. -/
  mem : List Host.Cell
  /-- Device time, in sixteenths of a nanosecond (R97); 0 after every reset (R13, TIME_NOW). -/
  time : Nat
  /-- Common edges since VDD_AON came up. -/
  edge : Nat
  /-- Free values drawn so far (the model's own field). -/
  free : Nat
  /-- What the part has sent, oldest first (the model's own field). -/
  out : List Out
  /-- How much of what the part has sent has been put on the lines of the Calez links (the model's own field). -/
  lineAt : Nat
  pwr : Power
  flash : Flash
  otp : Otp
  fcu : Fcu
  bg : Background
  half : List Access64
  core : Core
  cong : Cong
  hosts : Hosts
  fab : Fabric
  links : Assoc Link
  icp : Icp
  twin : Twin
  mover : Mover
  tiles : Assoc Tile
  ports : Assoc Port
  egv : Egv
  sb : Sideband
  /-- MPU region registers in force, by the key of the register (R455). -/
  mpuForce : Assoc Word
  ddr : Ddr
  /-- The commands that wait, first in, first out. -/
  pending : List Instr
  deriving DecidableEq, Repr

/-! ### The machine after reset -/

/-- Flash as it leaves manufacture (R429): no record, no image, an empty journal. -/
def Flash.blank : Flash :=
  { bankRec := ⟨[], []⟩, identity := [], bank0 := ⟨[], ⟨[], []⟩, []⟩, bank1 := ⟨[], ⟨[], []⟩, []⟩, journal := [] }

/-- OTP with nothing burnt (R434). -/
def Otp.blank : Otp :=
  { keyDigest := [], keyProg := 0, keyRevoked := 0, fwArb := 0, uds := 0, udsSet := false, serial := 0 }

/-- No configuration selected. -/
def BootSel.none : BootSel :=
  { base := Option.none, overlay := Option.none, src := 0, reason := 0, index := 0, fallback := false, once := false }

/-- Power state in cold reset (R476): POR_N low. -/
def Power.reset : Power :=
  { phase := .held, strap := 0, porLow := true, pwrfailLow := false, terminal := false, flushing := false, pfDone := false,
    warmReq := Option.none, railsOk := true, hbRun := false, hbOut := false, faultNLow := false, faultNSince := 0,
    sel := BootSel.none, bootStart := 0, fatalTimes := [], coresHeld := true, reloading := false, act := Option.none, cause := Option.none,
    staging := ⟨false, Option.none⟩, keptKeys := [], efuses := [] }

/-- The FCU with nothing recorded (R365). -/
def Fcu.reset : Fcu := { units := [], recs := [], windows := [], injections := [], due := [], fenceDue := [] }

/-- Background work after cold reset (R399). -/
def Background.reset : Background :=
  { jbuf := [], summary := 0, summClears := [], erasing := Option.none, seqFloor := 0,
    since := [], ldPos := [], orbitSeq := 0, orbitOfs := 0, exportSlots := [], eclBusy := Option.none, eclWait := Option.none,
    eclDeaf := 0, eclSeq := 0, eclSeen := 0, pcPrev := [] }

/-- The switch core with no TLP in it (R77). -/
def Core.reset : Core :=
  { nextId := 0, voqs := [], sharedUse := [], rsvUse := [], rsvForce := [], deficit := [], lastVc := [], lastCls := [], ctxWait := [], storing := [], leaving := [], localDue := [] }

/-- Congestion control, COMET and time after reset (R101). -/
def Cong.reset : Cong :=
  { meters := [], voqAvg := [], frcs := [], feedback := [], moves := [], staging := [], cometNext := 0,
    cometCnt := [], smpCnt := [], smpEntries := [], smpDone := [], cometLast := 0, cometTold := false, smpLast := 0,
    smpTold := false, timeId := 0, t1 := 0, t2lo := Option.none, t2hi := Option.none, t4 := 0, goodExch := 0, slew := 0, eligible := [] }

/-- No vSwitch, no binding. -/
def Hosts.reset : Hosts := { perstPins := [], vsws := [], bind := [], ranges := [], fnMse := [], fnBme := [], unbinding := [] }

/-- Fabric state after reset (R166). -/
def Fabric.reset : Fabric :=
  { fam := [], routes := [], ctxs := [], gens := [], quarantine := [], ferOpen := [], ferQueue := [], ferSent := [],
    ferSeq := [], ferKept := [], bootId := 0, pfl := [], pflSeq := [], waiting := [], flagged := 0, syncs := [] }

/-- ICP with no channel in use: both ALIVE values of every channel 0 (R311). -/
def Icp.reset : Icp :=
  { alive := [], spQ := [], fwQ := [], tmaQ := [], running := [], cplWait := [], fetching := [], relays := [], twinReplies := [],
    mctpEid := [], mctpParts := [], spdmConn := [], sessions := [], quiesces := [], twinTx := [] }

/-- The twin pair after reset (R233): shadow tables empty. -/
def Twin.reset : Twin :=
  { shadowFam := [], shadowBind := [], shadowRoute := [], coord := Option.none, staged := Option.none, nextTxn := 1, applied := Option.none,
    laterPacket := false, txAlive := 0, txSeq := 0, rxRep := 0, relayTx := 0, helloDone := false, helloSeen := false, partnerState := 0, joinFromSplit := false,
    restoreWithheld := false, resync := Option.none, syncLive := [], handover := Option.none, handbackDue := Option.none, handbackBlocked := false,
    fwAfter := false, leftAt := Option.none }

/-- The Mover after reset (R256): instances, ATC and dirty copies cleared. -/
def Mover.reset : Mover :=
  { insts := [], atc := [], prg := [], prgStopped := [], invals := [], quiesces := [], orphans := [], relayPend := [], due := [], irqs := [], lastInst := 0, order := 0 }

/-- The machine in cold reset: POR_N low, every register at its reset value, nothing in the LPDDR4X, no command waiting.
Values that no rule gives are the log's (entries 3 to 6). -/
def State.reset : State :=
  { regs := [], mem := [], time := 0, edge := 0, free := 0, out := [], lineAt := 0, pwr := Power.reset, flash := Flash.blank, otp := Otp.blank,
    fcu := Fcu.reset, bg := Background.reset, half := [], core := Core.reset, cong := Cong.reset, hosts := Hosts.reset,
    fab := Fabric.reset, links := [], icp := Icp.reset, twin := Twin.reset, mover := Mover.reset, tiles := [], ports := [],
    egv := ⟨[], [], []⟩, sb := ⟨[], [], [], [], []⟩, mpuForce := [], ddr := ⟨[], [], 0, false⟩, pending := [] }

/-! ### Faults and refusals -/

/-- Why the model would stop.  No command of the manual stops the part: every meaning answers a next state.  Safe. -/
inductive Fault where
  /-- Raised by no command; kept so that the type has a name to cite.  Safe: the part never stops here. -/
  | never
  deriving DecidableEq, Repr

/-- Why the model refuses a command. -/
inductive Refusal where
  /-- A command without a meaning, raised by `exec` alone for an arm not written yet.  Safe: nothing is claimed of it. -/
  | notModelled (mnemonic : String)
  deriving DecidableEq, Repr

end Sys2Proof.Machine
end

