-- ==== Sys2Proof/Machine/RegMap.lean ====
section
/-!
DEFINITION. Machine/RegMap.lean: the register map of the manual, one row per register family of its
register tables (the families are numbered in the order in which the tables stand, chapter by chapter).

* `Reg.<NAME> i j` is the register's key in the register file (`State.regs`).
* `Fld.<NAME>_<FIELD>` is the place of one field (R7: bit 0 is the least significant).  A field that the
  table repeats (`[8v+7:8v]`) takes its repeat number as argument.
* `famTable` gives each family its address space, offset, strides, width, reset value and the access code of
  every field (R9, R13); a bit that no field names is reserved and reads 0 (R12).
-/
namespace Sys2Proof.Machine

namespace Reg
/-- GLB_MODE_STATUS of 02_modes_and_overlays.md. -/
abbrev GLB_MODE_STATUS : Nat := 0
/-- GLB_CONFIG_ID of 02_modes_and_overlays.md. -/
abbrev GLB_CONFIG_ID : Nat := 1
/-- GLB_OVERLAY_ID of 02_modes_and_overlays.md. -/
abbrev GLB_OVERLAY_ID : Nat := 2
/-- GLB_MODE_ERR of 02_modes_and_overlays.md. -/
abbrev GLB_MODE_ERR : Nat := 3
/-- CORE_CTRL of 03_switch_core.md. -/
abbrev CORE_CTRL : Nat := 4
/-- CORE_STATUS of 03_switch_core.md. -/
abbrev CORE_STATUS : Nat := 5
/-- BUF_SHARED of 03_switch_core.md. -/
abbrev BUF_SHARED : Nat := 6
/-- BUF_ALPHA of 03_switch_core.md. -/
abbrev BUF_ALPHA : Nat := 7
/-- SPRAY_FENCE_TO of 03_switch_core.md. -/
abbrev SPRAY_FENCE_TO : Nat := 8
/-- CORE_NULLIFY_CNT of 03_switch_core.md. -/
abbrev CORE_NULLIFY_CNT : Nat := 9
/-- CORE_CTFB_CNT of 03_switch_core.md. -/
abbrev CORE_CTFB_CNT : Nat := 10
/-- CORE_DROP_CNT of 03_switch_core.md. -/
abbrev CORE_DROP_CNT : Nat := 11
/-- CORE_ACCESS_CNT of 03_switch_core.md. -/
abbrev CORE_ACCESS_CNT : Nat := 12
/-- CORE_ERR_LOG of 03_switch_core.md. -/
abbrev CORE_ERR_LOG : Nat := 13
/-- CT_CTRL of 03_switch_core.md. -/
abbrev CT_CTRL (p : Nat) : Nat := 14 + 512 * p
/-- TC_VC_MAP of 03_switch_core.md. -/
abbrev TC_VC_MAP (p : Nat) : Nat := 15 + 512 * p
/-- CORE_PORT_BW of 03_switch_core.md. -/
abbrev CORE_PORT_BW (p : Nat) : Nat := 16 + 512 * p
/-- SCHED_QUANTUM of 03_switch_core.md. -/
abbrev SCHED_QUANTUM (p : Nat) : Nat := 17 + 512 * p
/-- PORT_RSV_H of 03_switch_core.md. -/
abbrev PORT_RSV_H (p v : Nat) : Nat := 18 + 512 * (p + 4096 * v)
/-- PORT_RSV_D of 03_switch_core.md. -/
abbrev PORT_RSV_D (p v : Nat) : Nat := 19 + 512 * (p + 4096 * v)
/-- CC_CTRL of 04_congestion_and_capture.md. -/
abbrev CC_CTRL : Nat := 20
/-- CC_STATUS of 04_congestion_and_capture.md. -/
abbrev CC_STATUS : Nat := 21
/-- CC_MARK_CNT of 04_congestion_and_capture.md. -/
abbrev CC_MARK_CNT : Nat := 22
/-- CC_DROP_CNT of 04_congestion_and_capture.md. -/
abbrev CC_DROP_CNT : Nat := 23
/-- CC_FB_TX_CNT of 04_congestion_and_capture.md. -/
abbrev CC_FB_TX_CNT : Nat := 24
/-- CC_FB_RX_CNT of 04_congestion_and_capture.md. -/
abbrev CC_FB_RX_CNT : Nat := 25
/-- CC_NOFRC_CNT of 04_congestion_and_capture.md. -/
abbrev CC_NOFRC_CNT : Nat := 26
/-- CC_FENCE_TO_CNT of 04_congestion_and_capture.md. -/
abbrev CC_FENCE_TO_CNT : Nat := 27
/-- RED_PROF_A of 04_congestion_and_capture.md. -/
abbrev RED_PROF_A (v c : Nat) : Nat := 28 + 512 * (v + 4096 * c)
/-- RED_PROF_B of 04_congestion_and_capture.md. -/
abbrev RED_PROF_B (v c : Nat) : Nat := 29 + 512 * (v + 4096 * c)
/-- METER_MAP of 04_congestion_and_capture.md. -/
abbrev METER_MAP (p : Nat) : Nat := 30 + 512 * p
/-- TBL_ACC of 04_congestion_and_capture.md. -/
abbrev TBL_ACC : Nat := 31
/-- TBL_DATA of 04_congestion_and_capture.md. -/
abbrev TBL_DATA (i : Nat) : Nat := 32 + 512 * i
/-- COMET_CTRL of 04_congestion_and_capture.md. -/
abbrev COMET_CTRL : Nat := 33
/-- COMET_RING_BASE of 04_congestion_and_capture.md. -/
abbrev COMET_RING_BASE : Nat := 34
/-- COMET_RING_SIZE of 04_congestion_and_capture.md. -/
abbrev COMET_RING_SIZE : Nat := 35
/-- COMET_WR_PTR of 04_congestion_and_capture.md. -/
abbrev COMET_WR_PTR : Nat := 36
/-- COMET_RD_PTR of 04_congestion_and_capture.md. -/
abbrev COMET_RD_PTR : Nat := 37
/-- COMET_THRESH of 04_congestion_and_capture.md. -/
abbrev COMET_THRESH : Nat := 38
/-- COMET_STATUS of 04_congestion_and_capture.md. -/
abbrev COMET_STATUS : Nat := 39
/-- COMET_LOST_CNT of 04_congestion_and_capture.md. -/
abbrev COMET_LOST_CNT : Nat := 40
/-- COMET_SEQ of 04_congestion_and_capture.md. -/
abbrev COMET_SEQ : Nat := 41
/-- COMET_FLT_CTRL of 04_congestion_and_capture.md. -/
abbrev COMET_FLT_CTRL (i : Nat) : Nat := 42 + 512 * i
/-- COMET_FLT_PORTS of 04_congestion_and_capture.md. -/
abbrev COMET_FLT_PORTS (i : Nat) : Nat := 43 + 512 * i
/-- COMET_FLT_MATCH of 04_congestion_and_capture.md. -/
abbrev COMET_FLT_MATCH (i k : Nat) : Nat := 44 + 512 * (i + 4096 * k)
/-- COMET_FLT_MASK of 04_congestion_and_capture.md. -/
abbrev COMET_FLT_MASK (i k : Nat) : Nat := 45 + 512 * (i + 4096 * k)
/-- TIME_NOW of 04_congestion_and_capture.md. -/
abbrev TIME_NOW : Nat := 46
/-- TIME_CTRL of 04_congestion_and_capture.md. -/
abbrev TIME_CTRL : Nat := 47
/-- TIME_STATUS of 04_congestion_and_capture.md. -/
abbrev TIME_STATUS : Nat := 48
/-- HOST_TIME_OFS of 04_congestion_and_capture.md. -/
abbrev HOST_TIME_OFS (v : Nat) : Nat := 49 + 512 * v
/-- VSW_CTRL of 05_host_hierarchies.md. -/
abbrev VSW_CTRL (v : Nat) : Nat := 50 + 512 * v
/-- VSW_GLOBAL of 05_host_hierarchies.md. -/
abbrev VSW_GLOBAL : Nat := 51
/-- VBR_MAP of 05_host_hierarchies.md. -/
abbrev VBR_MAP (v k : Nat) : Nat := 52 + 512 * (v + 4096 * k)
/-- MGMT_LP_WIN of 05_host_hierarchies.md. -/
abbrev MGMT_LP_WIN (v : Nat) : Nat := 53 + 512 * v
/-- MGMT_FAP of 05_host_hierarchies.md. -/
abbrev MGMT_FAP (v : Nat) : Nat := 54 + 512 * v
/-- DEV_BUS of 05_host_hierarchies.md. -/
abbrev DEV_BUS (p : Nat) : Nat := 55 + 512 * p
/-- BIND_ACC of 05_host_hierarchies.md. -/
abbrev BIND_ACC : Nat := 56
/-- BIND_STATUS of 05_host_hierarchies.md. -/
abbrev BIND_STATUS : Nat := 57
/-- BIND_UNBOUND_CNT of 05_host_hierarchies.md. -/
abbrev BIND_UNBOUND_CNT : Nat := 58
/-- BIND_GUARD_CNT of 05_host_hierarchies.md. -/
abbrev BIND_GUARD_CNT : Nat := 59
/-- BIND_DATA of 05_host_hierarchies.md. -/
abbrev BIND_DATA (i : Nat) : Nat := 60 + 512 * i
/-- FAB_ID of 06_fabric_addressing.md. -/
abbrev FAB_ID : Nat := 61
/-- FAM_ACC of 06_fabric_addressing.md. -/
abbrev FAM_ACC : Nat := 62
/-- FAM_STATUS of 06_fabric_addressing.md. -/
abbrev FAM_STATUS : Nat := 63
/-- FAM_DATA of 06_fabric_addressing.md. -/
abbrev FAM_DATA (i : Nat) : Nat := 64 + 512 * i
/-- ROUTE_CTRL of 06_fabric_addressing.md. -/
abbrev ROUTE_CTRL : Nat := 65
/-- ROUTE_ACC of 06_fabric_addressing.md. -/
abbrev ROUTE_ACC : Nat := 66
/-- ROUTE_STATUS of 06_fabric_addressing.md. -/
abbrev ROUTE_STATUS : Nat := 67
/-- ADV_TX_CNT of 06_fabric_addressing.md. -/
abbrev ADV_TX_CNT : Nat := 68
/-- ADV_RX_CNT of 06_fabric_addressing.md. -/
abbrev ADV_RX_CNT : Nat := 69
/-- ADV_MISMATCH_CNT of 06_fabric_addressing.md. -/
abbrev ADV_MISMATCH_CNT : Nat := 70
/-- MOVE_HOLD_CNT of 06_fabric_addressing.md. -/
abbrev MOVE_HOLD_CNT : Nat := 71
/-- ROUTE_DATA of 06_fabric_addressing.md. -/
abbrev ROUTE_DATA (i : Nat) : Nat := 72 + 512 * i
/-- EPOCH_CUR of 06_fabric_addressing.md. -/
abbrev EPOCH_CUR : Nat := 73
/-- EPOCH_CTRL of 06_fabric_addressing.md. -/
abbrev EPOCH_CTRL : Nat := 74
/-- EPOCH_INFLIGHT of 06_fabric_addressing.md. -/
abbrev EPOCH_INFLIGHT : Nat := 75
/-- EPOCH_RECHECK_CNT of 06_fabric_addressing.md. -/
abbrev EPOCH_RECHECK_CNT : Nat := 76
/-- EPOCH_RECHECK_FAIL_CNT of 06_fabric_addressing.md. -/
abbrev EPOCH_RECHECK_FAIL_CNT : Nat := 77
/-- FER_CTRL of 06_fabric_addressing.md. -/
abbrev FER_CTRL : Nat := 78
/-- FER_TX_CNT of 06_fabric_addressing.md. -/
abbrev FER_TX_CNT : Nat := 79
/-- FER_RX_CNT of 06_fabric_addressing.md. -/
abbrev FER_RX_CNT : Nat := 80
/-- FER_LOST_CNT of 06_fabric_addressing.md. -/
abbrev FER_LOST_CNT : Nat := 81
/-- FER_DUP_CNT of 06_fabric_addressing.md. -/
abbrev FER_DUP_CNT : Nat := 82
/-- PFL_PTR of 06_fabric_addressing.md. -/
abbrev PFL_PTR (v : Nat) : Nat := 83 + 512 * v
/-- PFL_OVF of 06_fabric_addressing.md. -/
abbrev PFL_OVF (v : Nat) : Nat := 84 + 512 * v
/-- CTX_CTRL of 06_fabric_addressing.md. -/
abbrev CTX_CTRL : Nat := 85
/-- CTX_STATUS of 06_fabric_addressing.md. -/
abbrev CTX_STATUS : Nat := 86
/-- LATE_CPL_CNT of 06_fabric_addressing.md. -/
abbrev LATE_CPL_CNT : Nat := 87
/-- CTO_CNT of 06_fabric_addressing.md. -/
abbrev CTO_CNT : Nat := 88
/-- ORPHAN_CNT of 06_fabric_addressing.md. -/
abbrev ORPHAN_CNT : Nat := 89
/-- CTX_WAIT_CNT of 06_fabric_addressing.md. -/
abbrev CTX_WAIT_CNT : Nat := 90
/-- FER_STALE_CNT of 06_fabric_addressing.md. -/
abbrev FER_STALE_CNT : Nat := 91
/-- LATE_LOG of 06_fabric_addressing.md. -/
abbrev LATE_LOG : Nat := 92
/-- CTO of 06_fabric_addressing.md. -/
abbrev CTO (v : Nat) : Nat := 93 + 512 * v
/-- CTX_QUOTA of 06_fabric_addressing.md. -/
abbrev CTX_QUOTA (v : Nat) : Nat := 94 + 512 * v
/-- CTX_PORT_CFG of 06_fabric_addressing.md. -/
abbrev CTX_PORT_CFG (p : Nat) : Nat := 95 + 512 * p
/-- CTX_ACC of 06_fabric_addressing.md. -/
abbrev CTX_ACC : Nat := 96
/-- CTX_DATA of 06_fabric_addressing.md. -/
abbrev CTX_DATA (i : Nat) : Nat := 97 + 512 * i
/-- CZ_CTRL of 07_calez_link.md. -/
abbrev CZ_CTRL (n : Nat) : Nat := 98 + 512 * n
/-- CZ_TIMER of 07_calez_link.md. -/
abbrev CZ_TIMER (n : Nat) : Nat := 99 + 512 * n
/-- CZ_STATUS of 07_calez_link.md. -/
abbrev CZ_STATUS (n : Nat) : Nat := 100 + 512 * n
/-- CZ_PEER of 07_calez_link.md. -/
abbrev CZ_PEER (n : Nat) : Nat := 101 + 512 * n
/-- CZ_DOWN of 07_calez_link.md. -/
abbrev CZ_DOWN (n : Nat) : Nat := 102 + 512 * n
/-- CZ_REPLAY of 07_calez_link.md. -/
abbrev CZ_REPLAY (n : Nat) : Nat := 103 + 512 * n
/-- CZ_STORED of 07_calez_link.md. -/
abbrev CZ_STORED (n : Nat) : Nat := 104 + 512 * n
/-- CZ_FEC_CORR_CNT of 07_calez_link.md. -/
abbrev CZ_FEC_CORR_CNT (n : Nat) : Nat := 105 + 512 * n
/-- CZ_FEC_UNCORR_CNT of 07_calez_link.md. -/
abbrev CZ_FEC_UNCORR_CNT (n : Nat) : Nat := 106 + 512 * n
/-- CZ_CRC_ERR_CNT of 07_calez_link.md. -/
abbrev CZ_CRC_ERR_CNT (n : Nat) : Nat := 107 + 512 * n
/-- CZ_NAK_CNT of 07_calez_link.md. -/
abbrev CZ_NAK_CNT (n : Nat) : Nat := 108 + 512 * n
/-- CZ_REPLAY_CNT of 07_calez_link.md. -/
abbrev CZ_REPLAY_CNT (n : Nat) : Nat := 109 + 512 * n
/-- CZ_DUP_CNT of 07_calez_link.md. -/
abbrev CZ_DUP_CNT (n : Nat) : Nat := 110 + 512 * n
/-- CZ_ABORT_CNT of 07_calez_link.md. -/
abbrev CZ_ABORT_CNT (n : Nat) : Nat := 111 + 512 * n
/-- CZ_DOWN_CNT of 07_calez_link.md. -/
abbrev CZ_DOWN_CNT (n : Nat) : Nat := 112 + 512 * n
/-- CZ_INDOUBT_CNT of 07_calez_link.md. -/
abbrev CZ_INDOUBT_CNT (n : Nat) : Nat := 113 + 512 * n
/-- CZ_UNKNOWN_CNT of 07_calez_link.md. -/
abbrev CZ_UNKNOWN_CNT (n : Nat) : Nat := 114 + 512 * n
/-- CZ_TEST_ERR of 07_calez_link.md. -/
abbrev CZ_TEST_ERR (n : Nat) : Nat := 115 + 512 * n
/-- CZ_TIME_EXCH_CNT of 07_calez_link.md. -/
abbrev CZ_TIME_EXCH_CNT (n : Nat) : Nat := 116 + 512 * n
/-- CZ_CREDIT of 07_calez_link.md. -/
abbrev CZ_CREDIT (n v : Nat) : Nat := 117 + 512 * (n + 4096 * v)
/-- TWIN_CTRL of 08_twin_pairing.md. -/
abbrev TWIN_CTRL : Nat := 118
/-- TWIN_STATUS of 08_twin_pairing.md. -/
abbrev TWIN_STATUS : Nat := 119
/-- TWIN_EVENT of 08_twin_pairing.md. -/
abbrev TWIN_EVENT : Nat := 120
/-- TWIN_FO_TIME of 08_twin_pairing.md. -/
abbrev TWIN_FO_TIME : Nat := 121
/-- TWIN_TXN of 08_twin_pairing.md. -/
abbrev TWIN_TXN : Nat := 122
/-- TWIN_PREP_CNT of 08_twin_pairing.md. -/
abbrev TWIN_PREP_CNT : Nat := 123
/-- TWIN_REFUSE_CNT of 08_twin_pairing.md. -/
abbrev TWIN_REFUSE_CNT : Nat := 124
/-- TWIN_TO_CNT of 08_twin_pairing.md. -/
abbrev TWIN_TO_CNT : Nat := 125
/-- TWIN_CHK_ERR_CNT of 08_twin_pairing.md. -/
abbrev TWIN_CHK_ERR_CNT : Nat := 126
/-- TWIN_ORPHAN_CNT of 08_twin_pairing.md. -/
abbrev TWIN_ORPHAN_CNT : Nat := 127
/-- TWIN_SHADOW_ACC of 08_twin_pairing.md. -/
abbrev TWIN_SHADOW_ACC : Nat := 128
/-- TWIN_SHADOW_USED of 08_twin_pairing.md. -/
abbrev TWIN_SHADOW_USED : Nat := 129
/-- TWIN_SHADOW_DATA of 08_twin_pairing.md. -/
abbrev TWIN_SHADOW_DATA (i : Nat) : Nat := 130 + 512 * i
/-- TWIN_PORT_MAP of 08_twin_pairing.md. -/
abbrev TWIN_PORT_MAP (p : Nat) : Nat := 131 + 512 * p
/-- TWIN_PORT_OFS of 08_twin_pairing.md. -/
abbrev TWIN_PORT_OFS (p : Nat) : Nat := 132 + 512 * p
/-- MV_CTRL of 09_mover.md. -/
abbrev MV_CTRL : Nat := 133
/-- MV_STATUS of 09_mover.md. -/
abbrev MV_STATUS : Nat := 134
/-- MV_DESC_CNT of 09_mover.md. -/
abbrev MV_DESC_CNT : Nat := 135
/-- MV_PARK_CNT of 09_mover.md. -/
abbrev MV_PARK_CNT : Nat := 136
/-- MV_PREEMPT_CNT of 09_mover.md. -/
abbrev MV_PREEMPT_CNT : Nat := 137
/-- MV_XLAT_FAULT_CNT of 09_mover.md. -/
abbrev MV_XLAT_FAULT_CNT : Nat := 138
/-- MV_DISCARD_CNT of 09_mover.md. -/
abbrev MV_DISCARD_CNT : Nat := 139
/-- MV_PRG_STALE_CNT of 09_mover.md. -/
abbrev MV_PRG_STALE_CNT : Nat := 140
/-- MV_ATC_MISS_CNT of 09_mover.md. -/
abbrev MV_ATC_MISS_CNT : Nat := 141
/-- MV_INV_CNT of 09_mover.md. -/
abbrev MV_INV_CNT : Nat := 142
/-- MV_ENG_STATE of 09_mover.md. -/
abbrev MV_ENG_STATE (e : Nat) : Nat := 143 + 512 * e
/-- MV_INST_BIND of 09_mover.md. -/
abbrev MV_INST_BIND (n : Nat) : Nat := 144 + 512 * n
/-- MV_ATC_QUOTA of 09_mover.md. -/
abbrev MV_ATC_QUOTA (v : Nat) : Nat := 145 + 512 * v
/-- MV_DIRTY_REGION of 09_mover.md. -/
abbrev MV_DIRTY_REGION : Nat := 146
/-- INST_STATUS of 09_mover.md. -/
abbrev INST_STATUS (n : Nat) : Nat := 147 + 512 * n
/-- INST_TAIL of 09_mover.md. -/
abbrev INST_TAIL (n : Nat) : Nat := 148 + 512 * n
/-- INST_HEAD of 09_mover.md. -/
abbrev INST_HEAD (n : Nat) : Nat := 149 + 512 * n
/-- INST_MB_CTRL of 09_mover.md. -/
abbrev INST_MB_CTRL (n : Nat) : Nat := 150 + 512 * n
/-- INST_ABORT_CNT of 09_mover.md. -/
abbrev INST_ABORT_CNT (n : Nat) : Nat := 151 + 512 * n
/-- INST_BYTES of 09_mover.md. -/
abbrev INST_BYTES (n : Nat) : Nat := 152 + 512 * n
/-- MVPF_INST_SEL of 09_mover.md. -/
abbrev MVPF_INST_SEL (v : Nat) : Nat := 153 + 512 * v
/-- INST_CTRL of 09_mover.md. -/
abbrev INST_CTRL (v : Nat) : Nat := 154 + 512 * v
/-- TILE_CFG of 10_lane_tiles.md. -/
abbrev TILE_CFG (t : Nat) : Nat := 155 + 512 * t
/-- TILE_STATUS of 10_lane_tiles.md. -/
abbrev TILE_STATUS (t : Nat) : Nat := 156 + 512 * t
/-- TILE_PRESS_CTRL of 10_lane_tiles.md. -/
abbrev TILE_PRESS_CTRL (t : Nat) : Nat := 157 + 512 * t
/-- TILE_EQ_CRIT of 10_lane_tiles.md. -/
abbrev TILE_EQ_CRIT (t : Nat) : Nat := 158 + 512 * t
/-- TILE_PRESS_PASS_CNT of 10_lane_tiles.md. -/
abbrev TILE_PRESS_PASS_CNT (t : Nat) : Nat := 159 + 512 * t
/-- TILE_PRESS_ABN_CNT of 10_lane_tiles.md. -/
abbrev TILE_PRESS_ABN_CNT (t : Nat) : Nat := 160 + 512 * t
/-- TILE_EQ_FB_CNT of 10_lane_tiles.md. -/
abbrev TILE_EQ_FB_CNT (t : Nat) : Nat := 161 + 512 * t
/-- TILE_PLL_UNLOCK_CNT of 10_lane_tiles.md. -/
abbrev TILE_PLL_UNLOCK_CNT (t : Nat) : Nat := 162 + 512 * t
/-- TILE_COEF_ACC of 10_lane_tiles.md. -/
abbrev TILE_COEF_ACC (t : Nat) : Nat := 163 + 512 * t
/-- TILE_COEF_DATA of 10_lane_tiles.md. -/
abbrev TILE_COEF_DATA (t i : Nat) : Nat := 164 + 512 * (t + 4096 * i)
/-- LANE_STATUS of 10_lane_tiles.md. -/
abbrev LANE_STATUS (t l : Nat) : Nat := 165 + 512 * (t + 4096 * l)
/-- PORT_CFG of 11_pcie_ports.md. -/
abbrev PORT_CFG (p : Nat) : Nat := 166 + 512 * p
/-- PORT_STATUS of 11_pcie_ports.md. -/
abbrev PORT_STATUS (p : Nat) : Nat := 167 + 512 * p
/-- PORT_EVENT of 11_pcie_ports.md. -/
abbrev PORT_EVENT (p : Nat) : Nat := 168 + 512 * p
/-- PORT_PM of 11_pcie_ports.md. -/
abbrev PORT_PM (p : Nat) : Nat := 169 + 512 * p
/-- PORT_PTM of 11_pcie_ports.md. -/
abbrev PORT_PTM (p : Nat) : Nat := 170 + 512 * p
/-- PORT_CTRL of 11_pcie_ports.md. -/
abbrev PORT_CTRL (p : Nat) : Nat := 171 + 512 * p
/-- PORT_LTR of 11_pcie_ports.md. -/
abbrev PORT_LTR (p : Nat) : Nat := 172 + 512 * p
/-- PORT_RX_ERR_CNT of 11_pcie_ports.md. -/
abbrev PORT_RX_ERR_CNT (p : Nat) : Nat := 173 + 512 * p
/-- PORT_FEC_CORR_CNT of 11_pcie_ports.md. -/
abbrev PORT_FEC_CORR_CNT (p : Nat) : Nat := 174 + 512 * p
/-- PORT_CRC_ERR_CNT of 11_pcie_ports.md. -/
abbrev PORT_CRC_ERR_CNT (p : Nat) : Nat := 175 + 512 * p
/-- PORT_REPLAY_CNT of 11_pcie_ports.md. -/
abbrev PORT_REPLAY_CNT (p : Nat) : Nat := 176 + 512 * p
/-- PORT_DOWN_CNT of 11_pcie_ports.md. -/
abbrev PORT_DOWN_CNT (p : Nat) : Nat := 177 + 512 * p
/-- PORT_MALFORMED_CNT of 11_pcie_ports.md. -/
abbrev PORT_MALFORMED_CNT (p : Nat) : Nat := 178 + 512 * p
/-- PORT_SPLIT_CNT of 11_pcie_ports.md. -/
abbrev PORT_SPLIT_CNT (p : Nat) : Nat := 179 + 512 * p
/-- PORT_SB_FAIL_CNT of 11_pcie_ports.md. -/
abbrev PORT_SB_FAIL_CNT (p : Nat) : Nat := 180 + 512 * p
/-- ICP_SQ_BASE of 12_command_protocol.md. -/
abbrev ICP_SQ_BASE (v : Nat) : Nat := 181 + 512 * v
/-- ICP_CQ_BASE of 12_command_protocol.md. -/
abbrev ICP_CQ_BASE (v : Nat) : Nat := 182 + 512 * v
/-- ICP_RING_CFG of 12_command_protocol.md. -/
abbrev ICP_RING_CFG (v : Nat) : Nat := 183 + 512 * v
/-- ICP_RING_STATUS of 12_command_protocol.md. -/
abbrev ICP_RING_STATUS (v : Nat) : Nat := 184 + 512 * v
/-- ICP_SQ_TAIL of 12_command_protocol.md. -/
abbrev ICP_SQ_TAIL (v : Nat) : Nat := 185 + 512 * v
/-- ICP_SQ_HEAD of 12_command_protocol.md. -/
abbrev ICP_SQ_HEAD (v : Nat) : Nat := 186 + 512 * v
/-- ICP_CQ_TAIL of 12_command_protocol.md. -/
abbrev ICP_CQ_TAIL (v : Nat) : Nat := 187 + 512 * v
/-- ICP_CQ_HEAD of 12_command_protocol.md. -/
abbrev ICP_CQ_HEAD (v : Nat) : Nat := 188 + 512 * v
/-- ICP_MGR of 12_command_protocol.md. -/
abbrev ICP_MGR : Nat := 189
/-- ICP_CTRL of 12_command_protocol.md. -/
abbrev ICP_CTRL : Nat := 190
/-- ICP_RX_CNT of 12_command_protocol.md. -/
abbrev ICP_RX_CNT : Nat := 191
/-- ICP_BAD_CRC_CNT of 12_command_protocol.md. -/
abbrev ICP_BAD_CRC_CNT : Nat := 192
/-- ICP_ALIVE_ERR_CNT of 12_command_protocol.md. -/
abbrev ICP_ALIVE_ERR_CNT : Nat := 193
/-- ICP_REFUSED_CNT of 12_command_protocol.md. -/
abbrev ICP_REFUSED_CNT : Nat := 194
/-- ICP_CHAN of 12_command_protocol.md. -/
abbrev ICP_CHAN (c : Nat) : Nat := 195 + 512 * c
/-- SP_STATUS of 13_safety_and_faults.md. -/
abbrev SP_STATUS : Nat := 196
/-- SP_SPW_LOG of 13_safety_and_faults.md. -/
abbrev SP_SPW_LOG : Nat := 197
/-- SP_SPW_CNT of 13_safety_and_faults.md. -/
abbrev SP_SPW_CNT : Nat := 198
/-- SP_SRAM_CORR_CNT of 13_safety_and_faults.md. -/
abbrev SP_SRAM_CORR_CNT : Nat := 199
/-- FCU_STATUS of 13_safety_and_faults.md. -/
abbrev FCU_STATUS : Nat := 200
/-- FCU_FATAL_HIST of 13_safety_and_faults.md. -/
abbrev FCU_FATAL_HIST : Nat := 201
/-- FCU_SEQ of 13_safety_and_faults.md. -/
abbrev FCU_SEQ : Nat := 202
/-- FCU_CLASS_CNT of 13_safety_and_faults.md. -/
abbrev FCU_CLASS_CNT (c : Nat) : Nat := 203 + 512 * c
/-- FCU_REC of 13_safety_and_faults.md. -/
abbrev FCU_REC (c w : Nat) : Nat := 204 + 512 * (c + 4096 * w)
/-- FCU_UNCLEARED of 13_safety_and_faults.md. -/
abbrev FCU_UNCLEARED (i : Nat) : Nat := 205 + 512 * i
/-- CV_CTRL of 13_safety_and_faults.md. -/
abbrev CV_CTRL (n : Nat) : Nat := 206 + 512 * n
/-- CV_STATUS of 13_safety_and_faults.md. -/
abbrev CV_STATUS (n : Nat) : Nat := 207 + 512 * n
/-- CV_ALIVE of 13_safety_and_faults.md. -/
abbrev CV_ALIVE (n : Nat) : Nat := 208 + 512 * n
/-- CV_DATA8 of 13_safety_and_faults.md. -/
abbrev CV_DATA8 (n : Nat) : Nat := 209 + 512 * n
/-- CV_DATA16 of 13_safety_and_faults.md. -/
abbrev CV_DATA16 (n : Nat) : Nat := 210 + 512 * n
/-- CV_DATA32 of 13_safety_and_faults.md. -/
abbrev CV_DATA32 (n : Nat) : Nat := 211 + 512 * n
/-- CV_END of 13_safety_and_faults.md. -/
abbrev CV_END (n : Nat) : Nat := 212 + 512 * n
/-- CV_EXPECT of 13_safety_and_faults.md. -/
abbrev CV_EXPECT (n : Nat) : Nat := 213 + 512 * n
/-- CV_STATE of 13_safety_and_faults.md. -/
abbrev CV_STATE (n : Nat) : Nat := 214 + 512 * n
/-- CV_RESULT of 13_safety_and_faults.md. -/
abbrev CV_RESULT (n : Nat) : Nat := 215 + 512 * n
/-- CV_MSG_CNT of 13_safety_and_faults.md. -/
abbrev CV_MSG_CNT (n : Nat) : Nat := 216 + 512 * n
/-- CVU_OWNER of 13_safety_and_faults.md. -/
abbrev CVU_OWNER (n : Nat) : Nat := 217 + 512 * n
/-- CLK_STATUS of 14_clocks_power_energy.md. -/
abbrev CLK_STATUS : Nat := 218
/-- RST_REASON of 14_clocks_power_energy.md. -/
abbrev RST_REASON : Nat := 219
/-- RST_DETAIL of 14_clocks_power_energy.md. -/
abbrev RST_DETAIL : Nat := 220
/-- PWR_CTRL of 14_clocks_power_energy.md. -/
abbrev PWR_CTRL : Nat := 221
/-- PWR_STATUS of 14_clocks_power_energy.md. -/
abbrev PWR_STATUS : Nat := 222
/-- WAKE_TIMER of 14_clocks_power_energy.md. -/
abbrev WAKE_TIMER : Nat := 223
/-- PWR_DORMANT_CNT of 14_clocks_power_energy.md. -/
abbrev PWR_DORMANT_CNT : Nat := 224
/-- PWR_DORMANT_ABORT_CNT of 14_clocks_power_energy.md. -/
abbrev PWR_DORMANT_ABORT_CNT : Nat := 225
/-- TILE_PM of 14_clocks_power_energy.md. -/
abbrev TILE_PM (t : Nat) : Nat := 226 + 512 * t
/-- EGV_CTRL of 14_clocks_power_energy.md. -/
abbrev EGV_CTRL : Nat := 227
/-- EGV_WINDOW of 14_clocks_power_energy.md. -/
abbrev EGV_WINDOW : Nat := 228
/-- EGV_STATUS of 14_clocks_power_energy.md. -/
abbrev EGV_STATUS : Nat := 229
/-- EGV_SLOT_CFG of 14_clocks_power_energy.md. -/
abbrev EGV_SLOT_CFG (s : Nat) : Nat := 230 + 512 * s
/-- EGV_SLOT_LIM of 14_clocks_power_energy.md. -/
abbrev EGV_SLOT_LIM (s : Nat) : Nat := 231 + 512 * s
/-- EGV_SLOT_STATUS of 14_clocks_power_energy.md. -/
abbrev EGV_SLOT_STATUS (s : Nat) : Nat := 232 + 512 * s
/-- EGV_ADMIT_CNT of 14_clocks_power_energy.md. -/
abbrev EGV_ADMIT_CNT : Nat := 233
/-- EGV_REFUSE_CNT of 14_clocks_power_energy.md. -/
abbrev EGV_REFUSE_CNT : Nat := 234
/-- EGV_CUT_CNT of 14_clocks_power_energy.md. -/
abbrev EGV_CUT_CNT : Nat := 235
/-- BG_CTRL of 15_background_and_observability.md. -/
abbrev BG_CTRL : Nat := 236
/-- LD_PERIOD of 15_background_and_observability.md. -/
abbrev LD_PERIOD : Nat := 237
/-- LD_REGION of 15_background_and_observability.md. -/
abbrev LD_REGION (r : Nat) : Nat := 238 + 512 * r
/-- LD_CORR_CNT of 15_background_and_observability.md. -/
abbrev LD_CORR_CNT : Nat := 239
/-- LD_UE_CNT of 15_background_and_observability.md. -/
abbrev LD_UE_CNT : Nat := 240
/-- LD_FREE_UE_CNT of 15_background_and_observability.md. -/
abbrev LD_FREE_UE_CNT : Nat := 241
/-- PRESS_LEVEL of 15_background_and_observability.md. -/
abbrev PRESS_LEVEL (t : Nat) : Nat := 242 + 512 * t
/-- ORBIT_CFG of 15_background_and_observability.md. -/
abbrev ORBIT_CFG : Nat := 243
/-- ORBIT_ADDR of 15_background_and_observability.md. -/
abbrev ORBIT_ADDR : Nat := 244
/-- ORBIT_SETS of 15_background_and_observability.md. -/
abbrev ORBIT_SETS : Nat := 245
/-- ORBIT_STATUS of 15_background_and_observability.md. -/
abbrev ORBIT_STATUS : Nat := 246
/-- ORBIT_DROP_CNT of 15_background_and_observability.md. -/
abbrev ORBIT_DROP_CNT : Nat := 247
/-- ORBIT_WR of 15_background_and_observability.md. -/
abbrev ORBIT_WR (v : Nat) : Nat := 248 + 512 * v
/-- JNL_STATUS of 15_background_and_observability.md. -/
abbrev JNL_STATUS : Nat := 249
/-- JNL_SEQ of 15_background_and_observability.md. -/
abbrev JNL_SEQ : Nat := 250
/-- JNL_AON_T of 15_background_and_observability.md. -/
abbrev JNL_AON_T : Nat := 251
/-- JNL_WRITE_CNT of 15_background_and_observability.md. -/
abbrev JNL_WRITE_CNT : Nat := 252
/-- JNL_SUMM_CNT of 15_background_and_observability.md. -/
abbrev JNL_SUMM_CNT : Nat := 253
/-- JNL_TORN_CNT of 15_background_and_observability.md. -/
abbrev JNL_TORN_CNT : Nat := 254
/-- JNL_RETIRED of 15_background_and_observability.md. -/
abbrev JNL_RETIRED : Nat := 255
/-- ECL_ARM of 15_background_and_observability.md. -/
abbrev ECL_ARM : Nat := 256
/-- ECL_STATUS of 15_background_and_observability.md. -/
abbrev ECL_STATUS : Nat := 257
/-- ECL_TIME of 15_background_and_observability.md. -/
abbrev ECL_TIME (b : Nat) : Nat := 258 + 512 * b
/-- ECL_SRC of 15_background_and_observability.md. -/
abbrev ECL_SRC (b : Nat) : Nat := 259 + 512 * b
/-- PC_CTRL of 15_background_and_observability.md. -/
abbrev PC_CTRL (bank : Nat) : Nat := 260 + 512 * bank
/-- PC_CYCLE of 15_background_and_observability.md. -/
abbrev PC_CYCLE (bank : Nat) : Nat := 261 + 512 * bank
/-- PC_SEL of 15_background_and_observability.md. -/
abbrev PC_SEL (bank i : Nat) : Nat := 262 + 512 * (bank + 4096 * i)
/-- PC_CNT of 15_background_and_observability.md. -/
abbrev PC_CNT (bank i : Nat) : Nat := 263 + 512 * (bank + 4096 * i)
/-- SNAP_CYCLE of 15_background_and_observability.md. -/
abbrev SNAP_CYCLE (bank b : Nat) : Nat := 264 + 512 * (bank + 4096 * b)
/-- SNAP_CNT of 15_background_and_observability.md. -/
abbrev SNAP_CNT (bank b i : Nat) : Nat := 265 + 512 * (bank + 4096 * (b * 8 + i))
/-- SNAP_FLAGS of 15_background_and_observability.md. -/
abbrev SNAP_FLAGS (bank b : Nat) : Nat := 266 + 512 * (bank + 4096 * b)
/-- SMP_CTRL of 15_background_and_observability.md. -/
abbrev SMP_CTRL : Nat := 267
/-- SMP_RING_BASE of 15_background_and_observability.md. -/
abbrev SMP_RING_BASE : Nat := 268
/-- SMP_RING_SIZE of 15_background_and_observability.md. -/
abbrev SMP_RING_SIZE : Nat := 269
/-- SMP_RING_WR of 15_background_and_observability.md. -/
abbrev SMP_RING_WR : Nat := 270
/-- SMP_RING_RD of 15_background_and_observability.md. -/
abbrev SMP_RING_RD : Nat := 271
/-- SMP_THRESH of 15_background_and_observability.md. -/
abbrev SMP_THRESH : Nat := 272
/-- SMP_STATUS of 15_background_and_observability.md. -/
abbrev SMP_STATUS : Nat := 273
/-- SMP_LOST_CNT of 15_background_and_observability.md. -/
abbrev SMP_LOST_CNT : Nat := 274
/-- SMP_MISS_CNT of 15_background_and_observability.md. -/
abbrev SMP_MISS_CNT : Nat := 275
/-- SMP_FLT_CTRL of 15_background_and_observability.md. -/
abbrev SMP_FLT_CTRL (k : Nat) : Nat := 276 + 512 * k
/-- SMP_FLT_PORTS of 15_background_and_observability.md. -/
abbrev SMP_FLT_PORTS (k : Nat) : Nat := 277 + 512 * k
/-- BOOT_STATUS of 16_boot_and_attestation.md. -/
abbrev BOOT_STATUS : Nat := 278
/-- BOOT_TIME of 16_boot_and_attestation.md. -/
abbrev BOOT_TIME : Nat := 279
/-- OTP_STATE of 16_boot_and_attestation.md. -/
abbrev OTP_STATE : Nat := 280
/-- FW_MEASURE of 16_boot_and_attestation.md. -/
abbrev FW_MEASURE (i : Nat) : Nat := 281 + 512 * i
/-- STAGE_STATUS of 16_boot_and_attestation.md. -/
abbrev STAGE_STATUS : Nat := 282
/-- GLB_ID of 17_register_space_and_bridges.md. -/
abbrev GLB_ID : Nat := 283
/-- GLB_SERIAL of 17_register_space_and_bridges.md. -/
abbrev GLB_SERIAL : Nat := 284
/-- MPU_STATUS of 17_register_space_and_bridges.md. -/
abbrev MPU_STATUS (m : Nat) : Nat := 285 + 512 * m
/-- MPU_COMMIT of 17_register_space_and_bridges.md. -/
abbrev MPU_COMMIT (m : Nat) : Nat := 286 + 512 * m
/-- MPU_DRAIN of 17_register_space_and_bridges.md. -/
abbrev MPU_DRAIN (m : Nat) : Nat := 287 + 512 * m
/-- MPU_DENY_LOG of 17_register_space_and_bridges.md. -/
abbrev MPU_DENY_LOG (m : Nat) : Nat := 288 + 512 * m
/-- MPU_DENY_CNT of 17_register_space_and_bridges.md. -/
abbrev MPU_DENY_CNT (m : Nat) : Nat := 289 + 512 * m
/-- MPU_RBASE of 17_register_space_and_bridges.md. -/
abbrev MPU_RBASE (m r : Nat) : Nat := 290 + 512 * (m + 4096 * r)
/-- MPU_RATTR of 17_register_space_and_bridges.md. -/
abbrev MPU_RATTR (m r : Nat) : Nat := 291 + 512 * (m + 4096 * r)
/-- DDR_STATUS of 17_register_space_and_bridges.md. -/
abbrev DDR_STATUS : Nat := 292
/-- DDR_ERR_LOG of 17_register_space_and_bridges.md. -/
abbrev DDR_ERR_LOG : Nat := 293
/-- DDR_CORR_CNT of 17_register_space_and_bridges.md. -/
abbrev DDR_CORR_CNT : Nat := 294
/-- DDR_UE_CNT of 17_register_space_and_bridges.md. -/
abbrev DDR_UE_CNT : Nat := 295
/-- SB_CTRL of 17_register_space_and_bridges.md. -/
abbrev SB_CTRL : Nat := 296
/-- SB_STATUS of 17_register_space_and_bridges.md. -/
abbrev SB_STATUS : Nat := 297
/-- SB_ERR_PTR of 17_register_space_and_bridges.md. -/
abbrev SB_ERR_PTR : Nat := 298
/-- SB_ERR_OVF of 17_register_space_and_bridges.md. -/
abbrev SB_ERR_OVF : Nat := 299
/-- SB_ERR_LOG of 17_register_space_and_bridges.md. -/
abbrev SB_ERR_LOG (i w : Nat) : Nat := 300 + 512 * (i + 4096 * w)
/-- SB_POLL of 17_register_space_and_bridges.md. -/
abbrev SB_POLL (i : Nat) : Nat := 301 + 512 * i
/-- SB_POLL_VAL of 17_register_space_and_bridges.md. -/
abbrev SB_POLL_VAL (i : Nat) : Nat := 302 + 512 * i
/-- SB_SIGMAP of 17_register_space_and_bridges.md. -/
abbrev SB_SIGMAP (p k : Nat) : Nat := 303 + 512 * (p + 4096 * k)
end Reg

namespace Fld
/-- 1 while a MODE_ACTIVATE is between ACCEPTED and its final reply -/
abbrev GLB_MODE_STATUS_ACT_BUSY : Field := ⟨15, 1⟩
/-- 1 if the ROM Service configuration is in force (R34) -/
abbrev GLB_MODE_STATUS_FALLBACK : Field := ⟨14, 1⟩
/-- 1 if the one-time selection was used at the last cold reset -/
abbrev GLB_MODE_STATUS_ONCE_USED : Field := ⟨13, 1⟩
/-- Source of the configuration in force -/
abbrev GLB_MODE_STATUS_SELECT_SRC : Field := ⟨11, 2⟩
/-- MODE[2:0] as sampled at POR_N -/
abbrev GLB_MODE_STATUS_STRAP : Field := ⟨8, 3⟩
/-- Switch in force -/
abbrev GLB_MODE_STATUS_MOVER_FAULT_RESUME_EN : Field := ⟨5, 1⟩
/-- Switch in force -/
abbrev GLB_MODE_STATUS_LIVE_CAL_EN : Field := ⟨4, 1⟩
/-- Mode in force; Service until the boot configuration is applied -/
abbrev GLB_MODE_STATUS_MODE : Field := ⟨0, 3⟩
/-- Base configuration in force; 0 under the ROM Service configuration -/
abbrev GLB_CONFIG_ID_CONFIG_ID : Field := ⟨0, 32⟩
/-- Overlay in force; 0 for none -/
abbrev GLB_OVERLAY_ID_OVERLAY_ID : Field := ⟨0, 32⟩
/-- Index of the first invalid record, counted from 0, for REASON 0x06–0x08. 0xFFFF when REASON is not tied to one record (0x01–0x05, 0x09, 0x0A, 0x0B). 0 when REASON is 0x00 -/
abbrev GLB_MODE_ERR_INDEX : Field := ⟨16, 16⟩
/-- Cause of the last rejection, at boot or by MODE_ACTIVATE -/
abbrev GLB_MODE_ERR_REASON : Field := ⟨0, 8⟩
/-- Allows spraying under R71 in modes 3 and 4 -/
abbrev CORE_CTRL_SPRAY_EN : Field := ⟨3, 1⟩
/-- Enables the IDO exception of R69 -/
abbrev CORE_CTRL_IDO_EN : Field := ⟨2, 1⟩
/-- 0 forces store-and-forward for every TLP -/
abbrev CORE_CTRL_CT_EN : Field := ⟨1, 1⟩
/-- A reservation was refused under R62 -/
abbrev CORE_STATUS_RSV_REFUSED : Field := ⟨31, 1⟩
/-- Cells not charged to any TLP -/
abbrev CORE_STATUS_FREE_CELLS : Field := ⟨0, 19⟩
/-- 262,144 minus all reservations in force -/
abbrev BUF_SHARED_SHARED_CELLS : Field := ⟨0, 19⟩
/-- Code for the droppable classes -/
abbrev BUF_ALPHA_ALPHA_DROP : Field := ⟨12, 4⟩
/-- Code for completions -/
abbrev BUF_ALPHA_ALPHA_CPL : Field := ⟨8, 4⟩
/-- Code for non-posted requests -/
abbrev BUF_ALPHA_ALPHA_NP : Field := ⟨4, 4⟩
/-- Code for posted requests -/
abbrev BUF_ALPHA_ALPHA_P : Field := ⟨0, 4⟩
/-- R73 limit in µs, 10–10,000; values outside the range are held at the nearer limit -/
abbrev SPRAY_FENCE_TO_TIMEOUT : Field := ⟨0, 16⟩
/-- TLPs ended unusable (R68); cut-through refused (R67); droppable drops (R64, R81) and completions dropped under R59 and R66; check failures (R57). Saturates at 0xFFFF_FFFF -/
abbrev CORE_NULLIFY_CNT_COUNT : Field := ⟨0, 32⟩
/-- TLPs ended unusable (R68); cut-through refused (R67); droppable drops (R64, R81) and completions dropped under R59 and R66; check failures (R57). Saturates at 0xFFFF_FFFF -/
abbrev CORE_CTFB_CNT_COUNT : Field := ⟨0, 32⟩
/-- TLPs ended unusable (R68); cut-through refused (R67); droppable drops (R64, R81) and completions dropped under R59 and R66; check failures (R57). Saturates at 0xFFFF_FFFF -/
abbrev CORE_DROP_CNT_COUNT : Field := ⟨0, 32⟩
/-- TLPs ended unusable (R68); cut-through refused (R67); droppable drops (R64, R81) and completions dropped under R59 and R66; check failures (R57). Saturates at 0xFFFF_FFFF -/
abbrev CORE_ACCESS_CNT_COUNT : Field := ⟨0, 32⟩
/-- A failure is logged; clearing VALID also clears SECOND -/
abbrev CORE_ERR_LOG_VALID : Field := ⟨63, 1⟩
/-- A further failure occurred while VALID was set; it is counted but not logged -/
abbrev CORE_ERR_LOG_SECOND : Field := ⟨62, 1⟩
/-- Requester or completer ID as received -/
abbrev CORE_ERR_LOG_REQ_ID : Field := ⟨32, 16⟩
/-- vSwitch resolved, or 0 if step 1 failed -/
abbrev CORE_ERR_LOG_VSWITCH : Field := ⟨27, 5⟩
/-- Ingress port -/
abbrev CORE_ERR_LOG_PORT : Field := ⟨21, 6⟩
/-- 1 parse, 3 lookup, 4 access check -/
abbrev CORE_ERR_LOG_STEP : Field := ⟨18, 3⟩
/-- 0 posted, 1 non-posted, 2 completion, 3 message -/
abbrev CORE_ERR_LOG_KIND : Field := ⟨16, 2⟩
/-- REASON code of R57 -/
abbrev CORE_ERR_LOG_REASON : Field := ⟨0, 8⟩
/-- Forwarding choice for traffic class t arriving on port p -/
abbrev CT_CTRL_TC (i : Nat) : Field := ⟨0 + 2 * i, 2⟩
/-- Core VC, 0–6, for traffic class t arriving on port p; a write of 7 stores 0 -/
abbrev TC_VC_MAP_VC_OF_TC (i : Nat) : Field := ⟨0 + 3 * i, 3⟩
/-- 1 for a flit-mode PCIe port or a Calez port -/
abbrev CORE_PORT_BW_FLIT : Field := ⟨16, 1⟩
/-- Payload rate in units of 0.1 GB/s at the width and rate in force; 0 while the link is down -/
abbrev CORE_PORT_BW_BW : Field := ⟨0, 16⟩
/-- DWRR quantum of VC v at egress port p, in 64-byte units; 0 acts as 1 -/
abbrev SCHED_QUANTUM_Q_VC (i : Nat) : Field := ⟨0 + 8 * i, 8⟩
/-- Header cells reserved for completions -/
abbrev PORT_RSV_H_CPL : Field := ⟨20, 10⟩
/-- Header cells reserved for non-posted requests -/
abbrev PORT_RSV_H_NP : Field := ⟨10, 10⟩
/-- Header cells reserved for posted requests -/
abbrev PORT_RSV_H_P : Field := ⟨0, 10⟩
/-- Data cells reserved for completions -/
abbrev PORT_RSV_D_CPL : Field := ⟨20, 10⟩
/-- Data cells reserved for non-posted requests -/
abbrev PORT_RSV_D_NP : Field := ⟨10, 10⟩
/-- Data cells reserved for posted requests -/
abbrev PORT_RSV_D_P : Field := ⟨0, 10⟩
/-- Core VC of capture and telemetry traffic, 0–6; a write of 7 stores 6 -/
abbrev CC_CTRL_CAP_VC : Field := ⟨24, 3⟩
/-- Feedback frame hold in core cycles; 0 sends each entry alone -/
abbrev CC_CTRL_FB_HOLD : Field := ⟨16, 8⟩
/-- Idle time before retirement, in ms, 1–255; 0 acts as 1 -/
abbrev CC_CTRL_FRC_IDLE : Field := ⟨8, 8⟩
/-- Pacing bucket depth in KiB, 1–15; 0 acts as 1 -/
abbrev CC_CTRL_PACE_BURST : Field := ⟨4, 4⟩
/-- Contexts for flows whose destination node is this node -/
abbrev CC_CTRL_LOCAL_EN : Field := ⟨2, 1⟩
/-- Marking of lossless traffic in modes 3 and 4 -/
abbrev CC_CTRL_MARK_EN : Field := ⟨1, 1⟩
/-- Flow-rate contexts in modes 3 and 4 -/
abbrev CC_CTRL_CC_EN : Field := ⟨0, 1⟩
/-- A flow found no free context -/
abbrev CC_STATUS_FRC_EXHAUSTED : Field := ⟨31, 1⟩
/-- Contexts in use, 0–65,536 -/
abbrev CC_STATUS_FRC_USED : Field := ⟨0, 17⟩
/-- TLPs marked; profile drops (R81); feedback frames sent; feedback frames received; TLPs and entries without context (R83, R90); counters cleared (R87). Saturates at 0xFFFF_FFFF -/
abbrev CC_MARK_CNT_COUNT : Field := ⟨0, 32⟩
/-- TLPs marked; profile drops (R81); feedback frames sent; feedback frames received; TLPs and entries without context (R83, R90); counters cleared (R87). Saturates at 0xFFFF_FFFF -/
abbrev CC_DROP_CNT_COUNT : Field := ⟨0, 32⟩
/-- TLPs marked; profile drops (R81); feedback frames sent; feedback frames received; TLPs and entries without context (R83, R90); counters cleared (R87). Saturates at 0xFFFF_FFFF -/
abbrev CC_FB_TX_CNT_COUNT : Field := ⟨0, 32⟩
/-- TLPs marked; profile drops (R81); feedback frames sent; feedback frames received; TLPs and entries without context (R83, R90); counters cleared (R87). Saturates at 0xFFFF_FFFF -/
abbrev CC_FB_RX_CNT_COUNT : Field := ⟨0, 32⟩
/-- TLPs marked; profile drops (R81); feedback frames sent; feedback frames received; TLPs and entries without context (R83, R90); counters cleared (R87). Saturates at 0xFFFF_FFFF -/
abbrev CC_NOFRC_CNT_COUNT : Field := ⟨0, 32⟩
/-- TLPs marked; profile drops (R81); feedback frames sent; feedback frames received; TLPs and entries without context (R83, R90); counters cleared (R87). Saturates at 0xFFFF_FFFF -/
abbrev CC_FENCE_TO_CNT_COUNT : Field := ⟨0, 32⟩
/-- Averaging exponent -/
abbrev RED_PROF_A_WEIGHT : Field := ⟨44, 4⟩
/-- Probability at MAX_TH, in 1/256 -/
abbrev RED_PROF_A_PMAX : Field := ⟨36, 8⟩
/-- Cells -/
abbrev RED_PROF_A_MAX_TH : Field := ⟨18, 18⟩
/-- Cells -/
abbrev RED_PROF_A_MIN_TH : Field := ⟨0, 18⟩
/-- Rate floor, in 0.01 GB/s -/
abbrev RED_PROF_B_RMIN : Field := ⟨48, 16⟩
/-- Increase step, in 0.01 GB/s -/
abbrev RED_PROF_B_AI : Field := ⟨32, 16⟩
/-- µs; 0 acts as 1 -/
abbrev RED_PROF_B_DEC_GAP : Field := ⟨24, 8⟩
/-- µs; 0 acts as 1 -/
abbrev RED_PROF_B_INC_PERIOD : Field := ⟨16, 8⟩
/-- Decrease fraction, in 1/256 -/
abbrev RED_PROF_B_BETA : Field := ⟨8, 8⟩
/-- Meter TLPs from port p (R78) -/
abbrev METER_MAP_EN : Field := ⟨31, 1⟩
/-- 0–6; a write of 7 stores 6 -/
abbrev METER_MAP_SPAN : Field := ⟨14, 3⟩
/-- First meter index -/
abbrev METER_MAP_BASE : Field := ⟨0, 14⟩
/-- Access in progress; TBL_DATA is not to be touched -/
abbrev TBL_ACC_BUSY : Field := ⟨31, 1⟩
/-- Last access refused (R79, or a write with TABLE 1) -/
abbrev TBL_ACC_ERR : Field := ⟨30, 1⟩
/-- 0 meters; 1 flow-rate contexts; 2–3 refused -/
abbrev TBL_ACC_TABLE : Field := ⟨28, 2⟩
/-- 0 read; 1 write; 2–3 refused. Writing this register starts the access -/
abbrev TBL_ACC_OP : Field := ⟨26, 2⟩
/-- Entry index; a meter index of 16,384 or more is refused -/
abbrev TBL_ACC_INDEX : Field := ⟨0, 16⟩
/-- Bytes 8i to 8i + 7 of the entry -/
abbrev TBL_DATA_DATA : Field := ⟨0, 64⟩
/-- µs (R96) -/
abbrev COMET_CTRL_HOLDOFF : Field := ⟨8, 8⟩
/-- Overwrite when full (R94) -/
abbrev COMET_CTRL_WRAP : Field := ⟨1, 1⟩
/-- Capture enabled -/
abbrev COMET_CTRL_EN : Field := ⟨0, 1⟩
/-- LPDDR4X address bits [33:12]. Bits below the ring size are used as 0 (R450) -/
abbrev COMET_RING_BASE_BASE : Field := ⟨12, 22⟩
/-- 16–32; values outside the range are held at the nearer limit -/
abbrev COMET_RING_SIZE_SIZE_LOG2 : Field := ⟨0, 5⟩
/-- Record index (R94); threshold in records (R96) -/
abbrev COMET_WR_PTR_VALUE : Field := ⟨0, 26⟩
/-- Record index (R94); threshold in records (R96) -/
abbrev COMET_RD_PTR_VALUE : Field := ⟨0, 26⟩
/-- Record index (R94); threshold in records (R96) -/
abbrev COMET_THRESH_VALUE : Field := ⟨0, 26⟩
/-- Records were overwritten -/
abbrev COMET_STATUS_OVERRUN : Field := ⟨31, 1⟩
/-- Ring full with WRAP at 0 -/
abbrev COMET_STATUS_STOPPED : Field := ⟨30, 1⟩
/-- LPDDR4X unavailable -/
abbrev COMET_STATUS_SINK_DOWN : Field := ⟨29, 1⟩
/-- A write was discarded (R95) -/
abbrev COMET_STATUS_CFG_ERR : Field := ⟨28, 1⟩
/-- Records lost, saturating; SEQ of the next record -/
abbrev COMET_LOST_CNT_COUNT : Field := ⟨0, 32⟩
/-- Records lost, saturating; SEQ of the next record -/
abbrev COMET_SEQ_COUNT : Field := ⟨0, 32⟩
/-- Filter enabled -/
abbrev COMET_FLT_CTRL_EN : Field := ⟨31, 1⟩
/-- 0 ingress; 1 egress; 2 both; 3 acts as 0 -/
abbrev COMET_FLT_CTRL_POINT : Field := ⟨29, 2⟩
/-- Bit k set matches KIND k -/
abbrev COMET_FLT_CTRL_KIND : Field := ⟨25, 4⟩
/-- Bit c set matches colour c -/
abbrev COMET_FLT_CTRL_COLOUR : Field := ⟨22, 3⟩
/-- Select 1 in SAMPLE + 1 matches -/
abbrev COMET_FLT_CTRL_SAMPLE : Field := ⟨0, 16⟩
/-- Bit p set matches port p -/
abbrev COMET_FLT_PORTS_PORTS : Field := ⟨0, 64⟩
/-- Header bytes 4k to 4k + 3, byte 4k in bits [7:0] -/
abbrev COMET_FLT_MATCH_VALUE : Field := ⟨0, 32⟩
/-- Header bytes 4k to 4k + 3, byte 4k in bits [7:0] -/
abbrev COMET_FLT_MASK_VALUE : Field := ⟨0, 32⟩
/-- Device time (R97) -/
abbrev TIME_NOW_TIME : Field := ⟨0, 64⟩
/-- Node may be grandmaster -/
abbrev TIME_CTRL_GM_ELIGIBLE : Field := ⟨31, 1⟩
/-- Exchange period in units of 100 µs; 0 acts as 1 -/
abbrev TIME_CTRL_EXCH_PERIOD : Field := ⟨8, 8⟩
/-- Step threshold in units of 100 ns; 0 acts as 1 -/
abbrev TIME_CTRL_STEP_TH : Field := ⟨0, 8⟩
/-- R98: set when the configuration is applied (modes 0–2, 5) or after three good exchanges (modes 3, 4) -/
abbrev TIME_STATUS_LOCKED : Field := ⟨31, 1⟩
/-- R99 -/
abbrev TIME_STATUS_COARSE : Field := ⟨30, 1⟩
/-- Grandmaster node ID -/
abbrev TIME_STATUS_GM_NODE : Field := ⟨16, 12⟩
/-- Last measured offset in 1/16 ns, signed, held at ±2,048 ns -/
abbrev TIME_STATUS_OFFSET : Field := ⟨0, 16⟩
/-- Host time − device time, signed, in the format of R97 -/
abbrev HOST_TIME_OFS_OFFSET : Field := ⟨0, 64⟩
/-- vSwitch exists -/
abbrev VSW_CTRL_EN : Field := ⟨31, 1⟩
/-- R127 -/
abbrev VSW_CTRL_READY : Field := ⟨30, 1⟩
/-- The vSwitch is quiesced (R45) -/
abbrev VSW_CTRL_QUIESCED : Field := ⟨29, 1⟩
/-- R126 in progress -/
abbrev VSW_CTRL_RESETTING : Field := ⟨28, 1⟩
/-- Also report posted failures by AER (R122) -/
abbrev VSW_CTRL_PFL_AER : Field := ⟨27, 1⟩
/-- BAR0 of 512 MiB with the CRS window (R109) -/
abbrev VSW_CTRL_MGR_DIRECT : Field := ⟨26, 1⟩
/-- Physical upstream port -/
abbrev VSW_CTRL_UP_PORT : Field := ⟨16, 6⟩
/-- Virtual downstream bridges, 0–63; larger values store 63 -/
abbrev VSW_CTRL_NUM_VBR : Field := ⟨8, 7⟩
/-- HOST_PERST_N input of this vSwitch -/
abbrev VSW_CTRL_PERST_SEL : Field := ⟨0, 5⟩
/-- R118 -/
abbrev VSW_GLOBAL_PF_GUARD_EN : Field := ⟨8, 1⟩
/-- vSwitch for unbound failures (R112, R122) -/
abbrev VSW_GLOBAL_MGR_VSWITCH : Field := ⟨0, 5⟩
/-- Bridge k exists; must agree with NUM_VBR -/
abbrev VBR_MAP_VALID : Field := ⟨31, 1⟩
/-- 1 direct, 0 composed -/
abbrev VBR_MAP_DIRECT : Field := ⟨30, 1⟩
/-- Physical port of a direct bridge -/
abbrev VBR_MAP_PORT : Field := ⟨24, 6⟩
/-- R123, R124 -/
abbrev VBR_MAP_DPC_HELD : Field := ⟨23, 1⟩
/-- Subordinate bus as written by the host -/
abbrev VBR_MAP_SUB_BUS : Field := ⟨8, 8⟩
/-- Secondary bus as written by the host -/
abbrev VBR_MAP_SEC_BUS : Field := ⟨0, 8⟩
/-- LPDDR4X address bits [33:12]; aligned to the window size -/
abbrev MGMT_LP_WIN_BASE : Field := ⟨12, 22⟩
/-- 0 or below 20: no BAR2; 20–33; above 33 stores 33 -/
abbrev MGMT_LP_WIN_SIZE_LOG2 : Field := ⟨0, 6⟩
/-- 0 or below 20: no BAR4; 20–52; above 52 stores 52 -/
abbrev MGMT_FAP_SIZE_LOG2 : Field := ⟨0, 6⟩
/-- Number of device bus numbers of port p (R111). 0: no function below the port can be bound by a function or VF entry -/
abbrev DEV_BUS_DEV_BUS_COUNT : Field := ⟨8, 8⟩
/-- First device bus number of port p -/
abbrev DEV_BUS_DEV_BUS_BASE : Field := ⟨0, 8⟩
/-- Access in progress -/
abbrev BIND_ACC_BUSY : Field := ⟨31, 1⟩
/-- Last access refused: a write from a master other than 1–4 or 11 (the twin mirror agent, R210), a write refused under R114, or an index out of range -/
abbrev BIND_ACC_ERR : Field := ⟨30, 1⟩
/-- 0 read; 1 write; 2–3 refused. Writing the register starts the access -/
abbrev BIND_ACC_OP : Field := ⟨26, 2⟩
/-- Entry index -/
abbrev BIND_ACC_INDEX : Field := ⟨0, 14⟩
/-- Valid entries, 0–16,384 -/
abbrev BIND_STATUS_USED : Field := ⟨0, 15⟩
/-- TLPs and messages from unbound requester IDs (R112, R121); configuration writes held back (R118). Saturates at 0xFFFF_FFFF -/
abbrev BIND_UNBOUND_CNT_COUNT : Field := ⟨0, 32⟩
/-- TLPs and messages from unbound requester IDs (R112, R121); configuration writes held back (R118). Saturates at 0xFFFF_FFFF -/
abbrev BIND_GUARD_CNT_COUNT : Field := ⟨0, 32⟩
/-- Bytes 8i to 8i + 7 of the entry (R113) -/
abbrev BIND_DATA_DATA : Field := ⟨0, 64⟩
/-- NODE[11:1] (R131) -/
abbrev FAB_ID_PAIR : Field := ⟨12, 11⟩
/-- Node ID (R130) -/
abbrev FAB_ID_NODE : Field := ⟨0, 12⟩
/-- Access in progress -/
abbrev FAM_ACC_BUSY : Field := ⟨31, 1⟩
/-- Last access refused: a write from a master other than 1–4 or 11, a write refused under R135, or an index out of range -/
abbrev FAM_ACC_ERR : Field := ⟨30, 1⟩
/-- 0 read; 1 write; 2–3 refused. Writing the register starts the access -/
abbrev FAM_ACC_OP : Field := ⟨26, 2⟩
/-- Entry index -/
abbrev FAM_ACC_INDEX : Field := ⟨0, 17⟩
/-- Valid entries, 0–131,072 -/
abbrev FAM_STATUS_USED : Field := ⟨0, 18⟩
/-- Bytes 8i to 8i + 7 of the entry (R132) -/
abbrev FAM_DATA_DATA : Field := ⟨0, 64⟩
/-- Seed of R70 -/
abbrev ROUTE_CTRL_HASH_SEED : Field := ⟨16, 16⟩
/-- Send advertisements and act on them. With 0, paths change only by ROUTE_WRITE and by the state of this node's own ports (R140) -/
abbrev ROUTE_CTRL_ADV_EN : Field := ⟨0, 1⟩
/-- Access in progress -/
abbrev ROUTE_ACC_BUSY : Field := ⟨31, 1⟩
/-- Last access refused: a write from a master other than 1–4 or 11 -/
abbrev ROUTE_ACC_ERR : Field := ⟨30, 1⟩
/-- 0 read; 1 write; 2–3 refused. Writing the register starts the access -/
abbrev ROUTE_ACC_OP : Field := ⟨26, 2⟩
/-- Destination node -/
abbrev ROUTE_ACC_INDEX : Field := ⟨0, 12⟩
/-- Valid entries whose equal-cost set is empty -/
abbrev ROUTE_STATUS_UNREACH : Field := ⟨0, 13⟩
/-- Advertisement frames sent; received; ignored (R141); TLPs held by move fences (R144). Saturates at 0xFFFF_FFFF -/
abbrev ADV_TX_CNT_COUNT : Field := ⟨0, 32⟩
/-- Advertisement frames sent; received; ignored (R141); TLPs held by move fences (R144). Saturates at 0xFFFF_FFFF -/
abbrev ADV_RX_CNT_COUNT : Field := ⟨0, 32⟩
/-- Advertisement frames sent; received; ignored (R141); TLPs held by move fences (R144). Saturates at 0xFFFF_FFFF -/
abbrev ADV_MISMATCH_CNT_COUNT : Field := ⟨0, 32⟩
/-- Advertisement frames sent; received; ignored (R141); TLPs held by move fences (R144). Saturates at 0xFFFF_FFFF -/
abbrev MOVE_HOLD_CNT_COUNT : Field := ⟨0, 32⟩
/-- Bytes 8i to 8i + 7 of the entry (R137) -/
abbrev ROUTE_DATA_DATA : Field := ⟨0, 64⟩
/-- Epoch in force (R159) -/
abbrev EPOCH_CUR_EPOCH : Field := ⟨0, 32⟩
/-- µs, 1–20; 0 acts as 1; values above 20 store 20 -/
abbrev EPOCH_CTRL_SYNC_LIMIT : Field := ⟨0, 5⟩
/-- TLPs counted in slot s (R160), held at 0xFFFF -/
abbrev EPOCH_INFLIGHT_SLOT (i : Nat) : Field := ⟨0 + 16 * i, 16⟩
/-- Requests rechecked; requests that failed the recheck (R163). Saturates at 0xFFFF_FFFF -/
abbrev EPOCH_RECHECK_CNT_COUNT : Field := ⟨0, 32⟩
/-- Requests rechecked; requests that failed the recheck (R163). Saturates at 0xFFFF_FFFF -/
abbrev EPOCH_RECHECK_FAIL_CNT_COUNT : Field := ⟨0, 32⟩
/-- Resend interval in units of 10 µs; 0 acts as 1 -/
abbrev FER_CTRL_FER_RETRY : Field := ⟨16, 8⟩
/-- µs (R155); 0 acts as 1 -/
abbrev FER_CTRL_FER_HOLD : Field := ⟨0, 8⟩
/-- Reports sent; accepted; discarded after retries (R156) or for lack of room (R155); repeats (R156). Saturates at 0xFFFF_FFFF -/
abbrev FER_TX_CNT_COUNT : Field := ⟨0, 32⟩
/-- Reports sent; accepted; discarded after retries (R156) or for lack of room (R155); repeats (R156). Saturates at 0xFFFF_FFFF -/
abbrev FER_RX_CNT_COUNT : Field := ⟨0, 32⟩
/-- Reports sent; accepted; discarded after retries (R156) or for lack of room (R155); repeats (R156). Saturates at 0xFFFF_FFFF -/
abbrev FER_LOST_CNT_COUNT : Field := ⟨0, 32⟩
/-- Reports sent; accepted; discarded after retries (R156) or for lack of room (R155); repeats (R156). Saturates at 0xFFFF_FFFF -/
abbrev FER_DUP_CNT_COUNT : Field := ⟨0, 32⟩
/-- Next entry to write, modulo 64; entry WR mod 32 -/
abbrev PFL_PTR_WR : Field := ⟨8, 6⟩
/-- Next entry to read, modulo 64 (R158) -/
abbrev PFL_PTR_RD : Field := ⟨0, 6⟩
/-- Writes not logged because the log was full. Saturates at 0xFFFF_FFFF -/
abbrev PFL_OVF_COUNT : Field := ⟨0, 32⟩
/-- Destination contexts allowed (R146) -/
abbrev CTX_CTRL_FAB_QUOTA : Field := ⟨0, 18⟩
/-- A request found no free context -/
abbrev CTX_STATUS_EXHAUSTED : Field := ⟨31, 1⟩
/-- Contexts in use, 0–262,143 -/
abbrev CTX_STATUS_USED : Field := ⟨0, 18⟩
/-- Late completions (R152); deadlines; orphaned contexts (R149); requests that waited for a context or a tag (R146, R147); stale non-posted entries (R157). Saturates at 0xFFFF_FFFF -/
abbrev LATE_CPL_CNT_COUNT : Field := ⟨0, 32⟩
/-- Late completions (R152); deadlines; orphaned contexts (R149); requests that waited for a context or a tag (R146, R147); stale non-posted entries (R157). Saturates at 0xFFFF_FFFF -/
abbrev CTO_CNT_COUNT : Field := ⟨0, 32⟩
/-- Late completions (R152); deadlines; orphaned contexts (R149); requests that waited for a context or a tag (R146, R147); stale non-posted entries (R157). Saturates at 0xFFFF_FFFF -/
abbrev ORPHAN_CNT_COUNT : Field := ⟨0, 32⟩
/-- Late completions (R152); deadlines; orphaned contexts (R149); requests that waited for a context or a tag (R146, R147); stale non-posted entries (R157). Saturates at 0xFFFF_FFFF -/
abbrev CTX_WAIT_CNT_COUNT : Field := ⟨0, 32⟩
/-- Late completions (R152); deadlines; orphaned contexts (R149); requests that waited for a context or a tag (R146, R147); stale non-posted entries (R157). Saturates at 0xFFFF_FFFF -/
abbrev FER_STALE_CNT_COUNT : Field := ⟨0, 32⟩
/-- A late completion is logged; clearing VALID also clears SECOND -/
abbrev LATE_LOG_VALID : Field := ⟨63, 1⟩
/-- A further late completion arrived while VALID was set; it is counted but not logged -/
abbrev LATE_LOG_SECOND : Field := ⟨62, 1⟩
/-- Port of arrival -/
abbrev LATE_LOG_PORT : Field := ⟨56, 6⟩
/-- Arrived on a Calez port -/
abbrev LATE_LOG_CALEZ : Field := ⟨55, 1⟩
/-- Sending node (Calez) -/
abbrev LATE_LOG_NODE : Field := ⟨40, 12⟩
/-- Generation carried (Calez) -/
abbrev LATE_LOG_GEN : Field := ⟨36, 4⟩
/-- Context ID (Calez), or remapped tag in [31:18] (PCIe) -/
abbrev LATE_LOG_ID : Field := ⟨18, 18⟩
/-- Completer ID -/
abbrev LATE_LOG_CPL_ID : Field := ⟨0, 16⟩
/-- 1: Successful Completion with all-ones data for reads (R151) -/
abbrev CTO_TO_DATA : Field := ⟨31, 1⟩
/-- µs, 100–4,000,000; values outside the range are held at the nearer limit -/
abbrev CTO_TIMEOUT : Field := ⟨0, 22⟩
/-- Source contexts allowed to Vv (R146) -/
abbrev CTX_QUOTA_QUOTA : Field := ⟨0, 18⟩
/-- 0 8-bit; 1 10-bit; 2 14-bit; 3 acts as 2 (R147) -/
abbrev CTX_PORT_CFG_TAG_BITS : Field := ⟨16, 2⟩
/-- ms (R150); 0 acts as 1 -/
abbrev CTX_PORT_CFG_QUAR_TIME : Field := ⟨0, 16⟩
/-- Access in progress -/
abbrev CTX_ACC_BUSY : Field := ⟨31, 1⟩
/-- Last access refused: OP other than 0, or INDEX 0x3_FFFF -/
abbrev CTX_ACC_ERR : Field := ⟨30, 1⟩
/-- 0 read; 1–3 refused. Writing the register starts the access -/
abbrev CTX_ACC_OP : Field := ⟨26, 2⟩
/-- Context ID -/
abbrev CTX_ACC_INDEX : Field := ⟨0, 18⟩
/-- Bytes 8i to 8i + 7 of the context (R148) -/
abbrev CTX_DATA_DATA : Field := ⟨0, 64⟩
/-- The port trains. Clearing it requests a reset and holds the link in RESET (R200) -/
abbrev CZ_CTRL_TRAIN_EN : Field := ⟨31, 1⟩
/-- Retrain after a down (R189) -/
abbrev CZ_CTRL_AUTO_RETRAIN : Field := ⟨30, 1⟩
/-- QUIET allowed (R201) -/
abbrev CZ_CTRL_QUIET_EN : Field := ⟨29, 1⟩
/-- This port is the twin link -/
abbrev CZ_CTRL_TWIN : Field := ⟨28, 1⟩
/-- Writing 1 requests a reset (R200) -/
abbrev CZ_CTRL_RESET_REQ : Field := ⟨27, 1⟩
/-- TEST frames, mode 5 only -/
abbrev CZ_CTRL_TEST_EN : Field := ⟨26, 1⟩
/-- Bit 3 C64, bit 4 C128 -/
abbrev CZ_CTRL_OFFER_R : Field := ⟨3, 2⟩
/-- Bit 0 x4, bit 1 x8, bit 2 x16; bits above the port width are ignored -/
abbrev CZ_CTRL_OFFER_W : Field := ⟨0, 3⟩
/-- µs; 0 disables QUIET -/
abbrev CZ_TIMER_QUIET_IDLE : Field := ⟨24, 8⟩
/-- Units of 10 µs, 2–255; 0 and 1 store 2 -/
abbrev CZ_TIMER_RESOLVE_TO : Field := ⟨16, 8⟩
/-- µs, 2–64, and at least 4 × KA_INTERVAL; a write outside these limits stores the nearest allowed value -/
abbrev CZ_TIMER_LD_TIMEOUT : Field := ⟨8, 8⟩
/-- Units of 0.25 µs, 1–32; 0 stores 1, above 32 stores 32 -/
abbrev CZ_TIMER_KA_INTERVAL : Field := ⟨0, 6⟩
/-- State, below -/
abbrev CZ_STATUS_STATE : Field := ⟨28, 4⟩
/-- 0 none; 1 x4; 2 x8; 3 x16 -/
abbrev CZ_STATUS_WIDTH : Field := ⟨26, 2⟩
/-- 0 C64; 1 C128 -/
abbrev CZ_STATUS_RATE : Field := ⟨25, 1⟩
/-- This side leads EQ -/
abbrev CZ_STATUS_LEAD : Field := ⟨24, 1⟩
/-- First logical lane of the group in use -/
abbrev CZ_STATUS_LANE_BASE : Field := ⟨20, 4⟩
/-- Training pass, 0–2 -/
abbrev CZ_STATUS_PASS : Field := ⟨18, 2⟩
/-- Frames of an ended session unsettled -/
abbrev CZ_STATUS_RESOLVE_PENDING : Field := ⟨17, 1⟩
/-- Whole-link reversal corrected -/
abbrev CZ_STATUS_REVERSED : Field := ⟨16, 1⟩
/-- This side's session -/
abbrev CZ_STATUS_SESSION : Field := ⟨8, 8⟩
/-- Partner node -/
abbrev CZ_PEER_PEER_NODE : Field := ⟨16, 12⟩
/-- Partner port -/
abbrev CZ_PEER_PEER_PORT : Field := ⟨8, 6⟩
/-- Partner session -/
abbrev CZ_PEER_PEER_SESSION : Field := ⟨0, 8⟩
/-- State at the last down or refusal -/
abbrev CZ_DOWN_STATE : Field := ⟨8, 4⟩
/-- Cause, below -/
abbrev CZ_DOWN_REASON : Field := ⟨0, 8⟩
/-- Frames unacknowledged, 0–2,047 -/
abbrev CZ_REPLAY_UNACKED : Field := ⟨16, 12⟩
/-- Replay store in use, in units of 32 bytes -/
abbrev CZ_REPLAY_STORE_USED : Field := ⟨0, 15⟩
/-- A start point is held (R194) -/
abbrev CZ_STORED_VALID : Field := ⟨31, 1⟩
/-- As in CZ_STATUS -/
abbrev CZ_STORED_WIDTH : Field := ⟨29, 2⟩
/-- As in CZ_STATUS -/
abbrev CZ_STORED_RATE : Field := ⟨28, 1⟩
/-- Partner when the point was stored -/
abbrev CZ_STORED_PARTNER_NODE : Field := ⟨16, 12⟩
/-- PARTNER_PORT -/
abbrev CZ_STORED_PARTNER_PORT : Field := ⟨8, 6⟩
/-- Writing 1 clears the start point -/
abbrev CZ_STORED_CLEAR : Field := ⟨0, 1⟩
/-- Symbols corrected -/
abbrev CZ_FEC_CORR_CNT_COUNT : Field := ⟨0, 32⟩
/-- Uncorrectable codewords -/
abbrev CZ_FEC_UNCORR_CNT_COUNT : Field := ⟨0, 32⟩
/-- Frames failing CRC -/
abbrev CZ_CRC_ERR_CNT_COUNT : Field := ⟨0, 32⟩
/-- NAKs sent -/
abbrev CZ_NAK_CNT_COUNT : Field := ⟨0, 32⟩
/-- Replays begun -/
abbrev CZ_REPLAY_CNT_COUNT : Field := ⟨0, 32⟩
/-- Duplicate frames (R183) -/
abbrev CZ_DUP_CNT_COUNT : Field := ⟨0, 32⟩
/-- Abort frames received -/
abbrev CZ_ABORT_CNT_COUNT : Field := ⟨0, 32⟩
/-- Downs, merged resets counted once -/
abbrev CZ_DOWN_CNT_COUNT : Field := ⟨0, 32⟩
/-- TLPs settled in doubt (R190) -/
abbrev CZ_INDOUBT_CNT_COUNT : Field := ⟨0, 32⟩
/-- Unknown blocks, frames and resolutions discarded -/
abbrev CZ_UNKNOWN_CNT_COUNT : Field := ⟨0, 32⟩
/-- TEST payload bits in error -/
abbrev CZ_TEST_ERR_COUNT : Field := ⟨0, 32⟩
/-- Time exchanges completed -/
abbrev CZ_TIME_EXCH_CNT_COUNT : Field := ⟨0, 32⟩
/-- Completion credits available to send on VC v -/
abbrev CZ_CREDIT_CPL : Field := ⟨32, 16⟩
/-- Non-posted credits available -/
abbrev CZ_CREDIT_NP : Field := ⟨16, 16⟩
/-- Posted credits available -/
abbrev CZ_CREDIT_P : Field := ⟨0, 16⟩
/-- Automatic takeover under R218 -/
abbrev TWIN_CTRL_AUTO_TAKEOVER : Field := ⟨31, 1⟩
/-- Automatic handback under R229 -/
abbrev TWIN_CTRL_AUTO_HANDBACK : Field := ⟨30, 1⟩
/-- Heartbeat output running (R215) -/
abbrev TWIN_CTRL_HB_RUN : Field := ⟨29, 1⟩
/-- Units of 10 ms; 0 acts as 1 -/
abbrev TWIN_CTRL_JOIN_WAIT : Field := ⟨8, 8⟩
/-- Pair state (R217); 6–15 reserved -/
abbrev TWIN_STATUS_STATE : Field := ⟨28, 4⟩
/-- Twin link ACTIVE -/
abbrev TWIN_STATUS_LINK_UP : Field := ⟨27, 1⟩
/-- Partner heartbeat alive (R216) -/
abbrev TWIN_STATUS_HB_ALIVE : Field := ⟨26, 1⟩
/-- R216 -/
abbrev TWIN_STATUS_HB_FAULT : Field := ⟨25, 1⟩
/-- R228 -/
abbrev TWIN_STATUS_RESYNC_BUSY : Field := ⟨24, 1⟩
/-- NODE with bit 0 inverted in mode 4; otherwise 0 -/
abbrev TWIN_STATUS_PARTNER_NODE : Field := ⟨12, 12⟩
/-- Cause of the last change of state -/
abbrev TWIN_STATUS_CAUSE : Field := ⟨0, 4⟩
/-- R226 -/
abbrev TWIN_EVENT_DUAL_TAKEOVER : Field := ⟨7, 1⟩
/-- R212 -/
abbrev TWIN_EVENT_TXN_SETTLED : Field := ⟨6, 1⟩
/-- HB_FAULT was set -/
abbrev TWIN_EVENT_HB_FAULT : Field := ⟨5, 1⟩
/-- Entered LEFT -/
abbrev TWIN_EVENT_LEFT : Field := ⟨4, 1⟩
/-- Handback completed -/
abbrev TWIN_EVENT_HANDBACK : Field := ⟨3, 1⟩
/-- Entered PAIRED -/
abbrev TWIN_EVENT_PAIRED : Field := ⟨2, 1⟩
/-- Entered SPLIT -/
abbrev TWIN_EVENT_SPLIT : Field := ⟨1, 1⟩
/-- Entered SERVING -/
abbrev TWIN_EVENT_TAKEOVER : Field := ⟨0, 1⟩
/-- Last takeover decision, in 10 ns units after the last valid block -/
abbrev TWIN_FO_TIME_DECIDE : Field := ⟨16, 16⟩
/-- Its epoch advance (R219), in the same units -/
abbrev TWIN_FO_TIME_FLIP : Field := ⟨0, 16⟩
/-- Last transaction this twin took part in -/
abbrev TWIN_TXN_TXN : Field := ⟨32, 32⟩
/-- This twin coordinated it -/
abbrev TWIN_TXN_COORD : Field := ⟨7, 1⟩
/-- Outcome, below -/
abbrev TWIN_TXN_FATE : Field := ⟨0, 3⟩
/-- T_PREPARE packets sent -/
abbrev TWIN_PREP_CNT_COUNT : Field := ⟨0, 32⟩
/-- Votes other than OK, sent or received -/
abbrev TWIN_REFUSE_CNT_COUNT : Field := ⟨0, 32⟩
/-- Votes or commit replies not received in time -/
abbrev TWIN_TO_CNT_COUNT : Field := ⟨0, 32⟩
/-- TCHK or ALIVE mismatches (R213) -/
abbrev TWIN_CHK_ERR_CNT_COUNT : Field := ⟨0, 32⟩
/-- Frames for the served partner discarded (R221) -/
abbrev TWIN_ORPHAN_CNT_COUNT : Field := ⟨0, 32⟩
/-- Access in progress -/
abbrev TWIN_SHADOW_ACC_BUSY : Field := ⟨31, 1⟩
/-- Last access refused: OP other than 0, TABLE 3, or an index out of range -/
abbrev TWIN_SHADOW_ACC_ERR : Field := ⟨30, 1⟩
/-- 0 FAM; 1 binding; 2 route; 3 refused -/
abbrev TWIN_SHADOW_ACC_TABLE : Field := ⟨28, 2⟩
/-- 0 read; 1–3 refused. Writing the register starts the access -/
abbrev TWIN_SHADOW_ACC_OP : Field := ⟨26, 2⟩
/-- Entry index -/
abbrev TWIN_SHADOW_ACC_INDEX : Field := ⟨0, 17⟩
/-- Valid shadow route entries -/
abbrev TWIN_SHADOW_USED_ROUTE : Field := ⟨33, 13⟩
/-- Valid shadow binding entries -/
abbrev TWIN_SHADOW_USED_BIND : Field := ⟨18, 15⟩
/-- Valid shadow FAM entries -/
abbrev TWIN_SHADOW_USED_FAM : Field := ⟨0, 18⟩
/-- Bytes 8i to 8i + 7 of the shadow entry -/
abbrev TWIN_SHADOW_DATA_DATA : Field := ⟨0, 64⟩
/-- The partner's port p is served through LOCAL_PORT (R220) -/
abbrev TWIN_PORT_MAP_VALID : Field := ⟨63, 1⟩
/-- Port of this twin -/
abbrev TWIN_PORT_MAP_LOCAL_PORT : Field := ⟨48, 6⟩
/-- Requester ID used on LOCAL_PORT -/
abbrev TWIN_PORT_MAP_PROXY_RID : Field := ⟨0, 16⟩
/-- Added to the address, modulo 2^64 (R220) -/
abbrev TWIN_PORT_OFS_ADDR_OFS : Field := ⟨12, 52⟩
/-- Bit e enables engine Ee; a disabled engine finishes its chunk and takes no more work -/
abbrev MV_CTRL_ENG_EN : Field := ⟨16, 16⟩
/-- Writing 1 empties the ATC; entries in use finish as under R245 -/
abbrev MV_CTRL_ATC_FLUSH : Field := ⟨0, 1⟩
/-- Bit e: engine Ee running -/
abbrev MV_STATUS_ENG_BUSY : Field := ⟨16, 16⟩
/-- Descriptors parked, 0–16,384 -/
abbrev MV_STATUS_PARKED : Field := ⟨0, 15⟩
/-- Descriptors ended -/
abbrev MV_DESC_CNT_COUNT : Field := ⟨0, 32⟩
/-- Descriptors parked -/
abbrev MV_PARK_CNT_COUNT : Field := ⟨0, 32⟩
/-- Pre-emptions -/
abbrev MV_PREEMPT_CNT_COUNT : Field := ⟨0, 32⟩
/-- Descriptors ended XLAT_FAULT -/
abbrev MV_XLAT_FAULT_CNT_COUNT : Field := ⟨0, 32⟩
/-- Completions discarded (R254) -/
abbrev MV_DISCARD_CNT_COUNT : Field := ⟨0, 32⟩
/-- Stale PRG Responses (R244) -/
abbrev MV_PRG_STALE_CNT_COUNT : Field := ⟨0, 32⟩
/-- ATC misses -/
abbrev MV_ATC_MISS_CNT_COUNT : Field := ⟨0, 32⟩
/-- Invalidate Requests completed -/
abbrev MV_INV_CNT_COUNT : Field := ⟨0, 32⟩
/-- A descriptor is on the engine -/
abbrev MV_ENG_STATE_VALID : Field := ⟨63, 1⟩
/-- 0 idle; 1 running; 2 stopping for pre-emption; 3 stopping for quiesce -/
abbrev MV_ENG_STATE_STATE : Field := ⟨61, 2⟩
/-- Instance -/
abbrev MV_ENG_STATE_INSTANCE : Field := ⟨44, 12⟩
/-- Priority after the cap -/
abbrev MV_ENG_STATE_PRIORITY : Field := ⟨37, 3⟩
/-- Committed offset -/
abbrev MV_ENG_STATE_OFFSET : Field := ⟨0, 31⟩
/-- Instance bound (R234) -/
abbrev MV_INST_BIND_VALID : Field := ⟨31, 1⟩
/-- Owning vSwitch -/
abbrev MV_INST_BIND_VSWITCH : Field := ⟨0, 5⟩
/-- ATC entries allowed to Vv; above 16,384 stores 16,384 -/
abbrev MV_ATC_QUOTA_QUOTA : Field := ⟨0, 15⟩
/-- LPDDR4X address bits [33:12], aligned to the region size -/
abbrev MV_DIRTY_REGION_BASE : Field := ⟨12, 22⟩
/-- 0 or below 20: no dirty logging; 20–32; above 32 stores 32 -/
abbrev MV_DIRTY_REGION_SIZE_LOG2 : Field := ⟨0, 6⟩
/-- R235 -/
abbrev INST_STATUS_STATE : Field := ⟨29, 3⟩
/-- A TAIL write was discarded (R243) -/
abbrev INST_STATUS_DB_ERR : Field := ⟨28, 1⟩
/-- Dirty logging on -/
abbrev INST_STATUS_DIRTY_ON : Field := ⟨27, 1⟩
/-- MB_FROM_DEVICE holds a reply -/
abbrev INST_STATUS_MB_IN_FULL : Field := ⟨26, 1⟩
/-- MB_TO_DEVICE not yet taken -/
abbrev INST_STATUS_MB_OUT_BUSY : Field := ⟨25, 1⟩
/-- STATUS code of the last descriptor or instance error -/
abbrev INST_STATUS_LAST_ERR : Field := ⟨0, 16⟩
/-- Free-running slot counts (R243); INIT_HEAD at ENABLE -/
abbrev INST_TAIL_COUNT : Field := ⟨0, 32⟩
/-- Free-running slot counts (R243); INIT_HEAD at ENABLE -/
abbrev INST_HEAD_COUNT : Field := ⟨0, 32⟩
/-- Frees MB_FROM_DEVICE -/
abbrev INST_MB_CTRL_ACK : Field := ⟨1, 1⟩
/-- Hands MB_TO_DEVICE to the device (R253) -/
abbrev INST_MB_CTRL_SEND : Field := ⟨0, 1⟩
/-- Descriptors ended without a record (R254); bytes committed since ENABLE -/
abbrev INST_ABORT_CNT_COUNT : Field := ⟨0, 32⟩
/-- Descriptors ended without a record (R254); bytes committed since ENABLE -/
abbrev INST_BYTES_COUNT : Field := ⟨0, 64⟩
/-- The selected instance is bound to this vSwitch; otherwise the set-up window reads 0 and ignores writes -/
abbrev MVPF_INST_SEL_BOUND : Field := ⟨31, 1⟩
/-- Instance reached by the set-up window, INST_CTRL and the relay registers -/
abbrev MVPF_INST_SEL_INSTANCE : Field := ⟨0, 12⟩
/-- With QUIESCE: abort as R254 -/
abbrev INST_CTRL_ABORT : Field := ⟨3, 1⟩
/-- ENABLED to QUIESCING; PF vector 1 when QUIESCED -/
abbrev INST_CTRL_QUIESCE : Field := ⟨2, 1⟩
/-- QUIESCED or ERROR to DISABLED -/
abbrev INST_CTRL_DISABLE : Field := ⟨1, 1⟩
/-- DISABLED, QUIESCED or ERROR to ENABLED, if the set-up is valid -/
abbrev INST_CTRL_ENABLE : Field := ⟨0, 1⟩
/-- R257 -/
abbrev TILE_CFG_SPLIT : Field := ⟨32, 2⟩
/-- Slot s enabled -/
abbrev TILE_CFG_EN (i : Nat) : Field := ⟨7 + 8 * i, 1⟩
/-- Slot s is a Calez port -/
abbrev TILE_CFG_CALEZ (i : Nat) : Field := ⟨6 + 8 * i, 1⟩
/-- Port number of slot s (R258) -/
abbrev TILE_CFG_PORT (i : Nat) : Field := ⟨0 + 8 * i, 6⟩
/-- 0 ACTIVE; 1 PARKED; 2 DARK; 3 OFF -/
abbrev TILE_STATUS_POWER : Field := ⟨30, 2⟩
/-- Ring PLL running -/
abbrev TILE_STATUS_RING_ON : Field := ⟨29, 1⟩
/-- Ring PLL stable (R261) -/
abbrev TILE_STATUS_RING_STABLE : Field := ⟨28, 1⟩
/-- LC PLL running -/
abbrev TILE_STATUS_LC_ON : Field := ⟨27, 1⟩
/-- LC PLL stable -/
abbrev TILE_STATUS_LC_STABLE : Field := ⟨26, 1⟩
/-- Power-up calibration complete -/
abbrev TILE_STATUS_CAL_DONE : Field := ⟨25, 1⟩
/-- Reference of the group monitored and present -/
abbrev TILE_STATUS_REF_OK : Field := ⟨24, 1⟩
/-- Tile lane the sequencer is working on -/
abbrev TILE_STATUS_PRESS_LANE : Field := ⟨20, 4⟩
/-- ms, 10–10,000; values outside the range are held at the nearer limit (R274) -/
abbrev TILE_PRESS_CTRL_PERIOD : Field := ⟨0, 16⟩
/-- Criterion at C128, 0.1 dB -/
abbrev TILE_EQ_CRIT_SNR_C128 : Field := ⟨16, 8⟩
/-- Criterion at C64 and 64 GT/s -/
abbrev TILE_EQ_CRIT_SNR_PAM4 : Field := ⟨8, 8⟩
/-- Criterion at 8–32 GT/s -/
abbrev TILE_EQ_CRIT_SNR_NRZ : Field := ⟨0, 8⟩
/-- Lane passes completed -/
abbrev TILE_PRESS_PASS_CNT_COUNT : Field := ⟨0, 32⟩
/-- Steps abandoned (R276) -/
abbrev TILE_PRESS_ABN_CNT_COUNT : Field := ⟨0, 32⟩
/-- Seeded EQ fall-backs (R272) -/
abbrev TILE_EQ_FB_CNT_COUNT : Field := ⟨0, 32⟩
/-- PLL losses of lock (R263) -/
abbrev TILE_PLL_UNLOCK_CNT_COUNT : Field := ⟨0, 32⟩
/-- Access in progress -/
abbrev TILE_COEF_ACC_BUSY : Field := ⟨31, 1⟩
/-- Last access refused: CLASS 6 or 7 -/
abbrev TILE_COEF_ACC_ERR : Field := ⟨30, 1⟩
/-- 1: clear every record of LANE; 0: read the record of LANE and CLASS. Writing the register starts the access -/
abbrev TILE_COEF_ACC_CLR : Field := ⟨8, 1⟩
/-- Tile lane -/
abbrev TILE_COEF_ACC_LANE : Field := ⟨4, 4⟩
/-- Rate class (R271) -/
abbrev TILE_COEF_ACC_CLASS : Field := ⟨0, 3⟩
/-- Bytes 8i to 8i + 7 of the coefficient record -/
abbrev TILE_COEF_DATA_DATA : Field := ⟨0, 64⟩
/-- ms since the last lane pass, held at 0xFFFF -/
abbrev LANE_STATUS_AGE : Field := ⟨48, 16⟩
/-- Slicer SNR at the last pass, 0.1 dB -/
abbrev LANE_STATUS_SNR : Field := ⟨24, 8⟩
/-- Spare slice, 0–32 -/
abbrev LANE_STATUS_SLICE_OFF : Field := ⟨18, 6⟩
/-- 0 idle; 1 live step; 2 quiet step; 3 margining -/
abbrev LANE_STATUS_PRESS_STATE : Field := ⟨16, 2⟩
/-- R277 -/
abbrev LANE_STATUS_LOW_SNR : Field := ⟨15, 1⟩
/-- Polarity inversion corrected (R267) -/
abbrev LANE_STATUS_POL_INV : Field := ⟨14, 1⟩
/-- Receiver detected -/
abbrev LANE_STATUS_DETECTED : Field := ⟨13, 1⟩
/-- Block, flit or codeword lock held -/
abbrev LANE_STATUS_LOCKED : Field := ⟨12, 1⟩
/-- Lane of an enabled slot -/
abbrev LANE_STATUS_IN_USE : Field := ⟨11, 1⟩
/-- 0 2.5; 1 5; 2 8; 3 16; 4 32; 5 64 GT/s; 6 C64; 7 C128 -/
abbrev LANE_STATUS_RATE : Field := ⟨8, 3⟩
/-- The port trains -/
abbrev PORT_CFG_LINK_EN : Field := ⟨31, 1⟩
/-- Advertise flit mode (R285) -/
abbrev PORT_CFG_FLIT_OFFER : Field := ⟨30, 1⟩
/-- HOST_PERST_N uses PERST# (R305) -/
abbrev PORT_CFG_PERST_ON_HOST : Field := ⟨29, 1⟩
/-- Slot present (R302) -/
abbrev PORT_CFG_HP_CAPABLE : Field := ⟨28, 1⟩
/-- Reported Hot-Plug Surprise -/
abbrev PORT_CFG_HP_SURPRISE : Field := ⟨27, 1⟩
/-- Attention button present -/
abbrev PORT_CFG_ATTN_PRESENT : Field := ⟨26, 1⟩
/-- MRL sensor present -/
abbrev PORT_CFG_MRL_PRESENT : Field := ⟨25, 1⟩
/-- Indicators present -/
abbrev PORT_CFG_INDICATORS : Field := ⟨24, 1⟩
/-- 0 2.5; 1 5; 2 8; 3 16; 4 32; 5 64 GT/s; 6–7 act as 5 -/
abbrev PORT_CFG_MAX_RATE : Field := ⟨21, 3⟩
/-- Units of 10 ms; 0 acts as 1 -/
abbrev PORT_CFG_PERST_DELAY : Field := ⟨17, 4⟩
/-- EGV slot, 0–31 -/
abbrev PORT_CFG_EGV_SLOT : Field := ⟨12, 5⟩
/-- Physical Slot Number; its bit 12 reads 0 -/
abbrev PORT_CFG_PSN : Field := ⟨0, 12⟩
/-- State, below -/
abbrev PORT_STATUS_LTSSM : Field := ⟨26, 6⟩
/-- As MAX_RATE -/
abbrev PORT_STATUS_RATE : Field := ⟨23, 3⟩
/-- Lanes in use; 0 while down -/
abbrev PORT_STATUS_WIDTH : Field := ⟨18, 5⟩
/-- Flit mode -/
abbrev PORT_STATUS_FLIT : Field := ⟨17, 1⟩
/-- DL_Active -/
abbrev PORT_STATUS_DL_ACTIVE : Field := ⟨16, 1⟩
/-- In L1: 1 L1.0; 2 L1.1; 3 L1.2; otherwise 0 -/
abbrev PORT_STATUS_L1_SUB : Field := ⟨14, 2⟩
/-- Held in Disabled by DPC or R308 -/
abbrev PORT_STATUS_DPC_CONTAINED : Field := ⟨13, 1⟩
/-- R306 -/
abbrev PORT_STATUS_FENCED : Field := ⟨12, 1⟩
/-- Lane reversal in use -/
abbrev PORT_STATUS_REVERSED : Field := ⟨11, 1⟩
/-- Slot PERST# asserted as last written -/
abbrev PORT_STATUS_PERST_OUT : Field := ⟨10, 1⟩
/-- Presence as last polled -/
abbrev PORT_STATUS_PRESENT : Field := ⟨9, 1⟩
/-- Slot power good -/
abbrev PORT_STATUS_POWER_ON : Field := ⟨8, 1⟩
/-- Width below the slot (R286) -/
abbrev PORT_STATUS_WIDTH_DEGRADED : Field := ⟨7, 1⟩
/-- Bit 16 + i enables event i to raise MSI-X vector 4 of every management function that carries a Manager-role ring -/
abbrev PORT_EVENT_ENABLE : Field := ⟨16, 15⟩
/-- A slot sideband write failed (R303) -/
abbrev PORT_EVENT_SB_FAIL : Field := ⟨14, 1⟩
/-- WAKE# asserted -/
abbrev PORT_EVENT_WAKE : Field := ⟨13, 1⟩
/-- Attention button pressed -/
abbrev PORT_EVENT_ATTN_BUTTON : Field := ⟨12, 1⟩
/-- MRL changed -/
abbrev PORT_EVENT_MRL : Field := ⟨11, 1⟩
/-- Power-on refused -/
abbrev PORT_EVENT_EGV_REFUSED : Field := ⟨10, 1⟩
/-- Power fault -/
abbrev PORT_EVENT_POWER_FAULT : Field := ⟨9, 1⟩
/-- Power good after power-on -/
abbrev PORT_EVENT_POWER_GOOD : Field := ⟨8, 1⟩
/-- Presence changed -/
abbrev PORT_EVENT_PRESENCE : Field := ⟨7, 1⟩
/-- Port fenced -/
abbrev PORT_EVENT_FENCED : Field := ⟨6, 1⟩
/-- DPC triggered, or the port was contained under R308 -/
abbrev PORT_EVENT_DPC : Field := ⟨5, 1⟩
/-- Trained narrower than the slot -/
abbrev PORT_EVENT_WIDTH_DEGRADED : Field := ⟨4, 1⟩
/-- Rate changed -/
abbrev PORT_EVENT_SPEED_CHANGE : Field := ⟨3, 1⟩
/-- Surprise Down -/
abbrev PORT_EVENT_SURPRISE_DOWN : Field := ⟨2, 1⟩
/-- Link left L0 under R287 -/
abbrev PORT_EVENT_LINK_DOWN : Field := ⟨1, 1⟩
/-- DL_Active reached -/
abbrev PORT_EVENT_LINK_UP : Field := ⟨0, 1⟩
/-- L1 permitted (R299) -/
abbrev PORT_PM_L1_ALLOW : Field := ⟨31, 1⟩
/-- L1.2 permitted -/
abbrev PORT_PM_L12_ALLOW : Field := ⟨30, 1⟩
/-- µs of idle before an upstream port requests ASPM L1; 0 acts as 1 -/
abbrev PORT_PM_L1_IDLE : Field := ⟨0, 16⟩
/-- A PTM dialogue has completed since the last link up (R296) -/
abbrev PORT_PTM_VALID : Field := ⟨31, 1⟩
/-- Units of 100 µs; 0 acts as 1 -/
abbrev PORT_PTM_PERIOD : Field := ⟨0, 16⟩
/-- Writing 1 directs Recovery from L0 -/
abbrev PORT_CTRL_RETRAIN : Field := ⟨3, 1⟩
/-- Writing 1 releases the port (R308) -/
abbrev PORT_CTRL_RELEASE : Field := ⟨2, 1⟩
/-- Hold slot PERST# asserted (R305) -/
abbrev PORT_CTRL_PERST_FORCE : Field := ⟨1, 1⟩
/-- Hold the link in Disabled (R307) -/
abbrev PORT_CTRL_DISABLE : Field := ⟨0, 1⟩
/-- No-snoop latency, in the LTR message format: last received (downstream port) or last sent (upstream port) -/
abbrev PORT_LTR_NOSNOOP : Field := ⟨16, 16⟩
/-- Snoop latency, likewise -/
abbrev PORT_LTR_SNOOP : Field := ⟨0, 16⟩
/-- Receiver errors -/
abbrev PORT_RX_ERR_CNT_COUNT : Field := ⟨0, 32⟩
/-- Flits corrected by FEC -/
abbrev PORT_FEC_CORR_CNT_COUNT : Field := ⟨0, 32⟩
/-- TLPs failing LCRC, or flits failing CRC -/
abbrev PORT_CRC_ERR_CNT_COUNT : Field := ⟨0, 32⟩
/-- Replays begun -/
abbrev PORT_REPLAY_CNT_COUNT : Field := ⟨0, 32⟩
/-- Link downs (R287) -/
abbrev PORT_DOWN_CNT_COUNT : Field := ⟨0, 32⟩
/-- Malformed TLPs discarded -/
abbrev PORT_MALFORMED_CNT_COUNT : Field := ⟨0, 32⟩
/-- TLPs split (R292) -/
abbrev PORT_SPLIT_CNT_COUNT : Field := ⟨0, 32⟩
/-- Slot sideband writes failed -/
abbrev PORT_SB_FAIL_CNT_COUNT : Field := ⟨0, 32⟩
/-- Host address of the ring, 4 KiB aligned (R321) -/
abbrev ICP_SQ_BASE_BASE : Field := ⟨12, 52⟩
/-- Host address of the ring, 4 KiB aligned (R321) -/
abbrev ICP_CQ_BASE_BASE : Field := ⟨12, 52⟩
/-- Channel enabled (R324); stays 0 while the ICP_MGR bit is 0 -/
abbrev ICP_RING_CFG_EN : Field := ⟨31, 1⟩
/-- Completion ring of 2^CQ_LOG2 slots, 2–8; values outside the range are held at the nearer limit -/
abbrev ICP_RING_CFG_CQ_LOG2 : Field := ⟨8, 4⟩
/-- Submission ring, as CQ_LOG2 -/
abbrev ICP_RING_CFG_SQ_LOG2 : Field := ⟨0, 4⟩
/-- The channel carries the Manager role -/
abbrev ICP_RING_STATUS_MANAGER : Field := ⟨31, 1⟩
/-- R322 -/
abbrev ICP_RING_STATUS_FETCH_ERR : Field := ⟨30, 1⟩
/-- A doorbell write was discarded (R322) -/
abbrev ICP_RING_STATUS_DB_ERR : Field := ⟨29, 1⟩
/-- A reply waits for a completion slot -/
abbrev ICP_RING_STATUS_CQ_FULL : Field := ⟨28, 1⟩
/-- Expected request ALIVE -/
abbrev ICP_RING_STATUS_EXP_ALIVE : Field := ⟨24, 4⟩
/-- ALIVE of the next reply -/
abbrev ICP_RING_STATUS_REPLY_ALIVE : Field := ⟨20, 4⟩
/-- Commands outstanding, 0–16 -/
abbrev ICP_RING_STATUS_OUTSTANDING : Field := ⟨0, 5⟩
/-- Free-running slot counts (R322, R323) -/
abbrev ICP_SQ_TAIL_COUNT : Field := ⟨0, 32⟩
/-- Free-running slot counts (R322, R323) -/
abbrev ICP_SQ_HEAD_COUNT : Field := ⟨0, 32⟩
/-- Free-running slot counts (R322, R323) -/
abbrev ICP_CQ_TAIL_COUNT : Field := ⟨0, 32⟩
/-- Free-running slot counts (R322, R323) -/
abbrev ICP_CQ_HEAD_COUNT : Field := ⟨0, 32⟩
/-- Bit v: the ring and VDM channels of Vv carry the Manager role (R311) -/
abbrev ICP_MGR_MANAGER : Field := ⟨0, 32⟩
/-- Relay Manager packets to the partner in mode 4 (R327); 0 makes such a TARGET NOT_PERMITTED -/
abbrev ICP_CTRL_RELAY_EN : Field := ⟨1, 1⟩
/-- The BMC channel carries the Manager role -/
abbrev ICP_CTRL_BMC_EN : Field := ⟨0, 1⟩
/-- Requests that passed step 10 -/
abbrev ICP_RX_CNT_COUNT : Field := ⟨0, 32⟩
/-- Failures of steps 1–3 -/
abbrev ICP_BAD_CRC_CNT_COUNT : Field := ⟨0, 32⟩
/-- ALIVE_ERROR replies -/
abbrev ICP_ALIVE_ERR_CNT_COUNT : Field := ⟨0, 32⟩
/-- Failures of steps 5–10, MCTP packets refused with BUSY (R326), discarded VDMs, and ring fetch failures -/
abbrev ICP_REFUSED_CNT_COUNT : Field := ⟨0, 32⟩
/-- Channel enabled or established -/
abbrev ICP_CHAN_ACTIVE : Field := ⟨31, 1⟩
/-- 0 none; 1 Manager; 2 Twin; 3–7 reserved -/
abbrev ICP_CHAN_ROLE : Field := ⟨28, 3⟩
/-- Expected request ALIVE -/
abbrev ICP_CHAN_EXP_ALIVE : Field := ⟨20, 4⟩
/-- ALIVE of the next reply -/
abbrev ICP_CHAN_REPLY_ALIVE : Field := ⟨16, 4⟩
/-- Commands outstanding, 0–16 -/
abbrev ICP_CHAN_OUTSTANDING : Field := ⟨0, 5⟩
/-- SP has left ROM start-up -/
abbrev SP_STATUS_RUNNING : Field := ⟨31, 1⟩
/-- TERMINAL latch (R351) -/
abbrev SP_STATUS_TERMINAL : Field := ⟨30, 1⟩
/-- Class being handled; 0xF none (R358) -/
abbrev SP_STATUS_HANDLING : Field := ⟨24, 4⟩
/-- A discarded write is logged -/
abbrev SP_SPW_LOG_VALID : Field := ⟨63, 1⟩
/-- A further one was counted but not logged -/
abbrev SP_SPW_LOG_SECOND : Field := ⟨62, 1⟩
/-- Master ID -/
abbrev SP_SPW_LOG_MASTER : Field := ⟨32, 4⟩
/-- CRS offset written -/
abbrev SP_SPW_LOG_OFFSET : Field := ⟨0, 32⟩
/-- Writes discarded (R349); SP SRAM corrections. Saturates at 0xFFFF_FFFF -/
abbrev SP_SPW_CNT_COUNT : Field := ⟨0, 32⟩
/-- Writes discarded (R349); SP SRAM corrections. Saturates at 0xFFFF_FFFF -/
abbrev SP_SRAM_CORR_CNT_COUNT : Field := ⟨0, 32⟩
/-- FAULT_N driven low (R362) -/
abbrev FCU_STATUS_FAULT_N_LOW : Field := ⟨31, 1⟩
/-- TERMINAL latch -/
abbrev FCU_STATUS_TERMINAL : Field := ⟨30, 1⟩
/-- More than 64 units have uncleared faults or fences -/
abbrev FCU_STATUS_LIST_OVF : Field := ⟨29, 1⟩
/-- Bit c: pending record c occupied -/
abbrev FCU_STATUS_PENDING : Field := ⟨16, 5⟩
/-- Units with an uncleared fault or a fence -/
abbrev FCU_STATUS_UNITS : Field := ⟨0, 16⟩
/-- FATAL warm resets within the last 60 s (R359), rebuilt after each warm reset -/
abbrev FCU_FATAL_HIST_COUNT : Field := ⟨0, 8⟩
/-- SEQ of the next fault -/
abbrev FCU_SEQ_SEQ : Field := ⟨0, 32⟩
/-- Faults of class c, including those counted only (R357). Saturates at 0xFFFF_FFFF -/
abbrev FCU_CLASS_CNT_COUNT : Field := ⟨0, 32⟩
/-- Bytes 8w to 8w + 7 of pending record c (R356); meaningful while PENDING bit c is 1 -/
abbrev FCU_REC_DATA : Field := ⟨0, 64⟩
/-- Entry in use; entries are listed oldest first -/
abbrev FCU_UNCLEARED_VALID : Field := ⟨63, 1⟩
/-- Unit fenced by fault -/
abbrev FCU_UNCLEARED_FAULT_FENCED : Field := ⟨62, 1⟩
/-- Unit fenced by command (R361) -/
abbrev FCU_UNCLEARED_CMD_FENCED : Field := ⟨61, 1⟩
/-- Bit c: uncleared fault of class c -/
abbrev FCU_UNCLEARED_CLASSES : Field := ⟨48, 5⟩
/-- Unit code (R352) -/
abbrev FCU_UNCLEARED_UNIT : Field := ⟨0, 32⟩
/-- Unit enabled -/
abbrev CV_CTRL_EN : Field := ⟨31, 1⟩
/-- Compare with CV_EXPECT (R370) -/
abbrev CV_CTRL_CMP_EN : Field := ⟨30, 1⟩
/-- Check the alive counter -/
abbrev CV_CTRL_ALIVE_EN : Field := ⟨29, 1⟩
/-- Raise a fault on mismatch (R374) -/
abbrev CV_CTRL_FAULT_EN : Field := ⟨28, 1⟩
/-- Writing 1 loads the initial value (R369) -/
abbrev CV_CTRL_INIT : Field := ⟨3, 1⟩
/-- Algorithm (R368) -/
abbrev CV_CTRL_ALG : Field := ⟨0, 2⟩
/-- Result differed from CV_EXPECT -/
abbrev CV_STATUS_MISMATCH : Field := ⟨31, 1⟩
/-- Alive counter repeated or skipped -/
abbrev CV_STATUS_ALIVE_ERR : Field := ⟨30, 1⟩
/-- A write from a master other than the owner was discarded (R372) -/
abbrev CV_STATUS_FOREIGN : Field := ⟨29, 1⟩
/-- Data being absorbed -/
abbrev CV_STATUS_BUSY : Field := ⟨28, 1⟩
/-- ALIVE of the last message -/
abbrev CV_STATUS_ALIVE_LAST : Field := ⟨4, 4⟩
/-- Expected ALIVE of the next message -/
abbrev CV_ALIVE_EXP : Field := ⟨0, 4⟩
/-- Data fed (R369); higher bits ignored -/
abbrev CV_DATA8_DATA : Field := ⟨0, 8⟩
/-- Data fed (R369); higher bits ignored -/
abbrev CV_DATA16_DATA : Field := ⟨0, 16⟩
/-- Data fed (R369); higher bits ignored -/
abbrev CV_DATA32_DATA : Field := ⟨0, 32⟩
/-- Compare the result (R370) -/
abbrev CV_END_CHECK : Field := ⟨31, 1⟩
/-- Alive counter of the message -/
abbrev CV_END_ALIVE : Field := ⟨0, 4⟩
/-- Expected result; running CRC before the final XOR (R371); last result -/
abbrev CV_EXPECT_VALUE : Field := ⟨0, 64⟩
/-- Expected result; running CRC before the final XOR (R371); last result -/
abbrev CV_STATE_VALUE : Field := ⟨0, 64⟩
/-- Expected result; running CRC before the final XOR (R371); last result -/
abbrev CV_RESULT_VALUE : Field := ⟨0, 64⟩
/-- Messages ended. Saturates at 0xFFFF_FFFF -/
abbrev CV_MSG_CNT_COUNT : Field := ⟨0, 32⟩
/-- Every master may use the CVU -/
abbrev CVU_OWNER_ANY : Field := ⟨31, 1⟩
/-- Owning master while ANY is 0 (R372) -/
abbrev CVU_OWNER_MASTER : Field := ⟨0, 4⟩
/-- R378 -/
abbrev CLK_STATUS_XO_STABLE : Field := ⟨31, 1⟩
/-- Root PLL running -/
abbrev CLK_STATUS_ROOT_ON : Field := ⟨30, 1⟩
/-- Root PLL lock indication -/
abbrev CLK_STATUS_ROOT_LOCK : Field := ⟨29, 1⟩
/-- Root PLL stable -/
abbrev CLK_STATUS_ROOT_STABLE : Field := ⟨28, 1⟩
/-- AON and SP clocks taken from the root -/
abbrev CLK_STATUS_AON_ROOT : Field := ⟨27, 1⟩
/-- Bit set while the domain runs: 0 CORE, 1 DRAM clock, 2 PORT, 3 DCTL, 4 MGMT, 5 SAFE, 6 PERI -/
abbrev CLK_STATUS_DOM_RUN : Field := ⟨0, 7⟩
/-- Cause of the reset before the last -/
abbrev RST_REASON_PREV_CAUSE : Field := ⟨24, 8⟩
/-- Resets since VDD_AON power-up, held at 0xFFFF -/
abbrev RST_REASON_RESET_CNT : Field := ⟨8, 16⟩
/-- Cause of the last reset (R382) -/
abbrev RST_REASON_CAUSE : Field := ⟨0, 8⟩
/-- Unit code of the fault, for CAUSE 0x08 or 0x0C; otherwise 0 -/
abbrev RST_DETAIL_UNIT : Field := ⟨32, 32⟩
/-- SOURCE of the fault, likewise -/
abbrev RST_DETAIL_SOURCE : Field := ⟨16, 16⟩
/-- Dormant allowed (R385, R389) -/
abbrev PWR_CTRL_DORMANT_EN : Field := ⟨31, 1⟩
/-- µs that the conditions must hold; 0 acts as 1 -/
abbrev PWR_CTRL_DORMANT_IDLE : Field := ⟨0, 16⟩
/-- 0 running; 1 entering Dormant; 2 Dormant; 3 waking; 4 power fail; 5–7 reserved -/
abbrev PWR_STATUS_STATE : Field := ⟨29, 3⟩
/-- Code of the last Dormant wake cause (R387) -/
abbrev PWR_STATUS_LAST_WAKE : Field := ⟨16, 8⟩
/-- The last reset followed PWRFAIL_N; retained -/
abbrev PWR_STATUS_PF_LAST : Field := ⟨15, 1⟩
/-- Journal records written at the last power failure; retained -/
abbrev PWR_STATUS_PF_RECORDS : Field := ⟨0, 8⟩
/-- Device time (R97) of the next scheduled wake; 0 for none -/
abbrev WAKE_TIMER_AT : Field := ⟨0, 64⟩
/-- Dormant entries completed; entries abandoned (R386). Saturates at 0xFFFF_FFFF -/
abbrev PWR_DORMANT_CNT_COUNT : Field := ⟨0, 32⟩
/-- Dormant entries completed; entries abandoned (R386). Saturates at 0xFFFF_FFFF -/
abbrev PWR_DORMANT_ABORT_CNT_COUNT : Field := ⟨0, 32⟩
/-- Deepest automatic state: 0 ACTIVE; 1 PARKED; 2 DARK; 3 acts as 2 -/
abbrev TILE_PM_MAX_STATE : Field := ⟨30, 2⟩
/-- Units of 100 µs; 0 acts as 1 -/
abbrev TILE_PM_DARK_IDLE : Field := ⟨8, 8⟩
/-- µs; 0 acts as 1 -/
abbrev TILE_PM_PARK_IDLE : Field := ⟨0, 8⟩
/-- EGV admits power-on requests -/
abbrev EGV_CTRL_EN : Field := ⟨31, 1⟩
/-- 1–8; 0 stores 1, above 8 stores 8 -/
abbrev EGV_CTRL_MAX_RAMPS : Field := ⟨8, 4⟩
/-- ms (R392); 0 acts as 1 -/
abbrev EGV_CTRL_RAMP_TO : Field := ⟨0, 8⟩
/-- mJ per 100 ms, 1,000–4,000,000; values outside the range are held at the nearer limit -/
abbrev EGV_WINDOW_LIMIT : Field := ⟨0, 32⟩
/-- Ramps in progress, 0–8 -/
abbrev EGV_STATUS_RAMPS : Field := ⟨28, 4⟩
/-- Power-on requests queued, 0–32 -/
abbrev EGV_STATUS_QUEUED : Field := ⟨22, 6⟩
/-- Predicted inrush admitted in the last 100 ms, mJ -/
abbrev EGV_STATUS_WINDOW_USED : Field := ⟨0, 22⟩
/-- The slot has an eFuse under the EGV -/
abbrev EGV_SLOT_CFG_VALID : Field := ⟨63, 1⟩
/-- Read the eFuse energy accumulator during ramps (R392) -/
abbrev EGV_SLOT_CFG_ACC_EN : Field := ⟨62, 1⟩
/-- Sideband I3C controller 0–3 -/
abbrev EGV_SLOT_CFG_BUS : Field := ⟨60, 2⟩
/-- eFuse target address -/
abbrev EGV_SLOT_CFG_ADDR : Field := ⟨53, 7⟩
/-- Slot rail in mV -/
abbrev EGV_SLOT_CFG_RAIL_MV : Field := ⟨32, 16⟩
/-- Declared bulk capacitance in µF -/
abbrev EGV_SLOT_CFG_CAP_UF : Field := ⟨0, 16⟩
/-- Declared-energy limit, mJ (R390) -/
abbrev EGV_SLOT_LIM_STORED : Field := ⟨16, 32⟩
/-- Inrush limit, mJ, 500–20,000; values outside the range are held at the nearer limit -/
abbrev EGV_SLOT_LIM_INRUSH : Field := ⟨0, 16⟩
/-- 0 OFF; 1 RAMPING; 2 ON; 3 CUT -/
abbrev EGV_SLOT_STATUS_STATE : Field := ⟨62, 2⟩
/-- Last refusal or cut, below -/
abbrev EGV_SLOT_STATUS_REASON : Field := ⟨48, 8⟩
/-- Measured energy of the last ramp, mJ; 0 with ACC_EN 0 -/
abbrev EGV_SLOT_STATUS_LAST_INRUSH : Field := ⟨32, 16⟩
/-- Declared energy, mJ -/
abbrev EGV_SLOT_STATUS_DECLARED : Field := ⟨0, 32⟩
/-- Ramps admitted; requests refused (R391); slots cut (R392, R393). Saturates at 0xFFFF_FFFF -/
abbrev EGV_ADMIT_CNT_COUNT : Field := ⟨0, 32⟩
/-- Ramps admitted; requests refused (R391); slots cut (R392, R393). Saturates at 0xFFFF_FFFF -/
abbrev EGV_REFUSE_CNT_COUNT : Field := ⟨0, 32⟩
/-- Ramps admitted; requests refused (R391); slots cut (R392, R393). Saturates at 0xFFFF_FFFF -/
abbrev EGV_CUT_CNT_COUNT : Field := ⟨0, 32⟩
/-- LAUNDER runs -/
abbrev BG_CTRL_LD_EN : Field := ⟨31, 1⟩
/-- R401, 2–15; 0 and 1 store 2 -/
abbrev BG_CTRL_CRIT_MULT : Field := ⟨0, 4⟩
/-- Hours, 1–168; 0 acts as 1, above 168 stores 168 -/
abbrev LD_PERIOD_DDR_H : Field := ⟨24, 8⟩
/-- Seconds, 10–600; values outside the range are held at the nearer limit -/
abbrev LD_PERIOD_SRAM_S : Field := ⟨0, 16⟩
/-- 0 NORMAL; 1 URGENT; 2 CRITICAL -/
abbrev LD_REGION_LEVEL : Field := ⟨62, 2⟩
/-- Percent of the current pass done -/
abbrev LD_REGION_PROGRESS : Field := ⟨32, 8⟩
/-- Seconds, held at 0xFFFF_FFFF -/
abbrev LD_REGION_AGE : Field := ⟨0, 32⟩
/-- Words corrected and written back -/
abbrev LD_CORR_CNT_COUNT : Field := ⟨0, 32⟩
/-- Uncorrectable words left for their owners -/
abbrev LD_UE_CNT_COUNT : Field := ⟨0, 32⟩
/-- Uncorrectable words rewritten (R404) -/
abbrev LD_FREE_UE_CNT_COUNT : Field := ⟨0, 32⟩
/-- Level of tile lane l, as LD_REGION -/
abbrev PRESS_LEVEL_LEVEL (i : Nat) : Field := ⟨0 + 2 * i, 2⟩
/-- ms, 10–10,000; 0 stopped -/
abbrev ORBIT_CFG_PERIOD : Field := ⟨32, 32⟩
/-- As LD_REGION -/
abbrev ORBIT_CFG_LEVEL : Field := ⟨30, 2⟩
/-- R415 -/
abbrev ORBIT_CFG_DEST : Field := ⟨29, 1⟩
/-- Exporting vSwitch, DEST 0 -/
abbrev ORBIT_CFG_VSWITCH : Field := ⟨24, 5⟩
/-- Ring of 2^SIZE_LOG2 bytes, 12–30 -/
abbrev ORBIT_CFG_SIZE_LOG2 : Field := ⟨0, 5⟩
/-- ADDR: ring base in host memory, bits [11:0] 0. SETS: bit s, set s (R413) -/
abbrev ORBIT_ADDR_VALUE : Field := ⟨0, 64⟩
/-- ADDR: ring base in host memory, bits [11:0] 0. SETS: bit s, set s (R413) -/
abbrev ORBIT_SETS_VALUE : Field := ⟨0, 64⟩
/-- Newest complete export slot (DEST 1) -/
abbrev ORBIT_STATUS_SLOT : Field := ⟨31, 1⟩
/-- A report was not delivered (R415) -/
abbrev ORBIT_STATUS_TOO_BIG : Field := ⟨30, 1⟩
/-- SEQ of the last complete report -/
abbrev ORBIT_STATUS_SEQ : Field := ⟨0, 30⟩
/-- Reports with a dropped write. Saturates at 0xFFFF_FFFF -/
abbrev ORBIT_DROP_CNT_COUNT : Field := ⟨0, 32⟩
/-- Ring offset after the newest complete report (R415) -/
abbrev ORBIT_WR_OFFSET : Field := ⟨0, 32⟩
/-- DARN level -/
abbrev JNL_STATUS_LEVEL : Field := ⟨30, 2⟩
/-- Records waiting, 0–8 -/
abbrev JNL_STATUS_BUFFERED : Field := ⟨26, 4⟩
/-- Erased sectors ahead, held at 63 -/
abbrev JNL_STATUS_RESERVE : Field := ⟨20, 6⟩
/-- Head sector -/
abbrev JNL_STATUS_HEAD : Field := ⟨0, 14⟩
/-- SEQ of the next record; AON cycles since VDD_AON power-up -/
abbrev JNL_SEQ_VALUE : Field := ⟨0, 64⟩
/-- SEQ of the next record; AON cycles since VDD_AON power-up -/
abbrev JNL_AON_T_VALUE : Field := ⟨0, 64⟩
/-- Records committed -/
abbrev JNL_WRITE_CNT_COUNT : Field := ⟨0, 32⟩
/-- Faults summarised (R410) -/
abbrev JNL_SUMM_CNT_COUNT : Field := ⟨0, 32⟩
/-- Records discarded at boot (R412) -/
abbrev JNL_TORN_CNT_COUNT : Field := ⟨0, 32⟩
/-- Sectors retired, rebuilt at boot -/
abbrev JNL_RETIRED_COUNT : Field := ⟨0, 32⟩
/-- ECLIPSE_IN triggers -/
abbrev ECL_ARM_IN_EN : Field := ⟨31, 1⟩
/-- R419 -/
abbrev ECL_ARM_OUT_MODE : Field := ⟨29, 2⟩
/-- Counter triggers -/
abbrev ECL_ARM_CNT_EN : Field := ⟨28, 1⟩
/-- Echo fault and counter triggers in OUT_MODE 2 -/
abbrev ECL_ARM_PAIR_HW : Field := ⟨27, 1⟩
/-- R417 -/
abbrev ECL_ARM_OVERWRITE : Field := ⟨26, 1⟩
/-- R417 -/
abbrev ECL_ARM_ALTERNATE : Field := ⟨25, 1⟩
/-- Bit c: faults of class c trigger -/
abbrev ECL_ARM_FAULT_MASK : Field := ⟨16, 5⟩
/-- Bank A holds a snapshot; RWS -/
abbrev ECL_STATUS_VALID_A : Field := ⟨31, 1⟩
/-- Bank B likewise; RWS -/
abbrev ECL_STATUS_VALID_B : Field := ⟨30, 1⟩
/-- 0 A; 1 B -/
abbrev ECL_STATUS_NEXT : Field := ⟨29, 1⟩
/-- Between a latch edge and its AON latch -/
abbrev ECL_STATUS_BUSY : Field := ⟨28, 1⟩
/-- Triggers missed, held at 0xFFFF -/
abbrev ECL_STATUS_MISS : Field := ⟨0, 16⟩
/-- Device time of the latch edge -/
abbrev ECL_TIME_TIME : Field := ⟨0, 64⟩
/-- Snapshots since cold reset, modulo 256 -/
abbrev ECL_SRC_SEQ : Field := ⟨24, 8⟩
/-- Common edges from the latch edge to the AON latch -/
abbrev ECL_SRC_AON_SKEW : Field := ⟨20, 4⟩
/-- ECLIPSE_OUT driven -/
abbrev ECL_SRC_ECHOED : Field := ⟨19, 1⟩
/-- Bit 0 ICP; 1 ECLIPSE_IN; 2 fault; 3 counter -/
abbrev ECL_SRC_SOURCES : Field := ⟨0, 4⟩
/-- R423 -/
abbrev PC_CTRL_FREEZE : Field := ⟨31, 1⟩
/-- Writing 1 clears the counts and OVF -/
abbrev PC_CTRL_CLEAR : Field := ⟨30, 1⟩
/-- Bit i: PC_CNT(i) carried out of bit 47 -/
abbrev PC_CTRL_OVF : Field := ⟨0, 8⟩
/-- Domain cycles -/
abbrev PC_CYCLE_COUNT : Field := ⟨0, 64⟩
/-- Counter enabled -/
abbrev PC_SEL_EN : Field := ⟨31, 1⟩
/-- 1 level; 0 edge (R421) -/
abbrev PC_SEL_LEVEL : Field := ⟨30, 1⟩
/-- Carry triggers ECLIPSE -/
abbrev PC_SEL_TRIG : Field := ⟨29, 1⟩
/-- R424 -/
abbrev PC_SEL_QUAL : Field := ⟨16, 6⟩
/-- Event code -/
abbrev PC_SEL_EVENT : Field := ⟨0, 10⟩
/-- Count; writable to preload (R422) -/
abbrev PC_CNT_COUNT : Field := ⟨0, 48⟩
/-- PC_CYCLE at the latch -/
abbrev SNAP_CYCLE_VALUE : Field := ⟨0, 64⟩
/-- PC_CNT(i) at the latch, bits [47:0] -/
abbrev SNAP_CNT_VALUE : Field := ⟨0, 64⟩
/-- Bit 0 STOPPED (R418); bit 1 AON bank; others 0 -/
abbrev SNAP_FLAGS_VALUE : Field := ⟨0, 32⟩
/-- µs (R427) -/
abbrev SMP_CTRL_HOLDOFF : Field := ⟨8, 8⟩
/-- Overwrite when full -/
abbrev SMP_CTRL_WRAP : Field := ⟨1, 1⟩
/-- Sampling enabled -/
abbrev SMP_CTRL_EN : Field := ⟨0, 1⟩
/-- LPDDR4X address bits [33:12]. Bits below the ring size are used as 0 (R450) -/
abbrev SMP_RING_BASE_BASE : Field := ⟨12, 22⟩
/-- 16–32; values outside the range are held at the nearer limit -/
abbrev SMP_RING_SIZE_SIZE_LOG2 : Field := ⟨0, 5⟩
/-- Record index (R94); threshold in records (R96) -/
abbrev SMP_RING_WR_VALUE : Field := ⟨0, 26⟩
/-- Record index (R94); threshold in records (R96) -/
abbrev SMP_RING_RD_VALUE : Field := ⟨0, 26⟩
/-- Record index (R94); threshold in records (R96) -/
abbrev SMP_THRESH_VALUE : Field := ⟨0, 26⟩
/-- Records were overwritten -/
abbrev SMP_STATUS_OVERRUN : Field := ⟨31, 1⟩
/-- Ring full with WRAP at 0 -/
abbrev SMP_STATUS_STOPPED : Field := ⟨30, 1⟩
/-- LPDDR4X unavailable -/
abbrev SMP_STATUS_SINK_DOWN : Field := ⟨29, 1⟩
/-- A write was discarded (R95) -/
abbrev SMP_STATUS_CFG_ERR : Field := ⟨28, 1⟩
/-- entries in use, 0–4,096 -/
abbrev SMP_STATUS_USED : Field := ⟨0, 13⟩
/-- Records lost on spill, saturating -/
abbrev SMP_LOST_CNT_COUNT : Field := ⟨0, 32⟩
/-- Selections without a free entry, saturating -/
abbrev SMP_MISS_CNT_COUNT : Field := ⟨0, 32⟩
/-- Filter enabled -/
abbrev SMP_FLT_CTRL_EN : Field := ⟨31, 1⟩
/-- Bit k set matches KIND k -/
abbrev SMP_FLT_CTRL_KIND : Field := ⟨27, 4⟩
/-- Bit c set matches colour c -/
abbrev SMP_FLT_CTRL_COLOUR : Field := ⟨24, 3⟩
/-- Bit v set matches core VC v -/
abbrev SMP_FLT_CTRL_VC : Field := ⟨16, 8⟩
/-- Select 1 in SAMPLE + 1 matches -/
abbrev SMP_FLT_CTRL_SAMPLE : Field := ⟨0, 16⟩
/-- Bit p set matches ingress port p -/
abbrev SMP_FLT_PORTS_PORTS : Field := ⟨0, 64⟩
/-- Boot complete (R437) -/
abbrev BOOT_STATUS_READY : Field := ⟨31, 1⟩
/-- R439 -/
abbrev BOOT_STATUS_RECOVERY : Field := ⟨30, 1⟩
/-- This boot reverted a trial (R438) -/
abbrev BOOT_STATUS_REVERTED : Field := ⟨29, 1⟩
/-- ACTIVE was not valid; the other bank booted -/
abbrev BOOT_STATUS_ALT_BANK : Field := ⟨28, 1⟩
/-- Bank running -/
abbrev BOOT_STATUS_BANK : Field := ⟨27, 1⟩
/-- Slot that verified the manifest -/
abbrev BOOT_STATUS_KEY_SLOT : Field := ⟨22, 2⟩
/-- SVN of the image in force -/
abbrev BOOT_STATUS_SVN : Field := ⟨16, 6⟩
/-- Last row of R437 reached, counted from 1 -/
abbrev BOOT_STATUS_STAGE : Field := ⟨8, 8⟩
/-- Last image failure, below -/
abbrev BOOT_STATUS_ERR : Field := ⟨0, 8⟩
/-- µs from the start of the reset to READY -/
abbrev BOOT_TIME_US : Field := ⟨0, 32⟩
/-- CFG_FLOOR of the manifest in force -/
abbrev OTP_STATE_CFG_FLOOR : Field := ⟨32, 32⟩
/-- R434 -/
abbrev OTP_STATE_UDS_SET : Field := ⟨16, 1⟩
/-- Anti-rollback count, 0–64 -/
abbrev OTP_STATE_FW_ARB : Field := ⟨8, 7⟩
/-- Bit k: slot k revoked -/
abbrev OTP_STATE_KEY_REVOKED : Field := ⟨4, 4⟩
/-- Bit k: slot k programmed -/
abbrev OTP_STATE_KEY_PROG : Field := ⟨0, 4⟩
/-- Bytes 8i to 8i + 7 of FW_MEASURE (R436) -/
abbrev FW_MEASURE_DIGEST : Field := ⟨0, 64⟩
/-- Bytes staged since OFFSET 0 (R442) -/
abbrev STAGE_STATUS_STAGED : Field := ⟨32, 32⟩
/-- TOTAL of the staging stream -/
abbrev STAGE_STATUS_TOTAL : Field := ⟨0, 32⟩
/-- Part number -/
abbrev GLB_ID_PART : Field := ⟨16, 16⟩
/-- Silicon revision -/
abbrev GLB_ID_REV : Field := ⟨0, 8⟩
/-- Device serial number, as reported by the Device Serial Number capability (R104) and carried in SERIAL of OTP_REVOKE -/
abbrev GLB_SERIAL_SERIAL : Field := ⟨0, 64⟩
/-- Staged registers differ from those in force -/
abbrev MPU_STATUS_PENDING : Field := ⟨31, 1⟩
/-- Generation in force (R455) -/
abbrev MPU_STATUS_GEN : Field := ⟨0, 16⟩
/-- R455 -/
abbrev MPU_COMMIT_GEN : Field := ⟨0, 16⟩
/-- R455 -/
abbrev MPU_DRAIN_GEN : Field := ⟨0, 16⟩
/-- A denial is logged; clearing VALID also clears SECOND -/
abbrev MPU_DENY_LOG_VALID : Field := ⟨63, 1⟩
/-- A further denial was counted but not logged -/
abbrev MPU_DENY_LOG_SECOND : Field := ⟨62, 1⟩
/-- LPDDR4X address beyond usable memory (R458) -/
abbrev MPU_DENY_LOG_BEYOND : Field := ⟨61, 1⟩
/-- Region that decided -/
abbrev MPU_DENY_LOG_REGION : Field := ⟨55, 6⟩
/-- Master ID -/
abbrev MPU_DENY_LOG_MASTER : Field := ⟨51, 4⟩
/-- Privilege, 0–2 -/
abbrev MPU_DENY_LOG_PRIV : Field := ⟨49, 2⟩
/-- 0 read; 1 write; 2 execute -/
abbrev MPU_DENY_LOG_KIND : Field := ⟨47, 2⟩
/-- Address checked -/
abbrev MPU_DENY_LOG_ADDR : Field := ⟨0, 40⟩
/-- Denials, including BEYOND. Saturates at 0xFFFF_FFFF -/
abbrev MPU_DENY_CNT_COUNT : Field := ⟨0, 32⟩
/-- Region enabled -/
abbrev MPU_RBASE_EN : Field := ⟨63, 1⟩
/-- R456 -/
abbrev MPU_RBASE_LOCK : Field := ⟨62, 1⟩
/-- Base address bits [47:12] -/
abbrev MPU_RBASE_BASE : Field := ⟨12, 36⟩
/-- 12–40 (R453) -/
abbrev MPU_RBASE_SIZE_LOG2 : Field := ⟨0, 6⟩
/-- Large MPU: bit i, master i may write. Small MPUs: reserved -/
abbrev MPU_RATTR_WR_MASK : Field := ⟨32, 16⟩
/-- Large MPU: bit i, master i may read. Small MPUs: bits [3k+2:3k] give execute, write and read for Pk (k = 0–2); bits [15:9] reserved -/
abbrev MPU_RATTR_RD_MASK : Field := ⟨0, 16⟩
/-- Accepting accesses -/
abbrev DDR_STATUS_READY : Field := ⟨31, 1⟩
/-- Contents kept from before the last reset (R459) -/
abbrev DDR_STATUS_RETAINED : Field := ⟨30, 1⟩
/-- Initial fill complete -/
abbrev DDR_STATUS_FILL_DONE : Field := ⟨29, 1⟩
/-- Dies in self-refresh -/
abbrev DDR_STATUS_SELF_REFRESH : Field := ⟨28, 1⟩
/-- Next 8 MiB block to fill, 0–1,792 -/
abbrev DDR_STATUS_FILL_BLOCK : Field := ⟨0, 11⟩
/-- An uncorrectable error is logged; clearing VALID also clears SECOND -/
abbrev DDR_ERR_LOG_VALID : Field := ⟨63, 1⟩
/-- A further one was counted but not logged -/
abbrev DDR_ERR_LOG_SECOND : Field := ⟨62, 1⟩
/-- Master whose read found it; 8 for LAUNDER -/
abbrev DDR_ERR_LOG_MASTER : Field := ⟨58, 4⟩
/-- Address of the 64-byte burst -/
abbrev DDR_ERR_LOG_ADDR : Field := ⟨0, 34⟩
/-- Corrected words; uncorrectable bursts. Saturates at 0xFFFF_FFFF -/
abbrev DDR_CORR_CNT_COUNT : Field := ⟨0, 32⟩
/-- Corrected words; uncorrectable bursts. Saturates at 0xFFFF_FFFF -/
abbrev DDR_UE_CNT_COUNT : Field := ⟨0, 32⟩
/-- BMC target enabled -/
abbrev SB_CTRL_TGT_EN : Field := ⟨4, 1⟩
/-- Bit b: bus b enabled (R460) -/
abbrev SB_CTRL_BUS_EN : Field := ⟨0, 4⟩
/-- A poll entry write was refused (R465) -/
abbrev SB_STATUS_ERR : Field := ⟨31, 1⟩
/-- Bits [7b+6:7b]: load of bus b in percent -/
abbrev SB_STATUS_LOAD : Field := ⟨0, 28⟩
/-- Next entry to write, modulo 32; entry WR mod 16 -/
abbrev SB_ERR_PTR_WR : Field := ⟨8, 5⟩
/-- Next entry to read, modulo 32 (R464) -/
abbrev SB_ERR_PTR_RD : Field := ⟨0, 5⟩
/-- Failures not logged because the log was full. Saturates at 0xFFFF_FFFF -/
abbrev SB_ERR_OVF_COUNT : Field := ⟨0, 32⟩
/-- Bytes 8w to 8w+7 of the entry (R464) -/
abbrev SB_ERR_LOG_ENTRY : Field := ⟨0, 64⟩
/-- Entry enabled -/
abbrev SB_POLL_EN : Field := ⟨63, 1⟩
/-- Served in Dormant -/
abbrev SB_POLL_DORMANT : Field := ⟨62, 1⟩
/-- Legacy target -/
abbrev SB_POLL_LEGACY : Field := ⟨60, 1⟩
/-- Bus 0–3 -/
abbrev SB_POLL_BUS : Field := ⟨58, 2⟩
/-- 1: 2 bytes; 0: 1 byte -/
abbrev SB_POLL_WIDE : Field := ⟨57, 1⟩
/-- Target address -/
abbrev SB_POLL_ADDR : Field := ⟨50, 7⟩
/-- Register sampled -/
abbrev SB_POLL_IN_REG : Field := ⟨40, 8⟩
/-- Register written for bound outputs -/
abbrev SB_POLL_OUT_REG : Field := ⟨32, 8⟩
/-- µs, 10–10,000,000; values outside the range are held at the nearer limit -/
abbrev SB_POLL_PERIOD : Field := ⟨0, 24⟩
/-- A sample has succeeded since EN was set -/
abbrev SB_POLL_VAL_VALID : Field := ⟨63, 1⟩
/-- R466 -/
abbrev SB_POLL_VAL_FAILED : Field := ⟨62, 1⟩
/-- Shadow of OUT_REG (R466) -/
abbrev SB_POLL_VAL_OUT : Field := ⟨32, 16⟩
/-- Last good sample -/
abbrev SB_POLL_VAL_IN : Field := ⟨0, 16⟩
/-- Signal 4k + j bound (j = 0–3) -/
abbrev SB_SIGMAP_VALID (i : Nat) : Field := ⟨15 + 16 * i, 1⟩
/-- Bit is active low -/
abbrev SB_SIGMAP_INV (i : Nat) : Field := ⟨14 + 16 * i, 1⟩
/-- Bit of the entry's value; indicators use BIT and BIT + 1 -/
abbrev SB_SIGMAP_BIT (i : Nat) : Field := ⟨8 + 16 * i, 4⟩
/-- Poll entry -/
abbrev SB_SIGMAP_ENTRY (i : Nat) : Field := ⟨0 + 16 * i, 8⟩
end Fld

/-- Families 0 to 39 of the register map. -/
def famRows0 : List Family := [
  { name := "GLB_MODE_STATUS", space := .crs, base := 0x10, dim1 := (1, 0), dim2 := (1, 0), width := 32, reset := 0x5#64, retained := false,
    fields := [(.spw, Fld.GLB_MODE_STATUS_ACT_BUSY), (.spw, Fld.GLB_MODE_STATUS_FALLBACK), (.spw, Fld.GLB_MODE_STATUS_ONCE_USED), (.spw, Fld.GLB_MODE_STATUS_SELECT_SRC), (.spw, Fld.GLB_MODE_STATUS_STRAP), (.spw, Fld.GLB_MODE_STATUS_MOVER_FAULT_RESUME_EN), (.spw, Fld.GLB_MODE_STATUS_LIVE_CAL_EN), (.spw, Fld.GLB_MODE_STATUS_MODE)] },
  { name := "GLB_CONFIG_ID", space := .crs, base := 0x14, dim1 := (1, 0), dim2 := (1, 0), width := 32, reset := 0x0#64, retained := false,
    fields := [(.spw, Fld.GLB_CONFIG_ID_CONFIG_ID)] },
  { name := "GLB_OVERLAY_ID", space := .crs, base := 0x18, dim1 := (1, 0), dim2 := (1, 0), width := 32, reset := 0x0#64, retained := false,
    fields := [(.spw, Fld.GLB_OVERLAY_ID_OVERLAY_ID)] },
  { name := "GLB_MODE_ERR", space := .crs, base := 0x1c, dim1 := (1, 0), dim2 := (1, 0), width := 32, reset := 0x0#64, retained := false,
    fields := [(.spw, Fld.GLB_MODE_ERR_INDEX), (.spw, Fld.GLB_MODE_ERR_REASON)] },
  { name := "CORE_CTRL", space := .crs, base := 0x3000000, dim1 := (1, 0), dim2 := (1, 0), width := 32, reset := 0xe#64, retained := false,
    fields := [(.rw, Fld.CORE_CTRL_SPRAY_EN), (.rw, Fld.CORE_CTRL_IDO_EN), (.rw, Fld.CORE_CTRL_CT_EN)] },
  { name := "CORE_STATUS", space := .crs, base := 0x3000004, dim1 := (1, 0), dim2 := (1, 0), width := 32, reset := 0x40000#64, retained := false,
    fields := [(.rw1c, Fld.CORE_STATUS_RSV_REFUSED), (.ro, Fld.CORE_STATUS_FREE_CELLS)] },
  { name := "BUF_SHARED", space := .crs, base := 0x3000008, dim1 := (1, 0), dim2 := (1, 0), width := 32, reset := 0x3a600#64, retained := false,
    fields := [(.ro, Fld.BUF_SHARED_SHARED_CELLS)] },
  { name := "BUF_ALPHA", space := .crs, base := 0x300000c, dim1 := (1, 0), dim2 := (1, 0), width := 32, reset := 0x4666#64, retained := false,
    fields := [(.rw, Fld.BUF_ALPHA_ALPHA_DROP), (.rw, Fld.BUF_ALPHA_ALPHA_CPL), (.rw, Fld.BUF_ALPHA_ALPHA_NP), (.rw, Fld.BUF_ALPHA_ALPHA_P)] },
  { name := "SPRAY_FENCE_TO", space := .crs, base := 0x3000010, dim1 := (1, 0), dim2 := (1, 0), width := 32, reset := 0x64#64, retained := false,
    fields := [(.rw, Fld.SPRAY_FENCE_TO_TIMEOUT)] },
  { name := "CORE_NULLIFY_CNT", space := .crs, base := 0x3000020, dim1 := (1, 0), dim2 := (1, 0), width := 32, reset := 0x0#64, retained := false,
    fields := [(.rc, Fld.CORE_NULLIFY_CNT_COUNT)] },
  { name := "CORE_CTFB_CNT", space := .crs, base := 0x3000024, dim1 := (1, 0), dim2 := (1, 0), width := 32, reset := 0x0#64, retained := false,
    fields := [(.rc, Fld.CORE_CTFB_CNT_COUNT)] },
  { name := "CORE_DROP_CNT", space := .crs, base := 0x3000028, dim1 := (1, 0), dim2 := (1, 0), width := 32, reset := 0x0#64, retained := false,
    fields := [(.rc, Fld.CORE_DROP_CNT_COUNT)] },
  { name := "CORE_ACCESS_CNT", space := .crs, base := 0x300002c, dim1 := (1, 0), dim2 := (1, 0), width := 32, reset := 0x0#64, retained := false,
    fields := [(.rc, Fld.CORE_ACCESS_CNT_COUNT)] },
  { name := "CORE_ERR_LOG", space := .crs, base := 0x3000040, dim1 := (1, 0), dim2 := (1, 0), width := 64, reset := 0x0#64, retained := false,
    fields := [(.rw1c, Fld.CORE_ERR_LOG_VALID), (.rw1c, Fld.CORE_ERR_LOG_SECOND), (.ro, Fld.CORE_ERR_LOG_REQ_ID), (.ro, Fld.CORE_ERR_LOG_VSWITCH), (.ro, Fld.CORE_ERR_LOG_PORT), (.ro, Fld.CORE_ERR_LOG_STEP), (.ro, Fld.CORE_ERR_LOG_KIND), (.ro, Fld.CORE_ERR_LOG_REASON)] },
  { name := "CT_CTRL", space := .crs, base := 0x3002000, dim1 := (64, 0x4), dim2 := (1, 0), width := 32, reset := 0x0#64, retained := false,
    fields := [(.rw, Fld.CT_CTRL_TC 0), (.rw, Fld.CT_CTRL_TC 1), (.rw, Fld.CT_CTRL_TC 2), (.rw, Fld.CT_CTRL_TC 3), (.rw, Fld.CT_CTRL_TC 4), (.rw, Fld.CT_CTRL_TC 5), (.rw, Fld.CT_CTRL_TC 6), (.rw, Fld.CT_CTRL_TC 7)] },
  { name := "TC_VC_MAP", space := .crs, base := 0x3002100, dim1 := (64, 0x4), dim2 := (1, 0), width := 32, reset := 0x0#64, retained := false,
    fields := [(.rw, Fld.TC_VC_MAP_VC_OF_TC 0), (.rw, Fld.TC_VC_MAP_VC_OF_TC 1), (.rw, Fld.TC_VC_MAP_VC_OF_TC 2), (.rw, Fld.TC_VC_MAP_VC_OF_TC 3), (.rw, Fld.TC_VC_MAP_VC_OF_TC 4), (.rw, Fld.TC_VC_MAP_VC_OF_TC 5), (.rw, Fld.TC_VC_MAP_VC_OF_TC 6), (.rw, Fld.TC_VC_MAP_VC_OF_TC 7)] },
  { name := "CORE_PORT_BW", space := .crs, base := 0x3002200, dim1 := (64, 0x4), dim2 := (1, 0), width := 32, reset := 0x0#64, retained := false,
    fields := [(.ro, Fld.CORE_PORT_BW_FLIT), (.ro, Fld.CORE_PORT_BW_BW)] },
  { name := "SCHED_QUANTUM", space := .crs, base := 0x3002400, dim1 := (64, 0x8), dim2 := (1, 0), width := 64, reset := 0x4040404040404#64, retained := false,
    fields := [(.rw, Fld.SCHED_QUANTUM_Q_VC 0), (.rw, Fld.SCHED_QUANTUM_Q_VC 1), (.rw, Fld.SCHED_QUANTUM_Q_VC 2), (.rw, Fld.SCHED_QUANTUM_Q_VC 3), (.rw, Fld.SCHED_QUANTUM_Q_VC 4), (.rw, Fld.SCHED_QUANTUM_Q_VC 5), (.rw, Fld.SCHED_QUANTUM_Q_VC 6)] },
  { name := "PORT_RSV_H", space := .crs, base := 0x3004000, dim1 := (64, 0x80), dim2 := (8, 0x10), width := 32, reset := 0x1004010#64, retained := false,
    fields := [(.rw, Fld.PORT_RSV_H_CPL), (.rw, Fld.PORT_RSV_H_NP), (.rw, Fld.PORT_RSV_H_P)] },
  { name := "PORT_RSV_D", space := .crs, base := 0x3004004, dim1 := (64, 0x80), dim2 := (8, 0x10), width := 32, reset := 0x4001040#64, retained := false,
    fields := [(.rw, Fld.PORT_RSV_D_CPL), (.rw, Fld.PORT_RSV_D_NP), (.rw, Fld.PORT_RSV_D_P)] },
  { name := "CC_CTRL", space := .crs, base := 0x3100000, dim1 := (1, 0), dim2 := (1, 0), width := 32, reset := 0x6200a83#64, retained := false,
    fields := [(.rw, Fld.CC_CTRL_CAP_VC), (.rw, Fld.CC_CTRL_FB_HOLD), (.rw, Fld.CC_CTRL_FRC_IDLE), (.rw, Fld.CC_CTRL_PACE_BURST), (.rw, Fld.CC_CTRL_LOCAL_EN), (.rw, Fld.CC_CTRL_MARK_EN), (.rw, Fld.CC_CTRL_CC_EN)] },
  { name := "CC_STATUS", space := .crs, base := 0x3100004, dim1 := (1, 0), dim2 := (1, 0), width := 32, reset := 0x0#64, retained := false,
    fields := [(.rw1c, Fld.CC_STATUS_FRC_EXHAUSTED), (.ro, Fld.CC_STATUS_FRC_USED)] },
  { name := "CC_MARK_CNT", space := .crs, base := 0x3100010, dim1 := (1, 0), dim2 := (1, 0), width := 32, reset := 0x0#64, retained := false,
    fields := [(.rc, Fld.CC_MARK_CNT_COUNT)] },
  { name := "CC_DROP_CNT", space := .crs, base := 0x3100014, dim1 := (1, 0), dim2 := (1, 0), width := 32, reset := 0x0#64, retained := false,
    fields := [(.rc, Fld.CC_DROP_CNT_COUNT)] },
  { name := "CC_FB_TX_CNT", space := .crs, base := 0x3100018, dim1 := (1, 0), dim2 := (1, 0), width := 32, reset := 0x0#64, retained := false,
    fields := [(.rc, Fld.CC_FB_TX_CNT_COUNT)] },
  { name := "CC_FB_RX_CNT", space := .crs, base := 0x310001c, dim1 := (1, 0), dim2 := (1, 0), width := 32, reset := 0x0#64, retained := false,
    fields := [(.rc, Fld.CC_FB_RX_CNT_COUNT)] },
  { name := "CC_NOFRC_CNT", space := .crs, base := 0x3100020, dim1 := (1, 0), dim2 := (1, 0), width := 32, reset := 0x0#64, retained := false,
    fields := [(.rc, Fld.CC_NOFRC_CNT_COUNT)] },
  { name := "CC_FENCE_TO_CNT", space := .crs, base := 0x3100024, dim1 := (1, 0), dim2 := (1, 0), width := 32, reset := 0x0#64, retained := false,
    fields := [(.rc, Fld.CC_FENCE_TO_CNT_COUNT)] },
  { name := "RED_PROF_A", space := .crs, base := 0x3100100, dim1 := (8, 0x40), dim2 := (3, 0x10), width := 64, reset := 0x320040000400#64, retained := false,
    fields := [(.rw, Fld.RED_PROF_A_WEIGHT), (.rw, Fld.RED_PROF_A_PMAX), (.rw, Fld.RED_PROF_A_MAX_TH), (.rw, Fld.RED_PROF_A_MIN_TH)] },
  { name := "RED_PROF_B", space := .crs, base := 0x3100108, dim1 := (8, 0x40), dim2 := (3, 0x10), width := 64, reset := 0x64006404084000#64, retained := false,
    fields := [(.rw, Fld.RED_PROF_B_RMIN), (.rw, Fld.RED_PROF_B_AI), (.rw, Fld.RED_PROF_B_DEC_GAP), (.rw, Fld.RED_PROF_B_INC_PERIOD), (.rw, Fld.RED_PROF_B_BETA)] },
  { name := "METER_MAP", space := .crs, base := 0x3100400, dim1 := (64, 0x4), dim2 := (1, 0), width := 32, reset := 0x0#64, retained := false,
    fields := [(.rw, Fld.METER_MAP_EN), (.rw, Fld.METER_MAP_SPAN), (.rw, Fld.METER_MAP_BASE)] },
  { name := "TBL_ACC", space := .crs, base := 0x3100800, dim1 := (1, 0), dim2 := (1, 0), width := 32, reset := 0x0#64, retained := false,
    fields := [(.ro, Fld.TBL_ACC_BUSY), (.rw1c, Fld.TBL_ACC_ERR), (.rw, Fld.TBL_ACC_TABLE), (.rw, Fld.TBL_ACC_OP), (.rw, Fld.TBL_ACC_INDEX)] },
  { name := "TBL_DATA", space := .crs, base := 0x3100810, dim1 := (8, 0x8), dim2 := (1, 0), width := 64, reset := 0x0#64, retained := false,
    fields := [(.rw, Fld.TBL_DATA_DATA)] },
  { name := "COMET_CTRL", space := .crs, base := 0x3200000, dim1 := (1, 0), dim2 := (1, 0), width := 32, reset := 0x6400#64, retained := false,
    fields := [(.rw, Fld.COMET_CTRL_HOLDOFF), (.rw, Fld.COMET_CTRL_WRAP), (.rw, Fld.COMET_CTRL_EN)] },
  { name := "COMET_RING_BASE", space := .crs, base := 0x3200008, dim1 := (1, 0), dim2 := (1, 0), width := 64, reset := 0x0#64, retained := false,
    fields := [(.rw, Fld.COMET_RING_BASE_BASE)] },
  { name := "COMET_RING_SIZE", space := .crs, base := 0x3200010, dim1 := (1, 0), dim2 := (1, 0), width := 32, reset := 0x10#64, retained := false,
    fields := [(.rw, Fld.COMET_RING_SIZE_SIZE_LOG2)] },
  { name := "COMET_WR_PTR", space := .crs, base := 0x3200014, dim1 := (1, 0), dim2 := (1, 0), width := 32, reset := 0x0#64, retained := false,
    fields := [(.ro, Fld.COMET_WR_PTR_VALUE)] },
  { name := "COMET_RD_PTR", space := .crs, base := 0x3200018, dim1 := (1, 0), dim2 := (1, 0), width := 32, reset := 0x0#64, retained := false,
    fields := [(.rw, Fld.COMET_RD_PTR_VALUE)] },
  { name := "COMET_THRESH", space := .crs, base := 0x320001c, dim1 := (1, 0), dim2 := (1, 0), width := 32, reset := 0x0#64, retained := false,
    fields := [(.rw, Fld.COMET_THRESH_VALUE)] },
  { name := "COMET_STATUS", space := .crs, base := 0x3200020, dim1 := (1, 0), dim2 := (1, 0), width := 32, reset := 0x0#64, retained := false,
    fields := [(.rw1c, Fld.COMET_STATUS_OVERRUN), (.ro, Fld.COMET_STATUS_STOPPED), (.ro, Fld.COMET_STATUS_SINK_DOWN), (.rw1c, Fld.COMET_STATUS_CFG_ERR)] }]
/-- Families 40 to 79 of the register map. -/
def famRows1 : List Family := [
  { name := "COMET_LOST_CNT", space := .crs, base := 0x3200024, dim1 := (1, 0), dim2 := (1, 0), width := 32, reset := 0x0#64, retained := false,
    fields := [(.rc, Fld.COMET_LOST_CNT_COUNT)] },
  { name := "COMET_SEQ", space := .crs, base := 0x3200028, dim1 := (1, 0), dim2 := (1, 0), width := 32, reset := 0x0#64, retained := false,
    fields := [(.ro, Fld.COMET_SEQ_COUNT)] },
  { name := "COMET_FLT_CTRL", space := .crs, base := 0x3200100, dim1 := (16, 0x40), dim2 := (1, 0), width := 32, reset := 0x0#64, retained := false,
    fields := [(.rw, Fld.COMET_FLT_CTRL_EN), (.rw, Fld.COMET_FLT_CTRL_POINT), (.rw, Fld.COMET_FLT_CTRL_KIND), (.rw, Fld.COMET_FLT_CTRL_COLOUR), (.rw, Fld.COMET_FLT_CTRL_SAMPLE)] },
  { name := "COMET_FLT_PORTS", space := .crs, base := 0x3200108, dim1 := (16, 0x40), dim2 := (1, 0), width := 64, reset := 0x0#64, retained := false,
    fields := [(.rw, Fld.COMET_FLT_PORTS_PORTS)] },
  { name := "COMET_FLT_MATCH", space := .crs, base := 0x3200110, dim1 := (16, 0x40), dim2 := (4, 0x4), width := 32, reset := 0x0#64, retained := false,
    fields := [(.rw, Fld.COMET_FLT_MATCH_VALUE)] },
  { name := "COMET_FLT_MASK", space := .crs, base := 0x3200120, dim1 := (16, 0x40), dim2 := (4, 0x4), width := 32, reset := 0x0#64, retained := false,
    fields := [(.rw, Fld.COMET_FLT_MASK_VALUE)] },
  { name := "TIME_NOW", space := .crs, base := 0x3200800, dim1 := (1, 0), dim2 := (1, 0), width := 64, reset := 0x0#64, retained := false,
    fields := [(.ro, Fld.TIME_NOW_TIME)] },
  { name := "TIME_CTRL", space := .crs, base := 0x3200808, dim1 := (1, 0), dim2 := (1, 0), width := 32, reset := 0x80000a0a#64, retained := false,
    fields := [(.rw, Fld.TIME_CTRL_GM_ELIGIBLE), (.rw, Fld.TIME_CTRL_EXCH_PERIOD), (.rw, Fld.TIME_CTRL_STEP_TH)] },
  { name := "TIME_STATUS", space := .crs, base := 0x320080c, dim1 := (1, 0), dim2 := (1, 0), width := 32, reset := 0x0#64, retained := false,
    fields := [(.ro, Fld.TIME_STATUS_LOCKED), (.ro, Fld.TIME_STATUS_COARSE), (.ro, Fld.TIME_STATUS_GM_NODE), (.ro, Fld.TIME_STATUS_OFFSET)] },
  { name := "HOST_TIME_OFS", space := .crs, base := 0x3200900, dim1 := (32, 0x8), dim2 := (1, 0), width := 64, reset := 0x0#64, retained := false,
    fields := [(.ro, Fld.HOST_TIME_OFS_OFFSET)] },
  { name := "VSW_CTRL", space := .crs, base := 0x3008000, dim1 := (32, 0x10), dim2 := (1, 0), width := 32, reset := 0x0#64, retained := false,
    fields := [(.rw, Fld.VSW_CTRL_EN), (.ro, Fld.VSW_CTRL_READY), (.ro, Fld.VSW_CTRL_QUIESCED), (.ro, Fld.VSW_CTRL_RESETTING), (.rw, Fld.VSW_CTRL_PFL_AER), (.rw, Fld.VSW_CTRL_MGR_DIRECT), (.rw, Fld.VSW_CTRL_UP_PORT), (.rw, Fld.VSW_CTRL_NUM_VBR), (.rw, Fld.VSW_CTRL_PERST_SEL)] },
  { name := "VSW_GLOBAL", space := .crs, base := 0x3008800, dim1 := (1, 0), dim2 := (1, 0), width := 32, reset := 0x100#64, retained := false,
    fields := [(.rw, Fld.VSW_GLOBAL_PF_GUARD_EN), (.rw, Fld.VSW_GLOBAL_MGR_VSWITCH)] },
  { name := "VBR_MAP", space := .crs, base := 0x300a000, dim1 := (32, 0x100), dim2 := (63, 0x4), width := 32, reset := 0x0#64, retained := false,
    fields := [(.rw, Fld.VBR_MAP_VALID), (.rw, Fld.VBR_MAP_DIRECT), (.rw, Fld.VBR_MAP_PORT), (.ro, Fld.VBR_MAP_DPC_HELD), (.ro, Fld.VBR_MAP_SUB_BUS), (.ro, Fld.VBR_MAP_SEC_BUS)] },
  { name := "MGMT_LP_WIN", space := .crs, base := 0x300c000, dim1 := (32, 0x10), dim2 := (1, 0), width := 64, reset := 0x0#64, retained := false,
    fields := [(.rw, Fld.MGMT_LP_WIN_BASE), (.rw, Fld.MGMT_LP_WIN_SIZE_LOG2)] },
  { name := "MGMT_FAP", space := .crs, base := 0x300c008, dim1 := (32, 0x10), dim2 := (1, 0), width := 32, reset := 0x0#64, retained := false,
    fields := [(.rw, Fld.MGMT_FAP_SIZE_LOG2)] },
  { name := "DEV_BUS", space := .crs, base := 0x300c800, dim1 := (64, 0x4), dim2 := (1, 0), width := 32, reset := 0x0#64, retained := false,
    fields := [(.rw, Fld.DEV_BUS_DEV_BUS_COUNT), (.rw, Fld.DEV_BUS_DEV_BUS_BASE)] },
  { name := "BIND_ACC", space := .crs, base := 0x4008000, dim1 := (1, 0), dim2 := (1, 0), width := 32, reset := 0x0#64, retained := false,
    fields := [(.ro, Fld.BIND_ACC_BUSY), (.rw1c, Fld.BIND_ACC_ERR), (.rw, Fld.BIND_ACC_OP), (.rw, Fld.BIND_ACC_INDEX)] },
  { name := "BIND_STATUS", space := .crs, base := 0x4008004, dim1 := (1, 0), dim2 := (1, 0), width := 32, reset := 0x0#64, retained := false,
    fields := [(.ro, Fld.BIND_STATUS_USED)] },
  { name := "BIND_UNBOUND_CNT", space := .crs, base := 0x4008008, dim1 := (1, 0), dim2 := (1, 0), width := 32, reset := 0x0#64, retained := false,
    fields := [(.rc, Fld.BIND_UNBOUND_CNT_COUNT)] },
  { name := "BIND_GUARD_CNT", space := .crs, base := 0x400800c, dim1 := (1, 0), dim2 := (1, 0), width := 32, reset := 0x0#64, retained := false,
    fields := [(.rc, Fld.BIND_GUARD_CNT_COUNT)] },
  { name := "BIND_DATA", space := .crs, base := 0x4008010, dim1 := (2, 0x8), dim2 := (1, 0), width := 64, reset := 0x0#64, retained := false,
    fields := [(.rw, Fld.BIND_DATA_DATA)] },
  { name := "FAB_ID", space := .crs, base := 0x4000000, dim1 := (1, 0), dim2 := (1, 0), width := 32, reset := 0x0#64, retained := false,
    fields := [(.ro, Fld.FAB_ID_PAIR), (.spw, Fld.FAB_ID_NODE)] },
  { name := "FAM_ACC", space := .crs, base := 0x4000010, dim1 := (1, 0), dim2 := (1, 0), width := 32, reset := 0x0#64, retained := false,
    fields := [(.ro, Fld.FAM_ACC_BUSY), (.rw1c, Fld.FAM_ACC_ERR), (.rw, Fld.FAM_ACC_OP), (.rw, Fld.FAM_ACC_INDEX)] },
  { name := "FAM_STATUS", space := .crs, base := 0x4000014, dim1 := (1, 0), dim2 := (1, 0), width := 32, reset := 0x0#64, retained := false,
    fields := [(.ro, Fld.FAM_STATUS_USED)] },
  { name := "FAM_DATA", space := .crs, base := 0x4000020, dim1 := (4, 0x8), dim2 := (1, 0), width := 64, reset := 0x0#64, retained := false,
    fields := [(.rw, Fld.FAM_DATA_DATA)] },
  { name := "ROUTE_CTRL", space := .crs, base := 0x4001000, dim1 := (1, 0), dim2 := (1, 0), width := 32, reset := 0x1#64, retained := false,
    fields := [(.rw, Fld.ROUTE_CTRL_HASH_SEED), (.rw, Fld.ROUTE_CTRL_ADV_EN)] },
  { name := "ROUTE_ACC", space := .crs, base := 0x4001004, dim1 := (1, 0), dim2 := (1, 0), width := 32, reset := 0x0#64, retained := false,
    fields := [(.ro, Fld.ROUTE_ACC_BUSY), (.rw1c, Fld.ROUTE_ACC_ERR), (.rw, Fld.ROUTE_ACC_OP), (.rw, Fld.ROUTE_ACC_INDEX)] },
  { name := "ROUTE_STATUS", space := .crs, base := 0x4001008, dim1 := (1, 0), dim2 := (1, 0), width := 32, reset := 0x0#64, retained := false,
    fields := [(.ro, Fld.ROUTE_STATUS_UNREACH)] },
  { name := "ADV_TX_CNT", space := .crs, base := 0x4001010, dim1 := (1, 0), dim2 := (1, 0), width := 32, reset := 0x0#64, retained := false,
    fields := [(.rc, Fld.ADV_TX_CNT_COUNT)] },
  { name := "ADV_RX_CNT", space := .crs, base := 0x4001014, dim1 := (1, 0), dim2 := (1, 0), width := 32, reset := 0x0#64, retained := false,
    fields := [(.rc, Fld.ADV_RX_CNT_COUNT)] },
  { name := "ADV_MISMATCH_CNT", space := .crs, base := 0x4001018, dim1 := (1, 0), dim2 := (1, 0), width := 32, reset := 0x0#64, retained := false,
    fields := [(.rc, Fld.ADV_MISMATCH_CNT_COUNT)] },
  { name := "MOVE_HOLD_CNT", space := .crs, base := 0x400101c, dim1 := (1, 0), dim2 := (1, 0), width := 32, reset := 0x0#64, retained := false,
    fields := [(.rc, Fld.MOVE_HOLD_CNT_COUNT)] },
  { name := "ROUTE_DATA", space := .crs, base := 0x4001040, dim1 := (8, 0x8), dim2 := (1, 0), width := 64, reset := 0x0#64, retained := false,
    fields := [(.rw, Fld.ROUTE_DATA_DATA)] },
  { name := "EPOCH_CUR", space := .crs, base := 0x4002000, dim1 := (1, 0), dim2 := (1, 0), width := 32, reset := 0x0#64, retained := false,
    fields := [(.ro, Fld.EPOCH_CUR_EPOCH)] },
  { name := "EPOCH_CTRL", space := .crs, base := 0x4002004, dim1 := (1, 0), dim2 := (1, 0), width := 32, reset := 0x14#64, retained := false,
    fields := [(.rw, Fld.EPOCH_CTRL_SYNC_LIMIT)] },
  { name := "EPOCH_INFLIGHT", space := .crs, base := 0x4002008, dim1 := (1, 0), dim2 := (1, 0), width := 64, reset := 0x0#64, retained := false,
    fields := [(.ro, Fld.EPOCH_INFLIGHT_SLOT 0), (.ro, Fld.EPOCH_INFLIGHT_SLOT 1), (.ro, Fld.EPOCH_INFLIGHT_SLOT 2), (.ro, Fld.EPOCH_INFLIGHT_SLOT 3)] },
  { name := "EPOCH_RECHECK_CNT", space := .crs, base := 0x4002010, dim1 := (1, 0), dim2 := (1, 0), width := 32, reset := 0x0#64, retained := false,
    fields := [(.rc, Fld.EPOCH_RECHECK_CNT_COUNT)] },
  { name := "EPOCH_RECHECK_FAIL_CNT", space := .crs, base := 0x4002014, dim1 := (1, 0), dim2 := (1, 0), width := 32, reset := 0x0#64, retained := false,
    fields := [(.rc, Fld.EPOCH_RECHECK_FAIL_CNT_COUNT)] },
  { name := "FER_CTRL", space := .crs, base := 0x4003000, dim1 := (1, 0), dim2 := (1, 0), width := 32, reset := 0xa000a#64, retained := false,
    fields := [(.rw, Fld.FER_CTRL_FER_RETRY), (.rw, Fld.FER_CTRL_FER_HOLD)] },
  { name := "FER_TX_CNT", space := .crs, base := 0x4003004, dim1 := (1, 0), dim2 := (1, 0), width := 32, reset := 0x0#64, retained := false,
    fields := [(.rc, Fld.FER_TX_CNT_COUNT)] }]
/-- Families 80 to 119 of the register map. -/
def famRows2 : List Family := [
  { name := "FER_RX_CNT", space := .crs, base := 0x4003008, dim1 := (1, 0), dim2 := (1, 0), width := 32, reset := 0x0#64, retained := false,
    fields := [(.rc, Fld.FER_RX_CNT_COUNT)] },
  { name := "FER_LOST_CNT", space := .crs, base := 0x400300c, dim1 := (1, 0), dim2 := (1, 0), width := 32, reset := 0x0#64, retained := false,
    fields := [(.rc, Fld.FER_LOST_CNT_COUNT)] },
  { name := "FER_DUP_CNT", space := .crs, base := 0x4003010, dim1 := (1, 0), dim2 := (1, 0), width := 32, reset := 0x0#64, retained := false,
    fields := [(.rc, Fld.FER_DUP_CNT_COUNT)] },
  { name := "PFL_PTR", space := .crs, base := 0x4004000, dim1 := (32, 0x10), dim2 := (1, 0), width := 32, reset := 0x0#64, retained := false,
    fields := [(.ro, Fld.PFL_PTR_WR), (.rw, Fld.PFL_PTR_RD)] },
  { name := "PFL_OVF", space := .crs, base := 0x4004004, dim1 := (32, 0x10), dim2 := (1, 0), width := 32, reset := 0x0#64, retained := false,
    fields := [(.rc, Fld.PFL_OVF_COUNT)] },
  { name := "CTX_CTRL", space := .crs, base := 0x5000000, dim1 := (1, 0), dim2 := (1, 0), width := 32, reset := 0x10000#64, retained := false,
    fields := [(.rw, Fld.CTX_CTRL_FAB_QUOTA)] },
  { name := "CTX_STATUS", space := .crs, base := 0x5000004, dim1 := (1, 0), dim2 := (1, 0), width := 32, reset := 0x0#64, retained := false,
    fields := [(.rw1c, Fld.CTX_STATUS_EXHAUSTED), (.ro, Fld.CTX_STATUS_USED)] },
  { name := "LATE_CPL_CNT", space := .crs, base := 0x5000010, dim1 := (1, 0), dim2 := (1, 0), width := 32, reset := 0x0#64, retained := false,
    fields := [(.rc, Fld.LATE_CPL_CNT_COUNT)] },
  { name := "CTO_CNT", space := .crs, base := 0x5000014, dim1 := (1, 0), dim2 := (1, 0), width := 32, reset := 0x0#64, retained := false,
    fields := [(.rc, Fld.CTO_CNT_COUNT)] },
  { name := "ORPHAN_CNT", space := .crs, base := 0x5000018, dim1 := (1, 0), dim2 := (1, 0), width := 32, reset := 0x0#64, retained := false,
    fields := [(.rc, Fld.ORPHAN_CNT_COUNT)] },
  { name := "CTX_WAIT_CNT", space := .crs, base := 0x500001c, dim1 := (1, 0), dim2 := (1, 0), width := 32, reset := 0x0#64, retained := false,
    fields := [(.rc, Fld.CTX_WAIT_CNT_COUNT)] },
  { name := "FER_STALE_CNT", space := .crs, base := 0x5000020, dim1 := (1, 0), dim2 := (1, 0), width := 32, reset := 0x0#64, retained := false,
    fields := [(.rc, Fld.FER_STALE_CNT_COUNT)] },
  { name := "LATE_LOG", space := .crs, base := 0x5000040, dim1 := (1, 0), dim2 := (1, 0), width := 64, reset := 0x0#64, retained := false,
    fields := [(.rw1c, Fld.LATE_LOG_VALID), (.rw1c, Fld.LATE_LOG_SECOND), (.ro, Fld.LATE_LOG_PORT), (.ro, Fld.LATE_LOG_CALEZ), (.ro, Fld.LATE_LOG_NODE), (.ro, Fld.LATE_LOG_GEN), (.ro, Fld.LATE_LOG_ID), (.ro, Fld.LATE_LOG_CPL_ID)] },
  { name := "CTO", space := .crs, base := 0x5000100, dim1 := (32, 0x4), dim2 := (1, 0), width := 32, reset := 0xc350#64, retained := false,
    fields := [(.rw, Fld.CTO_TO_DATA), (.rw, Fld.CTO_TIMEOUT)] },
  { name := "CTX_QUOTA", space := .crs, base := 0x5000200, dim1 := (32, 0x4), dim2 := (1, 0), width := 32, reset := 0x4000#64, retained := false,
    fields := [(.rw, Fld.CTX_QUOTA_QUOTA)] },
  { name := "CTX_PORT_CFG", space := .crs, base := 0x5000400, dim1 := (64, 0x4), dim2 := (1, 0), width := 32, reset := 0x64#64, retained := false,
    fields := [(.rw, Fld.CTX_PORT_CFG_TAG_BITS), (.rw, Fld.CTX_PORT_CFG_QUAR_TIME)] },
  { name := "CTX_ACC", space := .crs, base := 0x5000800, dim1 := (1, 0), dim2 := (1, 0), width := 32, reset := 0x0#64, retained := false,
    fields := [(.ro, Fld.CTX_ACC_BUSY), (.rw1c, Fld.CTX_ACC_ERR), (.rw, Fld.CTX_ACC_OP), (.rw, Fld.CTX_ACC_INDEX)] },
  { name := "CTX_DATA", space := .crs, base := 0x5000810, dim1 := (3, 0x8), dim2 := (1, 0), width := 64, reset := 0x0#64, retained := false,
    fields := [(.ro, Fld.CTX_DATA_DATA)] },
  { name := "CZ_CTRL", space := .crs, base := 0x7000000, dim1 := (32, 0x10000), dim2 := (1, 0), width := 32, reset := 0x6000001f#64, retained := false,
    fields := [(.rw, Fld.CZ_CTRL_TRAIN_EN), (.rw, Fld.CZ_CTRL_AUTO_RETRAIN), (.rw, Fld.CZ_CTRL_QUIET_EN), (.spw, Fld.CZ_CTRL_TWIN), (.wo, Fld.CZ_CTRL_RESET_REQ), (.rw, Fld.CZ_CTRL_TEST_EN), (.rw, Fld.CZ_CTRL_OFFER_R), (.rw, Fld.CZ_CTRL_OFFER_W)] },
  { name := "CZ_TIMER", space := .crs, base := 0x7000004, dim1 := (32, 0x10000), dim2 := (1, 0), width := 32, reset := 0x140a0804#64, retained := false,
    fields := [(.rw, Fld.CZ_TIMER_QUIET_IDLE), (.rw, Fld.CZ_TIMER_RESOLVE_TO), (.rw, Fld.CZ_TIMER_LD_TIMEOUT), (.rw, Fld.CZ_TIMER_KA_INTERVAL)] },
  { name := "CZ_STATUS", space := .crs, base := 0x7000008, dim1 := (32, 0x10000), dim2 := (1, 0), width := 32, reset := 0x0#64, retained := false,
    fields := [(.ro, Fld.CZ_STATUS_STATE), (.ro, Fld.CZ_STATUS_WIDTH), (.ro, Fld.CZ_STATUS_RATE), (.ro, Fld.CZ_STATUS_LEAD), (.ro, Fld.CZ_STATUS_LANE_BASE), (.ro, Fld.CZ_STATUS_PASS), (.ro, Fld.CZ_STATUS_RESOLVE_PENDING), (.ro, Fld.CZ_STATUS_REVERSED), (.ro, Fld.CZ_STATUS_SESSION)] },
  { name := "CZ_PEER", space := .crs, base := 0x700000c, dim1 := (32, 0x10000), dim2 := (1, 0), width := 32, reset := 0x0#64, retained := false,
    fields := [(.ro, Fld.CZ_PEER_PEER_NODE), (.ro, Fld.CZ_PEER_PEER_PORT), (.ro, Fld.CZ_PEER_PEER_SESSION)] },
  { name := "CZ_DOWN", space := .crs, base := 0x7000010, dim1 := (32, 0x10000), dim2 := (1, 0), width := 32, reset := 0x0#64, retained := false,
    fields := [(.ro, Fld.CZ_DOWN_STATE), (.ro, Fld.CZ_DOWN_REASON)] },
  { name := "CZ_REPLAY", space := .crs, base := 0x7000014, dim1 := (32, 0x10000), dim2 := (1, 0), width := 32, reset := 0x0#64, retained := false,
    fields := [(.ro, Fld.CZ_REPLAY_UNACKED), (.ro, Fld.CZ_REPLAY_STORE_USED)] },
  { name := "CZ_STORED", space := .crs, base := 0x7000018, dim1 := (32, 0x10000), dim2 := (1, 0), width := 32, reset := 0x0#64, retained := false,
    fields := [(.ro, Fld.CZ_STORED_VALID), (.ro, Fld.CZ_STORED_WIDTH), (.ro, Fld.CZ_STORED_RATE), (.ro, Fld.CZ_STORED_PARTNER_NODE), (.ro, Fld.CZ_STORED_PARTNER_PORT), (.wo, Fld.CZ_STORED_CLEAR)] },
  { name := "CZ_FEC_CORR_CNT", space := .crs, base := 0x7000020, dim1 := (32, 0x10000), dim2 := (1, 0), width := 32, reset := 0x0#64, retained := false,
    fields := [(.rc, Fld.CZ_FEC_CORR_CNT_COUNT)] },
  { name := "CZ_FEC_UNCORR_CNT", space := .crs, base := 0x7000024, dim1 := (32, 0x10000), dim2 := (1, 0), width := 32, reset := 0x0#64, retained := false,
    fields := [(.rc, Fld.CZ_FEC_UNCORR_CNT_COUNT)] },
  { name := "CZ_CRC_ERR_CNT", space := .crs, base := 0x7000028, dim1 := (32, 0x10000), dim2 := (1, 0), width := 32, reset := 0x0#64, retained := false,
    fields := [(.rc, Fld.CZ_CRC_ERR_CNT_COUNT)] },
  { name := "CZ_NAK_CNT", space := .crs, base := 0x700002c, dim1 := (32, 0x10000), dim2 := (1, 0), width := 32, reset := 0x0#64, retained := false,
    fields := [(.rc, Fld.CZ_NAK_CNT_COUNT)] },
  { name := "CZ_REPLAY_CNT", space := .crs, base := 0x7000030, dim1 := (32, 0x10000), dim2 := (1, 0), width := 32, reset := 0x0#64, retained := false,
    fields := [(.rc, Fld.CZ_REPLAY_CNT_COUNT)] },
  { name := "CZ_DUP_CNT", space := .crs, base := 0x7000034, dim1 := (32, 0x10000), dim2 := (1, 0), width := 32, reset := 0x0#64, retained := false,
    fields := [(.rc, Fld.CZ_DUP_CNT_COUNT)] },
  { name := "CZ_ABORT_CNT", space := .crs, base := 0x7000038, dim1 := (32, 0x10000), dim2 := (1, 0), width := 32, reset := 0x0#64, retained := false,
    fields := [(.rc, Fld.CZ_ABORT_CNT_COUNT)] },
  { name := "CZ_DOWN_CNT", space := .crs, base := 0x700003c, dim1 := (32, 0x10000), dim2 := (1, 0), width := 32, reset := 0x0#64, retained := false,
    fields := [(.rc, Fld.CZ_DOWN_CNT_COUNT)] },
  { name := "CZ_INDOUBT_CNT", space := .crs, base := 0x7000040, dim1 := (32, 0x10000), dim2 := (1, 0), width := 32, reset := 0x0#64, retained := false,
    fields := [(.rc, Fld.CZ_INDOUBT_CNT_COUNT)] },
  { name := "CZ_UNKNOWN_CNT", space := .crs, base := 0x7000044, dim1 := (32, 0x10000), dim2 := (1, 0), width := 32, reset := 0x0#64, retained := false,
    fields := [(.rc, Fld.CZ_UNKNOWN_CNT_COUNT)] },
  { name := "CZ_TEST_ERR", space := .crs, base := 0x7000048, dim1 := (32, 0x10000), dim2 := (1, 0), width := 32, reset := 0x0#64, retained := false,
    fields := [(.rc, Fld.CZ_TEST_ERR_COUNT)] },
  { name := "CZ_TIME_EXCH_CNT", space := .crs, base := 0x700004c, dim1 := (32, 0x10000), dim2 := (1, 0), width := 32, reset := 0x0#64, retained := false,
    fields := [(.rc, Fld.CZ_TIME_EXCH_CNT_COUNT)] },
  { name := "CZ_CREDIT", space := .crs, base := 0x7000100, dim1 := (32, 0x10000), dim2 := (8, 0x8), width := 64, reset := 0x0#64, retained := false,
    fields := [(.ro, Fld.CZ_CREDIT_CPL), (.ro, Fld.CZ_CREDIT_NP), (.ro, Fld.CZ_CREDIT_P)] },
  { name := "TWIN_CTRL", space := .crs, base := 0xd000000, dim1 := (1, 0), dim2 := (1, 0), width := 32, reset := 0xc0006400#64, retained := false,
    fields := [(.spw, Fld.TWIN_CTRL_AUTO_TAKEOVER), (.spw, Fld.TWIN_CTRL_AUTO_HANDBACK), (.spw, Fld.TWIN_CTRL_HB_RUN), (.spw, Fld.TWIN_CTRL_JOIN_WAIT)] },
  { name := "TWIN_STATUS", space := .crs, base := 0xd000004, dim1 := (1, 0), dim2 := (1, 0), width := 32, reset := 0x0#64, retained := false,
    fields := [(.spw, Fld.TWIN_STATUS_STATE), (.ro, Fld.TWIN_STATUS_LINK_UP), (.ro, Fld.TWIN_STATUS_HB_ALIVE), (.spw, Fld.TWIN_STATUS_HB_FAULT), (.spw, Fld.TWIN_STATUS_RESYNC_BUSY), (.ro, Fld.TWIN_STATUS_PARTNER_NODE), (.spw, Fld.TWIN_STATUS_CAUSE)] }]
/-- Families 120 to 159 of the register map. -/
def famRows3 : List Family := [
  { name := "TWIN_EVENT", space := .crs, base := 0xd000008, dim1 := (1, 0), dim2 := (1, 0), width := 32, reset := 0x0#64, retained := false,
    fields := [(.rw1c, Fld.TWIN_EVENT_DUAL_TAKEOVER), (.rw1c, Fld.TWIN_EVENT_TXN_SETTLED), (.rw1c, Fld.TWIN_EVENT_HB_FAULT), (.rw1c, Fld.TWIN_EVENT_LEFT), (.rw1c, Fld.TWIN_EVENT_HANDBACK), (.rw1c, Fld.TWIN_EVENT_PAIRED), (.rw1c, Fld.TWIN_EVENT_SPLIT), (.rw1c, Fld.TWIN_EVENT_TAKEOVER)] },
  { name := "TWIN_FO_TIME", space := .crs, base := 0xd00000c, dim1 := (1, 0), dim2 := (1, 0), width := 32, reset := 0x0#64, retained := false,
    fields := [(.spw, Fld.TWIN_FO_TIME_DECIDE), (.spw, Fld.TWIN_FO_TIME_FLIP)] },
  { name := "TWIN_TXN", space := .crs, base := 0xd000010, dim1 := (1, 0), dim2 := (1, 0), width := 64, reset := 0x0#64, retained := false,
    fields := [(.spw, Fld.TWIN_TXN_TXN), (.spw, Fld.TWIN_TXN_COORD), (.spw, Fld.TWIN_TXN_FATE)] },
  { name := "TWIN_PREP_CNT", space := .crs, base := 0xd000020, dim1 := (1, 0), dim2 := (1, 0), width := 32, reset := 0x0#64, retained := false,
    fields := [(.rc, Fld.TWIN_PREP_CNT_COUNT)] },
  { name := "TWIN_REFUSE_CNT", space := .crs, base := 0xd000024, dim1 := (1, 0), dim2 := (1, 0), width := 32, reset := 0x0#64, retained := false,
    fields := [(.rc, Fld.TWIN_REFUSE_CNT_COUNT)] },
  { name := "TWIN_TO_CNT", space := .crs, base := 0xd000028, dim1 := (1, 0), dim2 := (1, 0), width := 32, reset := 0x0#64, retained := false,
    fields := [(.rc, Fld.TWIN_TO_CNT_COUNT)] },
  { name := "TWIN_CHK_ERR_CNT", space := .crs, base := 0xd00002c, dim1 := (1, 0), dim2 := (1, 0), width := 32, reset := 0x0#64, retained := false,
    fields := [(.rc, Fld.TWIN_CHK_ERR_CNT_COUNT)] },
  { name := "TWIN_ORPHAN_CNT", space := .crs, base := 0xd000030, dim1 := (1, 0), dim2 := (1, 0), width := 32, reset := 0x0#64, retained := false,
    fields := [(.rc, Fld.TWIN_ORPHAN_CNT_COUNT)] },
  { name := "TWIN_SHADOW_ACC", space := .crs, base := 0xd000040, dim1 := (1, 0), dim2 := (1, 0), width := 32, reset := 0x0#64, retained := false,
    fields := [(.ro, Fld.TWIN_SHADOW_ACC_BUSY), (.rw1c, Fld.TWIN_SHADOW_ACC_ERR), (.rw, Fld.TWIN_SHADOW_ACC_TABLE), (.rw, Fld.TWIN_SHADOW_ACC_OP), (.rw, Fld.TWIN_SHADOW_ACC_INDEX)] },
  { name := "TWIN_SHADOW_USED", space := .crs, base := 0xd000048, dim1 := (1, 0), dim2 := (1, 0), width := 64, reset := 0x0#64, retained := false,
    fields := [(.ro, Fld.TWIN_SHADOW_USED_ROUTE), (.ro, Fld.TWIN_SHADOW_USED_BIND), (.ro, Fld.TWIN_SHADOW_USED_FAM)] },
  { name := "TWIN_SHADOW_DATA", space := .crs, base := 0xd000080, dim1 := (8, 0x8), dim2 := (1, 0), width := 64, reset := 0x0#64, retained := false,
    fields := [(.ro, Fld.TWIN_SHADOW_DATA_DATA)] },
  { name := "TWIN_PORT_MAP", space := .crs, base := 0xd001000, dim1 := (64, 0x10), dim2 := (1, 0), width := 64, reset := 0x0#64, retained := false,
    fields := [(.rw, Fld.TWIN_PORT_MAP_VALID), (.rw, Fld.TWIN_PORT_MAP_LOCAL_PORT), (.rw, Fld.TWIN_PORT_MAP_PROXY_RID)] },
  { name := "TWIN_PORT_OFS", space := .crs, base := 0xd001008, dim1 := (64, 0x10), dim2 := (1, 0), width := 64, reset := 0x0#64, retained := false,
    fields := [(.rw, Fld.TWIN_PORT_OFS_ADDR_OFS)] },
  { name := "MV_CTRL", space := .crs, base := 0x6000000, dim1 := (1, 0), dim2 := (1, 0), width := 32, reset := 0xffff0000#64, retained := false,
    fields := [(.rw, Fld.MV_CTRL_ENG_EN), (.wo, Fld.MV_CTRL_ATC_FLUSH)] },
  { name := "MV_STATUS", space := .crs, base := 0x6000004, dim1 := (1, 0), dim2 := (1, 0), width := 32, reset := 0x0#64, retained := false,
    fields := [(.ro, Fld.MV_STATUS_ENG_BUSY), (.ro, Fld.MV_STATUS_PARKED)] },
  { name := "MV_DESC_CNT", space := .crs, base := 0x6000020, dim1 := (1, 0), dim2 := (1, 0), width := 32, reset := 0x0#64, retained := false,
    fields := [(.rc, Fld.MV_DESC_CNT_COUNT)] },
  { name := "MV_PARK_CNT", space := .crs, base := 0x6000024, dim1 := (1, 0), dim2 := (1, 0), width := 32, reset := 0x0#64, retained := false,
    fields := [(.rc, Fld.MV_PARK_CNT_COUNT)] },
  { name := "MV_PREEMPT_CNT", space := .crs, base := 0x6000028, dim1 := (1, 0), dim2 := (1, 0), width := 32, reset := 0x0#64, retained := false,
    fields := [(.rc, Fld.MV_PREEMPT_CNT_COUNT)] },
  { name := "MV_XLAT_FAULT_CNT", space := .crs, base := 0x600002c, dim1 := (1, 0), dim2 := (1, 0), width := 32, reset := 0x0#64, retained := false,
    fields := [(.rc, Fld.MV_XLAT_FAULT_CNT_COUNT)] },
  { name := "MV_DISCARD_CNT", space := .crs, base := 0x6000030, dim1 := (1, 0), dim2 := (1, 0), width := 32, reset := 0x0#64, retained := false,
    fields := [(.rc, Fld.MV_DISCARD_CNT_COUNT)] },
  { name := "MV_PRG_STALE_CNT", space := .crs, base := 0x6000034, dim1 := (1, 0), dim2 := (1, 0), width := 32, reset := 0x0#64, retained := false,
    fields := [(.rc, Fld.MV_PRG_STALE_CNT_COUNT)] },
  { name := "MV_ATC_MISS_CNT", space := .crs, base := 0x6000038, dim1 := (1, 0), dim2 := (1, 0), width := 32, reset := 0x0#64, retained := false,
    fields := [(.rc, Fld.MV_ATC_MISS_CNT_COUNT)] },
  { name := "MV_INV_CNT", space := .crs, base := 0x600003c, dim1 := (1, 0), dim2 := (1, 0), width := 32, reset := 0x0#64, retained := false,
    fields := [(.rc, Fld.MV_INV_CNT_COUNT)] },
  { name := "MV_ENG_STATE", space := .crs, base := 0x6000100, dim1 := (16, 0x8), dim2 := (1, 0), width := 64, reset := 0x0#64, retained := false,
    fields := [(.ro, Fld.MV_ENG_STATE_VALID), (.ro, Fld.MV_ENG_STATE_STATE), (.ro, Fld.MV_ENG_STATE_INSTANCE), (.ro, Fld.MV_ENG_STATE_PRIORITY), (.ro, Fld.MV_ENG_STATE_OFFSET)] },
  { name := "MV_INST_BIND", space := .crs, base := 0x6001000, dim1 := (4096, 0x4), dim2 := (1, 0), width := 32, reset := 0x0#64, retained := false,
    fields := [(.rw, Fld.MV_INST_BIND_VALID), (.rw, Fld.MV_INST_BIND_VSWITCH)] },
  { name := "MV_ATC_QUOTA", space := .crs, base := 0x6008000, dim1 := (32, 0x4), dim2 := (1, 0), width := 32, reset := 0x200#64, retained := false,
    fields := [(.rw, Fld.MV_ATC_QUOTA_QUOTA)] },
  { name := "MV_DIRTY_REGION", space := .crs, base := 0x6009000, dim1 := (1, 0), dim2 := (1, 0), width := 64, reset := 0x0#64, retained := false,
    fields := [(.rw, Fld.MV_DIRTY_REGION_BASE), (.rw, Fld.MV_DIRTY_REGION_SIZE_LOG2)] },
  { name := "INST_STATUS", space := .moverBar2, base := 0x8, dim1 := (4096, 0x1000), dim2 := (1, 0), width := 32, reset := 0x20000000#64, retained := false,
    fields := [(.ro, Fld.INST_STATUS_STATE), (.rw1c, Fld.INST_STATUS_DB_ERR), (.ro, Fld.INST_STATUS_DIRTY_ON), (.ro, Fld.INST_STATUS_MB_IN_FULL), (.ro, Fld.INST_STATUS_MB_OUT_BUSY), (.ro, Fld.INST_STATUS_LAST_ERR)] },
  { name := "INST_TAIL", space := .moverBar2, base := 0x0, dim1 := (4096, 0x1000), dim2 := (1, 0), width := 32, reset := 0x0#64, retained := false,
    fields := [(.rw, Fld.INST_TAIL_COUNT)] },
  { name := "INST_HEAD", space := .moverBar2, base := 0x4, dim1 := (4096, 0x1000), dim2 := (1, 0), width := 32, reset := 0x0#64, retained := false,
    fields := [(.ro, Fld.INST_HEAD_COUNT)] },
  { name := "INST_MB_CTRL", space := .moverBar2, base := 0xc, dim1 := (4096, 0x1000), dim2 := (1, 0), width := 32, reset := 0x0#64, retained := false,
    fields := [(.wo, Fld.INST_MB_CTRL_ACK), (.wo, Fld.INST_MB_CTRL_SEND)] },
  { name := "INST_ABORT_CNT", space := .moverBar2, base := 0x10, dim1 := (4096, 0x1000), dim2 := (1, 0), width := 32, reset := 0x0#64, retained := false,
    fields := [(.rc, Fld.INST_ABORT_CNT_COUNT)] },
  { name := "INST_BYTES", space := .moverBar2, base := 0x18, dim1 := (4096, 0x1000), dim2 := (1, 0), width := 64, reset := 0x0#64, retained := false,
    fields := [(.ro, Fld.INST_BYTES_COUNT)] },
  { name := "MVPF_INST_SEL", space := .moverBar0, base := 0x10, dim1 := (32, 0x0), dim2 := (1, 0), width := 32, reset := 0x0#64, retained := false,
    fields := [(.ro, Fld.MVPF_INST_SEL_BOUND), (.rw, Fld.MVPF_INST_SEL_INSTANCE)] },
  { name := "INST_CTRL", space := .moverBar0, base := 0x140, dim1 := (32, 0x0), dim2 := (1, 0), width := 32, reset := 0x0#64, retained := false,
    fields := [(.wo, Fld.INST_CTRL_ABORT), (.wo, Fld.INST_CTRL_QUIESCE), (.wo, Fld.INST_CTRL_DISABLE), (.wo, Fld.INST_CTRL_ENABLE)] },
  { name := "TILE_CFG", space := .crs, base := 0x1000000, dim1 := (16, 0x100000), dim2 := (1, 0), width := 64, reset := 0x0#64, retained := false,
    fields := [(.spw, Fld.TILE_CFG_SPLIT), (.spw, Fld.TILE_CFG_EN 0), (.spw, Fld.TILE_CFG_EN 1), (.spw, Fld.TILE_CFG_EN 2), (.spw, Fld.TILE_CFG_EN 3), (.spw, Fld.TILE_CFG_CALEZ 0), (.spw, Fld.TILE_CFG_CALEZ 1), (.spw, Fld.TILE_CFG_CALEZ 2), (.spw, Fld.TILE_CFG_CALEZ 3), (.spw, Fld.TILE_CFG_PORT 0), (.spw, Fld.TILE_CFG_PORT 1), (.spw, Fld.TILE_CFG_PORT 2), (.spw, Fld.TILE_CFG_PORT 3)] },
  { name := "TILE_STATUS", space := .crs, base := 0x1000008, dim1 := (16, 0x100000), dim2 := (1, 0), width := 32, reset := 0xc0000000#64, retained := false,
    fields := [(.ro, Fld.TILE_STATUS_POWER), (.ro, Fld.TILE_STATUS_RING_ON), (.ro, Fld.TILE_STATUS_RING_STABLE), (.ro, Fld.TILE_STATUS_LC_ON), (.ro, Fld.TILE_STATUS_LC_STABLE), (.ro, Fld.TILE_STATUS_CAL_DONE), (.ro, Fld.TILE_STATUS_REF_OK), (.ro, Fld.TILE_STATUS_PRESS_LANE)] },
  { name := "TILE_PRESS_CTRL", space := .crs, base := 0x100000c, dim1 := (16, 0x100000), dim2 := (1, 0), width := 32, reset := 0x64#64, retained := false,
    fields := [(.rw, Fld.TILE_PRESS_CTRL_PERIOD)] },
  { name := "TILE_EQ_CRIT", space := .crs, base := 0x1000010, dim1 := (16, 0x100000), dim2 := (1, 0), width := 32, reset := 0xbeaf96#64, retained := false,
    fields := [(.rw, Fld.TILE_EQ_CRIT_SNR_C128), (.rw, Fld.TILE_EQ_CRIT_SNR_PAM4), (.rw, Fld.TILE_EQ_CRIT_SNR_NRZ)] },
  { name := "TILE_PRESS_PASS_CNT", space := .crs, base := 0x1000020, dim1 := (16, 0x100000), dim2 := (1, 0), width := 32, reset := 0x0#64, retained := false,
    fields := [(.rc, Fld.TILE_PRESS_PASS_CNT_COUNT)] }]
/-- Families 160 to 199 of the register map. -/
def famRows4 : List Family := [
  { name := "TILE_PRESS_ABN_CNT", space := .crs, base := 0x1000024, dim1 := (16, 0x100000), dim2 := (1, 0), width := 32, reset := 0x0#64, retained := false,
    fields := [(.rc, Fld.TILE_PRESS_ABN_CNT_COUNT)] },
  { name := "TILE_EQ_FB_CNT", space := .crs, base := 0x1000028, dim1 := (16, 0x100000), dim2 := (1, 0), width := 32, reset := 0x0#64, retained := false,
    fields := [(.rc, Fld.TILE_EQ_FB_CNT_COUNT)] },
  { name := "TILE_PLL_UNLOCK_CNT", space := .crs, base := 0x100002c, dim1 := (16, 0x100000), dim2 := (1, 0), width := 32, reset := 0x0#64, retained := false,
    fields := [(.rc, Fld.TILE_PLL_UNLOCK_CNT_COUNT)] },
  { name := "TILE_COEF_ACC", space := .crs, base := 0x1000040, dim1 := (16, 0x100000), dim2 := (1, 0), width := 32, reset := 0x0#64, retained := false,
    fields := [(.ro, Fld.TILE_COEF_ACC_BUSY), (.rw1c, Fld.TILE_COEF_ACC_ERR), (.wo, Fld.TILE_COEF_ACC_CLR), (.rw, Fld.TILE_COEF_ACC_LANE), (.rw, Fld.TILE_COEF_ACC_CLASS)] },
  { name := "TILE_COEF_DATA", space := .crs, base := 0x1000048, dim1 := (16, 0x100000), dim2 := (8, 0x8), width := 64, reset := 0x0#64, retained := false,
    fields := [(.ro, Fld.TILE_COEF_DATA_DATA)] },
  { name := "LANE_STATUS", space := .crs, base := 0x1000100, dim1 := (16, 0x100000), dim2 := (16, 0x8), width := 64, reset := 0x0#64, retained := false,
    fields := [(.ro, Fld.LANE_STATUS_AGE), (.ro, Fld.LANE_STATUS_SNR), (.ro, Fld.LANE_STATUS_SLICE_OFF), (.ro, Fld.LANE_STATUS_PRESS_STATE), (.rw1c, Fld.LANE_STATUS_LOW_SNR), (.ro, Fld.LANE_STATUS_POL_INV), (.ro, Fld.LANE_STATUS_DETECTED), (.ro, Fld.LANE_STATUS_LOCKED), (.ro, Fld.LANE_STATUS_IN_USE), (.ro, Fld.LANE_STATUS_RATE)] },
  { name := "PORT_CFG", space := .crs, base := 0x2000000, dim1 := (64, 0x10000), dim2 := (1, 0), width := 32, reset := 0x40b40000#64, retained := false,
    fields := [(.rw, Fld.PORT_CFG_LINK_EN), (.rw, Fld.PORT_CFG_FLIT_OFFER), (.rw, Fld.PORT_CFG_PERST_ON_HOST), (.rw, Fld.PORT_CFG_HP_CAPABLE), (.rw, Fld.PORT_CFG_HP_SURPRISE), (.rw, Fld.PORT_CFG_ATTN_PRESENT), (.rw, Fld.PORT_CFG_MRL_PRESENT), (.rw, Fld.PORT_CFG_INDICATORS), (.rw, Fld.PORT_CFG_MAX_RATE), (.rw, Fld.PORT_CFG_PERST_DELAY), (.rw, Fld.PORT_CFG_EGV_SLOT), (.rw, Fld.PORT_CFG_PSN)] },
  { name := "PORT_STATUS", space := .crs, base := 0x2000004, dim1 := (64, 0x10000), dim2 := (1, 0), width := 32, reset := 0x0#64, retained := false,
    fields := [(.ro, Fld.PORT_STATUS_LTSSM), (.ro, Fld.PORT_STATUS_RATE), (.ro, Fld.PORT_STATUS_WIDTH), (.ro, Fld.PORT_STATUS_FLIT), (.ro, Fld.PORT_STATUS_DL_ACTIVE), (.ro, Fld.PORT_STATUS_L1_SUB), (.ro, Fld.PORT_STATUS_DPC_CONTAINED), (.ro, Fld.PORT_STATUS_FENCED), (.ro, Fld.PORT_STATUS_REVERSED), (.ro, Fld.PORT_STATUS_PERST_OUT), (.ro, Fld.PORT_STATUS_PRESENT), (.ro, Fld.PORT_STATUS_POWER_ON), (.ro, Fld.PORT_STATUS_WIDTH_DEGRADED)] },
  { name := "PORT_EVENT", space := .crs, base := 0x2000008, dim1 := (64, 0x10000), dim2 := (1, 0), width := 32, reset := 0x7fff0000#64, retained := false,
    fields := [(.rw, Fld.PORT_EVENT_ENABLE), (.rw1c, Fld.PORT_EVENT_SB_FAIL), (.rw1c, Fld.PORT_EVENT_WAKE), (.rw1c, Fld.PORT_EVENT_ATTN_BUTTON), (.rw1c, Fld.PORT_EVENT_MRL), (.rw1c, Fld.PORT_EVENT_EGV_REFUSED), (.rw1c, Fld.PORT_EVENT_POWER_FAULT), (.rw1c, Fld.PORT_EVENT_POWER_GOOD), (.rw1c, Fld.PORT_EVENT_PRESENCE), (.rw1c, Fld.PORT_EVENT_FENCED), (.rw1c, Fld.PORT_EVENT_DPC), (.rw1c, Fld.PORT_EVENT_WIDTH_DEGRADED), (.rw1c, Fld.PORT_EVENT_SPEED_CHANGE), (.rw1c, Fld.PORT_EVENT_SURPRISE_DOWN), (.rw1c, Fld.PORT_EVENT_LINK_DOWN), (.rw1c, Fld.PORT_EVENT_LINK_UP)] },
  { name := "PORT_PM", space := .crs, base := 0x200000c, dim1 := (64, 0x10000), dim2 := (1, 0), width := 32, reset := 0xc0000008#64, retained := false,
    fields := [(.rw, Fld.PORT_PM_L1_ALLOW), (.rw, Fld.PORT_PM_L12_ALLOW), (.rw, Fld.PORT_PM_L1_IDLE)] },
  { name := "PORT_PTM", space := .crs, base := 0x2000010, dim1 := (64, 0x10000), dim2 := (1, 0), width := 32, reset := 0x64#64, retained := false,
    fields := [(.ro, Fld.PORT_PTM_VALID), (.rw, Fld.PORT_PTM_PERIOD)] },
  { name := "PORT_CTRL", space := .crs, base := 0x2000014, dim1 := (64, 0x10000), dim2 := (1, 0), width := 32, reset := 0x0#64, retained := false,
    fields := [(.wo, Fld.PORT_CTRL_RETRAIN), (.wo, Fld.PORT_CTRL_RELEASE), (.rw, Fld.PORT_CTRL_PERST_FORCE), (.rw, Fld.PORT_CTRL_DISABLE)] },
  { name := "PORT_LTR", space := .crs, base := 0x2000018, dim1 := (64, 0x10000), dim2 := (1, 0), width := 32, reset := 0x0#64, retained := false,
    fields := [(.ro, Fld.PORT_LTR_NOSNOOP), (.ro, Fld.PORT_LTR_SNOOP)] },
  { name := "PORT_RX_ERR_CNT", space := .crs, base := 0x2000020, dim1 := (64, 0x10000), dim2 := (1, 0), width := 32, reset := 0x0#64, retained := false,
    fields := [(.rc, Fld.PORT_RX_ERR_CNT_COUNT)] },
  { name := "PORT_FEC_CORR_CNT", space := .crs, base := 0x2000024, dim1 := (64, 0x10000), dim2 := (1, 0), width := 32, reset := 0x0#64, retained := false,
    fields := [(.rc, Fld.PORT_FEC_CORR_CNT_COUNT)] },
  { name := "PORT_CRC_ERR_CNT", space := .crs, base := 0x2000028, dim1 := (64, 0x10000), dim2 := (1, 0), width := 32, reset := 0x0#64, retained := false,
    fields := [(.rc, Fld.PORT_CRC_ERR_CNT_COUNT)] },
  { name := "PORT_REPLAY_CNT", space := .crs, base := 0x200002c, dim1 := (64, 0x10000), dim2 := (1, 0), width := 32, reset := 0x0#64, retained := false,
    fields := [(.rc, Fld.PORT_REPLAY_CNT_COUNT)] },
  { name := "PORT_DOWN_CNT", space := .crs, base := 0x2000030, dim1 := (64, 0x10000), dim2 := (1, 0), width := 32, reset := 0x0#64, retained := false,
    fields := [(.rc, Fld.PORT_DOWN_CNT_COUNT)] },
  { name := "PORT_MALFORMED_CNT", space := .crs, base := 0x2000034, dim1 := (64, 0x10000), dim2 := (1, 0), width := 32, reset := 0x0#64, retained := false,
    fields := [(.rc, Fld.PORT_MALFORMED_CNT_COUNT)] },
  { name := "PORT_SPLIT_CNT", space := .crs, base := 0x2000038, dim1 := (64, 0x10000), dim2 := (1, 0), width := 32, reset := 0x0#64, retained := false,
    fields := [(.rc, Fld.PORT_SPLIT_CNT_COUNT)] },
  { name := "PORT_SB_FAIL_CNT", space := .crs, base := 0x200003c, dim1 := (64, 0x10000), dim2 := (1, 0), width := 32, reset := 0x0#64, retained := false,
    fields := [(.rc, Fld.PORT_SB_FAIL_CNT_COUNT)] },
  { name := "ICP_SQ_BASE", space := .mgmtBar0, base := 0x0, dim1 := (32, 0x0), dim2 := (1, 0), width := 64, reset := 0x0#64, retained := false,
    fields := [(.rw, Fld.ICP_SQ_BASE_BASE)] },
  { name := "ICP_CQ_BASE", space := .mgmtBar0, base := 0x8, dim1 := (32, 0x0), dim2 := (1, 0), width := 64, reset := 0x0#64, retained := false,
    fields := [(.rw, Fld.ICP_CQ_BASE_BASE)] },
  { name := "ICP_RING_CFG", space := .mgmtBar0, base := 0x10, dim1 := (32, 0x0), dim2 := (1, 0), width := 32, reset := 0x0#64, retained := false,
    fields := [(.rw, Fld.ICP_RING_CFG_EN), (.rw, Fld.ICP_RING_CFG_CQ_LOG2), (.rw, Fld.ICP_RING_CFG_SQ_LOG2)] },
  { name := "ICP_RING_STATUS", space := .mgmtBar0, base := 0x14, dim1 := (32, 0x0), dim2 := (1, 0), width := 32, reset := 0x0#64, retained := false,
    fields := [(.ro, Fld.ICP_RING_STATUS_MANAGER), (.rw1c, Fld.ICP_RING_STATUS_FETCH_ERR), (.rw1c, Fld.ICP_RING_STATUS_DB_ERR), (.ro, Fld.ICP_RING_STATUS_CQ_FULL), (.ro, Fld.ICP_RING_STATUS_EXP_ALIVE), (.ro, Fld.ICP_RING_STATUS_REPLY_ALIVE), (.ro, Fld.ICP_RING_STATUS_OUTSTANDING)] },
  { name := "ICP_SQ_TAIL", space := .mgmtBar0, base := 0x18, dim1 := (32, 0x0), dim2 := (1, 0), width := 32, reset := 0x0#64, retained := false,
    fields := [(.rw, Fld.ICP_SQ_TAIL_COUNT)] },
  { name := "ICP_SQ_HEAD", space := .mgmtBar0, base := 0x1c, dim1 := (32, 0x0), dim2 := (1, 0), width := 32, reset := 0x0#64, retained := false,
    fields := [(.ro, Fld.ICP_SQ_HEAD_COUNT)] },
  { name := "ICP_CQ_TAIL", space := .mgmtBar0, base := 0x20, dim1 := (32, 0x0), dim2 := (1, 0), width := 32, reset := 0x0#64, retained := false,
    fields := [(.ro, Fld.ICP_CQ_TAIL_COUNT)] },
  { name := "ICP_CQ_HEAD", space := .mgmtBar0, base := 0x24, dim1 := (32, 0x0), dim2 := (1, 0), width := 32, reset := 0x0#64, retained := false,
    fields := [(.rw, Fld.ICP_CQ_HEAD_COUNT)] },
  { name := "ICP_MGR", space := .crs, base := 0xe000000, dim1 := (1, 0), dim2 := (1, 0), width := 32, reset := 0x0#64, retained := false,
    fields := [(.spw, Fld.ICP_MGR_MANAGER)] },
  { name := "ICP_CTRL", space := .crs, base := 0xe000004, dim1 := (1, 0), dim2 := (1, 0), width := 32, reset := 0x3#64, retained := false,
    fields := [(.spw, Fld.ICP_CTRL_RELAY_EN), (.spw, Fld.ICP_CTRL_BMC_EN)] },
  { name := "ICP_RX_CNT", space := .crs, base := 0xe000010, dim1 := (1, 0), dim2 := (1, 0), width := 32, reset := 0x0#64, retained := false,
    fields := [(.rc, Fld.ICP_RX_CNT_COUNT)] },
  { name := "ICP_BAD_CRC_CNT", space := .crs, base := 0xe000014, dim1 := (1, 0), dim2 := (1, 0), width := 32, reset := 0x0#64, retained := false,
    fields := [(.rc, Fld.ICP_BAD_CRC_CNT_COUNT)] },
  { name := "ICP_ALIVE_ERR_CNT", space := .crs, base := 0xe000018, dim1 := (1, 0), dim2 := (1, 0), width := 32, reset := 0x0#64, retained := false,
    fields := [(.rc, Fld.ICP_ALIVE_ERR_CNT_COUNT)] },
  { name := "ICP_REFUSED_CNT", space := .crs, base := 0xe00001c, dim1 := (1, 0), dim2 := (1, 0), width := 32, reset := 0x0#64, retained := false,
    fields := [(.rc, Fld.ICP_REFUSED_CNT_COUNT)] },
  { name := "ICP_CHAN", space := .crs, base := 0xe000100, dim1 := (67, 0x4), dim2 := (1, 0), width := 32, reset := 0x0#64, retained := false,
    fields := [(.ro, Fld.ICP_CHAN_ACTIVE), (.ro, Fld.ICP_CHAN_ROLE), (.ro, Fld.ICP_CHAN_EXP_ALIVE), (.ro, Fld.ICP_CHAN_REPLY_ALIVE), (.ro, Fld.ICP_CHAN_OUTSTANDING)] },
  { name := "SP_STATUS", space := .crs, base := 0x100000, dim1 := (1, 0), dim2 := (1, 0), width := 32, reset := 0xf000000#64, retained := false,
    fields := [(.spw, Fld.SP_STATUS_RUNNING), (.ro, Fld.SP_STATUS_TERMINAL), (.spw, Fld.SP_STATUS_HANDLING)] },
  { name := "SP_SPW_LOG", space := .crs, base := 0x100010, dim1 := (1, 0), dim2 := (1, 0), width := 64, reset := 0x0#64, retained := false,
    fields := [(.rc, Fld.SP_SPW_LOG_VALID), (.rc, Fld.SP_SPW_LOG_SECOND), (.rc, Fld.SP_SPW_LOG_MASTER), (.rc, Fld.SP_SPW_LOG_OFFSET)] },
  { name := "SP_SPW_CNT", space := .crs, base := 0x100018, dim1 := (1, 0), dim2 := (1, 0), width := 32, reset := 0x0#64, retained := false,
    fields := [(.rc, Fld.SP_SPW_CNT_COUNT)] },
  { name := "SP_SRAM_CORR_CNT", space := .crs, base := 0x10001c, dim1 := (1, 0), dim2 := (1, 0), width := 32, reset := 0x0#64, retained := false,
    fields := [(.rc, Fld.SP_SRAM_CORR_CNT_COUNT)] }]
/-- Families 200 to 239 of the register map. -/
def famRows5 : List Family := [
  { name := "FCU_STATUS", space := .crs, base := 0x200000, dim1 := (1, 0), dim2 := (1, 0), width := 32, reset := 0x0#64, retained := false,
    fields := [(.ro, Fld.FCU_STATUS_FAULT_N_LOW), (.ro, Fld.FCU_STATUS_TERMINAL), (.spw, Fld.FCU_STATUS_LIST_OVF), (.spw, Fld.FCU_STATUS_PENDING), (.spw, Fld.FCU_STATUS_UNITS)] },
  { name := "FCU_FATAL_HIST", space := .crs, base := 0x200004, dim1 := (1, 0), dim2 := (1, 0), width := 32, reset := 0x0#64, retained := false,
    fields := [(.spw, Fld.FCU_FATAL_HIST_COUNT)] },
  { name := "FCU_SEQ", space := .crs, base := 0x200008, dim1 := (1, 0), dim2 := (1, 0), width := 32, reset := 0x0#64, retained := false,
    fields := [(.spw, Fld.FCU_SEQ_SEQ)] },
  { name := "FCU_CLASS_CNT", space := .crs, base := 0x200010, dim1 := (5, 0x4), dim2 := (1, 0), width := 32, reset := 0x0#64, retained := false,
    fields := [(.rc, Fld.FCU_CLASS_CNT_COUNT)] },
  { name := "FCU_REC", space := .crs, base := 0x200100, dim1 := (5, 0x20), dim2 := (4, 0x8), width := 64, reset := 0x0#64, retained := false,
    fields := [(.spw, Fld.FCU_REC_DATA)] },
  { name := "FCU_UNCLEARED", space := .crs, base := 0x200400, dim1 := (64, 0x8), dim2 := (1, 0), width := 64, reset := 0x0#64, retained := false,
    fields := [(.spw, Fld.FCU_UNCLEARED_VALID), (.spw, Fld.FCU_UNCLEARED_FAULT_FENCED), (.spw, Fld.FCU_UNCLEARED_CMD_FENCED), (.spw, Fld.FCU_UNCLEARED_CLASSES), (.spw, Fld.FCU_UNCLEARED_UNIT)] },
  { name := "CV_CTRL", space := .crs, base := 0x9000000, dim1 := (8, 0x100), dim2 := (1, 0), width := 32, reset := 0x0#64, retained := false,
    fields := [(.rw, Fld.CV_CTRL_EN), (.rw, Fld.CV_CTRL_CMP_EN), (.rw, Fld.CV_CTRL_ALIVE_EN), (.rw, Fld.CV_CTRL_FAULT_EN), (.wo, Fld.CV_CTRL_INIT), (.rw, Fld.CV_CTRL_ALG)] },
  { name := "CV_STATUS", space := .crs, base := 0x9000004, dim1 := (8, 0x100), dim2 := (1, 0), width := 32, reset := 0x0#64, retained := false,
    fields := [(.rw1c, Fld.CV_STATUS_MISMATCH), (.rw1c, Fld.CV_STATUS_ALIVE_ERR), (.rw1c, Fld.CV_STATUS_FOREIGN), (.ro, Fld.CV_STATUS_BUSY), (.ro, Fld.CV_STATUS_ALIVE_LAST)] },
  { name := "CV_ALIVE", space := .crs, base := 0x9000008, dim1 := (8, 0x100), dim2 := (1, 0), width := 32, reset := 0x0#64, retained := false,
    fields := [(.rw, Fld.CV_ALIVE_EXP)] },
  { name := "CV_DATA8", space := .crs, base := 0x9000010, dim1 := (8, 0x100), dim2 := (1, 0), width := 32, reset := 0x0#64, retained := false,
    fields := [(.wo, Fld.CV_DATA8_DATA)] },
  { name := "CV_DATA16", space := .crs, base := 0x9000014, dim1 := (8, 0x100), dim2 := (1, 0), width := 32, reset := 0x0#64, retained := false,
    fields := [(.wo, Fld.CV_DATA16_DATA)] },
  { name := "CV_DATA32", space := .crs, base := 0x9000018, dim1 := (8, 0x100), dim2 := (1, 0), width := 32, reset := 0x0#64, retained := false,
    fields := [(.wo, Fld.CV_DATA32_DATA)] },
  { name := "CV_END", space := .crs, base := 0x900001c, dim1 := (8, 0x100), dim2 := (1, 0), width := 32, reset := 0x0#64, retained := false,
    fields := [(.wo, Fld.CV_END_CHECK), (.wo, Fld.CV_END_ALIVE)] },
  { name := "CV_EXPECT", space := .crs, base := 0x9000020, dim1 := (8, 0x100), dim2 := (1, 0), width := 64, reset := 0x0#64, retained := false,
    fields := [(.rw, Fld.CV_EXPECT_VALUE)] },
  { name := "CV_STATE", space := .crs, base := 0x9000028, dim1 := (8, 0x100), dim2 := (1, 0), width := 64, reset := 0x0#64, retained := false,
    fields := [(.rw, Fld.CV_STATE_VALUE)] },
  { name := "CV_RESULT", space := .crs, base := 0x9000030, dim1 := (8, 0x100), dim2 := (1, 0), width := 64, reset := 0x0#64, retained := false,
    fields := [(.ro, Fld.CV_RESULT_VALUE)] },
  { name := "CV_MSG_CNT", space := .crs, base := 0x9000038, dim1 := (8, 0x100), dim2 := (1, 0), width := 32, reset := 0x0#64, retained := false,
    fields := [(.rc, Fld.CV_MSG_CNT_COUNT)] },
  { name := "CVU_OWNER", space := .crs, base := 0x9001000, dim1 := (8, 0x4), dim2 := (1, 0), width := 32, reset := 0x80000000#64, retained := false,
    fields := [(.spw, Fld.CVU_OWNER_ANY), (.spw, Fld.CVU_OWNER_MASTER)] },
  { name := "CLK_STATUS", space := .crs, base := 0x400000, dim1 := (1, 0), dim2 := (1, 0), width := 32, reset := 0x0#64, retained := false,
    fields := [(.ro, Fld.CLK_STATUS_XO_STABLE), (.ro, Fld.CLK_STATUS_ROOT_ON), (.ro, Fld.CLK_STATUS_ROOT_LOCK), (.ro, Fld.CLK_STATUS_ROOT_STABLE), (.ro, Fld.CLK_STATUS_AON_ROOT), (.ro, Fld.CLK_STATUS_DOM_RUN)] },
  { name := "RST_REASON", space := .crs, base := 0x400004, dim1 := (1, 0), dim2 := (1, 0), width := 32, reset := 0x0#64, retained := true,
    fields := [(.ro, Fld.RST_REASON_PREV_CAUSE), (.ro, Fld.RST_REASON_RESET_CNT), (.ro, Fld.RST_REASON_CAUSE)] },
  { name := "RST_DETAIL", space := .crs, base := 0x400008, dim1 := (1, 0), dim2 := (1, 0), width := 64, reset := 0x0#64, retained := true,
    fields := [(.ro, Fld.RST_DETAIL_UNIT), (.ro, Fld.RST_DETAIL_SOURCE)] },
  { name := "PWR_CTRL", space := .crs, base := 0x400010, dim1 := (1, 0), dim2 := (1, 0), width := 32, reset := 0x3e8#64, retained := false,
    fields := [(.spw, Fld.PWR_CTRL_DORMANT_EN), (.spw, Fld.PWR_CTRL_DORMANT_IDLE)] },
  { name := "PWR_STATUS", space := .crs, base := 0x400014, dim1 := (1, 0), dim2 := (1, 0), width := 32, reset := 0x0#64, retained := false,
    fields := [(.ro, Fld.PWR_STATUS_STATE), (.ro, Fld.PWR_STATUS_LAST_WAKE), (.ro, Fld.PWR_STATUS_PF_LAST), (.ro, Fld.PWR_STATUS_PF_RECORDS)] },
  { name := "WAKE_TIMER", space := .crs, base := 0x400018, dim1 := (1, 0), dim2 := (1, 0), width := 64, reset := 0x0#64, retained := false,
    fields := [(.spw, Fld.WAKE_TIMER_AT)] },
  { name := "PWR_DORMANT_CNT", space := .crs, base := 0x400020, dim1 := (1, 0), dim2 := (1, 0), width := 32, reset := 0x0#64, retained := false,
    fields := [(.rc, Fld.PWR_DORMANT_CNT_COUNT)] },
  { name := "PWR_DORMANT_ABORT_CNT", space := .crs, base := 0x400024, dim1 := (1, 0), dim2 := (1, 0), width := 32, reset := 0x0#64, retained := false,
    fields := [(.rc, Fld.PWR_DORMANT_ABORT_CNT_COUNT)] },
  { name := "TILE_PM", space := .crs, base := 0x400100, dim1 := (16, 0x4), dim2 := (1, 0), width := 32, reset := 0x80000a02#64, retained := false,
    fields := [(.spw, Fld.TILE_PM_MAX_STATE), (.spw, Fld.TILE_PM_DARK_IDLE), (.spw, Fld.TILE_PM_PARK_IDLE)] },
  { name := "EGV_CTRL", space := .crs, base := 0x300000, dim1 := (1, 0), dim2 := (1, 0), width := 32, reset := 0x80000232#64, retained := false,
    fields := [(.spw, Fld.EGV_CTRL_EN), (.spw, Fld.EGV_CTRL_MAX_RAMPS), (.spw, Fld.EGV_CTRL_RAMP_TO)] },
  { name := "EGV_WINDOW", space := .crs, base := 0x300004, dim1 := (1, 0), dim2 := (1, 0), width := 32, reset := 0x9c40#64, retained := false,
    fields := [(.spw, Fld.EGV_WINDOW_LIMIT)] },
  { name := "EGV_STATUS", space := .crs, base := 0x300008, dim1 := (1, 0), dim2 := (1, 0), width := 32, reset := 0x0#64, retained := false,
    fields := [(.ro, Fld.EGV_STATUS_RAMPS), (.ro, Fld.EGV_STATUS_QUEUED), (.ro, Fld.EGV_STATUS_WINDOW_USED)] },
  { name := "EGV_SLOT_CFG", space := .crs, base := 0x300100, dim1 := (32, 0x10), dim2 := (1, 0), width := 64, reset := 0x0#64, retained := false,
    fields := [(.spw, Fld.EGV_SLOT_CFG_VALID), (.spw, Fld.EGV_SLOT_CFG_ACC_EN), (.spw, Fld.EGV_SLOT_CFG_BUS), (.spw, Fld.EGV_SLOT_CFG_ADDR), (.spw, Fld.EGV_SLOT_CFG_RAIL_MV), (.spw, Fld.EGV_SLOT_CFG_CAP_UF)] },
  { name := "EGV_SLOT_LIM", space := .crs, base := 0x300108, dim1 := (32, 0x10), dim2 := (1, 0), width := 64, reset := 0x7d00fa0#64, retained := false,
    fields := [(.spw, Fld.EGV_SLOT_LIM_STORED), (.spw, Fld.EGV_SLOT_LIM_INRUSH)] },
  { name := "EGV_SLOT_STATUS", space := .crs, base := 0x300400, dim1 := (32, 0x8), dim2 := (1, 0), width := 64, reset := 0x0#64, retained := false,
    fields := [(.ro, Fld.EGV_SLOT_STATUS_STATE), (.ro, Fld.EGV_SLOT_STATUS_REASON), (.ro, Fld.EGV_SLOT_STATUS_LAST_INRUSH), (.ro, Fld.EGV_SLOT_STATUS_DECLARED)] },
  { name := "EGV_ADMIT_CNT", space := .crs, base := 0x300800, dim1 := (1, 0), dim2 := (1, 0), width := 32, reset := 0x0#64, retained := false,
    fields := [(.rc, Fld.EGV_ADMIT_CNT_COUNT)] },
  { name := "EGV_REFUSE_CNT", space := .crs, base := 0x300804, dim1 := (1, 0), dim2 := (1, 0), width := 32, reset := 0x0#64, retained := false,
    fields := [(.rc, Fld.EGV_REFUSE_CNT_COUNT)] },
  { name := "EGV_CUT_CNT", space := .crs, base := 0x300808, dim1 := (1, 0), dim2 := (1, 0), width := 32, reset := 0x0#64, retained := false,
    fields := [(.rc, Fld.EGV_CUT_CNT_COUNT)] },
  { name := "BG_CTRL", space := .crs, base := 0x8008000, dim1 := (1, 0), dim2 := (1, 0), width := 32, reset := 0x80000004#64, retained := false,
    fields := [(.rw, Fld.BG_CTRL_LD_EN), (.rw, Fld.BG_CTRL_CRIT_MULT)] },
  { name := "LD_PERIOD", space := .crs, base := 0x8008004, dim1 := (1, 0), dim2 := (1, 0), width := 32, reset := 0x1800003c#64, retained := false,
    fields := [(.rw, Fld.LD_PERIOD_DDR_H), (.rw, Fld.LD_PERIOD_SRAM_S)] },
  { name := "LD_REGION", space := .crs, base := 0x8008010, dim1 := (6, 0x8), dim2 := (1, 0), width := 64, reset := 0x0#64, retained := false,
    fields := [(.ro, Fld.LD_REGION_LEVEL), (.ro, Fld.LD_REGION_PROGRESS), (.ro, Fld.LD_REGION_AGE)] },
  { name := "LD_CORR_CNT", space := .crs, base := 0x8008040, dim1 := (1, 0), dim2 := (1, 0), width := 32, reset := 0x0#64, retained := false,
    fields := [(.rc, Fld.LD_CORR_CNT_COUNT)] }]
/-- Families 240 to 279 of the register map. -/
def famRows6 : List Family := [
  { name := "LD_UE_CNT", space := .crs, base := 0x8008044, dim1 := (1, 0), dim2 := (1, 0), width := 32, reset := 0x0#64, retained := false,
    fields := [(.rc, Fld.LD_UE_CNT_COUNT)] },
  { name := "LD_FREE_UE_CNT", space := .crs, base := 0x8008048, dim1 := (1, 0), dim2 := (1, 0), width := 32, reset := 0x0#64, retained := false,
    fields := [(.rc, Fld.LD_FREE_UE_CNT_COUNT)] },
  { name := "PRESS_LEVEL", space := .crs, base := 0x8008100, dim1 := (16, 0x4), dim2 := (1, 0), width := 32, reset := 0x0#64, retained := false,
    fields := [(.ro, Fld.PRESS_LEVEL_LEVEL 0), (.ro, Fld.PRESS_LEVEL_LEVEL 1), (.ro, Fld.PRESS_LEVEL_LEVEL 2), (.ro, Fld.PRESS_LEVEL_LEVEL 3), (.ro, Fld.PRESS_LEVEL_LEVEL 4), (.ro, Fld.PRESS_LEVEL_LEVEL 5), (.ro, Fld.PRESS_LEVEL_LEVEL 6), (.ro, Fld.PRESS_LEVEL_LEVEL 7), (.ro, Fld.PRESS_LEVEL_LEVEL 8), (.ro, Fld.PRESS_LEVEL_LEVEL 9), (.ro, Fld.PRESS_LEVEL_LEVEL 10), (.ro, Fld.PRESS_LEVEL_LEVEL 11), (.ro, Fld.PRESS_LEVEL_LEVEL 12), (.ro, Fld.PRESS_LEVEL_LEVEL 13), (.ro, Fld.PRESS_LEVEL_LEVEL 14), (.ro, Fld.PRESS_LEVEL_LEVEL 15)] },
  { name := "ORBIT_CFG", space := .crs, base := 0x8008200, dim1 := (1, 0), dim2 := (1, 0), width := 64, reset := 0x0#64, retained := false,
    fields := [(.rw, Fld.ORBIT_CFG_PERIOD), (.ro, Fld.ORBIT_CFG_LEVEL), (.rw, Fld.ORBIT_CFG_DEST), (.rw, Fld.ORBIT_CFG_VSWITCH), (.rw, Fld.ORBIT_CFG_SIZE_LOG2)] },
  { name := "ORBIT_ADDR", space := .crs, base := 0x8008208, dim1 := (1, 0), dim2 := (1, 0), width := 64, reset := 0x0#64, retained := false,
    fields := [(.rw, Fld.ORBIT_ADDR_VALUE)] },
  { name := "ORBIT_SETS", space := .crs, base := 0x8008210, dim1 := (1, 0), dim2 := (1, 0), width := 64, reset := 0x0#64, retained := false,
    fields := [(.rw, Fld.ORBIT_SETS_VALUE)] },
  { name := "ORBIT_STATUS", space := .crs, base := 0x8008218, dim1 := (1, 0), dim2 := (1, 0), width := 32, reset := 0x0#64, retained := false,
    fields := [(.ro, Fld.ORBIT_STATUS_SLOT), (.rw1c, Fld.ORBIT_STATUS_TOO_BIG), (.ro, Fld.ORBIT_STATUS_SEQ)] },
  { name := "ORBIT_DROP_CNT", space := .crs, base := 0x800821c, dim1 := (1, 0), dim2 := (1, 0), width := 32, reset := 0x0#64, retained := false,
    fields := [(.rc, Fld.ORBIT_DROP_CNT_COUNT)] },
  { name := "ORBIT_WR", space := .mgmtBar0, base := 0x100, dim1 := (32, 0x0), dim2 := (1, 0), width := 32, reset := 0x0#64, retained := false,
    fields := [(.ro, Fld.ORBIT_WR_OFFSET)] },
  { name := "JNL_STATUS", space := .crs, base := 0x100100, dim1 := (1, 0), dim2 := (1, 0), width := 32, reset := 0x0#64, retained := false,
    fields := [(.spw, Fld.JNL_STATUS_LEVEL), (.spw, Fld.JNL_STATUS_BUFFERED), (.spw, Fld.JNL_STATUS_RESERVE), (.spw, Fld.JNL_STATUS_HEAD)] },
  { name := "JNL_SEQ", space := .crs, base := 0x100108, dim1 := (1, 0), dim2 := (1, 0), width := 64, reset := 0x0#64, retained := false,
    fields := [(.spw, Fld.JNL_SEQ_VALUE)] },
  { name := "JNL_AON_T", space := .crs, base := 0x100120, dim1 := (1, 0), dim2 := (1, 0), width := 64, reset := 0x0#64, retained := true,
    fields := [(.ro, Fld.JNL_AON_T_VALUE)] },
  { name := "JNL_WRITE_CNT", space := .crs, base := 0x100110, dim1 := (1, 0), dim2 := (1, 0), width := 32, reset := 0x0#64, retained := false,
    fields := [(.rc, Fld.JNL_WRITE_CNT_COUNT)] },
  { name := "JNL_SUMM_CNT", space := .crs, base := 0x100114, dim1 := (1, 0), dim2 := (1, 0), width := 32, reset := 0x0#64, retained := false,
    fields := [(.rc, Fld.JNL_SUMM_CNT_COUNT)] },
  { name := "JNL_TORN_CNT", space := .crs, base := 0x100118, dim1 := (1, 0), dim2 := (1, 0), width := 32, reset := 0x0#64, retained := false,
    fields := [(.rc, Fld.JNL_TORN_CNT_COUNT)] },
  { name := "JNL_RETIRED", space := .crs, base := 0x10011c, dim1 := (1, 0), dim2 := (1, 0), width := 32, reset := 0x0#64, retained := false,
    fields := [(.ro, Fld.JNL_RETIRED_COUNT)] },
  { name := "ECL_ARM", space := .crs, base := 0x100, dim1 := (1, 0), dim2 := (1, 0), width := 32, reset := 0xb20c0000#64, retained := false,
    fields := [(.rw, Fld.ECL_ARM_IN_EN), (.rw, Fld.ECL_ARM_OUT_MODE), (.rw, Fld.ECL_ARM_CNT_EN), (.rw, Fld.ECL_ARM_PAIR_HW), (.rw, Fld.ECL_ARM_OVERWRITE), (.rw, Fld.ECL_ARM_ALTERNATE), (.rw, Fld.ECL_ARM_FAULT_MASK)] },
  { name := "ECL_STATUS", space := .crs, base := 0x104, dim1 := (1, 0), dim2 := (1, 0), width := 32, reset := 0x0#64, retained := false,
    fields := [(.rw1c, Fld.ECL_STATUS_VALID_A), (.rw1c, Fld.ECL_STATUS_VALID_B), (.ro, Fld.ECL_STATUS_NEXT), (.ro, Fld.ECL_STATUS_BUSY), (.rc, Fld.ECL_STATUS_MISS)] },
  { name := "ECL_TIME", space := .crs, base := 0x110, dim1 := (2, 0x10), dim2 := (1, 0), width := 64, reset := 0x0#64, retained := false,
    fields := [(.rws, Fld.ECL_TIME_TIME)] },
  { name := "ECL_SRC", space := .crs, base := 0x118, dim1 := (2, 0x10), dim2 := (1, 0), width := 32, reset := 0x0#64, retained := false,
    fields := [(.rws, Fld.ECL_SRC_SEQ), (.rws, Fld.ECL_SRC_AON_SKEW), (.rws, Fld.ECL_SRC_ECHOED), (.rws, Fld.ECL_SRC_SOURCES)] },
  { name := "PC_CTRL", space := .bank, base := 0x0, dim1 := (1, 0), dim2 := (1, 0), width := 32, reset := 0x0#64, retained := false,
    fields := [(.rw, Fld.PC_CTRL_FREEZE), (.wo, Fld.PC_CTRL_CLEAR), (.rw1c, Fld.PC_CTRL_OVF)] },
  { name := "PC_CYCLE", space := .bank, base := 0x8, dim1 := (1, 0), dim2 := (1, 0), width := 64, reset := 0x0#64, retained := false,
    fields := [(.rw, Fld.PC_CYCLE_COUNT)] },
  { name := "PC_SEL", space := .bank, base := 0x10, dim1 := (8, 0x10), dim2 := (1, 0), width := 32, reset := 0x0#64, retained := false,
    fields := [(.rw, Fld.PC_SEL_EN), (.rw, Fld.PC_SEL_LEVEL), (.rw, Fld.PC_SEL_TRIG), (.rw, Fld.PC_SEL_QUAL), (.rw, Fld.PC_SEL_EVENT)] },
  { name := "PC_CNT", space := .bank, base := 0x18, dim1 := (8, 0x10), dim2 := (1, 0), width := 64, reset := 0x0#64, retained := false,
    fields := [(.rw, Fld.PC_CNT_COUNT)] },
  { name := "SNAP_CYCLE", space := .bank, base := 0x100, dim1 := (2, 0x80), dim2 := (1, 0), width := 64, reset := 0x0#64, retained := false,
    fields := [(.rwsRo, Fld.SNAP_CYCLE_VALUE)] },
  { name := "SNAP_CNT", space := .bank, base := 0x108, dim1 := (2, 0x80), dim2 := (8, 0x8), width := 64, reset := 0x0#64, retained := false,
    fields := [(.rwsRo, Fld.SNAP_CNT_VALUE)] },
  { name := "SNAP_FLAGS", space := .bank, base := 0x148, dim1 := (2, 0x80), dim2 := (1, 0), width := 32, reset := 0x0#64, retained := false,
    fields := [(.rwsRo, Fld.SNAP_FLAGS_VALUE)] },
  { name := "SMP_CTRL", space := .crs, base := 0x8001000, dim1 := (1, 0), dim2 := (1, 0), width := 32, reset := 0x6400#64, retained := false,
    fields := [(.rw, Fld.SMP_CTRL_HOLDOFF), (.rw, Fld.SMP_CTRL_WRAP), (.rw, Fld.SMP_CTRL_EN)] },
  { name := "SMP_RING_BASE", space := .crs, base := 0x8001008, dim1 := (1, 0), dim2 := (1, 0), width := 64, reset := 0x0#64, retained := false,
    fields := [(.rw, Fld.SMP_RING_BASE_BASE)] },
  { name := "SMP_RING_SIZE", space := .crs, base := 0x8001010, dim1 := (1, 0), dim2 := (1, 0), width := 32, reset := 0x10#64, retained := false,
    fields := [(.rw, Fld.SMP_RING_SIZE_SIZE_LOG2)] },
  { name := "SMP_RING_WR", space := .crs, base := 0x8001014, dim1 := (1, 0), dim2 := (1, 0), width := 32, reset := 0x0#64, retained := false,
    fields := [(.ro, Fld.SMP_RING_WR_VALUE)] },
  { name := "SMP_RING_RD", space := .crs, base := 0x8001018, dim1 := (1, 0), dim2 := (1, 0), width := 32, reset := 0x0#64, retained := false,
    fields := [(.rw, Fld.SMP_RING_RD_VALUE)] },
  { name := "SMP_THRESH", space := .crs, base := 0x800101c, dim1 := (1, 0), dim2 := (1, 0), width := 32, reset := 0x0#64, retained := false,
    fields := [(.rw, Fld.SMP_THRESH_VALUE)] },
  { name := "SMP_STATUS", space := .crs, base := 0x8001020, dim1 := (1, 0), dim2 := (1, 0), width := 32, reset := 0x0#64, retained := false,
    fields := [(.rw1c, Fld.SMP_STATUS_OVERRUN), (.ro, Fld.SMP_STATUS_STOPPED), (.ro, Fld.SMP_STATUS_SINK_DOWN), (.rw1c, Fld.SMP_STATUS_CFG_ERR), (.ro, Fld.SMP_STATUS_USED)] },
  { name := "SMP_LOST_CNT", space := .crs, base := 0x8001024, dim1 := (1, 0), dim2 := (1, 0), width := 32, reset := 0x0#64, retained := false,
    fields := [(.rc, Fld.SMP_LOST_CNT_COUNT)] },
  { name := "SMP_MISS_CNT", space := .crs, base := 0x8001028, dim1 := (1, 0), dim2 := (1, 0), width := 32, reset := 0x0#64, retained := false,
    fields := [(.rc, Fld.SMP_MISS_CNT_COUNT)] },
  { name := "SMP_FLT_CTRL", space := .crs, base := 0x8001100, dim1 := (4, 0x10), dim2 := (1, 0), width := 32, reset := 0x0#64, retained := false,
    fields := [(.rw, Fld.SMP_FLT_CTRL_EN), (.rw, Fld.SMP_FLT_CTRL_KIND), (.rw, Fld.SMP_FLT_CTRL_COLOUR), (.rw, Fld.SMP_FLT_CTRL_VC), (.rw, Fld.SMP_FLT_CTRL_SAMPLE)] },
  { name := "SMP_FLT_PORTS", space := .crs, base := 0x8001108, dim1 := (4, 0x10), dim2 := (1, 0), width := 64, reset := 0x0#64, retained := false,
    fields := [(.rw, Fld.SMP_FLT_PORTS_PORTS)] },
  { name := "BOOT_STATUS", space := .crs, base := 0x100200, dim1 := (1, 0), dim2 := (1, 0), width := 32, reset := 0x0#64, retained := false,
    fields := [(.spw, Fld.BOOT_STATUS_READY), (.spw, Fld.BOOT_STATUS_RECOVERY), (.spw, Fld.BOOT_STATUS_REVERTED), (.spw, Fld.BOOT_STATUS_ALT_BANK), (.spw, Fld.BOOT_STATUS_BANK), (.spw, Fld.BOOT_STATUS_KEY_SLOT), (.spw, Fld.BOOT_STATUS_SVN), (.spw, Fld.BOOT_STATUS_STAGE), (.spw, Fld.BOOT_STATUS_ERR)] },
  { name := "BOOT_TIME", space := .crs, base := 0x100204, dim1 := (1, 0), dim2 := (1, 0), width := 32, reset := 0x0#64, retained := false,
    fields := [(.spw, Fld.BOOT_TIME_US)] }]
/-- Families 280 to 303 of the register map. -/
def famRows7 : List Family := [
  { name := "OTP_STATE", space := .crs, base := 0x100210, dim1 := (1, 0), dim2 := (1, 0), width := 64, reset := 0x0#64, retained := false,
    fields := [(.spw, Fld.OTP_STATE_CFG_FLOOR), (.spw, Fld.OTP_STATE_UDS_SET), (.spw, Fld.OTP_STATE_FW_ARB), (.spw, Fld.OTP_STATE_KEY_REVOKED), (.spw, Fld.OTP_STATE_KEY_PROG)] },
  { name := "FW_MEASURE", space := .crs, base := 0x100220, dim1 := (4, 0x8), dim2 := (1, 0), width := 64, reset := 0x0#64, retained := false,
    fields := [(.spw, Fld.FW_MEASURE_DIGEST)] },
  { name := "STAGE_STATUS", space := .crs, base := 0x100240, dim1 := (1, 0), dim2 := (1, 0), width := 64, reset := 0x0#64, retained := false,
    fields := [(.spw, Fld.STAGE_STATUS_STAGED), (.spw, Fld.STAGE_STATUS_TOTAL)] },
  { name := "GLB_ID", space := .crs, base := 0x0, dim1 := (1, 0), dim2 := (1, 0), width := 32, reset := 0x25600b0#64, retained := false,
    fields := [(.ro, Fld.GLB_ID_PART), (.ro, Fld.GLB_ID_REV)] },
  { name := "GLB_SERIAL", space := .crs, base := 0x8, dim1 := (1, 0), dim2 := (1, 0), width := 64, reset := 0x0#64, retained := false,
    fields := [(.ro, Fld.GLB_SERIAL_SERIAL)] },
  { name := "MPU_STATUS", space := .crs, base := 0xa000000, dim1 := (23, 0x1000), dim2 := (1, 0), width := 32, reset := 0x0#64, retained := false,
    fields := [(.ro, Fld.MPU_STATUS_PENDING), (.ro, Fld.MPU_STATUS_GEN)] },
  { name := "MPU_COMMIT", space := .crs, base := 0xa000004, dim1 := (23, 0x1000), dim2 := (1, 0), width := 32, reset := 0x0#64, retained := false,
    fields := [(.wo, Fld.MPU_COMMIT_GEN)] },
  { name := "MPU_DRAIN", space := .crs, base := 0xa000008, dim1 := (23, 0x1000), dim2 := (1, 0), width := 32, reset := 0x0#64, retained := false,
    fields := [(.ro, Fld.MPU_DRAIN_GEN)] },
  { name := "MPU_DENY_LOG", space := .crs, base := 0xa000010, dim1 := (23, 0x1000), dim2 := (1, 0), width := 64, reset := 0x0#64, retained := false,
    fields := [(.rw1c, Fld.MPU_DENY_LOG_VALID), (.rw1c, Fld.MPU_DENY_LOG_SECOND), (.ro, Fld.MPU_DENY_LOG_BEYOND), (.ro, Fld.MPU_DENY_LOG_REGION), (.ro, Fld.MPU_DENY_LOG_MASTER), (.ro, Fld.MPU_DENY_LOG_PRIV), (.ro, Fld.MPU_DENY_LOG_KIND), (.ro, Fld.MPU_DENY_LOG_ADDR)] },
  { name := "MPU_DENY_CNT", space := .crs, base := 0xa000018, dim1 := (23, 0x1000), dim2 := (1, 0), width := 32, reset := 0x0#64, retained := false,
    fields := [(.rc, Fld.MPU_DENY_CNT_COUNT)] },
  { name := "MPU_RBASE", space := .crs, base := 0xa000100, dim1 := (23, 0x1000), dim2 := (64, 0x10), width := 64, reset := 0x0#64, retained := false,
    fields := [(.rw, Fld.MPU_RBASE_EN), (.spw, Fld.MPU_RBASE_LOCK), (.rw, Fld.MPU_RBASE_BASE), (.rw, Fld.MPU_RBASE_SIZE_LOG2)] },
  { name := "MPU_RATTR", space := .crs, base := 0xa000108, dim1 := (23, 0x1000), dim2 := (64, 0x10), width := 64, reset := 0x0#64, retained := false,
    fields := [(.rw, Fld.MPU_RATTR_WR_MASK), (.rw, Fld.MPU_RATTR_RD_MASK)] },
  { name := "DDR_STATUS", space := .crs, base := 0xc000000, dim1 := (1, 0), dim2 := (1, 0), width := 32, reset := 0x0#64, retained := false,
    fields := [(.ro, Fld.DDR_STATUS_READY), (.ro, Fld.DDR_STATUS_RETAINED), (.ro, Fld.DDR_STATUS_FILL_DONE), (.ro, Fld.DDR_STATUS_SELF_REFRESH), (.ro, Fld.DDR_STATUS_FILL_BLOCK)] },
  { name := "DDR_ERR_LOG", space := .crs, base := 0xc000008, dim1 := (1, 0), dim2 := (1, 0), width := 64, reset := 0x0#64, retained := false,
    fields := [(.rw1c, Fld.DDR_ERR_LOG_VALID), (.rw1c, Fld.DDR_ERR_LOG_SECOND), (.ro, Fld.DDR_ERR_LOG_MASTER), (.ro, Fld.DDR_ERR_LOG_ADDR)] },
  { name := "DDR_CORR_CNT", space := .crs, base := 0xc000010, dim1 := (1, 0), dim2 := (1, 0), width := 32, reset := 0x0#64, retained := false,
    fields := [(.rc, Fld.DDR_CORR_CNT_COUNT)] },
  { name := "DDR_UE_CNT", space := .crs, base := 0xc000014, dim1 := (1, 0), dim2 := (1, 0), width := 32, reset := 0x0#64, retained := false,
    fields := [(.rc, Fld.DDR_UE_CNT_COUNT)] },
  { name := "SB_CTRL", space := .crs, base := 0xb000000, dim1 := (1, 0), dim2 := (1, 0), width := 32, reset := 0x10#64, retained := false,
    fields := [(.rw, Fld.SB_CTRL_TGT_EN), (.rw, Fld.SB_CTRL_BUS_EN)] },
  { name := "SB_STATUS", space := .crs, base := 0xb000004, dim1 := (1, 0), dim2 := (1, 0), width := 32, reset := 0x0#64, retained := false,
    fields := [(.rw1c, Fld.SB_STATUS_ERR), (.ro, Fld.SB_STATUS_LOAD)] },
  { name := "SB_ERR_PTR", space := .crs, base := 0xb000008, dim1 := (1, 0), dim2 := (1, 0), width := 32, reset := 0x0#64, retained := false,
    fields := [(.ro, Fld.SB_ERR_PTR_WR), (.rw, Fld.SB_ERR_PTR_RD)] },
  { name := "SB_ERR_OVF", space := .crs, base := 0xb00000c, dim1 := (1, 0), dim2 := (1, 0), width := 32, reset := 0x0#64, retained := false,
    fields := [(.rc, Fld.SB_ERR_OVF_COUNT)] },
  { name := "SB_ERR_LOG", space := .crs, base := 0xb000100, dim1 := (16, 0x10), dim2 := (2, 0x8), width := 64, reset := 0x0#64, retained := false,
    fields := [(.ro, Fld.SB_ERR_LOG_ENTRY)] },
  { name := "SB_POLL", space := .crs, base := 0xb001000, dim1 := (256, 0x10), dim2 := (1, 0), width := 64, reset := 0x0#64, retained := false,
    fields := [(.rw, Fld.SB_POLL_EN), (.rw, Fld.SB_POLL_DORMANT), (.rw, Fld.SB_POLL_LEGACY), (.rw, Fld.SB_POLL_BUS), (.rw, Fld.SB_POLL_WIDE), (.rw, Fld.SB_POLL_ADDR), (.rw, Fld.SB_POLL_IN_REG), (.rw, Fld.SB_POLL_OUT_REG), (.rw, Fld.SB_POLL_PERIOD)] },
  { name := "SB_POLL_VAL", space := .crs, base := 0xb001008, dim1 := (256, 0x10), dim2 := (1, 0), width := 64, reset := 0x0#64, retained := false,
    fields := [(.ro, Fld.SB_POLL_VAL_VALID), (.ro, Fld.SB_POLL_VAL_FAILED), (.ro, Fld.SB_POLL_VAL_OUT), (.ro, Fld.SB_POLL_VAL_IN)] },
  { name := "SB_SIGMAP", space := .crs, base := 0xb003000, dim1 := (64, 0x20), dim2 := (3, 0x8), width := 64, reset := 0x0#64, retained := false,
    fields := [(.rw, Fld.SB_SIGMAP_VALID 0), (.rw, Fld.SB_SIGMAP_VALID 1), (.rw, Fld.SB_SIGMAP_VALID 2), (.rw, Fld.SB_SIGMAP_VALID 3), (.rw, Fld.SB_SIGMAP_INV 0), (.rw, Fld.SB_SIGMAP_INV 1), (.rw, Fld.SB_SIGMAP_INV 2), (.rw, Fld.SB_SIGMAP_INV 3), (.rw, Fld.SB_SIGMAP_BIT 0), (.rw, Fld.SB_SIGMAP_BIT 1), (.rw, Fld.SB_SIGMAP_BIT 2), (.rw, Fld.SB_SIGMAP_BIT 3), (.rw, Fld.SB_SIGMAP_ENTRY 0), (.rw, Fld.SB_SIGMAP_ENTRY 1), (.rw, Fld.SB_SIGMAP_ENTRY 2), (.rw, Fld.SB_SIGMAP_ENTRY 3)] }]

/-- Every register family of the manual; a register's family number is its position here. -/
def famTable : List Family :=
  famRows0 ++ famRows1 ++ famRows2 ++ famRows3 ++ famRows4 ++ famRows5 ++ famRows6 ++ famRows7

/-- The family of a register key. -/
def famOf (k : Nat) : Option Family := famTable[k % 512]?

/-- The value a register holds after cold reset (R13).  PORT_RSV_H and PORT_RSV_D reset to their table's value
for v = 0 and v = 7 and to 0 otherwise. -/
def resetOf (k : Nat) : BitVec 64 :=
  let v := k / 512 / 4096
  if (k % 512 = 18 ∨ k % 512 = 19) ∧ v ≠ 0 ∧ v ≠ 7 then 0#64
  else
    match famOf k with
    | some f => f.reset
    | none => 0#64

end Sys2Proof.Machine
end

