-- ==== Sys2Proof/Machine/Ops.lean ====
section
/-!
DEFINITION. Machine/Ops.lean: the named operations on tables, registers, memory and the record of what is sent.
-/
namespace Sys2Proof.Machine

/-! ### Tables -/

/-- The entry of a key. -/
def aget {α : Type} : Assoc α → Nat → Option α
  | [], _ => none
  | (a, v) :: r, k => if a = k then some v else aget r k

/-- The entry of a key, or `d` where there is none. -/
def agetD {α : Type} (t : Assoc α) (k : Nat) (d : α) : α := (aget t k).getD d

/-- A table with one entry set, keys kept rising. -/
def aput {α : Type} : Assoc α → Nat → α → Assoc α
  | [], k, v => [(k, v)]
  | (a, w) :: r, k, v => if k < a then (k, v) :: (a, w) :: r else if k = a then (k, v) :: r else (a, w) :: aput r k v

/-- A table without the entry of a key. -/
def adel {α : Type} (t : Assoc α) (k : Nat) : Assoc α := t.filter (fun e => e.1 != k)

/-- A table with one entry set, where `d` is what an absent key stands for. -/
def aset {α : Type} [DecidableEq α] (d : α) (t : Assoc α) (k : Nat) (v : α) : Assoc α :=
  if v = d then adel t k else aput t k v

/-- A table with one entry changed, the absent entry being `d`. -/
def amod {α : Type} (t : Assoc α) (k : Nat) (d : α) (f : α → α) : Assoc α := aput t k (f (agetD t k d))

/-- The keys of a table rise strictly. -/
def rising {α : Type} : Assoc α → Bool
  | [] => true
  | (a, _) :: r => (match r with | [] => true | (b, _) :: _ => decide (a < b)) && rising r

/-- The numbers 0 to n − 1 whose bit is set in a mask. -/
def bitsOf (n mask : Nat) : List Nat := (List.range n).filter (fun i => mask.testBit i)

/-- A mask with one bit set. -/
def setBit (mask i : Nat) : Nat := if mask.testBit i then mask else mask + 2 ^ i

/-- A mask with one bit cleared. -/
def clearBit (mask i : Nat) : Nat := if mask.testBit i then mask - 2 ^ i else mask

/-- `n` bits of a number from bit `lo` up. -/
def bitsAt (v lo n : Nat) : Nat := v / 2 ^ lo % 2 ^ n

/-- Truth as a field value. -/
def b2n (b : Bool) : Nat := if b then 1 else 0

/-- Applies `f` to the state for each element, in order. -/
def forEach {α σ : Type} (l : List α) (s : σ) (f : σ → α → σ) : σ := l.foldl f s

/-! ### Registers -/

/-- The mask of a field. -/
def Field.mask (f : Field) : Word := BitVec.ofNat 64 (2 ^ f.width - 1) <<< f.lsb

/-- The value of a field. -/
def Field.get (f : Field) (w : Word) : Nat := (w.toNat / 2 ^ f.lsb) % 2 ^ f.width

/-- A register value with one field set, the other bits kept. -/
def Field.set (f : Field) (w : Word) (v : Nat) : Word :=
  (w &&& ~~~ f.mask) ||| BitVec.ofNat 64 (v % 2 ^ f.width * 2 ^ f.lsb)

/-- The value a register holds. -/
def rd (s : State) (k : Nat) : Word := agetD s.regs k (resetOf k)

/-- The state with a register holding a value; a register at its reset value is not listed. -/
def wr (s : State) (k : Nat) (v : Word) : State := { s with regs := aset (resetOf k) s.regs k v }

/-- A field of a register. -/
def getF (s : State) (k : Nat) (f : Field) : Nat := f.get (rd s k)

/-- A one-bit field of a register reads 1. -/
def isSet (s : State) (k : Nat) (f : Field) : Bool := getF s k f != 0

/-- The state with a field of a register set. -/
def setF (s : State) (k : Nat) (f : Field) (v : Nat) : State := wr s k (f.set (rd s k) v)

/-- A 32-bit counter register that counts `n` more and saturates at 0xFFFF_FFFF. -/
def bumpN (s : State) (k n : Nat) : State := wr s k (BitVec.ofNat 64 (min 0xFFFFFFFF ((rd s k).toNat + n)))

/-- A 32-bit counter register that counts one more. -/
def bump (s : State) (k : Nat) : State := bumpN s k 1

/-! ### LPDDR4X -/

/-- The canonical form of memory: addresses strictly rising, no entry equal to what an unlisted address reads as, 0. -/
def Memory.wf (m : List Host.Cell) : Bool := rising m && m.all (fun e => e.2 != 0#8)

/-- One byte of LPDDR4X. -/
def memGet (m : List Host.Cell) (a : Nat) : Byte := agetD m a 0#8

/-- One byte of LPDDR4X written. -/
def memPut (m : List Host.Cell) (a : Nat) (b : Byte) : List Host.Cell := aset 0#8 m a b

/-- `n` bytes of LPDDR4X from an address up. -/
def memRead (m : List Host.Cell) (a n : Nat) : List Byte := (List.range n).map (fun i => memGet m (a + i))

/-- Bytes written to LPDDR4X from an address up. -/
def memWrite (m : List Host.Cell) (a : Nat) : List Byte → List Host.Cell
  | [] => m
  | b :: bs => memWrite (memPut m a b) (a + 1) bs

/-! ### Sending, time and free values -/

/-- Records something that the part sends. -/
def emit (s : State) (o : Out) : State := { s with out := s.out ++ [o] }

/-- Records several things that the part sends, in order. -/
def emits (s : State) (os : List Out) : State := { s with out := s.out ++ os }

/-- Sixteenths of a nanosecond in a number of microseconds. -/
def us (n : Nat) : Nat := 16000 * n
/-- Sixteenths of a nanosecond in a number of milliseconds. -/
def ms (n : Nat) : Nat := 16000000 * n


/-- A free value below `2 ^ w`, and the state that has drawn it. -/
def draw (s : State) (w : Nat) : Nat × State := (Config.freeNat s.free % 2 ^ w, { s with free := s.free + 1 })

/-! ### Defaults of the per-unit tables -/

/-- A Calez link after reset. -/
def Link.init : Link :=
  { nextTx := 0, nextRx := 0, unacked := [], replays := 0, replayAt := 0, ackMoved := 0, unreported := 0, nakAt := none,
    discarding := false, limit := [], cons := [], rxLimit := [], rxUsed := [], objRx := [], lastValid := 0,
    lastFrame := 0, partnerKa := 0, param := none, tryWidth := 0, tryRate := 0, atStart := false, laneOk := 0,
    held := false, skipStart := false, eqTx := [], eqPeer := [], eqCnt := [], eqFom := [], eqDone := [], ended := none, prev := none, quietAsked := false, txq := [], rxq := [], owed := [],
    icpPart := [], crDue := [], resetAt := none, offer := (0, 0), startBase := 0, peer := (0, 0), resumed := false, uncorr := [],
    line := { wait := [], phase := 0, count := 0, scr := [], idle := 0, prbs := none } }

/-- A PCIe port after reset. -/
def Port.init : Port :=
  { slotCmd := none, heldSlot := none, perstDue := none, ltrSeen := false, pmeOff := [], pmeWait := none,
    clkreqIn := false, clkreqOut := false, powerOffDue := none, txSeq := 0, unacked := [], replayNum := 0, scaled := false,
    fcLimit := [], fcUsed := [], hostOff := false }

/-- A tile after reset. -/
def Tile.init : Tile :=
  { coef := [], passAt := [], ageHeld := [], press := none, margined := [], testLanes := 0,
    calFor := none, calRunning := false, offDue := false }

/-- A configuration function after reset (R104). -/
def Func.init : Func :=
  { command := 0, d3hot := false, bars := [], priBus := 0, secBus := 0, subBus := 0, memBase := 0, memLimit := 0, prefBase := 0,
    prefLimit := 0, acs := 0, acsVec := 0, ariFwd := false, dpcEn := 0, dpcTrig := false, dpcReason := 0, dpcHeld := false,
    contained := false, powerOff := false, attnInd := 0, powerInd := 0, slotStatus := 0, slotInt := false, pme := false, present := false, dllActive := false,
    linkDisabled := false, aerUnc := 0, aerCor := 0, intx := 0, ats := 0, other := [] }

/-- A vSwitch after reset. -/
def Vsw.init : Vsw :=
  { bus := 0, funcs := [], perstHold := false, refusing := false, modeHeld := false, msixMask := [], msixPend := [], msixTab := [] }

/-- A Mover instance with its set-up at reset values (R237). -/
def Inst.init : Inst :=
  { setup := [], descs := [], nextFetch := 0, fetching := false, written := [], recs := [], ringWait := .none, byCtrl := false,
    mbTo := [], mbFrom := [], mbWait := [], relay := none, relayIn := [], relayOut := [], dirty := none }

def State.link (s : State) (n : Nat) : Link := agetD s.links n Link.init
def State.setLink (s : State) (n : Nat) (l : Link) : State := { s with links := aput s.links n l }
def State.modLink (s : State) (n : Nat) (f : Link → Link) : State := s.setLink n (f (s.link n))
def State.port (s : State) (p : Nat) : Port := agetD s.ports p Port.init
def State.modPort (s : State) (p : Nat) (f : Port → Port) : State := { s with ports := aput s.ports p (f (s.port p)) }
def State.tile (s : State) (t : Nat) : Tile := agetD s.tiles t Tile.init
def State.modTile (s : State) (t : Nat) (f : Tile → Tile) : State := { s with tiles := aput s.tiles t (f (s.tile t)) }
def State.vsw (s : State) (v : Nat) : Vsw := agetD s.hosts.vsws v Vsw.init
def State.modVsw (s : State) (v : Nat) (f : Vsw → Vsw) : State :=
  { s with hosts := { s.hosts with vsws := aput s.hosts.vsws v (f (s.vsw v)) } }
def State.func (s : State) (v k : Nat) : Func := agetD (s.vsw v).funcs k Func.init
def State.modFunc (s : State) (v k : Nat) (f : Func → Func) : State :=
  s.modVsw v (fun x => { x with funcs := aput x.funcs k (f (agetD x.funcs k Func.init)) })
def State.inst (s : State) (n : Nat) : Inst := agetD s.mover.insts n Inst.init
def State.modInst (s : State) (n : Nat) (f : Inst → Inst) : State :=
  { s with mover := { s.mover with insts := aput s.mover.insts n (f (s.inst n)) } }

/-! ### Check values (R6, R313, R369) -/

/-- One bit step of a reflected CRC. -/
def crcBit (poly r : Nat) : Nat := if r % 2 = 1 then (r / 2) ^^^ poly else r / 2

/-- One byte fed into a reflected CRC. -/
def crcByte (poly r : Nat) (b : Byte) : Nat :=
  crcBit poly (crcBit poly (crcBit poly (crcBit poly (crcBit poly (crcBit poly (crcBit poly (crcBit poly (r ^^^ b.toNat))))))))

/-- CRC-32C over bytes, from a running value. -/
def crc32cRun (r : Nat) (bs : List Byte) : Nat := bs.foldl (crcByte 0x82F63B78) r

/-- CRC-32C of bytes. -/
def crc32c (bs : List Byte) : Nat := crc32cRun 0xFFFFFFFF bs ^^^ 0xFFFFFFFF

end Sys2Proof.Machine
end

