-- ==== Sys2Proof/Machine/Flags.lean ====
section
/-!
DEFINITION. Machine/Flags.lean: interrupt vectors and event bits.
-/
namespace Sys2Proof.Machine

/-- Raises an MSI-X vector of a function of a vSwitch (0 management, 1 Mover PF): a masked vector is held as pending, as PCIe
defines; none is sent while the function's Bus Master Enable is clear (R125). -/
def msix (s : State) (v fn vec : Nat) : State :=
  let key := fn * 65536 + vec
  if !(s.func v fn).command.testBit 2 then s
  else if (s.vsw v).msixMask.contains key then
    s.modVsw v (fun x => if x.msixPend.contains key then x else { x with msixPend := x.msixPend ++ [key] })
  else emit s (.msix v fn vec)

/-- The enabled vSwitches whose management function carries a Manager-role ring (R311, log entry 11). -/
def managers (s : State) : List Nat :=
  (bitsOf 32 (rd s Reg.ICP_MGR).toNat).filter (fun v => isSet s (Reg.VSW_CTRL v) Fld.VSW_CTRL_EN)

/-- Raises an MSI-X vector of every management function that carries a Manager-role ring. -/
def msixManagers (s : State) (vec : Nat) : State := forEach (managers s) s (fun s v => msix s v 0 vec)

/-- Sets an event bit of a PCIe port; an event that ENABLE lets through raises vector 4 of the managers (PORT_EVENT). -/
def portEvent (s : State) (p i : Nat) : State :=
  let w := rd s (Reg.PORT_EVENT p)
  let s' := wr s (Reg.PORT_EVENT p) (w ||| BitVec.ofNat 64 (2 ^ i))
  if w.getLsbD (16 + i) then msixManagers s' 4 else s'

/-- Sets an event bit of the twin pair and raises vector 3 of the managers (R218). -/
def twinEvent (s : State) (i : Nat) : State :=
  msixManagers (wr s Reg.TWIN_EVENT (rd s Reg.TWIN_EVENT ||| BitVec.ofNat 64 (2 ^ i))) 3

/-- Event bits of PORT_EVENT. -/
abbrev Ev.linkUp : Nat := 0
abbrev Ev.linkDown : Nat := 1
abbrev Ev.surpriseDown : Nat := 2
abbrev Ev.speedChange : Nat := 3
abbrev Ev.widthDegraded : Nat := 4
abbrev Ev.dpc : Nat := 5
abbrev Ev.fenced : Nat := 6
abbrev Ev.presence : Nat := 7
abbrev Ev.powerGood : Nat := 8
abbrev Ev.powerFault : Nat := 9
abbrev Ev.egvRefused : Nat := 10
abbrev Ev.mrl : Nat := 11
abbrev Ev.attnButton : Nat := 12
abbrev Ev.wake : Nat := 13
abbrev Ev.sbFail : Nat := 14

/-! ### The mode in force and the phases of the part -/

/-- The mode in force (R14). -/
def mode (s : State) : Nat := getF s Reg.GLB_MODE_STATUS Fld.GLB_MODE_STATUS_MODE

/-- This node's ID: FAB_ID, 0 outside modes 3 and 4 (R315). -/
def nodeId (s : State) : Nat := if mode s = 3 ∨ mode s = 4 then getF s Reg.FAB_ID Fld.FAB_ID_NODE else 0

/-- MOVER_FAULT_RESUME_EN and LIVE_CAL_EN; in mode 5 PRESS behaves as with LIVE_CAL_EN at 1 (R42, R43). -/
def resumeEn (s : State) : Bool := isSet s Reg.GLB_MODE_STATUS Fld.GLB_MODE_STATUS_MOVER_FAULT_RESUME_EN
def liveCalEn (s : State) : Bool := isSet s Reg.GLB_MODE_STATUS Fld.GLB_MODE_STATUS_LIVE_CAL_EN || mode s == 5

/-- The device is Dormant, or on its way out of it (PWR_STATUS.STATE 1 to 3). -/
def dormant (s : State) : Bool :=
  let x := getF s Reg.PWR_STATUS Fld.PWR_STATUS_STATE
  x == 2 || x == 3

/-- Nothing holds the part in reset: no TERMINAL latch, no power-fail flush, out of reset (R351, R394, R476). -/
def powered (s : State) : Bool := !s.pwr.terminal && !s.pwr.flushing && s.pwr.phase != .held

/-- The fast domains run: the root PLL is stable and the device is not Dormant (R377). -/
def fastUp (s : State) : Bool :=
  powered s && !dormant s && (s.pwr.phase == .booting || s.pwr.phase == .configured || s.pwr.phase == .ready)

/-- The boot configuration is applied and the fast domains run: links train and traffic flows (R437). -/
def up (s : State) : Bool := fastUp s && s.pwr.phase != .booting

end Sys2Proof.Machine
end

