-- ==== Sys2Proof/Machine/Operands.lean ====
section
/-!
DEFINITION. Machine/Operands.lean: numbers and fields in byte strings, and the byte layouts of table entries and records.
-/
namespace Sys2Proof.Machine

/-- The little-endian number in `n` bytes from byte `ofs` (R7); bytes beyond the string are 0. -/
def num (bs : List Byte) (ofs n : Nat) : Nat := leNat ((bs.drop ofs).take n)

/-- One bit of a byte of a string. -/
def bitAt (bs : List Byte) (ofs i : Nat) : Bool := (num bs ofs 1).testBit i

/-- A string of exactly `n` bytes: cut, or filled with zeros. -/
def fit (n : Nat) (bs : List Byte) : List Byte := (bs ++ List.replicate n 0#8).take n

/-- Zero bytes. -/
def zeros (n : Nat) : List Byte := List.replicate n 0#8

/-- Bytes of a string replaced from an offset on, the string reaching at least that far. -/
def patch (bs : List Byte) (ofs : Nat) (new : List Byte) : List Byte :=
  fit ofs bs ++ new ++ bs.drop (ofs + new.length)

/-- A register's low `n` bytes. -/
def regBytes (s : State) (k n : Nat) : List Byte := natLe n (rd s k).toNat

/-- Bytes put into a run of 64-bit data registers `key 0`, `key 1` and so on. -/
def putData (s : State) (key : Nat → Nat) (bs : List Byte) : State :=
  forEach (List.range ((bs.length + 7) / 8)) s (fun s i => wr s (key i) (BitVec.ofNat 64 (num bs (8 * i) 8)))

/-- The bytes of `n` 64-bit data registers. -/
def getData (s : State) (key : Nat → Nat) (n : Nat) : List Byte := (List.range n).flatMap (fun i => regBytes s (key i) 8)

end Sys2Proof.Machine
end

