-- ==== Sys2Proof/Machine/IcpOps.lean ====
section
/-!
DEFINITION. Machine/IcpOps.lean: the decoders' queues and the replies of ICP commands (R312–R319, R328–R334).
-/
namespace Sys2Proof.Machine

/-- STATUS codes (R317). -/
abbrev St.ok : Nat := 0x0000
abbrev St.accepted : Nat := 0x0001
abbrev St.badOpcode : Nat := 0x0101
abbrev St.badLength : Nat := 0x0102
abbrev St.badCrc : Nat := 0x0103
abbrev St.aliveError : Nat := 0x0104
abbrev St.notPermitted : Nat := 0x0201
abbrev St.wrongMode : Nat := 0x0202
abbrev St.busy : Nat := 0x0301
abbrev St.notQuiesced : Nat := 0x0302
abbrev St.noResource : Nat := 0x0401
abbrev St.timeout : Nat := 0x0501
abbrev St.fenced : Nat := 0x0601
abbrev St.notSupported : Nat := 0x0602
abbrev St.twinDisagree : Nat := 0x0701
abbrev St.authFail : Nat := 0x0801
abbrev St.internal : Nat := 0x0F01

/-- The channels that are not rings or VDMs (R311); a mailbox is 128 + its instance. -/
abbrev Ch.bmc : Nat := 64
abbrev Ch.twin : Nat := 65
abbrev Ch.relay : Nat := 66
abbrev Ch.internal : Nat := 67
abbrev Ch.mailbox (n : Nat) : Nat := 128 + n

/-- The three decoders (R334). -/
inductive Decoder where
  | sp | fw | tma
  deriving DecidableEq, Repr

/-- ALIVE values of a channel. -/
def alive (s : State) (c : Nat) : Alive := agetD s.icp.alive c ⟨0, 0⟩

def setAlive (s : State) (c : Nat) (a : Alive) : State := { s with icp := { s.icp with alive := aput s.icp.alive c a } }

/-- Both ALIVE values of a channel set to 0 (R311). -/
def zeroAlive (s : State) (c : Nat) : State := setAlive s c ⟨0, 0⟩

/-- The request came in the session in force of its channel (R324). -/
def inSession (s : State) (r : IcpReq) : Bool := 32 ≤ r.chan || r.ses == agetD s.icp.sessions r.chan 0

/-- Commands outstanding on a channel (R328). -/
def outstanding (s : State) (c : Nat) : Nat :=
  ((s.icp.spQ ++ s.icp.fwQ ++ s.icp.tmaQ ++ s.icp.running).filter (fun r => r.chan == c && inSession s r)).length +
    (s.icp.relays.filter (fun r => r.req.chan == c && inSession s r.req)).length

/-- A whole packet: header, PCRC and payload (R313); `tgt` is TARGET of a request or STATUS of a reply. -/
def packet (opcode flags seq tgt aliveV : Nat) (payload : List Byte) : List Byte :=
  let h := natLe 2 opcode ++ natLe 1 flags ++ [1#8] ++ natLe 2 seq ++ natLe 2 payload.length ++ natLe 2 tgt ++ natLe 1 (aliveV % 16) ++ [0#8]
  h ++ natLe 4 (crc32c (h ++ payload)) ++ payload

/-- The queue of a decoder. -/
def decoderQ (s : State) : Decoder → List IcpReq
  | .sp => s.icp.spQ | .fw => s.icp.fwQ | .tma => s.icp.tmaQ

def setDecoderQ (s : State) (q : List IcpReq) : Decoder → State
  | .sp => { s with icp := { s.icp with spQ := q } }
  | .fw => { s with icp := { s.icp with fwQ := q } }
  | .tma => { s with icp := { s.icp with tmaQ := q } }

/-- The request that a decoder starts next: the oldest URGENT one, or else the oldest (R328). -/
def nextReq (q : List IcpReq) : Option IcpReq :=
  match q.find? (fun r => r.flags.testBit 1) with
  | some r => some r
  | none => q.head?

/-- Commands of the firmware that the SP ROM stands in for in recovery, on the BMC channel (R439). -/
def romServes (s : State) (r : IcpReq) : Bool :=
  isSet s Reg.BOOT_STATUS Fld.BOOT_STATUS_RECOVERY && r.chan == Ch.bmc && (r.opcode == 0x0101 || r.opcode == 0x0901 || r.opcode == 0x0906)

/-- The requests that a decoder can serve: in recovery the ROM serves its own alone. -/
def served (s : State) (d : Decoder) : List IcpReq :=
  if d = .fw && s.pwr.coresHeld then (decoderQ s d).filter (romServes s) else decoderQ s d

/-- The decoder starts its next command, if that command has the opcode: the request, and the state in which it is
outstanding as begun. -/
def icpTake (s : State) (d : Decoder) (opcode : Nat) : Option (IcpReq × State) :=
  match nextReq (served s d) with
  | some r =>
    if r.opcode = opcode then
      let s1 := setDecoderQ s ((decoderQ s d).erase r) d
      some (r, { s1 with icp := { s1.icp with running := s1.icp.running ++ [r] } })
    else none
  | none => none

/-- Raises interrupt entry `e` of a Mover instance, or sets its PEND bit while it is masked (R238). -/
def instInterrupt (s : State) (n e : Nat) : State :=
  let i := s.inst n
  let m := num i.setup 40 1
  if m.testBit e then s.modInst n (fun i => { i with setup := patch i.setup 40 (natLe 1 (setBit m (2 + e))) })
  else { s with mover := { s.mover with irqs := s.mover.irqs ++ [(n, e)] } }

/-- A reply packet leaves on its channel (R316, R323, R325, R327, R253). -/
def deliver (s : State) (c tag : Nat) (p : List Byte) : State :=
  if c < 32 then
    if isSet s (Reg.ICP_RING_CFG c) Fld.ICP_RING_CFG_EN then
      { s with icp := { s.icp with cplWait := amod s.icp.cplWait c [] (fun q => q ++ [p]) } }
    else s
  else if c = Ch.twin ∨ c = Ch.relay then { s with icp := { s.icp with twinTx := s.icp.twinTx ++ [p] } }
  else if c < 128 then emit s (.icp c tag p)
  else
    let n := c - 128
    if isSet s (Reg.INST_STATUS n) Fld.INST_STATUS_MB_IN_FULL then s.modInst n (fun i => { i with mbWait := i.mbWait ++ [p] })
    else
      let s := s.modInst n (fun i => { i with mbFrom := fit 64 p })
      instInterrupt (setF s (Reg.INST_STATUS n) Fld.INST_STATUS_MB_IN_FULL 1) n 1

/-- A reply is sent whatever WANT_REPLY reads on Twin, Twin relay and Tenant channels (R314). -/
def wantReply (r : IcpReq) : Bool := r.flags.testBit 0 || r.chan == Ch.twin || r.chan == Ch.relay || 128 ≤ r.chan

/-- Sends one reply of a command, interim or final (R314, R316). -/
def sendReply (s : State) (r : IcpReq) (status : Nat) (payload : List Byte) : State :=
  if inSession s r && (wantReply r || (status != St.ok && status != St.accepted)) then
    let a := alive s r.chan
    let s1 := setAlive s r.chan ⟨a.exp, (a.rep + 1) % 16⟩
    deliver s1 r.chan r.tag (packet (r.opcode % 0x8000 + 0x8000) r.flags r.seq status a.rep payload)
  else s

/-! ### The opcode table (R332–R334) -/

/-- Roles of R332, as a mask. -/
abbrev Role.manager : Nat := 1
abbrev Role.tenant : Nat := 2
abbrev Role.twin : Nat := 4
abbrev Role.internal : Nat := 8

/-- The row of R334 for an opcode: decoder, roles and modes, as masks. -/
def opcodeRow (o : Nat) : Option (Decoder × Nat × Nat) :=
  let m := Role.manager
  let s := Role.internal
  let t := Role.twin
  match o with
  | 0x0101 | 0x0102 | 0x0110 | 0x0204 | 0x0401 | 0x0801 | 0x0903 | 0x0A01 | 0x0A11 => some (.fw, m, 0x3F)
  | 0x0120 | 0x0121 | 0x0122 | 0x0906 => some (.fw, m, 0x20)
  | 0x0201 | 0x0301 => some (.fw, m, 0x1C)
  | 0x0202 | 0x0203 => some (.fw, m + t, 0x18)
  | 0x0208 => some (.fw, m + t, 0x3F)
  | 0x0302 | 0x0303 => some (.fw, m, 0x1F)
  | 0x0320 | 0x0321 => some (.fw, Role.tenant, 0x1F)
  | 0x0501 | 0x0502 | 0x0602 | 0x0603 | 0x0604 | 0x0802 | 0x0904 | 0x0905 => some (.sp, m, 0x3F)
  | 0x0503 | 0x0601 => some (.sp, m + s, 0x3F)
  | 0x0605 => some (.sp, m, 0x20)
  | 0x0701 => some (.sp, m, 0x10)
  | 0x0710 | 0x0711 | 0x0712 | 0x0713 | 0x0714 => some (.tma, t, 0x10)
  | 0x0715 => some (.sp, t, 0x10)
  | 0x0901 => some (.fw, m, 0x30)
  | 0x0902 => some (.sp, m, 0x30)
  | 0x0A10 => some (.fw, m + s, 0x3F)
  | _ => none

/-- The management firmware decodes the opcode (R334). -/
def byFirmware (o : Nat) : Bool := match opcodeRow o with | some (d, _, _) => d == .fw | none => false

/-- A command of the firmware goes unanswered while its cores are held (R18), but for those that the ROM serves. -/
def unanswered (s : State) (r : IcpReq) : Bool := s.pwr.coresHeld && byFirmware r.opcode && !romServes s r

/-- The final reply of a command: it is outstanding no longer. -/
def reply (s : State) (r : IcpReq) (status : Nat) (payload : List Byte) : State :=
  let s1 := if unanswered s r then s else sendReply s r status payload
  { s1 with icp := { s1.icp with running := s1.icp.running.erase r } }

/-- Bytes of an opcode's own reply payload, as a refusal carries it with every field 0 (R165, R230, R255, R309, R326, R335–R345). -/
def replyLen (opcode : Nat) : Nat :=
  match opcode with
  | 0x0101 => 32
  | 0x0120 => 2056
  | 0x0801 => 1352
  | 0x0122 | 0x0503 | 0x0710 => 16
  | 0x0320 => 24
  | 0x0301 | 0x0302 => 4
  | 0x0110 | 0x0401 | 0x0701 | 0x0802 | 0x0901 | 0x0902 | 0x0903 | 0x0905 | 0x0906 | 0x0321 | 0x0714 => 0
  | _ => 8

/-- A command is refused, with no effect: its final reply. -/
def refuse (s : State) (r : IcpReq) (status : Nat) : State := reply s r status (zeros (replyLen r.opcode))

/-- A MODE_ACTIVATE or FW_ACTIVATE runs: BUSY for opcode classes 0x02, 0x03, 0x07 and 0x09 except TABLE_READ (R329). -/
def actBusy (s : State) (opcode : Nat) : Bool :=
  (s.pwr.act.isSome || s.twin.fwAfter || s.pwr.warmReq == some (0x0A, 0, 0)) && (opcode / 256 == 2 || opcode / 256 == 3 || opcode / 256 == 7 || opcode / 256 == 9) &&
    opcode != 0x0204

/-- Whether a decoder works: the SP while it runs, the firmware while its cores run (R18, R330). -/
def decoderUp (s : State) : Decoder → Bool
  | .sp => up s
  | .fw => up s && (!s.pwr.coresHeld || isSet s Reg.BOOT_STATUS Fld.BOOT_STATUS_RECOVERY)
  | .tma => up s

/-- The effect of an ICP command row: the decoder starts its next command if it is this one. -/
def icpCommand (s : State) (d : Decoder) (opcode : Nat) (f : IcpReq → State → State) : State :=
  if decoderUp s d then
    match icpTake s d opcode with
    | some (r, s1) => f r s1
    | none => s
  else s

end Sys2Proof.Machine
end

