-- ==== Sys2Proof/Machine/Fcu.lean ====
section
/-!
DEFINITION. Machine/Fcu.lean: the Fault Collection Unit: faults detected, records, escalation, FAULT_N and the journal's
buffer (R350–R365, R407–R411).
-/
namespace Sys2Proof.Machine

/-! ### Units (R352) -/

/-- The KIND codes of R352. -/
abbrev Uk.sp : Nat := 0x01
abbrev Uk.fcu : Nat := 0x02
abbrev Uk.egv : Nat := 0x03
abbrev Uk.global : Nat := 0x05
abbrev Uk.tile : Nat := 0x10
abbrev Uk.lane : Nat := 0x11
abbrev Uk.port : Nat := 0x20
abbrev Uk.calez : Nat := 0x21
abbrev Uk.core : Nat := 0x30
abbrev Uk.table : Nat := 0x31
abbrev Uk.comet : Nat := 0x33
abbrev Uk.sampler : Nat := 0x34
abbrev Uk.engine : Nat := 0x40
abbrev Uk.mgmt : Nat := 0x50
abbrev Uk.icp : Nat := 0x51
abbrev Uk.twin : Nat := 0x52
abbrev Uk.fabric : Nat := 0x53
abbrev Uk.ddr : Nat := 0x60
abbrev Uk.bus : Nat := 0x61
abbrev Uk.cvu : Nat := 0x70
abbrev Uk.mpu : Nat := 0x71
abbrev Uk.background : Nat := 0x80
abbrev Uk.master : Nat := 0x90

/-- A unit that can be fenced, with a unit of that number (R352). -/
def fencible (u : UnitId) : Bool :=
  (u.kind == Uk.tile && u.index < 16) || (u.kind == Uk.port && u.index < 64) || (u.kind == Uk.calez && u.index < 32) ||
  (u.kind == Uk.comet && u.index == 0) || (u.kind == Uk.sampler && u.index == 0) || (u.kind == Uk.engine && u.index < 16) ||
  (u.kind == Uk.mgmt && u.index == 0) || (u.kind == Uk.ddr && u.index == 0) || (u.kind == Uk.bus && u.index < 5) ||
  (u.kind == Uk.cvu && u.index < 8) || (u.kind == Uk.mpu && u.index < 23)

/-- A unit marked "To FATAL". -/
def toFatal (u : UnitId) : Bool := u.kind == Uk.core || u.kind == Uk.table

/-- The FCU's state of a unit. -/
def unitState (s : State) (u : UnitId) : UnitState :=
  (s.fcu.units.find? (fun x => x.unit == u)).getD ⟨u, 0, false, false, none⟩

/-- A unit state worth keeping: something uncleared, a fence, or a CONTAINED fault that R357 still reaches. -/
def UnitState.live (x : UnitState) : Bool := x.classes != 0 || x.faultFenced || x.cmdFenced || x.lastContained.isSome

/-- The unit states with one changed; a unit new to the list goes last, one with nothing left is dropped. -/
def setUnit (s : State) (x : UnitState) : State :=
  let us := s.fcu.units
  let us' := if us.any (fun y => y.unit == x.unit) then us.map (fun y => if y.unit == x.unit then x else y) else us ++ [x]
  { s with fcu := { s.fcu with units := us'.filter UnitState.live } }

/-- The unit is fenced, by fault or by command. -/
def isFenced (s : State) (u : UnitId) : Bool := (unitState s u).faultFenced || (unitState s u).cmdFenced

/-! ### FAULT_N (R362) -/

/-- A condition of R362 that holds FAULT_N low. -/
def faultNHeld (s : State) : Bool :=
  s.fcu.units.any (fun u => u.classes != 0) || !s.fcu.recs.isEmpty || s.pwr.terminal

/-- FAULT_N goes low when a condition begins to hold. -/
def faultNDrive (s : State) : State :=
  if faultNHeld s && !s.pwr.faultNLow then
    emit { s with pwr := { s.pwr with faultNLow := true, faultNSince := s.edge } } (.faultN true)
  else s

/-! ### The journal's buffer (R407, R410, R411) -/

/-- The device's AON cycles since VDD_AON power-up: an AON edge at every sixteenth common edge (R377, JNL_AON_T). -/
def aonTime (s : State) : Nat := s.edge / 16

/-- SEQ of the next record created (R411): one more than every record committed or waiting. -/
def journalSeq (s : State) : Nat := (rd s Reg.JNL_SEQ).toNat + s.bg.jbuf.length

/-- The SP creates a journal record; `clears` are CORRECTED faults that its commit clears. -/
def journalAdd (s : State) (type : Nat) (body : List Byte) (clears : List (Nat × UnitId)) : State :=
  let r : JRec := { type := type, seq := journalSeq s, ts := s.time, aonT := aonTime s, summary := s.bg.summary, body := body,
                    clears := s.bg.summClears ++ clears }
  { s with bg := { s.bg with jbuf := s.bg.jbuf ++ [r], summary := 0, summClears := [] } }

/-- A fault is journalled: with its own record while fewer than 8 wait, else in the SUMMARY of the next (R410). -/
def journalFault (s : State) (body : List Byte) (clears : List (Nat × UnitId)) : State :=
  if s.bg.jbuf.length < 8 then journalAdd s 2 body clears
  else bump { s with bg := { s.bg with summary := s.bg.summary + 1, summClears := s.bg.summClears ++ clears } } Reg.JNL_SUMM_CNT

/-! ### Detection -/

/-- A fault is detected: the FCU takes it before the command ends. -/
def detect (s : State) (source : Nat) (cls : FaultClass) (kind index detail : Nat) : State :=
  { s with fcu := { s.fcu with due := s.fcu.due ++ [⟨source, cls, ⟨kind, index⟩, detail, false⟩] } }

/-- A fault that an injection caused, or one that none did (R366). -/
def detectBy (s : State) (injected : Bool) (source : Nat) (cls : FaultClass) (kind index detail : Nat) : State :=
  { s with fcu := { s.fcu with due := s.fcu.due ++ [⟨source, cls, ⟨kind, index⟩, detail, injected⟩] } }

/-- Length of the window and threshold of a group of correctable events (R354): 0 Link, 1 FEC, 2 SRAM, 3 LPDDR4X. -/
def corrLimit (group : Nat) : Nat × Nat :=
  if group = 0 then (ms 100, 256) else if group = 1 then (ms 100, 1048576) else if group = 2 then (ms 1000, 16) else (ms 1000, 64)

/-- `n` correctable events of a unit in one group, injected ones or not (R366): at the threshold within the window one CORRECTED
fault is raised and the window closes (R354). -/
def correctableBy (s : State) (injected : Bool) (u : UnitId) (group n source : Nat) : State :=
  let (len, thr) := corrLimit group
  let w := (s.fcu.windows.find? (fun w => w.unit == u && w.group == group)).getD ⟨u, group, s.time, 0⟩
  let w := if w.opened + len < s.time then { w with opened := s.time, count := 0 } else w
  let rest := s.fcu.windows.filter (fun w => !(w.unit == u && w.group == group))
  if thr ≤ w.count + n then
    let detail := if source = 0x0200 then group * 4294967296 + (w.count + n) else w.count + n
    detectBy { s with fcu := { s.fcu with windows := rest } } injected source .corrected u.kind u.index detail
  else { s with fcu := { s.fcu with windows := rest ++ [{ w with count := w.count + n }] } }

/-- `n` correctable events that no injection caused. -/
def correctable (s : State) (u : UnitId) (group n source : Nat) : State := correctableBy s false u group n source

/-- A FAULT_INJECT of a kind in force at a unit takes one event (R366): whether there is one, and the state after it. -/
def takeInjection (s : State) (u : UnitId) (kind : Nat) : Bool × State :=
  match s.fcu.injections.find? (fun i => i.unit == u && i.kind == kind) with
  | none => (false, s)
  | some i =>
    let rest := s.fcu.injections.erase i
    (true, { s with fcu := { s.fcu with injections := if i.left ≤ 1 then rest else rest ++ [{ i with left := i.left - 1 }] } })

/-- A FAULT_INJECT of KIND 2 at a link inverts the CRC of what is being transmitted (R366). -/
def injectCrc (s : State) (kind index : Nat) : State :=
  match takeInjection s ⟨kind, index⟩ 2 with
  | (true, s) => emit s (.crcInverted kind index)
  | (false, s) => s

/-! ### Records (R355, R356) -/

/-- The 32 bytes of a record. -/
def FaultRec.bytes (r : FaultRec) : List Byte :=
  natLe 8 r.ts ++ natLe 4 r.unit.code ++
  natLe 1 (r.firstClass * 32 + b2n r.injected * 16 + b2n r.escalated * 8 + r.cls) ++ natLe 1 (b2n r.second) ++ natLe 1 r.scount ++ [0#8] ++
  natLe 2 r.source ++ [0#8, 0#8] ++ natLe 4 r.seq ++ natLe 8 r.detail

/-- The pending record of a class takes a fault, or counts it as a further one (R355). -/
def recordFault (s : State) (r : FaultRec) : State :=
  match aget s.fcu.recs r.cls with
  | none => msixManagers { s with fcu := { s.fcu with recs := aput s.fcu.recs r.cls r } } 1
  | some o =>
    { s with fcu := { s.fcu with recs := aput s.fcu.recs r.cls { o with second := true, scount := min 255 (o.scount + 1) } } }

/-- The cause of a reset enters RST_REASON and RST_DETAIL (R382). -/
def resetReason (s : State) (cause source unit : Nat) : State :=
  let w := (rd s Reg.RST_REASON).toNat
  let n := min 0xFFFF (w / 256 % 65536 + 1)
  let s := wr s Reg.RST_REASON (BitVec.ofNat 64 (w % 256 * 16777216 + n * 256 + cause))
  wr s Reg.RST_DETAIL (BitVec.ofNat 64 (unit * 4294967296 + source * 65536))

/-- Registers that outlast a cold reset: those retained in the AON domain (R13). -/
def retainedReg (k : Nat) : Bool := match famOf k with | some f => f.retained | none => false

/-- The levels of the HOST_PERST_N inputs, which no reset changes. -/
def pinsKept (s : State) : Hosts :=
  { Hosts.reset with perstPins := s.hosts.perstPins }

/-- PF_LAST and PF_RECORDS are retained (PWR_STATUS). -/
def pfKept (s : State) : Assoc Word :=
  let w := rd s Reg.PWR_STATUS &&& 0x80FF#64
  if w = 0 then [] else [(Reg.PWR_STATUS, w)]

/-- Every domain but AON in reset (R351, R380): registers at reset but for the retained ones; the flash, the OTP, what
the AON domain holds, the LPDDR4X and the queue of commands stay. -/
def holdDomains (s : State) : State :=
  { State.reset with
    regs := (pfKept s).foldl (fun t e => aput t e.1 e.2) (s.regs.filter (fun e => retainedReg e.1)), mem := s.mem, edge := s.edge, free := s.free, out := s.out, lineAt := s.out.length,
    pwr := { Power.reset with phase := .held, strap := s.pwr.strap, porLow := s.pwr.porLow, pwrfailLow := s.pwr.pwrfailLow,
                              terminal := s.pwr.terminal, railsOk := s.pwr.railsOk, faultNLow := s.pwr.faultNLow,
                              faultNSince := s.pwr.faultNSince, bootStart := s.edge, efuses := s.pwr.efuses, cause := s.pwr.cause },
    hosts := pinsKept s,
    flash := s.flash, otp := s.otp, ddr := s.ddr, bg := { Background.reset with seqFloor := s.bg.seqFloor }, pending := s.pending }

/-- HB_RUN clears and TWIN_HB_OUT is driven low (R215). -/
def heartbeatStop (s : State) : State :=
  let s := setF { s with pwr := { s.pwr with hbRun := false } } Reg.TWIN_CTRL Fld.TWIN_CTRL_HB_RUN 0
  if s.pwr.hbOut then emit { s with pwr := { s.pwr with hbOut := false } } (.heartbeat false) else s

/-- A TERMINAL fault acts through the AON domain (R351): FAULT_N low, heartbeat stopped, every other domain held in reset,
the reset reason recorded, the latch set. -/
def terminalHold (s : State) (source : Nat) (u : UnitId) : State :=
  let s := heartbeatStop s
  let s := faultNDrive { s with pwr := { s.pwr with terminal := true } }
  let s := holdDomains (resetReason s 0x0C source u.code)
  { s with pwr := { s.pwr with terminal := true } }

/-- A fault of class up to FENCED of a unit that is fenced by fault makes no record of its own (R355). -/
def faultMuted (s : State) (f : FaultReq) : Bool := (unitState s f.unit).faultFenced && decide (f.cls.code ≤ 2)

/-- The class of a fault after escalation (R357): a repeated CONTAINED fault within 1 s. -/
def faultCls (s : State) (f : FaultReq) : FaultClass :=
  let recent := match (unitState s f.unit).lastContained with | some t => decide ((s.time : Int) ≤ t + ms 1000) | none => false
  if f.cls == .contained && recent && !faultMuted s f then
    (if fencible f.unit then .fenced else if toFatal f.unit then .fatal else .contained) else f.cls

/-- The FCU takes one fault (R355, R357, R363): counts it, escalates it, updates its unit's state, fills or counts in the
pending record of its class, has it journalled and decides the fence or the warm reset. -/
def takeFault (s : State) (f : FaultReq) : State :=
  if f.cls = .terminal then terminalHold s f.source f.unit
  else
    let u := unitState s f.unit
    let muted := faultMuted s f
    let cls := faultCls s f
    let seq := getF s Reg.FCU_SEQ Fld.FCU_SEQ_SEQ
    let r : FaultRec := { ts := s.time, unit := f.unit, firstClass := f.cls.code, injected := f.injected,
                          escalated := decide (cls ≠ f.cls), cls := cls.code, second := false, scount := 0, source := f.source,
                          seq := seq, detail := f.detail }
    let s := bump (setF s Reg.FCU_SEQ Fld.FCU_SEQ_SEQ (seq + 1)) (Reg.FCU_CLASS_CNT cls.code)
    let clears := if cls == .corrected && !muted then [(seq, f.unit)] else []
    if muted then journalFault s (r.bytes ++ natLe 1 u.classes) clears
    else
      let u' : UnitState := { u with classes := setBit u.classes cls.code, faultFenced := u.faultFenced || decide (cls = .fenced),
                                     lastContained := if f.cls = .contained then some (s.time : Int) else u.lastContained }
      let s := faultNDrive (recordFault (setUnit s u') r)
      let s := journalFault s (r.bytes ++ natLe 1 u'.classes) clears
      if cls = .fenced then { s with fcu := { s.fcu with fenceDue := s.fcu.fenceDue ++ [f.unit] } }
      else if cls = .fatal then
        match s.pwr.warmReq with
        | some _ => s
        | none => { s with pwr := { s.pwr with warmReq := some (0x08, f.source, f.unit.code) } }
      else s

/-- Whether one fault goes before another of the same cycle (R356): higher class first, then the lower UNIT code. -/
def faultBefore (a b : FaultReq) : Bool :=
  b.cls.code < a.cls.code || (a.cls.code == b.cls.code && a.unit.code ≤ b.unit.code)

/-- A fault put into a list kept in the order of R356; one equal in class and unit goes behind. -/
def insertFault (f : FaultReq) : List FaultReq → List FaultReq
  | [] => [f]
  | g :: r => if faultBefore g f then g :: insertFault f r else f :: g :: r

/-- Faults in the order of R356. -/
def sortFaults (l : List FaultReq) : List FaultReq := l.foldl (fun acc f => insertFault f acc) []

/-- Clears every uncleared fault of a unit of class `c` and below and frees their records (R364). -/
def clearFaults (s : State) (u : UnitId) (c : Nat) : State :=
  let x := unitState s u
  let keep := (List.range 5).foldl (fun m i => if c < i ∧ x.classes.testBit i then setBit m i else m) 0
  let s := { s with fcu := { s.fcu with recs := s.fcu.recs.filter (fun e => !(e.1 ≤ c && e.2.unit == u)) } }
  setUnit s { x with classes := keep, faultFenced := x.faultFenced && decide (c < 2),
                     lastContained := if 1 ≤ c then none else x.lastContained }

/-- A CORRECTED fault clears itself once its journal record is written (R363): its pending record, if it holds this fault,
is freed; the class clears in its unit once no other CORRECTED fault of the unit awaits its record. -/
def selfClear (s : State) (seq : Nat) (u : UnitId) : State :=
  let s := match aget s.fcu.recs 0 with
    | some r => if r.seq = seq then { s with fcu := { s.fcu with recs := adel s.fcu.recs 0 } } else s
    | none => s
  let waits := (s.bg.jbuf.any (fun r => r.clears.any (fun e => e.2 == u))) || s.bg.summClears.any (fun e => e.2 == u)
  if waits then s
  else let x := unitState s u; setUnit s { x with classes := clearBit x.classes 0 }

end Sys2Proof.Machine
end

