-- ==== Sys2Proof/Machine/MpuOps.lean ====
section
/-!
DEFINITION. Machine/MpuOps.lean: the memory protection units and the LPDDR4X controller (R451–R459).
-/
namespace Sys2Proof.Machine

/-- What an access does (MPU_DENY_LOG.KIND). -/
inductive Rwx where
  | read | write | execute
  deriving DecidableEq, Repr

def Rwx.code : Rwx → Nat
  | .read => 0 | .write => 1 | .execute => 2

/-- The MPU that guards a CRS offset (R452); offsets outside every guarded range have none. -/
def mpuOf (o : Nat) : Option Nat :=
  ([(0x00000000, 0x00100000, 1), (0x00100000, 0x00108000, 2), (0x00200000, 0x00300000, 3), (0x00300000, 0x00400000, 4), (0x00400000, 0x00500000, 5),
    (0x01000000, 0x02000000, 6), (0x02000000, 0x02400000, 7), (0x03000000, 0x03100000, 8), (0x03100000, 0x03200000, 9), (0x03200000, 0x03300000, 10),
    (0x04000000, 0x04100000, 11), (0x05000000, 0x05100000, 12), (0x06000000, 0x06100000, 13), (0x07000000, 0x07200000, 14), (0x08000000, 0x08100000, 15),
    (0x09000000, 0x09100000, 16), (0x0A000000, 0x0A100000, 17), (0x0B000000, 0x0B200000, 18), (0x0C000000, 0x0C100000, 19), (0x0D000000, 0x0D100000, 20),
    (0x0E000000, 0x0E100000, 21)] : List (Nat × Nat × Nat)).findSome? (fun x => if x.1 ≤ o ∧ o < x.2.1 then some x.2.2 else none)

/-- Regions of an MPU (R452). -/
def mpuRegions (m : Nat) : Nat := if m = 0 then 64 else 16

/-- A region register in force. -/
def mpuForce (s : State) (k : Nat) : Word := agetD s.mpuForce k 0

/-- The region in force that decides for an address (R453): the lowest enabled one that contains it. -/
def mpuRegion (s : State) (m a : Nat) : Option Nat :=
  (List.range (mpuRegions m)).find? (fun r =>
    let w := mpuForce s (Reg.MPU_RBASE m r)
    let z := 2 ^ max 12 (min 40 (Fld.MPU_RBASE_SIZE_LOG2.get w))
    w.getLsbD 63 && Fld.MPU_RBASE_BASE.get w * 4096 / z == a / z)

/-- Whether a region allows an access: the large MPU by master ID, a small one by privilege (R452). -/
def mpuGrants (s : State) (m r : Nat) (k : Rwx) (master priv : Nat) : Bool :=
  let w := mpuForce s (Reg.MPU_RATTR m r)
  if m = 0 then (match k with | .read => w.getLsbD master | .write => w.getLsbD (32 + master) | .execute => false)
  else (match k with | .read => w.getLsbD (3 * priv) | .write => w.getLsbD (3 * priv + 1) | .execute => w.getLsbD (3 * priv + 2))

/-- Whether an MPU lets an access through (R453): outside every enabled region it is allowed; a fenced MPU denies it (R352). -/
def mpuAllows (s : State) (m a : Nat) (k : Rwx) (master priv : Nat) : Bool :=
  !isFenced s ⟨Uk.mpu, m⟩ && (match mpuRegion s m a with | some r => mpuGrants s m r k master priv | none => true)

/-- A denial is logged and counted (R454). -/
def mpuDeny (s : State) (m a : Nat) (k : Rwx) (master priv : Nat) (beyond : Bool) : State :=
  let key := Reg.MPU_DENY_LOG m
  let s := bump s (Reg.MPU_DENY_CNT m)
  if isSet s key Fld.MPU_DENY_LOG_VALID then setF s key Fld.MPU_DENY_LOG_SECOND 1
  else
    wr s key (BitVec.ofNat 64 (2 ^ 63 + b2n beyond * 2 ^ 61 + (mpuRegion s m a).getD 0 * 2 ^ 55 + master % 16 * 2 ^ 51 + priv % 4 * 2 ^ 49 +
      k.code * 2 ^ 47 + a % 2 ^ 40))

/-- The registers of an MPU's regions. -/
def mpuKeys (m : Nat) : List Nat :=
  (List.range (mpuRegions m)).flatMap (fun r => [Reg.MPU_RBASE m r, Reg.MPU_RATTR m r])

/-- MPU_COMMIT (R455): the staged copy comes into force and GEN advances. -/
def mpuCommit (s : State) (m : Nat) : State :=
  let s := { s with mpuForce := (mpuKeys m).foldl (fun t k => aset 0 t k (rd s k)) s.mpuForce }
  let g := getF s (Reg.MPU_STATUS m) Fld.MPU_STATUS_GEN
  setF s (Reg.MPU_STATUS m) Fld.MPU_STATUS_GEN ((g + 1) % 65536)

/-- Staged registers differ from those in force. -/
def mpuPending (s : State) (m : Nat) : Bool := (mpuKeys m).any (fun k => rd s k != mpuForce s k)

/-- A write to a region register whose LOCK is set, by a master other than the SP, is discarded (R456). -/
def mpuLocked (s : State) (k : Nat) : Bool :=
  let f := k % 512
  let m := k / 512 % 4096
  let r := k / 512 / 4096
  (f == Reg.MPU_RBASE 0 0 || f == Reg.MPU_RATTR 0 0) && isSet s (Reg.MPU_RBASE m r) Fld.MPU_RBASE_LOCK

/-! ### LPDDR4X (R457–R459) -/

/-- The LPDDR4X controller takes accesses: it is not fenced (R18). -/
def ddrOk (s : State) : Bool := !isFenced s ⟨Uk.ddr, 0⟩

/-- The first address beyond usable memory. -/
def ddrTop : Nat := 0x380000000

/-- The block of an address is filled ahead of FILL_BLOCK for an access that waits for it (R459). -/
def ddrFill (s : State) (a : Nat) : State :=
  let b := a / 0x800000
  if decide (b < s.ddr.fillNext) || s.ddr.filled.contains b then s
  else { s with ddr := { s.ddr with filled := s.ddr.filled ++ [b] } }

/-- Whether an access of a master to LPDDR4X is let through, and the state after the check: the controller accepts accesses, the large MPU
allows it, and the address is usable (R454, R458). -/
def ddrAccess (s : State) (a : Nat) (k : Rwx) (master priv : Nat) : Bool × State :=
  if !ddrOk s then (false, s)
  else if ddrTop ≤ a then (false, mpuDeny s 0 a k master priv true)
  else if mpuAllows s 0 a k master priv then (true, ddrFill s a)
  else (false, mpuDeny s 0 a k master priv false)

/-- A burst that holds an uncorrectable error lies among the bytes (R458). -/
def ddrBad (s : State) (a n : Nat) : Bool := s.ddr.bad.any (fun b => decide (b < (a + n + 63) / 64) && decide (a / 64 ≤ b))

/-- An uncorrectable error found by a master's read (R458): source 0x0106 and DDR_ERR_LOG. -/
def ddrUncorrectable (s : State) (a master : Nat) : State :=
  let s := bump s Reg.DDR_UE_CNT
  let k := Reg.DDR_ERR_LOG
  let s := if isSet s k Fld.DDR_ERR_LOG_VALID then setF s k Fld.DDR_ERR_LOG_SECOND 1
    else wr s k (BitVec.ofNat 64 (2 ^ 63 + master % 16 * 2 ^ 58 + a / 64 * 64))
  detect s 0x0106 .contained Uk.ddr 0 (a / 64 * 64)

end Sys2Proof.Machine
end

