-- ==== Sys2Proof/Machine/PcOps.lean ====
section
/-!
DEFINITION. Machine/PcOps.lean: the performance counters and the ECLIPSE snapshot (R416–R424).
-/
namespace Sys2Proof.Machine

/-- Counter banks (R421): 0 Global, 1 SP, 2 FCU, 3 EGV, 4 clock and power, 5 core, 6 congestion, 7 COMET, 8 FAM, 9 contexts,
10 Mover, 11 performance, 12 CVU, 13 MPU, 14 sideband, 15 LPDDR4X, 16 TWIN, 17 ICP, 32 + t tiles, 64 + p ports, 128 + n links. -/
abbrev Bank.core : Nat := 5
abbrev Bank.mover : Nat := 10
abbrev Bank.tile (t : Nat) : Nat := 32 + t
abbrev Bank.port (p : Nat) : Nat := 64 + p
abbrev Bank.link (n : Nat) : Nat := 128 + n

/-- Every counter bank. -/
def allBanks : List Nat := List.range 18 ++ (List.range 16).map Bank.tile ++ (List.range 64).map Bank.port ++ (List.range 32).map Bank.link

/-- Offset of a counter bank's registers in CRS (R421). -/
def bankBase (b : Nat) : Nat :=
  if b < 18 then
    ([0x0000F000, 0x00107000, 0x0020F000, 0x0030F000, 0x0040F000, 0x0300F000, 0x0310F000, 0x0320F000, 0x0400F000, 0x0500F000, 0x0600F000,
      0x0800F000, 0x0900F000, 0x0A00F000, 0x0B00F000, 0x0C00F000, 0x0D00F000, 0x0E00F000] : List Nat).getD b 0
  else if b < 64 then 0x0100F000 + (b - 32) * 0x100000
  else if b < 128 then 0x0200F000 + (b - 64) * 0x10000
  else 0x0700F000 + (b - 128) * 0x10000

/-- The bank counts in the AON domain. -/
def aonBank (b : Nat) : Bool := b == 0 || b == 4

/-- Cycles of a bank's domain in one common edge period of 20 ns (R16, R376). -/
def bankCycles (b : Nat) : Nat :=
  if b = 1 ∨ b = 2 ∨ b = 3 then 6
  else if b = 12 ∨ b = 13 ∨ b = 14 then 3
  else if b = 15 then 16
  else if b = 16 ∨ b = 17 then 12
  else if 32 ≤ b then 24
  else 32

/-- The unit whose fence stops the block of a bank (R352, R377, R418): the LPDDR4X controller's; for the blocks of the MGMT domain the management
complex; a tile, a port, a link, COMET. -/
def bankUnit (b : Nat) : Option UnitId :=
  if b = 7 then some ⟨Uk.comet, 0⟩
  else if b = 15 then some ⟨Uk.ddr, 0⟩
  else if b = 16 ∨ b = 17 then some ⟨Uk.mgmt, 0⟩
  else if 128 ≤ b then some ⟨Uk.calez, b - 128⟩
  else if 64 ≤ b then some ⟨Uk.port, b - 64⟩
  else if 32 ≤ b then some ⟨Uk.tile, b - 32⟩
  else none

/-- The block of a bank is clocked: nothing fences it, and its tile, for a tile's bank, is ACTIVE or PARKED (R418, R428; log entry 126). -/
def bankClocked (s : State) (b : Nat) : Bool :=
  fastUp s && !(bankUnit b).any (isFenced s) &&
    (!(decide (32 ≤ b) && decide (b < 48)) || decide (getF s (Reg.TILE_STATUS (b - 32)) Fld.TILE_STATUS_POWER ≤ 1))

/-- ECLIPSE_OUT is driven for a snapshot of these sources (R419); `paired` is ECLIPSE_TRIGGER with PAIRED. -/
def eclEchoes (s : State) (sources : Nat) (paired : Bool) : Bool :=
  match getF s Reg.ECL_ARM Fld.ECL_ARM_OUT_MODE with
  | 0 => false
  | 1 => true
  | _ => (sources.testBit 0 && paired) || (isSet s Reg.ECL_ARM Fld.ECL_ARM_PAIR_HW && (sources.testBit 2 || sources.testBit 3))

/-- One counter bank latches into a snapshot bank (R416, R418). -/
def snapBank (s : State) (bank b : Nat) : State :=
  let s := wr s (Reg.SNAP_CYCLE bank b) (rd s (Reg.PC_CYCLE bank))
  let s := forEach (List.range 8) s (fun s i => wr s (Reg.SNAP_CNT bank b i) (rd s (Reg.PC_CNT bank i)))
  let stopped := !aonBank bank && !bankClocked s bank
  wr s (Reg.SNAP_FLAGS bank b) (BitVec.ofNat 64 (b2n stopped + 2 * b2n (aonBank bank)))

/-- The latch edge (R416): every fast bank latches, ECL_TIME and ECL_SRC record it, ECLIPSE_OUT may be driven. -/
def eclLatch (s : State) (b sources : Nat) (paired named : Bool) : State :=
  let s := forEach (allBanks.filter (fun k => !aonBank k)) s (fun s k => snapBank s k b)
  let s := wr s (Reg.ECL_TIME b) (BitVec.ofNat 64 s.time)
  let echo := eclEchoes s sources paired
  let seq := (s.bg.eclSeq + 1) % 256
  let skew := (16 - s.edge % 16) % 16
  let s := wr s (Reg.ECL_SRC b) (BitVec.ofNat 64 (seq * 2 ^ 24 + skew * 2 ^ 20 + b2n echo * 2 ^ 19 + sources))
  let s := { s with bg := { s.bg with eclSeq := seq, eclBusy := some (b, sources) } }
  let s := setF s Reg.ECL_STATUS Fld.ECL_STATUS_BUSY 1
  let next := getF s Reg.ECL_STATUS Fld.ECL_STATUS_NEXT
  let s := if isSet s Reg.ECL_ARM Fld.ECL_ARM_ALTERNATE && (!named || b == next) then setF s Reg.ECL_STATUS Fld.ECL_STATUS_NEXT (1 - b) else s
  if echo then emit { s with bg := { s.bg with eclDeaf := s.time + us 1 } } .eclipseOut else s

/-- Snapshot bank `b` is VALID. -/
def eclValid (s : State) (b : Nat) : Bool :=
  if b = 0 then isSet s Reg.ECL_STATUS Fld.ECL_STATUS_VALID_A else isSet s Reg.ECL_STATUS Fld.ECL_STATUS_VALID_B

/-- A trigger other than ECLIPSE_TRIGGER that finds its bank VALID, with OVERWRITE 0, is missed; any other latches (R417). -/
def eclFire (s : State) (sources : Nat) : State :=
  let b := getF s Reg.ECL_STATUS Fld.ECL_STATUS_NEXT
  if eclValid s b && !isSet s Reg.ECL_ARM Fld.ECL_ARM_OVERWRITE then
    setF s Reg.ECL_STATUS Fld.ECL_STATUS_MISS (min 0xFFFF (getF s Reg.ECL_STATUS Fld.ECL_STATUS_MISS + 1))
  else eclLatch s b sources false false

/-- A trigger of a source other than ICP (R416, R417): one between a latch edge and its AON latch waits for that latch. -/
def eclTrigger (s : State) (source : Nat) : State :=
  match s.bg.eclBusy with
  | some _ => { s with bg := { s.bg with eclWait := some (setBit (s.bg.eclWait.getD 0) source) } }
  | none => eclFire s (2 ^ source)

/-- The AON latch (R416, R417): the AON banks latch, the bank becomes VALID, vector 5 is raised; a trigger that waited latches. -/
def eclAonLatch (s : State) : State :=
  match s.bg.eclBusy with
  | none => s
  | some (b, _) =>
    let s := forEach (allBanks.filter aonBank) s (fun s k => snapBank s k b)
    let s := setF s Reg.ECL_STATUS (if b = 0 then Fld.ECL_STATUS_VALID_A else Fld.ECL_STATUS_VALID_B) 1
    let s := setF { s with bg := { s.bg with eclBusy := none } } Reg.ECL_STATUS Fld.ECL_STATUS_BUSY 0
    let s := msixManagers s 5
    match s.bg.eclWait with
    | none => s
    | some m => eclFire { s with bg := { s.bg with eclWait := none } } m

/-- A counter carries out of bit 47 (R422): it wraps to `c`, OVF is set, and with TRIG and CNT_EN ECLIPSE is triggered. -/
def pcCarry (s : State) (bank i c : Nat) : State :=
  let s := wr s (Reg.PC_CNT bank i) (BitVec.ofNat 64 c)
  let s := setF s (Reg.PC_CTRL bank) Fld.PC_CTRL_OVF (setBit (getF s (Reg.PC_CTRL bank) Fld.PC_CTRL_OVF) i)
  if isSet s (Reg.PC_SEL bank i) Fld.PC_SEL_TRIG && isSet s Reg.ECL_ARM Fld.ECL_ARM_CNT_EN then eclTrigger s 3 else s

/-- A counter counts `n` more. -/
def pcAdd (s : State) (bank i n : Nat) : State :=
  let c := (rd s (Reg.PC_CNT bank i)).toNat + n
  if c < 2 ^ 48 then wr s (Reg.PC_CNT bank i) (BitVec.ofNat 64 c) else pcCarry s bank i (c - 2 ^ 48)

/-- A counter of a bank is enabled for an event and not frozen. -/
def pcOn (s : State) (bank i ev : Nat) : Bool :=
  isSet s (Reg.PC_SEL bank i) Fld.PC_SEL_EN && getF s (Reg.PC_SEL bank i) Fld.PC_SEL_EVENT == ev &&
    !isSet s (Reg.PC_CTRL bank) Fld.PC_CTRL_FREEZE

/-- `n` occurrences of an event of a bank; `qual` names the port, VC, engine or lane where QUAL selects one (R424). -/
def pcEvent (s : State) (bank ev : Nat) (qual : Option Nat) (n : Nat) : State :=
  forEach (List.range 8) s (fun s i =>
    let hit := match qual with | some q => getF s (Reg.PC_SEL bank i) Fld.PC_SEL_QUAL == q | none => true
    if pcOn s bank i ev && hit then pcAdd s bank i n else s)

/-- An event of the switch core at a port; of a port; of a link; of the Mover at an engine. -/
def pcCore (s : State) (ev p : Nat) : State := pcEvent s Bank.core ev (some p) 1
def pcPort (s : State) (p ev : Nat) : State := pcEvent s (Bank.port p) ev none 1
def pcLink (s : State) (n ev : Nat) : State := pcEvent s (Bank.link n) ev none 1
def pcMover (s : State) (ev e : Nat) : State := pcEvent s Bank.mover ev (some e) 1

/-- FREEZE (R423). -/
def pcFreeze (s : State) (bank : Nat) (on : Bool) : State := setF s (Reg.PC_CTRL bank) Fld.PC_CTRL_FREEZE (b2n on)

/-- CLEAR: all nine counts and OVF to 0 (R423). -/
def pcClear (s : State) (bank : Nat) : State :=
  let s := wr (setF s (Reg.PC_CTRL bank) Fld.PC_CTRL_OVF 0) (Reg.PC_CYCLE bank) 0
  forEach (List.range 8) s (fun s i => wr s (Reg.PC_CNT bank i) 0)

end Sys2Proof.Machine
end

