-- ==== Sys2Proof/Machine/TileOps.lean ====
section
/-!
DEFINITION. Machine/TileOps.lean: how tiles are divided into ports, and the power of a tile (R257–R263, R274–R280, R383, R384).
-/
namespace Sys2Proof.Machine

/-- Whether a split has a slot (R257). -/
def slotExists (split slot : Nat) : Bool :=
  match split with
  | 0 => slot == 0
  | 1 => slot == 0 || slot == 2
  | 2 => slot == 0 || slot == 2 || slot == 3
  | _ => slot < 4

/-- Lanes of a slot under a split: the first tile lane is 4 × the slot, and the width is given here (R257). -/
def slotWidth (split slot : Nat) : Nat :=
  match split with
  | 0 => 16
  | 1 => 8
  | 2 => if slot = 0 then 8 else 4
  | _ => 4

def tileSplit (s : State) (t : Nat) : Nat := getF s (Reg.TILE_CFG t) Fld.TILE_CFG_SPLIT

/-- Slot `i` of tile `t` is enabled and exists under its split (R258, R259). -/
def slotOn (s : State) (t i : Nat) : Bool :=
  slotExists (tileSplit s t) i && isSet s (Reg.TILE_CFG t) (Fld.TILE_CFG_EN i)

/-- Slot `i` of tile `t` is an enabled Calez port. -/
def slotCalez (s : State) (t i : Nat) : Bool := slotOn s t i && isSet s (Reg.TILE_CFG t) (Fld.TILE_CFG_CALEZ i)

def slotPort (s : State) (t i : Nat) : Nat := getF s (Reg.TILE_CFG t) (Fld.TILE_CFG_PORT i)

/-- Every (tile, slot) pair. -/
def allSlots : List (Nat × Nat) := (List.range 16).flatMap (fun t => (List.range 4).map (fun i => (t, i)))

/-- The tile and slot that carry a port. -/
def portSlot (s : State) (p : Nat) : Option (Nat × Nat) :=
  allSlots.find? (fun x => slotOn s x.1 x.2 && slotPort s x.1 x.2 == p)

/-- The port is an enabled PCIe port. -/
def isPcie (s : State) (p : Nat) : Bool :=
  match portSlot s p with | some (t, i) => !slotCalez s t i | none => false

/-- The Calez link that a port is: link 4t + slot (R258). -/
def portLink (s : State) (p : Nat) : Option Nat :=
  match portSlot s p with | some (t, i) => if slotCalez s t i then some (4 * t + i) else none | none => none

/-- The port that Calez link `n` carries, while the slot is an enabled Calez port. -/
def linkPort (s : State) (n : Nat) : Option Nat := if slotCalez s (n / 4) (n % 4) then some (slotPort s (n / 4) (n % 4)) else none

/-- The enabled Calez links. -/
def calezLinks (s : State) : List Nat := (List.range 32).filter (fun n => slotCalez s (n / 4) (n % 4))

/-- The enabled ports of a tile. -/
def tilePorts (s : State) (t : Nat) : List Nat := ((List.range 4).filter (slotOn s t)).map (slotPort s t)

/-- Tile lanes of a slot. -/
def slotLanes (s : State) (t i : Nat) : List Nat := (List.range (slotWidth (tileSplit s t) i)).map (fun l => 4 * i + l)

/-- Tile lanes in use: those of enabled slots (R273). -/
def lanesInUse (s : State) (t : Nat) : List Nat := ((List.range 4).filter (slotOn s t)).flatMap (slotLanes s t)

/-- Power state of a tile (R383): 0 ACTIVE, 1 PARKED, 2 DARK, 3 OFF. -/
def tilePower (s : State) (t : Nat) : Nat := getF s (Reg.TILE_STATUS t) Fld.TILE_STATUS_POWER

/-- Age of a lane in ms since its last lane pass, held at 0xFFFF; it stands still while the tile is DARK or OFF (R274). -/
def laneAge (s : State) (t l : Nat) : Nat :=
  let x := s.tile t
  match aget x.ageHeld l with
  | some a => min 0xFFFF a
  | none => min 0xFFFF ((s.time - agetD x.passAt l 0) / ms 1)

/-- Ages of a tile's lanes begin to stand still. -/
def holdAges (s : State) (t : Nat) : State :=
  s.modTile t (fun x => { x with ageHeld := (List.range 16).map (fun l => (l, laneAge s t l)) })

/-- Ages of a tile's lanes run on from where they stood. -/
def runAges (s : State) (t : Nat) : State :=
  if (s.tile t).ageHeld.isEmpty then s
  else s.modTile t (fun x => { x with passAt := (List.range 16).map (fun l => (l, s.time - ms (laneAge s t l))), ageHeld := [] })

/-- Margining of lanes ends: their spare slices go back to PRESS (R279). -/
def marginEnd (s : State) (t : Nat) (lanes : List Nat) : State :=
  let gone := (s.tile t).margined.filter lanes.contains
  let s := forEach gone s (fun s l => setF s (Reg.LANE_STATUS t l) Fld.LANE_STATUS_PRESS_STATE 0)
  if gone.isEmpty then s else s.modTile t (fun x => { x with margined := x.margined.filter (fun l => !lanes.contains l) })

/-- The PRESS step in progress on one of some lanes is abandoned, and counted: the lane keeps its last values (R276); margining of
those lanes ends. -/
def pressAbandonLanes (s : State) (t : Nat) (lanes : List Nat) : State :=
  let s := marginEnd s t lanes
  match (s.tile t).press with
  | some (l, _) =>
    if lanes.contains l then
      let s := bump (setF (s.modTile t (fun x => { x with press := none })) (Reg.LANE_STATUS t l) Fld.LANE_STATUS_PRESS_STATE 0) (Reg.TILE_PRESS_ABN_CNT t)
      pcEvent s (Bank.tile t) 0x101 (some l) 1
    else s
  | none => s

/-- The PRESS step in progress in a tile is abandoned. -/
def pressAbandon (s : State) (t : Nat) : State := pressAbandonLanes s t (List.range 16)

/-- The PRESS step on a lane of a port is abandoned. -/
def pressAbandonPort (s : State) (p : Nat) : State :=
  match portSlot s p with | some (t, i) => pressAbandonLanes s t (slotLanes s t i) | none => s

/-- Which PLLs a tile that is ACTIVE or PARKED runs (R260): ring, LC. A PCIe port is changing to 64 GT/s while it is in Recovery
and the LC PLL has been started for it (R261). -/
def pllsWanted (s : State) (t : Nat) : Bool × Bool :=
  let slots := (List.range 4).filter (slotOn s t)
  (slots.any (fun i => !slotCalez s t i),
   slots.any (fun i => slotCalez s t i || getF s (Reg.PORT_STATUS (slotPort s t i)) Fld.PORT_STATUS_RATE == 5 ||
     (isSet s (Reg.TILE_STATUS t) Fld.TILE_STATUS_LC_ON && getF s (Reg.PORT_STATUS (slotPort s t i)) Fld.PORT_STATUS_LTSSM == 5)))

/-- The PLLs of a tile start; one already running keeps running (R260, R261). -/
def pllStart (s : State) (t : Nat) : State :=
  let (r, l) := pllsWanted s t
  let k := Reg.TILE_STATUS t
  let s := if r then setF s k Fld.TILE_STATUS_RING_ON 1 else setF (setF s k Fld.TILE_STATUS_RING_ON 0) k Fld.TILE_STATUS_RING_STABLE 0
  if l then setF s k Fld.TILE_STATUS_LC_ON 1 else setF (setF s k Fld.TILE_STATUS_LC_ON 0) k Fld.TILE_STATUS_LC_STABLE 0

/-- A reference input is watched: a PLL of its group of four tiles runs (R262, R263, R379). -/
def refWatched (s : State) (g : Nat) : Bool :=
  (List.range 4).any (fun i =>
    isSet s (Reg.TILE_STATUS (4 * g + i)) Fld.TILE_STATUS_RING_ON || isSet s (Reg.TILE_STATUS (4 * g + i)) Fld.TILE_STATUS_LC_ON)

/-- The PLLs of a tile stop (R263). -/
def pllStop (s : State) (t : Nat) : State :=
  let k := Reg.TILE_STATUS t
  setF (setF (setF (setF s k Fld.TILE_STATUS_RING_ON 0) k Fld.TILE_STATUS_RING_STABLE 0) k Fld.TILE_STATUS_LC_ON 0)
    k Fld.TILE_STATUS_LC_STABLE 0

/-- A link of a tile has its clock: the tile is powered and calibrated and the PLL that serves the link's rate is stable, the LC PLL
for PAM4 rates and the ring PLL for the others (R260, R261). -/
def tileClocked (s : State) (t : Nat) (lc : Bool) : Bool :=
  let k := Reg.TILE_STATUS t
  decide (tilePower s t ≤ 1) && isSet s k Fld.TILE_STATUS_CAL_DONE &&
    isSet s k (if lc then Fld.TILE_STATUS_LC_STABLE else Fld.TILE_STATUS_RING_STABLE)

/-- The LC PLL of a tile starts, for a PCIe port that changes to 64 GT/s; one already running keeps running (R261). -/
def lcStart (s : State) (t : Nat) : State :=
  setF s (Reg.TILE_STATUS t) Fld.TILE_STATUS_LC_ON 1

/-- The averages of the VOQs towards a tile's ports are cleared while it has no power to forward (R101). -/
def avgClear (s : State) (t : Nat) : State :=
  { s with cong := { s.cong with voqAvg := s.cong.voqAvg.filter (fun e => !(tilePorts s t).contains (e.1 / 24)) } }

/-- Tile OFF (R280, R383): lanes unpowered, PLLs off, coefficient records and start points lost, ages held, PRESS idle. -/
def tileOff (s : State) (t : Nat) : State :=
  let s := avgClear (pllStop (pressAbandon s t) t) t
  let s := setF (setF s (Reg.TILE_STATUS t) Fld.TILE_STATUS_POWER 3) (Reg.TILE_STATUS t) Fld.TILE_STATUS_CAL_DONE 0
  let s := holdAges s t
  let s := forEach (List.range 4) s (fun s i => if slotCalez s t i then wr s (Reg.CZ_STORED (4 * t + i)) 0 else s)
  s.modTile t (fun x => { x with coef := [], calRunning := false, offDue := false })

/-- Every VOQ of a port is empty. -/
def voqsEmpty (s : State) (p : Nat) : Bool := (List.range 24).all (fun i => (agetD s.core.voqs (p * 24 + i) []).isEmpty)

/-- No cell is charged to a port, and its VOQs are empty (R77). -/
def portIdle (s : State) (p : Nat) : Bool :=
  voqsEmpty s p && s.core.sharedUse.all (fun e => e.1 / 4 != p || e.2 == 0) && s.core.rsvUse.all (fun e => e.1 / 24 != p || e.2 == 0)

/-- A tile enters OFF once no cell is charged to its ports: now, or when the last has gone (R77). -/
def tileGoOff (s : State) (t : Nat) : State :=
  if tilePower s t = 3 then s
  else if (tilePorts s t).all (portIdle s) then tileOff s t
  else s.modTile t (fun x => { x with offDue := true })

/-- The tiles that wait to enter OFF and whose ports hold no cell enter it (R77). -/
def tilesOff (s : State) : State :=
  forEach ((s.tiles.filter (fun e => e.2.offDue && (tilePorts s e.1).all (portIdle s))).map (fun e => e.1)) s tileOff

/-- A tile leaves OFF: its power-up calibration begins (R280). -/
def tileOn (s : State) (t : Nat) : State :=
  if isFenced s ⟨Uk.tile, t⟩ || (tilePorts s t).isEmpty then s
  else
    let s := pllStart (setF s (Reg.TILE_STATUS t) Fld.TILE_STATUS_POWER 0) t
    s.modTile t (fun x => { x with calRunning := true, offDue := false })

/-- A wake cause for a tile (R384): PARKED and DARK tiles become ACTIVE, a DARK tile starts its PLLs, an OFF tile that has an
enabled slot and is not fenced begins its power-up calibration; a step of PRESS in PARKED is abandoned. -/
def tileWake (s : State) (t : Nat) : State :=
  let s := if isFenced s ⟨Uk.tile, t⟩ || !(s.tile t).offDue then s else s.modTile t (fun x => { x with offDue := false })
  match tilePower s t with
  | 0 => s
  | 3 => tileOn s t
  | n =>
    let s := runAges (pressAbandon s t) t
    let s := setF s (Reg.TILE_STATUS t) Fld.TILE_STATUS_POWER 0
    if n = 2 then pllStart s t else s

/-- Wakes the tile of a port. -/
def portWake (s : State) (p : Nat) : State :=
  match portSlot s p with | some (t, _) => tileWake s t | none => s

/-- Clears coefficient records of a slot's lanes, of the rate classes that `p` picks (R271). -/
def clearCoef (s : State) (t i : Nat) (p : Nat → Bool) : State :=
  let lanes := slotLanes s t i
  s.modTile t (fun x => { x with coef := x.coef.filter (fun e => !(lanes.contains (e.1 / 8) && p (e.1 % 8))) })

/-- Clears every coefficient record of a PCIe port's lanes (R271: surprise down, presence change, slot power off). -/
def clearPortCoef (s : State) (p : Nat) : State :=
  match portSlot s p with | some (t, i) => clearCoef s t i (fun _ => true) | none => s

/-- The receiver's part of a coefficient record as equalisation left it, CTLE, GAIN, SNR, FFE and DFE: measured, so free (log entry 2). -/
def coefRx (s : State) : List Byte × State :=
  let (r, s) := draw s 320
  (natLe 1 (bitsAt r 0 5) ++ natLe 2 (bitsAt r 5 12) ++ natLe 1 (bitsAt r 17 8) ++ zeros 1 ++ natLe 34 (bitsAt r 25 272) ++ zeros 2, s)

/-- A coefficient record is written for each lane of a slot at an entry to L0 or ACTIVE (R271, R272): class, settings, partner. -/
def coefStore (s : State) (t i cls : Nat) (tx : Nat → Nat) (peerTx : Nat → Nat) (node port : Nat) : State :=
  forEach (slotLanes s t i) s (fun s l =>
    let (rx, s) := coefRx s
    let rec_ := natLe 1 (128 + cls) ++ natLe 3 (tx (l - 4 * i)) ++ natLe 3 (peerTx (l - 4 * i)) ++ rx ++ natLe 2 node ++ natLe 1 port ++ zeros 13
    s.modTile t (fun x => { x with coef := aput x.coef (l * 8 + cls) rec_ }))

/-- The record of a lane and rate class: empty bytes where none is held. -/
def coefOf (s : State) (t l cls : Nat) : List Byte := agetD (s.tile t).coef (l * 8 + cls) (zeros 64)

/-- A PCIe port enters L0 at a rate: its lanes' records of the rate class are written, the partner's presets free (R271). -/
def coefPcie (s : State) (p rate : Nat) : State :=
  match portSlot s p with
  | some (t, i) => if rate < 2 then s else let (r, s) := draw s 64; coefStore s t i (rate - 2) (fun _ => 0) (fun l => bitsAt r (4 * l) 4) 0 0
  | none => s

/-- Fields of the lanes of a slot: detected, locked, rate code of LANE_STATUS. -/
def lanesSet (s : State) (t i : Nat) (f : Field) (x : Nat → Nat) : State :=
  forEach (slotLanes s t i) s (fun s l => setF s (Reg.LANE_STATUS t l) f (x (l - 4 * i)))

/-- The lanes of a port at an entry to L0 or ACTIVE: detected, locked, at a rate code of LANE_STATUS. -/
def lanesUp (s : State) (p rate : Nat) : State :=
  match portSlot s p with
  | some (t, i) =>
    let s := lanesSet (lanesSet s t i Fld.LANE_STATUS_DETECTED (fun _ => 1)) t i Fld.LANE_STATUS_LOCKED (fun _ => 1)
    lanesSet s t i Fld.LANE_STATUS_RATE (fun _ => rate)
  | none => s

/-- The lanes of a port lose lock as its link goes down. -/
def lanesDown (s : State) (p : Nat) : State :=
  match portSlot s p with | some (t, i) => lanesSet s t i Fld.LANE_STATUS_LOCKED (fun _ => 0) | none => s

/-- A tile whose every enabled slot is a PCIe port with slot power off and its link down goes OFF (R298, R383). -/
def tileOffIfUnpowered (s : State) (p : Nat) : State :=
  match portSlot s p with
  | none => s
  | some (t, _) =>
    let idle := (List.range 4).all (fun i => !slotOn s t i || (!slotCalez s t i &&
      !isSet s (Reg.PORT_STATUS (slotPort s t i)) Fld.PORT_STATUS_POWER_ON &&
      !isSet s (Reg.PORT_STATUS (slotPort s t i)) Fld.PORT_STATUS_DL_ACTIVE &&
      isSet s (Reg.PORT_CFG (slotPort s t i)) Fld.PORT_CFG_HP_CAPABLE))
    if idle then tileGoOff s t else s

end Sys2Proof.Machine
end

