-- ==== Sys2Proof/Machine/HostOps.lean ====
section
/-!
DEFINITION. Machine/HostOps.lean: vSwitches, bridges and the Posted Failure Log (R107, R108, R158).
-/
namespace Sys2Proof.Machine

/-- The vSwitch is enabled. -/
def vswOn (s : State) (v : Nat) : Bool := isSet s (Reg.VSW_CTRL v) Fld.VSW_CTRL_EN

/-- The HOST_PERST_N input that PERST_SEL of a vSwitch names is asserted (R126). -/
def perstLow (s : State) (v : Nat) : Bool := s.hosts.perstPins.contains (getF s (Reg.VSW_CTRL v) Fld.VSW_CTRL_PERST_SEL)

/-- RESETTING of a vSwitch (R126). -/
def vswResetting (s : State) (v : Nat) : Bool := perstLow s v || (s.vsw v).perstHold

/-- READY of a vSwitch (R127): the boot configuration is applied, its host is out of reset, no MODE_ACTIVATE affects it. -/
def vswReady (s : State) (v : Nat) : Bool :=
  vswOn s v && (s.pwr.phase == .configured || s.pwr.phase == .ready) && !vswResetting s v && !(s.vsw v).modeHeld

/-- Upstream port of a vSwitch. -/
def upPort (s : State) (v : Nat) : Nat := getF s (Reg.VSW_CTRL v) Fld.VSW_CTRL_UP_PORT

/-- The enabled vSwitches. -/
def vswitches (s : State) : List Nat := (List.range 32).filter (vswOn s)

/-- The vSwitch whose upstream port a port is. -/
def upVsw (s : State) (p : Nat) : Option Nat := (vswitches s).find? (fun v => upPort s v == p)

/-- Virtual downstream bridges of a vSwitch that VBR_MAP makes valid. -/
def bridgesMapped (s : State) (v : Nat) : List Nat := (List.range 63).filter (fun k => isSet s (Reg.VBR_MAP v k) Fld.VBR_MAP_VALID)

/-- Virtual downstream bridges that a vSwitch presents: none in mode 5 (R28, R128).  VALID decides, whatever NUM_VBR says (log entry 109). -/
def bridges (s : State) (v : Nat) : List Nat := if mode s = 5 then [] else bridgesMapped s v

/-- Bridge `k` of vSwitch `v` is direct, or composed (R107, R108). -/
def isDirect (s : State) (v k : Nat) : Bool :=
  isSet s (Reg.VBR_MAP v k) Fld.VBR_MAP_VALID && isSet s (Reg.VBR_MAP v k) Fld.VBR_MAP_DIRECT
def isComposed (s : State) (v k : Nat) : Bool :=
  isSet s (Reg.VBR_MAP v k) Fld.VBR_MAP_VALID && !isSet s (Reg.VBR_MAP v k) Fld.VBR_MAP_DIRECT

/-- Physical port of a direct bridge. -/
def bridgePort (s : State) (v k : Nat) : Nat := getF s (Reg.VBR_MAP v k) Fld.VBR_MAP_PORT

/-- The direct bridge that holds a port: vSwitch and bridge. -/
def directBridge (s : State) (p : Nat) : Option (Nat × Nat) :=
  ((vswitches s).flatMap (fun v => (bridges s v).map (fun k => (v, k)))).find? (fun x => isDirect s x.1 x.2 && bridgePort s x.1 x.2 == p)

/-- Direct bridges that VBR_MAP puts on a port, of every enabled vSwitch. -/
def bridgesOnPort (s : State) (p : Nat) : List (Nat × Nat) :=
  ((vswitches s).flatMap (fun v => (bridgesMapped s v).map (fun k => (v, k)))).filter (fun x => isDirect s x.1 x.2 && bridgePort s x.1 x.2 == p)

/-- Function key of virtual downstream bridge `k` (State: `Vsw.funcs`). -/
abbrev fnBridge (k : Nat) : Nat := 8 + k
abbrev fnMgmt : Nat := 0
abbrev fnMover : Nat := 1
abbrev fnUp : Nat := 2

/-- Valid binding entries below a port. -/
def bindsOfPort (s : State) (p : Nat) : List (Nat × BindEnt) := s.hosts.bind.filter (fun e => e.2.valid && e.2.port == p)

/-- Composed bridges with a function bound below a port, each once. -/
def composedOfPort (s : State) (p : Nat) : List (Nat × Nat) := ((bindsOfPort s p).map (fun e => (e.2.vsw, e.2.bridge))).eraseDups

/-- vSwitches whose functions lie below a port: the one of its direct bridge, or those of its bindings. -/
def vswsOfPort (s : State) (p : Nat) : List Nat :=
  match directBridge s p with
  | some (v, _) => [v]
  | none => ((bindsOfPort s p).map (fun e => e.2.vsw)).eraseDups

/-- A slot event at the bridge that holds a port (R303, R304): bits of Slot Status. -/
def slotStatus (s : State) (p bit : Nat) : State :=
  match directBridge s p with
  | some (v, k) => s.modFunc v (fnBridge k) (fun f => { f with slotStatus := setBit f.slotStatus bit })
  | none => s

/-! ### Numbers of a vSwitch's functions -/

/-- Secondary bus of the upstream bridge: the internal bus of a vSwitch (R102). -/
def innerBus (s : State) (v : Nat) : Nat := (s.func v fnUp).secBus

/-- Device and function number of virtual downstream bridge `k` on the internal bus (R102). -/
def bridgeDevfn (k : Nat) : Nat := if k < 32 then k * 8 else (k - 32) * 8 + 1

/-- Host ID of a function of a vSwitch: management, Mover PF, upstream bridge, bridge `k` at key 8 + k (R102). -/
def hostId (s : State) (v fn : Nat) : Nat :=
  if fn < 8 then (s.vsw v).bus * 256 + fn else innerBus s v * 256 + bridgeDevfn (fn - 8)

/-- Bits of Slot Status. -/
abbrev Sl.attn : Nat := 0
abbrev Sl.powerFault : Nat := 1
abbrev Sl.mrl : Nat := 2
abbrev Sl.presence : Nat := 3
abbrev Sl.cmdDone : Nat := 4
abbrev Sl.dlState : Nat := 8

/-- The level of a slot's interrupt as PCI Express defines it (R116): Hot-Plug Interrupt Enable, an event with its enable set, and INTx not
disabled. -/
def slotLevel (f : Func) : Bool :=
  let ctl := agetD f.other 26 0
  ctl.testBit 5 && !f.command.testBit 10 && ((f.slotStatus % 32 &&& ctl % 32) != 0 || (f.slotStatus.testBit Sl.dlState && ctl.testBit 12))

/-- The slots whose interrupt level has changed raise or lower their interrupt (R116); by what means it reaches the host no rule says (log entry 17). -/
def slotInts (s : State) : State :=
  forEach (s.hosts.vsws.flatMap (fun e => e.2.funcs.map (fun f => (e.1, f.1, f.2)))) s (fun s x =>
    let on := slotLevel x.2.2
    if x.2.1 < 8 || on == x.2.2.slotInt then s
    else emit (s.modFunc x.1 x.2.1 (fun f => { f with slotInt := on })) (.slotInterrupt x.1 (x.2.1 - 8) on))

/-- A failure enters the Posted Failure Log of a vSwitch (R158): added to the newest unread entry of the same node, port and
reason, or a new entry with MSI-X vector 2, or counted in PFL_OVF while 32 entries are unread. -/
def pflAdd (s : State) (v addr node port reason count : Nat) (remote : Bool) : State :=
  let w := getF s (Reg.PFL_PTR v) Fld.PFL_PTR_WR
  let r := getF s (Reg.PFL_PTR v) Fld.PFL_PTR_RD
  let used := (w + 64 - r) % 64
  let fresh := fun (_ : Unit) =>
    if used = 32 then bumpN s (Reg.PFL_OVF v) count
    else
      let q := agetD s.fab.pflSeq v 0
      let e : PflEnt := { ts := s.time, addr := if reason = 0x01 then 0 else addr, dropNode := node, port := port, reason := reason,
                          count := min 0xFFFF count, remote := remote, seq := q }
      let s := { s with fab := { s.fab with pfl := aput s.fab.pfl (v * 32 + w % 32) e, pflSeq := aput s.fab.pflSeq v (q + 1) } }
      msix (setF s (Reg.PFL_PTR v) Fld.PFL_PTR_WR ((w + 1) % 64)) v 0 2
  if used = 0 then fresh ()
  else
    let k := v * 32 + (w + 63) % 64 % 32
    match aget s.fab.pfl k with
    | some e =>
      if e.dropNode = node ∧ e.port = port ∧ e.reason = reason then
        { s with fab := { s.fab with pfl := aput s.fab.pfl k { e with count := min 0xFFFF (e.count + count) } } }
      else fresh ()
    | none => fresh ()

end Sys2Proof.Machine
end

