-- ==== Sys2Proof/Machine/SbOps.lean ====
section
/-!
DEFINITION. Machine/SbOps.lean: the sideband bridge: queues of transfers, bound output signals, the error log
(R460–R467, R472).
-/
namespace Sys2Proof.Machine

/-- Bus `b` is enabled. -/
def busOn (s : State) (b : Nat) : Bool := (getF s Reg.SB_CTRL Fld.SB_CTRL_BUS_EN).testBit b

/-- Bus `b` is fenced, by fault or by command (R352). -/
def busFenced (s : State) (b : Nat) : Bool := isFenced s ⟨Uk.bus, b⟩

def sbQ (s : State) (b : Nat) : List SbXfer := agetD s.sb.queue b []

def setSbQ (s : State) (b : Nat) (q : List SbXfer) : State := { s with sb := { s.sb with queue := aput s.sb.queue b q } }

/-- The CRS offset of a transfer through the window (R462). -/
def windowOffset (bus addr reg : Nat) (legacy : Bool) : Nat :=
  0x0B100000 + bus * 0x40000 + addr * 0x800 + b2n legacy * 0x400 + reg * 4

/-- An entry of the bridge error log, or a count in OVF while 16 are unread (R464). -/
def sbLog (s : State) (offset master reason bus vsw : Nat) : State :=
  let w := getF s Reg.SB_ERR_PTR Fld.SB_ERR_PTR_WR
  let r := getF s Reg.SB_ERR_PTR Fld.SB_ERR_PTR_RD
  if (w + 32 - r) % 32 = 16 then bump s Reg.SB_ERR_OVF
  else
    let s := wr s (Reg.SB_ERR_LOG (w % 16) 0) (BitVec.ofNat 64 s.time)
    let s := wr s (Reg.SB_ERR_LOG (w % 16) 1)
      (BitVec.ofNat 64 (offset + master * 2 ^ 32 + reason * 2 ^ 40 + bus * 2 ^ 48 + vsw * 2 ^ 56))
    msixManagers (setF s Reg.SB_ERR_PTR Fld.SB_ERR_PTR_WR ((w + 1) % 32)) 9

/-- A transfer starts on its bus: the bridge drives it. -/
def sbStart (s : State) (b : Nat) : State :=
  match sbQ s b with | x :: _ => emit s (.sideband b x) | [] => s

/-- A posted write of the bridge failed on the far side (R464): logged; one of master 13 also gets its Posted Failure Log
entry with REASON 0x0D in the vSwitch whose BAR0 carried it. -/
def sbWriteFailed (s : State) (b : Nat) (x : SbXfer) (reason : Nat) : State :=
  match x.purpose with
  | .windowWrite m ofs =>
    let s := sbLog s ofs m.id.val reason b (if m.id.val = 13 then m.vsw.val else 0)
    if m.id.val = 13 then pflAdd s m.vsw.val ofs (nodeId s) 0 0x0D 1 false else s
  | _ => sbLog s (windowOffset b x.addr x.reg x.legacy) 14 reason b 0

/-- Why a transfer cannot be made on a bus now: fenced, not enabled, or an I3C target on a legacy bus (R464, R472). -/
def sbBlocked (s : State) (b : Nat) (legacy : Bool) : Option Nat :=
  if busFenced s b then some 0x04
  else if !busOn s b then some 0x05
  else if s.sb.legacyBus.contains b && !legacy then some 0x05
  else none

/-- Queues a transfer behind those of its bus. -/
def sbPush (s : State) (b : Nat) (x : SbXfer) : State :=
  let q := sbQ s b
  let s := setSbQ s b (q ++ [x])
  if q.isEmpty then sbStart s b else s

/-- Queues transfers ahead of every queued one, behind the transfer in progress (R467). -/
def sbPushFirst (s : State) (b : Nat) (xs : List SbXfer) : State :=
  match sbQ s b with
  | [] => sbStart (setSbQ s b xs) b
  | x :: q => setSbQ s b (x :: xs ++ q)

/-! ### Signals of a slot (R466) -/

/-- Signals of SB_SIGMAP. -/
abbrev Sig.presence : Nat := 0
abbrev Sig.attn : Nat := 1
abbrev Sig.mrl : Nat := 2
abbrev Sig.powerFault : Nat := 3
abbrev Sig.powerGood : Nat := 4
abbrev Sig.wake : Nat := 5
abbrev Sig.clkreqIn : Nat := 6
abbrev Sig.perst : Nat := 7
abbrev Sig.clkreqOut : Nat := 8
abbrev Sig.attnInd : Nat := 9
abbrev Sig.powerInd : Nat := 10

/-- Where a signal of a port is bound: entry, bit, active low. -/
def sigBind (s : State) (p i : Nat) : Option (Nat × Nat × Bool) :=
  let k := Reg.SB_SIGMAP p (i / 4)
  if isSet s k (Fld.SB_SIGMAP_VALID (i % 4)) then
    some (getF s k (Fld.SB_SIGMAP_ENTRY (i % 4)), getF s k (Fld.SB_SIGMAP_BIT (i % 4)), isSet s k (Fld.SB_SIGMAP_INV (i % 4)))
  else none

/-- The transfer that writes the shadow of a poll entry's output register to its target (R466). -/
def shadowXfer (s : State) (e : Nat) (purpose : SbFor) : Nat × SbXfer :=
  let k := Reg.SB_POLL e
  (getF s k Fld.SB_POLL_BUS,
   { addr := getF s k Fld.SB_POLL_ADDR, legacy := isSet s k Fld.SB_POLL_LEGACY, reg := getF s k Fld.SB_POLL_OUT_REG, write := true,
     value := getF s (Reg.SB_POLL_VAL e) Fld.SB_POLL_VAL_OUT, purpose := purpose })

/-- Sets `n` bound output bits of a port in the shadow; says which entry. -/
def setShadow (s : State) (p i n value : Nat) : Option (Nat × State) :=
  match sigBind s p i with
  | none => none
  | some (e, bit, inv) =>
    let v := if inv then 2 ^ n - 1 - value % 2 ^ n else value % 2 ^ n
    let o := getF s (Reg.SB_POLL_VAL e) Fld.SB_POLL_VAL_OUT
    let o' := o - bitsAt o bit n * 2 ^ bit + v * 2 ^ bit
    some (e, setF s (Reg.SB_POLL_VAL e) Fld.SB_POLL_VAL_OUT o')

/-- Slot PERST# as last written is asserted or not. -/
def notePerst (s : State) (p : Nat) (on : Bool) : State := setF s (Reg.PORT_STATUS p) Fld.PORT_STATUS_PERST_OUT (b2n on)

/-- Writes an output signal of a port: the bound bits change in the shadow, and the shadow is written to its target; a
signal that no entry binds has no output (R466).  Answers whether a write was queued. -/
def sigWrite (s : State) (p i n value : Nat) (counted : Bool) : Bool × State :=
  match setShadow s p i n value with
  | none => (false, s)
  | some (e, s) =>
    let s := if i = Sig.perst then notePerst s p (value != 0) else s
    let (b, x) := shadowXfer s e (.slotOut p counted)
    (true, sbPush s b x)

/-- Writes slot PERST# of a port. -/
def perstWrite (s : State) (p : Nat) (on : Bool) : State := (sigWrite s p Sig.perst 1 (b2n on) false).2

/-! ### eFuses (R390, R467) -/

/-- PMBus OPERATION (PRESUMED, log entry 12): command 0x01, 0x80 for on, 0x00 for immediate off. -/
def eFuseXfer (s : State) (slot : Nat) (on : Bool) : Nat × SbXfer :=
  let k := Reg.EGV_SLOT_CFG slot
  (getF s k Fld.EGV_SLOT_CFG_BUS,
   { addr := getF s k Fld.EGV_SLOT_CFG_ADDR, legacy := s.sb.legacyBus.contains (getF s k Fld.EGV_SLOT_CFG_BUS), reg := 0x01,
     write := true, value := if on then 0x80 else 0x00, purpose := .eFuse slot on })

/-- The command that turns a slot's eFuse on or off. -/
def eFuseWrite (s : State) (slot : Nat) (on : Bool) : State :=
  let (b, x) := eFuseXfer s slot on
  sbPush s b x

/-- PERST# asserted and the eFuse off as one sequence ahead of every queued write (R467). -/
def presenceCutWrites (s : State) (p slot : Nat) : State :=
  let (b1, off) := eFuseXfer s slot false
  match setShadow s p Sig.perst 1 1 with
  | some (e, s) =>
    let s := notePerst s p true
    let (b0, x) := shadowXfer s e (.slotOut p false)
    if b0 = b1 then sbPushFirst s b0 [x, off] else sbPushFirst (sbPushFirst s b0 [x]) b1 [off]
  | none => sbPushFirst s b1 [off]

/-! ### The poll list (R465) -/

/-- Transfer time of a poll entry in nanoseconds. -/
def pollTime (legacy wide : Bool) : Nat := if legacy then (if wide then 47000 else 38000) else (if wide then 4000 else 3200)

/-- PERIOD of an entry in µs, held within 10 to 10,000,000. -/
def pollPeriod (w : Word) : Nat := max 10 (min 10000000 (Fld.SB_POLL_PERIOD.get w))

/-- Load of a bus in parts of 10^9, with one entry's register taken to be `w`. -/
def busLoad (s : State) (b i : Nat) (w : Word) : Nat :=
  ((List.range 256).map (fun j =>
    let x := if j = i then w else rd s (Reg.SB_POLL j)
    if Fld.SB_POLL_EN.get x = 1 ∧ Fld.SB_POLL_BUS.get x = b then
      pollTime (Fld.SB_POLL_LEGACY.get x == 1) (Fld.SB_POLL_WIDE.get x == 1) * 1000000 / pollPeriod x
    else 0)).sum

end Sys2Proof.Machine
end

