-- ==== Sys2Proof/Machine/EgvOps.lean ====
section
/-!
DEFINITION. Machine/EgvOps.lean: the Energy Governor: checks, admission, ramps and cuts (R390–R393), and the slots of PCIe
ports (R302–R305).
-/
namespace Sys2Proof.Machine

/-- Declared energy of a slot in mJ: ½CV², rounded up (R390). -/
def declared (s : State) (n : Nat) : Nat :=
  let k := Reg.EGV_SLOT_CFG n
  let mv := getF s k Fld.EGV_SLOT_CFG_RAIL_MV
  (getF s k Fld.EGV_SLOT_CFG_CAP_UF * mv * mv + 1999999999) / 2000000000

/-- Predicted inrush: twice the declared energy. -/
def inrush (s : State) (n : Nat) : Nat := 2 * declared s n

/-- State of a slot: 0 OFF, 1 RAMPING, 2 ON, 3 CUT. -/
def egvState (s : State) (n : Nat) : Nat := getF s (Reg.EGV_SLOT_STATUS n) Fld.EGV_SLOT_STATUS_STATE

def setEgvState (s : State) (n x : Nat) : State := setF s (Reg.EGV_SLOT_STATUS n) Fld.EGV_SLOT_STATUS_STATE x

def setEgvReason (s : State) (n x : Nat) : State := setF s (Reg.EGV_SLOT_STATUS n) Fld.EGV_SLOT_STATUS_REASON x

/-- The enabled PCIe port that an EGV slot serves: one with a hot-plug slot before one without (R303, R390). -/
def egvPort (s : State) (n : Nat) : Option Nat :=
  let ps := (List.range 64).filter (fun p => isPcie s p && getF s (Reg.PORT_CFG p) Fld.PORT_CFG_EGV_SLOT == n)
  match ps.find? (fun p => isSet s (Reg.PORT_CFG p) Fld.PORT_CFG_HP_CAPABLE) with
  | some p => some p
  | none => ps.head?

/-- The port of a slot when it has a hot-plug slot. -/
def egvHpPort (s : State) (n : Nat) : Option Nat :=
  (egvPort s n).filter (fun p => isSet s (Reg.PORT_CFG p) Fld.PORT_CFG_HP_CAPABLE)

/-- INRUSH and WINDOW limits with their ranges. -/
def inrushLimit (s : State) (n : Nat) : Nat := max 500 (min 20000 (getF s (Reg.EGV_SLOT_LIM n) Fld.EGV_SLOT_LIM_INRUSH))
def windowLimit (s : State) : Nat := max 1000 (min 4000000 (getF s Reg.EGV_WINDOW Fld.EGV_WINDOW_LIMIT))
def maxRamps (s : State) : Nat := max 1 (min 8 (getF s Reg.EGV_CTRL Fld.EGV_CTRL_MAX_RAMPS))

/-- Predicted inrush admitted in the last 100 ms (R390). -/
def windowUsed (s : State) : Nat := ((s.egv.charges.filter (fun c => s.time < c.2.2 + ms 100)).map (fun c => c.2.1)).sum

/-- Checks 1 to 4 of R390: the REASON of the first that fails. -/
def egvStatic (s : State) (n : Nat) : Option Nat :=
  let k := Reg.EGV_SLOT_CFG n
  if !isSet s k Fld.EGV_SLOT_CFG_VALID || busFenced s (getF s k Fld.EGV_SLOT_CFG_BUS) then some 1
  else if (match egvHpPort s n with | some p => !isSet s (Reg.PORT_STATUS p) Fld.PORT_STATUS_PRESENT | none => false) then some 2
  else if getF s (Reg.EGV_SLOT_LIM n) Fld.EGV_SLOT_LIM_STORED < declared s n then some 3
  else if inrushLimit s n < inrush s n then some 4
  else none

/-- Checks 5 and 6 of R390, the limits that time eases; EGV_CTRL.EN at 0 admits none (log entry 13). -/
def egvDynamic (s : State) (n : Nat) : Option Nat :=
  if windowLimit s < windowUsed s + inrush s n then some 5
  else if maxRamps s ≤ s.egv.ramps.length || !isSet s Reg.EGV_CTRL Fld.EGV_CTRL_EN then some 6
  else none

/-- A slot cut enters the journal, type 0x08 (R411). -/
def journalCut (s : State) (n reason : Nat) : State :=
  journalAdd s 8 (natLe 1 n ++ natLe 1 reason ++ natLe 2 (getF s (Reg.EGV_SLOT_STATUS n) Fld.EGV_SLOT_STATUS_LAST_INRUSH)) []

/-- A ramp is admitted (R391, R392): the window is charged, the eFuse on-command goes to the bridge. -/
def egvAdmit (s : State) (n : Nat) : State :=
  let e := inrush s n
  let s := { s with egv := { s.egv with charges := s.egv.charges ++ [(n, e, s.time)],
                                        ramps := s.egv.ramps ++ [(n, s.time, inrushLimit s n, e)] } }
  let s := bump (setEgvReason (setEgvState s n 1) n 0) Reg.EGV_ADMIT_CNT
  eFuseWrite (setF s (Reg.EGV_SLOT_STATUS n) Fld.EGV_SLOT_STATUS_LAST_INRUSH 0) n true

/-- A request is refused (R391). -/
def egvRefuse (s : State) (n reason : Nat) : State := bump (setEgvReason s n reason) Reg.EGV_REFUSE_CNT

/-! ### Slot commands (R303) -/

/-- One of the sideband writes that a Slot Control command caused has ended; when it was the last, Command Completed is set
and a held command may begin.  `bad` says that the write failed. -/
def slotWriteEnded (s : State) (p : Nat) (bad : Bool) : State :=
  match (s.port p).slotCmd with
  | none => s
  | some c =>
    let s := if bad && c.power != 0 then slotStatus s p Sl.powerFault else s
    if c.writesLeft ≤ 1 then
      slotStatus (s.modPort p (fun x => { x with slotCmd := none })) p Sl.cmdDone
    else s.modPort p (fun x => { x with slotCmd := some { c with writesLeft := c.writesLeft - 1, failed := c.failed || bad } })

/-- A power-on request of a Slot Control write that the EGV refuses (R303, R391): the slot stays off. -/
def slotRefused (s : State) (p n reason : Nat) : State :=
  let s := slotStatus (portEvent (egvRefuse s n reason) p Ev.egvRefused) p Sl.powerFault
  slotWriteEnded s p false

/-- Requests queued at the EGV are admitted in order while the first passes (R391). -/
def egvAdmitQueued : Nat → State → State
  | 0, s => s
  | fuel + 1, s =>
    match s.egv.queue with
    | [] => s
    | q :: rest =>
      match egvStatic s q.slot with
      | some r =>
        let s := { s with egv := { s.egv with queue := rest } }
        egvAdmitQueued fuel (match q.port with | some p => slotRefused s p q.slot r | none => egvRefuse s q.slot r)
      | none =>
        match egvDynamic s q.slot with
        | some _ => s
        | none => egvAdmitQueued fuel (egvAdmit { s with egv := { s.egv with queue := rest } } q.slot)

/-- Admission is re-evaluated: charges older than 100 ms age out first (R391). -/
def egvReview (s : State) : State :=
  let s := { s with egv := { s.egv with charges := s.egv.charges.filter (fun c => s.time < c.2.2 + ms 100) } }
  egvAdmitQueued 64 s

/-- A queued power-on of a slot is removed (R391). -/
def egvUnqueue (s : State) (n : Nat) : State := { s with egv := { s.egv with queue := s.egv.queue.filter (fun q => q.slot != n) } }

/-- A ramp of a slot ends, however it ends; its window entry stays charged (R392). -/
def egvEndRamp (s : State) (n : Nat) : State := { s with egv := { s.egv with ramps := s.egv.ramps.filter (fun r => r.1 != n) } }

/-- The coefficient records, PERST delay and POWER_ON of a slot's port as its power goes off (R271, R304). -/
def portPowerOff (s : State) (n : Nat) : State :=
  match egvPort s n with
  | some p =>
    let s := setF (clearPortCoef s p) (Reg.PORT_STATUS p) Fld.PORT_STATUS_POWER_ON 0
    tileOffIfUnpowered (s.modPort p (fun x => { x with perstDue := none })) p
  | none => s

/-- PERST# of a slot's port is asserted before its power goes, where it is not asserted already (R305). -/
def perstFirst (s : State) (n : Nat) : State :=
  match egvPort s n with
  | some p => if isSet s (Reg.PORT_STATUS p) Fld.PORT_STATUS_PERST_OUT then s else perstWrite s p true
  | none => s

/-- A slot is cut (R392, R393).  `write` sends the eFuse off-command; a presence cut has sent it already. -/
def egvCut (s : State) (n reason : Nat) (write : Bool) : State :=
  let s := bump (setEgvReason (setEgvState (egvEndRamp s n) n 3) n reason) Reg.EGV_CUT_CNT
  let s := journalCut s n reason
  let s := if write then eFuseWrite (perstFirst s n) n false else s
  let s := match egvPort s n with
    | some p => if 7 ≤ reason ∧ reason ≤ 10 then slotStatus s p Sl.powerFault else s
    | none => s
  egvReview (portPowerOff s n)

/-- A reading of the accumulator of a ramping slot: above INRUSH it cuts the slot (R392). -/
def egvReading (s : State) (n mj : Nat) : State :=
  match s.egv.ramps.find? (fun r => r.1 == n), isSet s (Reg.EGV_SLOT_CFG n) Fld.EGV_SLOT_CFG_ACC_EN with
  | some (_, _, limit, _), true =>
    let s := setF s (Reg.EGV_SLOT_STATUS n) Fld.EGV_SLOT_STATUS_LAST_INRUSH (min mj 65535)
    if limit < mj then egvCut s n 7 true else s
  | _, _ => s

/-- RAMP_TO passes without power good: the slot is cut (R392). -/
def egvRampTimeout (s : State) (n : Nat) : State := if egvState s n = 1 then egvCut s n 8 true else s

/-- The charge of the oldest ramp admitted ages out, and admission is re-evaluated (R391). -/
def egvWindowExpiry (s : State) : State := egvReview { s with egv := { s.egv with charges := s.egv.charges.drop 1 } }

/-- A power-off request (R391, R392): a queued power-on is removed; a ramping slot is cut; any other slot turns off, CUT too. -/
def egvOff (s : State) (n : Nat) : State :=
  let s := egvUnqueue s n
  if egvState s n = 1 then egvCut s n 0 true
  else
    let s := eFuseWrite (perstFirst (setEgvState s n 0) n) n false
    portPowerOff s n

/-! ### PERST# (R305) -/

/-- PERST# of a port may be deasserted: slot power good, PERST_FORCE 0, PERST_DELAY over. -/
def perstFree (s : State) (p : Nat) : Bool :=
  isSet s (Reg.PORT_STATUS p) Fld.PORT_STATUS_POWER_ON && !isSet s (Reg.PORT_CTRL p) Fld.PORT_CTRL_PERST_FORCE &&
    (s.port p).perstDue.isNone

/-- Deasserts PERST# of a port where R305 allows it. -/
def perstRelease (s : State) (p : Nat) : State := if perstFree s p then perstWrite s p false else s

/-- PERST_DELAY of a port as device time: units of 10 ms, 0 acting as 1. -/
def perstDelay (s : State) (p : Nat) : Nat := ms 10 * max 1 (getF s (Reg.PORT_CFG p) Fld.PORT_CFG_PERST_DELAY)

/-- EGV slot of a port. -/
def egvSlot (s : State) (p : Nat) : Nat := getF s (Reg.PORT_CFG p) Fld.PORT_CFG_EGV_SLOT

/-- The presence cut (R393, R467): PERST# and the eFuse command go as one sequence, the slot is CUT. -/
def presenceCut (s : State) (p : Nat) : State :=
  let n := egvSlot s p
  let s := egvUnqueue s n
  if egvState s n = 1 || egvState s n = 2 then
    egvCut (presenceCutWrites s p n) n 10 false
  else s

end Sys2Proof.Machine
end

