-- ==== Sys2Proof/Machine/SlotOps.lean ====
section
/-!
DEFINITION. Machine/SlotOps.lean: slot commands, slot inputs, polled samples and the ends of sideband transfers
(R302–R305, R460–R467).
-/
namespace Sys2Proof.Machine

/-- A port with a physical slot behind a direct bridge (R302). -/
def hasSlot (s : State) (v k : Nat) : Bool :=
  isDirect s v k && isSet s (Reg.PORT_CFG (bridgePort s v k)) Fld.PORT_CFG_HP_CAPABLE

/-- Expander value of a PCIe indicator control: 1 on, 2 blink, 3 off (R303, SB_SIGMAP). -/
def indValue (x : Nat) : Nat := if x = 3 then 0 else x

/-- Indicator writes of a Slot Control command: how many were queued. -/
def writeIndicators (s : State) (p attn power : Nat) : Nat × State :=
  let (a, s) := if attn = 0 then (false, s) else sigWrite s p Sig.attnInd 2 (indValue attn) true
  let (b, s) := if power = 0 then (false, s) else sigWrite s p Sig.powerInd 2 (indValue power) true
  (b2n a + b2n b, s)

/-- Indicator controls of a Slot Control write: the writes queued, and the controls kept (0: not written). -/
def slotIndicators (s : State) (v k : Nat) (ind : Option (Nat × Nat)) : Nat × State :=
  match ind with
  | some (a, b) =>
    let (w, s) := writeIndicators s (bridgePort s v k) a b
    (w, s.modFunc v (fnBridge k) (fun f => { f with attnInd := if a = 0 then f.attnInd else a, powerInd := if b = 0 then f.powerInd else b }))
  | none => (0, s)

/-- A Slot Control write begins (R303): `power` 1 on, 2 off, 0 neither; `ind` the indicator fields written.  Command
Completed follows when every sideband write it caused has ended; at once where it caused none. -/
def slotBegin (s : State) (v k power : Nat) (ind : Option (Nat × Nat)) : State :=
  let p := bridgePort s v k
  let n := egvSlot s p
  let (w, s) := slotIndicators s v k ind
  let start := fun (s : State) (w : Nat) =>
    if w = 0 then slotStatus s p Sl.cmdDone
    else s.modPort p (fun x => { x with slotCmd := some { vsw := v, bridge := k, power := power, writesLeft := w, failed := false } })
  match power with
  | 1 =>
    let s := (s.modFunc v (fnBridge k) (fun f => { f with powerOff := false })).modPort p (fun x => { x with hostOff := false })
    if mode s = 5 || egvState s n = 1 || egvState s n = 2 then start s w
    else
      let s := start s (w + 1)
      match (if egvState s n = 3 then some (getF s (Reg.EGV_SLOT_STATUS n) Fld.EGV_SLOT_STATUS_REASON) else egvStatic s n) with
      | some r => slotRefused s p n r
      | none =>
        if s.egv.queue.any (fun q => q.slot == n) || 32 ≤ s.egv.queue.length then s
        else egvReview { s with egv := { s.egv with queue := s.egv.queue ++ [⟨n, some p, none, s.time⟩] } }
  | 2 =>
    let s := (s.modFunc v (fnBridge k) (fun f => { f with powerOff := true })).modPort p (fun x => { x with hostOff := true })
    if mode s = 5 then start s w
    else
      let (w', s) := sigWrite s p Sig.perst 1 1 true
      (start s (w + b2n w' + 1)).modPort p (fun x => { x with powerOffDue := some (s.time + us 100) })
  | _ => start s w

/-- A host's Slot Control write at a bridge with a slot: begun, or held one deep behind the command in progress (R303). -/
def slotControl (s : State) (v k power : Nat) (ind : Option (Nat × Nat)) : State :=
  if hasSlot s v k then
    let p := bridgePort s v k
    match (s.port p).slotCmd with
    | some _ => s.modPort p (fun x => { x with heldSlot := some (v, k, power, ind) })
    | none => slotBegin s v k power ind
  else s

/-- Held Slot Control writes whose port has no command in progress begin. -/
def slotHeld (s : State) : State :=
  forEach (s.ports.map (fun e => e.1)) s (fun s p =>
    match (s.port p).slotCmd, (s.port p).heldSlot with
    | none, some (v, k, power, ind) => slotBegin (s.modPort p (fun x => { x with heldSlot := none })) v k power ind
    | _, _ => s)

/-- The power-off requests whose 100 µs after PERST# have passed go to the EGV (R303). -/
def slotOffs (s : State) : State :=
  forEach ((s.ports.filter (fun e => e.2.powerOffDue.any (fun t => decide (t ≤ s.time)))).map (fun e => e.1)) s (fun s p =>
    egvOff (s.modPort p (fun x => { x with powerOffDue := none })) (egvSlot s p))

/-! ### Slot inputs (R304) -/

/-- Slot power of a port is on: its EGV slot ramps or is on. -/
def slotPowered (s : State) (p : Nat) : Bool := egvState s (egvSlot s p) == 1 || egvState s (egvSlot s p) == 2

/-- Presence of a port changes. -/
def presenceChange (s : State) (p : Nat) (present : Bool) : State :=
  if isSet s (Reg.PORT_STATUS p) Fld.PORT_STATUS_PRESENT == present then s
  else
    let s := setF s (Reg.PORT_STATUS p) Fld.PORT_STATUS_PRESENT (b2n present)
    let s := slotStatus (portEvent (clearPortCoef s p) p Ev.presence) p Sl.presence
    if present then s
    else if slotPowered s p && isSet s (Reg.PORT_CFG p) Fld.PORT_CFG_HP_CAPABLE then presenceCut s p
    else egvUnqueue s (egvSlot s p)

/-- The MRL of a port opens. -/
def mrlOpens (s : State) (p : Nat) : State :=
  let s := slotStatus (portEvent s p Ev.mrl) p Sl.mrl
  if slotPowered s p && isSet s (Reg.PORT_CFG p) Fld.PORT_CFG_HP_CAPABLE then presenceCut (clearPortCoef s p) p else s

/-- A power fault of a port's slot. -/
def powerFaults (s : State) (p : Nat) : State :=
  let s := perstWrite s p true
  let s := slotStatus (portEvent (clearPortCoef s p) p Ev.powerFault) p Sl.powerFault
  if slotPowered s p then egvCut s (egvSlot s p) 9 true else s

/-- Power good of a port's slot after a power-on: the ramp ends with the energy that the
accumulator measured, a free value (log entry 2), the PERST_DELAY wait begins, the tile leaves OFF (R304, R392). -/
def powerGoods (s : State) (p : Nat) : State :=
  let n := egvSlot s p
  if egvState s n = 1 then
    let s := setEgvState (egvEndRamp s n) n 2
    let s := if isSet s (Reg.EGV_SLOT_CFG n) Fld.EGV_SLOT_CFG_ACC_EN then
        let (r, s) := draw s 16
        setF s (Reg.EGV_SLOT_STATUS n) Fld.EGV_SLOT_STATUS_LAST_INRUSH r
      else s
    let s := portEvent (setF s (Reg.PORT_STATUS p) Fld.PORT_STATUS_POWER_ON 1) p Ev.powerGood
    let s := s.modPort p (fun x => { x with perstDue := some (s.time + perstDelay s p) })
    let s := match portSlot s p with | some (t, _) => if tilePower s t = 3 then tileOn s t else s | none => s
    egvReview s
  else s

/-- WAKE# of a port is asserted with its link in neither L0 nor L1 (R304). -/
def wakes (s : State) (p : Nat) : State :=
  let l := getF s (Reg.PORT_STATUS p) Fld.PORT_STATUS_LTSSM
  if l = 4 ∨ l = 6 then s
  else
    let s := portEvent s p Ev.wake
    match directBridge s p with
    | some (v, k) => emit (s.modFunc v (fnBridge k) (fun f => { f with pme := true })) (.message (upPort s v) 0x18 k)
    | none => s

/-- A bound input of a port has changed to `on`. -/
def sigChange (s : State) (p i : Nat) (on : Bool) : State :=
  match i with
  | 0 => presenceChange s p on
  | 1 => if on then slotStatus (portEvent s p Ev.attnButton) p Sl.attn else s
  | 2 => if on then mrlOpens s p else slotStatus (portEvent s p Ev.mrl) p Sl.mrl
  | 3 => if on then powerFaults s p else s
  | 4 => if on then powerGoods s p else s
  | 5 => if on then wakes s p else s
  | 6 => (portWake s p).modPort p (fun x => { x with clkreqIn := on })
  | _ => s

/-- Input signals bound to a poll entry: port, signal, bit, active low. -/
def entrySignals (s : State) (e : Nat) : List (Nat × Nat × Nat × Bool) :=
  (List.range 64).flatMap (fun p => (List.range 7).filterMap (fun i =>
    match sigBind s p i with | some (x, bit, inv) => if x = e then some (p, i, bit, inv) else none | none => none))

/-- A poll entry is served: enabled on a bus that is enabled and not fenced; in Dormant only where its DORMANT bit is set (R466, R387). -/
def pollServed (s : State) (e : Nat) : Bool :=
  let k := Reg.SB_POLL e
  isSet s k Fld.SB_POLL_EN && !busFenced s (getF s k Fld.SB_POLL_BUS) && busOn s (getF s k Fld.SB_POLL_BUS) &&
    (!dormant s || isSet s k Fld.SB_POLL_DORMANT)

/-- The value that a poll entry takes from a sample of its target. -/
def pollValue (s : State) (e v : Nat) : Nat := if isSet s (Reg.SB_POLL e) Fld.SB_POLL_WIDE then v % 65536 else v % 256

/-- The bound signals that a sample changes: port, signal, and whether it is active now.  A first sample is compared with every signal
inactive. -/
def pollChanges (s : State) (e v : Nat) : List (Nat × Nat × Bool) :=
  let kv := Reg.SB_POLL_VAL e
  let old := getF s kv Fld.SB_POLL_VAL_IN
  (entrySignals s e).filterMap (fun x =>
    let on := (pollValue s e v).testBit x.2.2.1 != x.2.2.2
    let was := isSet s kv Fld.SB_POLL_VAL_VALID && (old.testBit x.2.2.1 != x.2.2.2)
    if on == was then none else some (x.1, x.2.1, on))

/-- A poll entry's sample (R466): the bound bits that differ from the previous sample reach their ports.  After three failed samples in a row
FAILED is set and logged, and presence counts as lost. -/
def pollSample (s : State) (e : Nat) (value : Option Nat) : State :=
  let k := Reg.SB_POLL e
  let kv := Reg.SB_POLL_VAL e
  if pollServed s e then
    match value with
    | some v =>
      let changes := pollChanges s e v
      let v := pollValue s e v
      let s := setF (setF (setF s kv Fld.SB_POLL_VAL_IN v) kv Fld.SB_POLL_VAL_VALID 1) kv Fld.SB_POLL_VAL_FAILED 0
      let s := { s with sb := { s.sb with fails := adel s.sb.fails e } }
      forEach changes s (fun s x => sigChange s x.1 x.2.1 x.2.2)
    | none =>
      let n := agetD s.sb.fails e 0 + 1
      let s := { s with sb := { s.sb with fails := aput s.sb.fails e n } }
      if n = 3 then
        let s := sbLog (setF s kv Fld.SB_POLL_VAL_FAILED 1) e 14 0x07 (getF s k Fld.SB_POLL_BUS) 0
        forEach ((entrySignals s e).filter (fun x => x.2.1 == Sig.presence)) s
          (fun s x => if slotPowered s x.1 then presenceChange s x.1 false else s)
      else s
  else s

/-! ### Ends of transfers (R462, R464, R303) -/

/-- A slot's sideband write failed: SB_FAIL, its count and the bridge error log (R303). -/
def slotWriteFailed (s : State) (p b : Nat) (x : SbXfer) (reason : Nat) : State :=
  sbWriteFailed (bump (portEvent s p Ev.sbFail) (Reg.PORT_SB_FAIL_CNT p)) b x reason

/-- The bus, address, register and kind of a window offset (R462). -/
def windowParts (offset : Nat) : Nat × Nat × Nat × Bool :=
  let o := offset - 0x0B100000
  (o / 0x40000 % 4, o / 0x800 % 128, o % 0x400 / 4, (o / 0x400) % 2 == 1)

/-- A REG_READ goes on (R345): words in the window are read by transfers, one after another; a denied word is 0, and beyond the window nothing
is. -/
def regReadWords : Nat → State → IcpReq → List Byte → State
  | 0, s, _, _ => s
  | fuel + 1, s, r, words =>
  let off := num r.payload 0 4 + words.length
  let left := 4 * num r.payload 4 2 - words.length
  if !s.icp.running.contains r then s
  else if left = 0 ∨ 0x0B200000 ≤ off then reply s r St.ok (fit 8 r.payload ++ words ++ zeros left)
  else if mpuAllows s 18 off .read 1 1 then
    let (bus, addr, reg, legacy) := windowParts off
    sbPush s bus { addr := addr, legacy := legacy, reg := reg, write := false, value := 0, purpose := .regRead r words }
  else regReadWords fuel (mpuDeny s 18 off .read 1 1 false) r (words ++ zeros 4)

def regReadNext (s : State) (r : IcpReq) (words : List Byte) : State := regReadWords 1017 s r words

/-- A window read that a host made through its CRS window is answered by a completion (R109, R462). -/
def windowAnswer (s : State) (v : Nat) (data : Option (List Byte)) (h : Held) : State :=
  { s with core := { s.core with localDue := s.core.localDue ++ [.answer v data h] } }

/-- A transfer has ended, with a byte read or with the REASON of its failure. -/
def sbEnd (s : State) (b : Nat) (x : SbXfer) (r : SbResult) : State :=
  match x.purpose, r with
  | .windowWrite _ _, .done _ => s
  | .windowWrite _ _, .failed w => sbWriteFailed s b x w
  | .windowRead m _ none, .done v => emit s (.readData m (v.setWidth 64) false)
  | .windowRead m _ none, .failed _ => emit s (.readData m 0xFFFFFFFF#64 true)
  | .windowRead m _ (some h), .done v => windowAnswer s m.vsw.val (some (natLe 4 v.toNat)) h
  | .windowRead m _ (some h), .failed _ => windowAnswer s m.vsw.val none h
  | .regRead r w, .done v => regReadNext s r (w ++ natLe 4 v.toNat)
  | .regRead r w, .failed _ => regReadNext s r (w ++ natLe 4 0xFFFFFFFF)
  | .poll e, .done v => pollSample s e (some v.toNat)
  | .poll e, .failed _ => pollSample s e none
  | .slotOut p c, .done _ => if c then slotWriteEnded s p false else s
  | .slotOut p c, .failed w =>
    let s := slotWriteFailed s p b x w
    if c then slotWriteEnded s p true else s
  | .eFuse n on, r =>
    let bad := match r with | .failed _ => true | .done _ => false
    let s := match r, egvPort s n with
      | .failed w, some p => slotWriteFailed s p b x w
      | .failed w, none => sbWriteFailed s b x w
      | .done _, _ =>
        let s := { s with pwr := { s.pwr with efuses := if on then (if s.pwr.efuses.contains n then s.pwr.efuses else s.pwr.efuses ++ [n]) else s.pwr.efuses.filter (fun x => x != n) } }
        if on then { s with egv := { s.egv with ramps := s.egv.ramps.map (fun y => if y.1 = n then (n, s.time, y.2.2) else y) } } else s
    match egvPort s n with
    | some p =>
      match (s.port p).slotCmd with
      | some c => if c.power = (if on then 1 else 2) then slotWriteEnded s p bad else s
      | none => s
    | none => s
  | .bring _, _ => s

/-- The transfer in progress on a bus ends: its outcome, then the held write that now has room, then the next transfer. -/
def sbFinish (s : State) (b : Nat) (r : SbResult) : State :=
  match sbQ s b with
  | [] => s
  | x :: q =>
    let s := setSbQ s b q
    let s := { s with sb := { s.sb with retried := s.sb.retried.filter (fun y => y != b) } }
    let s := match agetD s.sb.heldWrites b [] with
      | [] => s
      | h :: hs => { setSbQ s b (q ++ [h]) with sb := { (setSbQ s b (q ++ [h])).sb with heldWrites := aput s.sb.heldWrites b hs } }
    sbEnd (sbStart s b) b x r

/-- Transfers queued on buses that cannot carry them end with the reason (R464): a fenced or disabled bus, an I3C target on a
legacy bus. -/
def sbSweepBus : Nat → Nat → State → State
  | 0, _, s => s
  | fuel + 1, b, s =>
    match sbQ s b with
    | [] => s
    | x :: _ =>
      match sbBlocked s b x.legacy with
      | some r => sbSweepBus fuel b (sbFinish s b (.failed r))
      | none => s

/-- Every bus swept. -/
def sbSweep (s : State) : State := forEach (List.range 4) s (fun s b => sbSweepBus ((sbQ s b).length + 40) b s)

/-- Bound output bits of the register that a window write addresses, taken from the shadow (R466). -/
def windowMask (s : State) (bus addr reg : Nat) (legacy : Bool) (value : Nat) : Nat :=
  forEach (List.range 256) value (fun v e =>
    let k := Reg.SB_POLL e
    if isSet s k Fld.SB_POLL_EN && getF s k Fld.SB_POLL_BUS == bus && getF s k Fld.SB_POLL_ADDR == addr &&
        getF s k Fld.SB_POLL_OUT_REG == reg && isSet s k Fld.SB_POLL_LEGACY == legacy then
      let o := getF s (Reg.SB_POLL_VAL e) Fld.SB_POLL_VAL_OUT
      let bits := (List.range 64).flatMap (fun p => [Sig.perst, Sig.clkreqOut, Sig.attnInd, Sig.powerInd].flatMap (fun i =>
        match sigBind s p i with
        | some (x, bit, _) => if x = e then (if i = Sig.attnInd ∨ i = Sig.powerInd then [bit, bit + 1] else [bit]) else []
        | none => []))
      forEach bits v (fun v b => if o.testBit b then setBit v b else clearBit v b)
    else v)

/-- A window write that the MPUs allow: queued as posted, or held while 32 writes wait on its bus (R462). -/
def windowWrite (s : State) (a : Access) (value : Nat) : State :=
  let (bus, addr, reg, legacy) := windowParts a.offset
  let x : SbXfer := { addr := addr, legacy := legacy, reg := reg, write := true, value := windowMask s bus addr reg legacy (value % 256),
                      purpose := .windowWrite a.by_ a.offset }
  if 32 ≤ ((sbQ s bus).filter (fun x => x.write)).length then
    { s with sb := { s.sb with heldWrites := amod s.sb.heldWrites bus [] (fun h => h ++ [x]) } }
  else sbPush s bus x

/-- A window read that the MPUs allow: completes after its transfer, at once with all ones and an error where the bus cannot
carry it (R462). -/
def windowRead (s : State) (a : Access) (h : Option Held) : State :=
  let (bus, addr, reg, legacy) := windowParts a.offset
  sbPush s bus { addr := addr, legacy := legacy, reg := reg, write := false, value := 0, purpose := .windowRead a.by_ a.offset h }

/-- A poll entry is written (R465): refused with ERR if its bus would be loaded above 80 %, or for an I3C entry on a legacy bus. -/
def pollWrite (s : State) (i : Nat) (value : Word) : State :=
  let b := Fld.SB_POLL_BUS.get value
  let on := Fld.SB_POLL_EN.get value == 1
  let fit := Fld.SB_POLL_PERIOD.set (value &&& 0xDFFCFFFF00FFFFFF#64) (pollPeriod value)
  if on && (800000000 < busLoad s b i value || (s.sb.legacyBus.contains b && Fld.SB_POLL_LEGACY.get value == 0)) then
    setF s Reg.SB_STATUS Fld.SB_STATUS_ERR 1
  else
    let was := isSet s (Reg.SB_POLL i) Fld.SB_POLL_EN
    let s := wr s (Reg.SB_POLL i) fit
    if was then s else setF s (Reg.SB_POLL_VAL i) Fld.SB_POLL_VAL_VALID 0

/-- A bus is enabled (R460, R472): its idle SCL level tells a legacy bus; any other runs RSTDAA, SETDASA and DISEC. -/
def busEnable (s : State) (b : Nat) (legacy : Bool) : State :=
  let s := setF s Reg.SB_CTRL Fld.SB_CTRL_BUS_EN (setBit (getF s Reg.SB_CTRL Fld.SB_CTRL_BUS_EN) b)
  if legacy then { s with sb := { s.sb with legacyBus := if s.sb.legacyBus.contains b then s.sb.legacyBus else s.sb.legacyBus ++ [b] } }
  else
    let s := { s with sb := { s.sb with legacyBus := s.sb.legacyBus.filter (fun x => x != b) } }
    forEach [0, 1, 2] s (fun s i => sbPush s b { addr := 0x7E, legacy := false, reg := 0, write := true, value := 0, purpose := .bring i })

/-- A bus held low for 10 ms (R460): the fault, nine clocks and a STOP, and one retry of the transfer in progress. -/
def busStuck (s : State) (b : Nat) (sda : Bool) : State :=
  let s := emit (detect s 0x0800 .contained Uk.bus b (b2n sda)) (.busClear b)
  if s.sb.retried.contains b then s
  else sbStart { s with sb := { s.sb with retried := s.sb.retried ++ [b] } } b

/-- A legacy target holds SCL for 10 ms: the transfer in progress ends with reason 0x03 (R460). -/
def sclTimeout (s : State) (b : Nat) : State :=
  match sbQ s b with
  | x :: _ => if x.legacy then sbFinish s b (.failed 0x03) else s
  | [] => s

end Sys2Proof.Machine
end

