-- ==== Sys2Proof/Machine/LinkTx.lean ====
section
/-!
DEFINITION. Machine/LinkTx.lean: sending on a Calez link: frames, credits, the replay store (R176–R186).
-/
namespace Sys2Proof.Machine

/-- STATE codes of CZ_STATUS. -/
abbrev Cz.reset : Nat := 0
abbrev Cz.detect : Nat := 1
abbrev Cz.lock : Nat := 2
abbrev Cz.align : Nat := 3
abbrev Cz.eq : Nat := 4
abbrev Cz.param : Nat := 5
abbrev Cz.active : Nat := 6
abbrev Cz.quiet : Nat := 7
abbrev Cz.waking : Nat := 8

/-- State of a link. -/
def czState (s : State) (n : Nat) : Nat := getF s (Reg.CZ_STATUS n) Fld.CZ_STATUS_STATE

/-- The link is ACTIVE; or in ACTIVE, QUIET or WAKE, its session alive. -/
def czActive (s : State) (n : Nat) : Bool := czState s n == Cz.active
def czLive (s : State) (n : Nat) : Bool := 6 ≤ czState s n && czState s n ≤ 8

/-- A Calez port is ACTIVE for the route table while its session is alive (R140, R201). -/
def portActive (s : State) (p : Nat) : Bool := match portLink s p with | some n => czLive s n | none => false

/-- Bytes of the replay store of a link, by its width (R186), and bytes that a frame takes there. -/
def storeSize (s : State) (n : Nat) : Nat := 32768 * slotWidth (tileSplit s (n / 4)) (n % 4)
def storedBytes (f : Frame) : Nat := (16 + f.len + 4 + 31) / 32 * 32

def storeUsed (l : Link) : Nat := (l.unacked.map (fun x => storedBytes x.frame)).sum

/-- Room for frames in the replay store (R186), beside those of TLPs that have begun to leave. -/
def storeRoom (s : State) (n : Nat) (fs : List Frame) : Bool :=
  let l := s.link n
  let owed := l.owed.flatMap (fun e => e.2.map (fun x => x.frame))
  decide (l.unacked.length + (owed ++ fs).length ≤ 2047) && decide (storeUsed l + ((owed ++ fs).map storedBytes).sum ≤ storeSize s n)

/-- Credits available on a VC and pool (R181): none until a LIMIT has come. -/
def czCredits (s : State) (n vc pool : Nat) : Nat :=
  match aget (s.link n).limit (vc * 4 + pool) with
  | some lim => (lim + 65536 - agetD (s.link n).cons (vc * 4 + pool) 0 % 65536) % 65536
  | none => 0

/-- Charges credits of a VC and pool. -/
def czCharge (s : State) (n vc pool c : Nat) : State :=
  s.modLink n (fun l => { l with cons := amod l.cons (vc * 4 + pool) 0 (fun x => (x + c) % 65536) })

/-- ACK as every header reports it (R184). -/
def czAck (l : Link) : Nat := (l.nextRx + 4095) % 4096

/-- A credit return of a frame header (R176, R181): VC, pool and the LIMIT as it stands. -/
def creditField (l : Link) (key : Nat) : Nat × Nat × Nat := (key / 4, key % 4, agetD l.rxLimit key 0)

/-- A frame leaves: SEQ, ACK, SESSION and two changed LIMITs are filled in, a copy enters the replay store, and its header reports the ACK
(R176, R181, R183–R186). -/
def czSend (s : State) (n : Nat) (x : Stored) : State :=
  let l := s.link n
  let f := { x.frame with seq := l.nextTx, ack := czAck l, session := getF s (Reg.CZ_STATUS n) Fld.CZ_STATUS_SESSION,
                          cr0 := l.crDue[0]?.map (creditField l), cr1 := l.crDue[1]?.map (creditField l) }
  let l' := { l with nextTx := (l.nextTx + 1) % 4096, unacked := l.unacked ++ [{ x with frame := f }], unreported := 0, crDue := l.crDue.drop 2,
                     lastFrame := s.time, ackMoved := if l.unacked.isEmpty then s.time else l.ackMoved }
  pcLink (emit (injectCrc (s.setLink n l') Uk.calez n) (.frame n f)) n 0x101

/-- The frame of a message object of VC7 (R177): a feedback frame, an advertisement, a report, a RESOLVE or an ICP segment. -/
def vc7Frame (type len : Nat) (body : FrameBody) : Frame :=
  { type := type, vc := 7, pool := 0, first := true, last := true, abort := false, seq := 0, ack := 0, len := len, cr0 := none, cr1 := none,
    session := 0, body := body }

/-- Whether the frame at the head of the link's own queue may leave: credits for it, room for it, no QUIET handshake, no segmented object in
progress on VC7 (R178, R182, R186, R201). -/
def czReady (s : State) (n : Nat) (f : Frame) : Bool :=
  czActive s n && !(s.link n).quietAsked && (agetD (s.link n).owed 7 []).isEmpty && decide (4 ≤ czCredits s n 7 0) && storeRoom s n [f]

/-- Frames that wait for credits leave, oldest first. -/
def czDrain : Nat → Nat → State → State
  | 0, _, s => s
  | fuel + 1, n, s =>
    match (s.link n).txq with
    | [] => s
    | x :: r =>
      if czReady s n x.frame then czDrain fuel n (czCharge (czSend (s.modLink n (fun l => { l with txq := r })) n x) n 7 0 4)
      else s

/-- Queues a VC7 frame on a link whose session is alive, and sends what may leave. -/
def czPut (s : State) (n : Nat) (f : Frame) : State :=
  if czLive s n then
    let s := s.modLink n (fun l => { l with txq := l.txq ++ [⟨f, none⟩] })
    czDrain (s.link n).txq.length n s
  else s

/-- LIMIT that a port gives on a VC and pool at the start of a session (R60): 4 × (H + D). -/
def czLimit0 (s : State) (p vc pool : Nat) : Nat :=
  let r := agetD s.core.rsvForce (p * 8 + vc) (if vc = 0 ∨ vc = 7 then (0x1004010, 0x4001040) else (0, 0))
  let fld := fun (w : Nat) => w / 2 ^ (10 * pool) % 1024
  4 * (fld r.1 + fld r.2)

/-- The receiver gives credits back (R181): the LIMIT of a VC and pool grows, a CREDIT block goes out, and the next frame header carries it. -/
def czReturn (s : State) (n vc pool c : Nat) : State :=
  if czLive s n && 0 < c then
    let lim := (agetD (s.link n).rxLimit (vc * 4 + pool) 0 + c) % 65536
    let key := vc * 4 + pool
    emit (s.modLink n (fun l => { l with rxLimit := aput l.rxLimit key lim, crDue := if l.crDue.contains key then l.crDue else l.crDue ++ [key] }))
      (.block n (.credit vc pool lim))
  else s

end Sys2Proof.Machine
end

