-- ==== Sys2Proof/Machine/TableBytes.lean ====
section
/-!
DEFINITION. Machine/TableBytes.lean: the byte layouts of table entries (R79, R84, R113, R132, R137, R148, R158).
-/
namespace Sys2Proof.Machine

/-- Bits of one byte of an entry, `n` from `lo` up. -/
def byteBits (bs : List Byte) (ofs lo n : Nat) : Nat := bitsAt (num bs ofs 1) lo n

/-- A FAM entry as software writes it (R132). -/
def famRead (b : List Byte) : FamEnt :=
  { win := num b 0 8 / 4096 * 4096, remoteBase := num b 8 8 / 4096 * 4096, kind := byteBits b 16 6 2, size := byteBits b 16 0 6,
    valid := bitAt b 17 7, port := byteBits b 17 0 6, node := num b 18 2 % 4096, nodeMask := num b 20 2 % 4096, vsw := byteBits b 22 0 5,
    read := bitAt b 23 0, write := bitAt b 23 1, atomic := bitAt b 23 2, xlat := bitAt b 23 3, noSpray := bitAt b 23 4,
    proxyRid := num b 24 2, owner := num b 26 2 % 4096, user := num b 28 4 }

/-- The 32 bytes of a FAM entry. -/
def FamEnt.bytes (e : FamEnt) : List Byte :=
  natLe 8 e.win ++ natLe 8 e.remoteBase ++ natLe 1 (e.kind * 64 + e.size) ++ natLe 1 (b2n e.valid * 128 + e.port) ++ natLe 2 e.node ++
  natLe 2 e.nodeMask ++ natLe 1 e.vsw ++
  natLe 1 (b2n e.read + 2 * b2n e.write + 4 * b2n e.atomic + 8 * b2n e.xlat + 16 * b2n e.noSpray) ++ natLe 2 e.proxyRid ++ natLe 2 e.owner ++
  natLe 4 e.user

/-- An unused FAM entry. -/
def FamEnt.empty : FamEnt := famRead []

/-- A reserved field of a written FAM entry is not 0 (R135). -/
def famReservedSet (b : List Byte) : Bool :=
  num b 0 8 % 4096 != 0 || num b 8 8 % 4096 != 0 || bitAt b 17 6 || 4096 ≤ num b 18 2 || 4096 ≤ num b 20 2 || byteBits b 22 5 3 != 0 ||
    byteBits b 23 5 3 != 0 || 4096 ≤ num b 26 2

/-- A binding entry as written (R113). -/
def bindRead (b : List Byte) : BindEnt :=
  { devRid := num b 0 2, kind := byteBits b 2 6 2, port := byteBits b 2 0 6, valid := bitAt b 3 7, vsw := byteBits b 3 0 5,
    bridge := byteBits b 4 0 6, hostDevfn := num b 5 1, pfShared := bitAt b 6 0, owner := num b 8 2 % 4096 }

/-- The 16 bytes of a binding entry. -/
def BindEnt.bytes (e : BindEnt) : List Byte :=
  natLe 2 e.devRid ++ natLe 1 (e.kind * 64 + e.port) ++ natLe 1 (b2n e.valid * 128 + e.vsw) ++ natLe 1 e.bridge ++ natLe 1 e.hostDevfn ++
  natLe 1 (b2n e.pfShared) ++ zeros 1 ++ natLe 2 e.owner ++ zeros 6

def BindEnt.empty : BindEnt := bindRead []

/-- A path of a route entry as written (R137). -/
def pathRead (w : Nat) (withdrawn : Bool) : PathEnt :=
  { valid := w.testBit 31, nextNode := bitsAt w 16 12, metric := bitsAt w 8 8, port := bitsAt w 0 6, withdrawn := withdrawn }

def PathEnt.word (p : PathEnt) : Nat := b2n p.valid * 2 ^ 31 + p.nextNode * 65536 + p.metric * 256 + p.port

def PathEnt.empty : PathEnt := pathRead 0 false

def RouteEnt.empty : RouteEnt := { valid := false, paths := [], servedBy := none }

def RouteEnt.path (e : RouteEnt) (k : Nat) : PathEnt := agetD e.paths k PathEnt.empty

/-- The path is configured: VALID with METRIC 1 to 255 (R137). -/
def PathEnt.configured (p : PathEnt) : Bool := p.valid && p.metric != 0

/-- The equal-cost set of an entry (R138): its configured paths that are not withdrawn and have the lowest METRIC among them. -/
def RouteEnt.ecs (e : RouteEnt) : List Nat :=
  if e.valid then
    let live := (List.range 8).filter (fun k => (e.path k).configured && !(e.path k).withdrawn)
    live.filter (fun k => live.all (fun j => decide ((e.path k).metric ≤ (e.path j).metric)))
  else []

/-- The 64 bytes of the route entry of a destination. -/
def RouteEnt.bytes (e : RouteEnt) (node : Nat) : List Byte :=
  let ecs := e.ecs
  natLe 2 (b2n e.valid * 32768 + b2n ecs.isEmpty * 16384) ++
  natLe 1 (((List.range 8).filter (fun k => (e.path k).withdrawn)).foldl setBit 0) ++ natLe 1 (ecs.foldl setBit 0) ++
  natLe 2 (b2n e.servedBy.isSome * 32768 + e.servedBy.getD node) ++ zeros 2 ++
  (List.range 8).flatMap (fun k => natLe 4 (e.path k).word) ++ zeros 24

/-- A reserved field of a written route entry is not 0 (R165). -/
def routeReservedSet (b : List Byte) : Bool :=
  num b 0 2 % 16384 != 0 || num b 4 2 / 4096 % 8 != 0 || num b 6 2 != 0 ||
    (List.range 8).any (fun k => bitsAt (num b (8 + 4 * k) 4) 28 3 != 0 || bitsAt (num b (8 + 4 * k) 4) 6 2 != 0) || num b 40 24 != 0

/-- The 24 bytes of a transaction context (R148). -/
def CtxEnt.bytes (c : CtxEnt) : List Byte :=
  natLe 2 c.reqId ++ natLe 2 c.tag ++ natLe 2 (b2n c.outCalez * 32768 + c.outTag.getD 0) ++ natLe 1 (128 + b2n c.source * 64 + c.inPort % 64) ++
  natLe 1 (c.outPort % 64) ++ natLe 2 (c.gen * 4096 + c.peerNode) ++ natLe 3 (c.peerCtx + c.peerGen * 262144) ++
  natLe 1 (b2n c.toData * 128 + c.vc * 8 + c.path) ++ natLe 2 (c.kind * 8192 + c.remain) ++ natLe 4 (c.deadline % 4294967296) ++
  natLe 1 c.vsw ++ zeros 3

/-- The 64 bytes of a meter (R79). -/
def Meter.bytes (m : Meter) : List Byte :=
  natLe 4 m.cir ++ natLe 4 m.pir ++ natLe 4 m.cbs ++ natLe 4 m.pbs ++ natLe 4 (m.tc / 16000) ++ natLe 4 (m.tp / 16000) ++ natLe 8 m.green ++ natLe 8 m.yellow ++
  natLe 8 m.red ++ zeros 16

/-- Device time in µs. -/
def timeUs (s : State) : Nat := s.time / 16000

/-- The 32 bytes of a flow-rate context (R84). -/
def Frc.bytes (f : Frc) : List Byte :=
  natLe 2 (32768 + f.vc * 4096 + f.dest) ++ natLe 1 (f.port % 64) ++ natLe 1 (f.k * 8 + b2n (decide (f.rate < f.rmax)) * 4 + f.lastc) ++
  natLe 2 f.rate ++ natLe 2 f.rmax ++ natLe 4 (f.tokens / 1600 % 4294967296).toNat ++ natLe 2 (min 65535 f.queue.length) ++
  natLe 2 (f.lastDec / 16000) ++
  natLe 6 (((List.range 8).map (fun k => agetD f.spray k 0 * 64 ^ k)).sum) ++ natLe 2 (f.lastTlp / 16000) ++ natLe 4 f.marks ++ zeros 4

/-- The 32 bytes of a Posted Failure Log entry (R158). -/
def PflEnt.bytes (e : PflEnt) : List Byte :=
  natLe 8 e.ts ++ natLe 8 e.addr ++ natLe 2 e.dropNode ++ natLe 1 e.port ++ natLe 1 e.reason ++ natLe 2 e.count ++ natLe 1 (b2n e.remote) ++
  zeros 1 ++ natLe 4 e.seq ++ zeros 4

/-! ### Routes (R70, R138) -/

def route (s : State) (d : Nat) : RouteEnt := agetD s.fab.routes d RouteEnt.empty

/-- The entry by which TLPs for a destination are routed: that of its serving node while it is taken over (R143). -/
def servedRoute (s : State) (d : Nat) : RouteEnt :=
  match (route s d).servedBy with | some a => route s a | none => route s d

/-- The equal-cost set in force for a destination. -/
def ecsOf (s : State) (d : Nat) : List Nat := (servedRoute s d).ecs

/-- The port and the neighbour of path `k` towards a destination. -/
def pathPort (s : State) (d k : Nat) : Nat := ((servedRoute s d).path k).port

/-- One bit step, and one byte, of CRC-16/CCITT (R70, R368). -/
def crc16Bit (r : Nat) : Nat := if 32768 ≤ r then (r * 2 % 65536) ^^^ 0x1021 else r * 2
def crc16Byte (r b : Nat) : Nat :=
  crc16Bit (crc16Bit (crc16Bit (crc16Bit (crc16Bit (crc16Bit (crc16Bit (crc16Bit (r ^^^ (b * 256)))))))))
def crc16 (bs : List Byte) : Nat := bs.foldl (fun r b => crc16Byte r b.toNat) 0xFFFF

/-- The hash of a flow (R70): source node, ingress port there, destination node, core VC. -/
def flowHash (s : State) (src port dest vc : Nat) : Nat :=
  crc16 (natLe 2 (src % 4096) ++ natLe 1 (port % 64) ++ natLe 2 (dest % 4096) ++ natLe 1 (vc % 8)) ^^^ getF s Reg.ROUTE_CTRL Fld.ROUTE_CTRL_HASH_SEED

/-- The member of a set that a flow's hash picks (R138). -/
def pickPath (set : List Nat) (h : Nat) : Option Nat := set[h % set.length]?

/-- The hashed path of a flow, by the equal-cost set in force. -/
def hashedPath (s : State) (src port dest vc : Nat) : Option Nat := pickPath (ecsOf s dest) (flowHash s src port dest vc)

/-- A FEEDBACK, FER or RESOLVE frame leaves for a node, on the hashed path of (this node, 0, node, VC7) (R177). -/
def sendToNode (s : State) (node : Nat) (f : Frame) : State :=
  match hashedPath s (nodeId s) 0 node 7 with
  | none => s
  | some k => match portLink s (pathPort s node k) with | some n => czPut s n f | none => s

/-! ### The twin's state (R218) -/

/-- STATE of TWIN_STATUS: 0 none, 1 JOINING, 2 PAIRED, 3 SERVING, 4 SPLIT, 5 LEFT. -/
def twinState (s : State) : Nat := getF s Reg.TWIN_STATUS Fld.TWIN_STATUS_STATE

/-- Node ID of the partner. -/
def partner (s : State) : Nat := nodeId s ^^^ 1

/-- This twin serves its partner (R219). -/
def serving (s : State) : Bool := mode s == 4 && twinState s == 3

end Sys2Proof.Machine
end

