-- ==== Sys2Proof/Machine/BufOps.lean ====
section
/-!
DEFINITION. Machine/BufOps.lean: cells, reservations, the shared pool and the virtual output queues (R58–R66, R80, R160).
-/
namespace Sys2Proof.Machine

/-- Cells that a TLP with `n` payload bytes is charged (R58). -/
def cellsFor (n : Nat) : Nat := 1 + (n - 192 + 255) / 256

/-- Shared cells held in all, and reserved cells held in all. -/
def sharedHeld (s : State) : Nat := (s.core.sharedUse.map (fun e => e.2)).sum
def rsvHeld (s : State) : Nat := (s.core.rsvUse.map (fun e => e.2)).sum

/-- Cells not charged to any TLP: FREE_CELLS. -/
def freeCells (s : State) : Nat := 262144 - sharedHeld s - rsvHeld s

/-- Free cells of the shared pool (F of R63). -/
def sharedFree (s : State) : Nat := getF s Reg.BUF_SHARED Fld.BUF_SHARED_SHARED_CELLS - sharedHeld s

/-- ALPHA code of a class (R63): 0 posted, 1 non-posted, 2 completion, 3 droppable; 13–15 act as 12. -/
def alphaCode (s : State) (c : Nat) : Nat := min 12 ((rd s Reg.BUF_ALPHA).toNat / 2 ^ (4 * c) % 16)

/-- Cells of the shared pool that (port, class) holds. -/
def sharedOf (s : State) (p c : Nat) : Nat := agetD s.core.sharedUse (p * 4 + c) 0

/-- Admission to the shared pool (R63): S(p, c) + n ≤ 2^(code − 6) × F. -/
def admits (s : State) (p c n : Nat) : Bool := decide ((sharedOf s p c + n) * 64 ≤ 2 ^ alphaCode s c * sharedFree s)

def addShared (s : State) (p c n : Nat) : State :=
  { s with core := { s.core with sharedUse := aset 0 s.core.sharedUse (p * 4 + c) (sharedOf s p c + n) } }
def subShared (s : State) (p c n : Nat) : State :=
  { s with core := { s.core with sharedUse := aset 0 s.core.sharedUse (p * 4 + c) (sharedOf s p c - n) } }

/-- Key of a VOQ, and of a reservation: (port × 8 + VC) × 3 + class. -/
def qKey (p vc c : Nat) : Nat := (p * 8 + vc) * 3 + c

def voq (s : State) (p vc c : Nat) : List Held := agetD s.core.voqs (qKey p vc c) []

def setVoq (s : State) (p vc c : Nat) (q : List Held) : State :=
  { s with core := { s.core with voqs := aset [] s.core.voqs (qKey p vc c) q } }

/-- Cells in a VOQ. -/
def voqCells (s : State) (p vc c : Nat) : Nat := ((voq s p vc c).map (fun h => h.cells)).sum

/-- The TLP of a delivery, and of one that waits for its rest. -/
def LocalDue.held : LocalDue → Held
  | .mem _ _ _ _ h => h
  | .cfg _ _ h => h
  | .answer _ _ h => h
def Stowed.held : Stowed → Held
  | .voq h => h
  | .due d => d.held
  | .cpl h => h

/-- A delivery, and what waits for its rest, with its TLP changed. -/
def LocalDue.map (f : Held → Held) : LocalDue → LocalDue
  | .mem v fn bar ofs h => .mem v fn bar ofs (f h)
  | .cfg v r h => .cfg v r (f h)
  | .answer v d h => .answer v d (f h)
def Stowed.map (f : Held → Held) : Stowed → Stowed
  | .voq h => .voq (f h)
  | .due d => .due (d.map f)
  | .cpl h => .cpl (f h)

/-- A TLP past stage 4 that waits for its rest: not a completion that has not reached its context. -/
def Stowed.stamped : Stowed → Bool
  | .cpl _ => false
  | _ => true

/-- TLPs past stage 4 that have not entered stage 8: in VOQs, in pacing queues, and stored until they are whole. -/
def queuedHeld (s : State) : List Held :=
  s.core.voqs.flatMap (fun e => e.2) ++ s.cong.frcs.flatMap (fun e => e.2.queue) ++ (s.core.storing.filter Stowed.stamped).map Stowed.held

/-- Every TLP that stage 4 has stamped and that has not left the part (R160). -/
def stampedHeld (s : State) : List Held := queuedHeld s ++ s.core.leaving

/-- Every TLP held in the part: those stamped, and requests that wait for a context. -/
def allHeld (s : State) : List Held := stampedHeld s ++ s.core.ctxWait

/-- The TLPs of VOQs, pacing queues and the store changed by `f`. -/
def mapQueued (s : State) (f : Held → Held) : State :=
  { s with core := { s.core with voqs := s.core.voqs.map (fun e => (e.1, e.2.map f)),
                                 storing := s.core.storing.map (fun x => if x.stamped then x.map f else x) },
           cong := { s.cong with frcs := s.cong.frcs.map (fun e => (e.1, { e.2 with queue := e.2.queue.map f })) } }

/-- The TLPs of VOQs, pacing queues and the store that `p` picks are taken out. -/
def dropQueued (s : State) (p : Held → Bool) : State :=
  { s with core := { s.core with voqs := (s.core.voqs.map (fun e => (e.1, e.2.filter (fun h => !p h)))).filter (fun e => !e.2.isEmpty),
                                 storing := s.core.storing.filter (fun x => !p x.held) },
           cong := { s.cong with frcs := s.cong.frcs.map (fun e => (e.1, { e.2 with queue := e.2.queue.filter (fun h => !p h) })) } }

/-- The class by which a TLP draws on the pool: 3 for the lossy class (R64). -/
def poolClass (h : Held) : Nat := if h.tlp.lossy then 3 else h.tlp.cls.code

/-- Link credits of an arriving TLP go back to its sender (R61, R182). -/
def returnCredits (s : State) (h : Held) : State :=
  match portLink s h.inPort with
  | some n => czReturn s n h.vc h.tlp.cls.code (4 * h.cells)
  | none =>
    if isPcie s h.inPort then emit s (.dllp h.inPort (.updateFc 0 h.tlp.cls 1 ((h.tlp.payload + 15) / 16))) else s

/-- A TLP is charged to the buffer (R61): to the shared pool if R63 admits it, its credits returned at once, and to its
reservation otherwise.  `none`: a droppable TLP that R63 does not admit (R64).  A TLP of the part itself or of the Mover has no
reservation: a lossless one is charged to the shared pool without the test (log entry 20). -/
def chargeShare (s : State) (h : Held) : Option (Held × State) :=
  let c := poolClass h
  if admits s h.inPort c h.cells || (64 ≤ h.inPort && c != 3) then
    some ({ h with shared := true }, returnCredits (addShared s h.inPort c h.cells) h)
  else if c = 3 then none
  else
    let k := qKey h.inPort h.vc c
    some ({ h with shared := false },
      { s with core := { s.core with rsvUse := aset 0 s.core.rsvUse k (agetD s.core.rsvUse k 0 + h.cells) } })

/-- Stage 5 charges a TLP and writes it into cells (R58–R64); a FAULT_INJECT in force inverts check bits of a word written (R366). -/
def chargeCells (s : State) (h : Held) : Option (Held × State) :=
  match chargeShare s h with
  | none => none
  | some (h, s) =>
    match takeInjection s ⟨Uk.core, 0⟩ 1 with
    | (true, s) =>
      let (r, s) := if h.tlp.data.isEmpty then (0, s) else draw s 1
      some ({ h with bad := 1 + r, badInj := true }, s)
    | (false, s) =>
      match takeInjection s ⟨Uk.core, 0⟩ 0 with
      | (true, s) => some ({ h with bad := 3, badInj := true }, s)
      | (false, s) => some (h, s)

/-- The cells of a TLP are freed; credits of a reserved charge go back (R61). -/
def freeHeld (s : State) (h : Held) : State :=
  if h.cells = 0 then s
  else if h.shared then subShared s h.inPort (poolClass h) h.cells
  else
    let k := qKey h.inPort h.vc (poolClass h)
    returnCredits { s with core := { s.core with rsvUse := aset 0 s.core.rsvUse k (agetD s.core.rsvUse k 0 - h.cells) } } h

/-! ### Epochs (R159, R160) -/

/-- EPOCH_CUR. -/
def epoch (s : State) : Nat := (rd s Reg.EPOCH_CUR).toNat

/-- TLPs counted in an epoch slot (R160). -/
def epochCount (s : State) (slot : Nat) : Nat := ((stampedHeld s).filter (fun h => !h.uncounted && h.epoch % 4 == slot)).length

/-- EPOCH_CUR advances by one. -/
def epochAdvance (s : State) : State := wr s Reg.EPOCH_CUR (BitVec.ofNat 64 ((epoch s + 1) % 4294967296))

/-- A TLP is a request not flagged yet. -/
def Held.flaggable (h : Held) : Bool := !h.recheck && h.tlp.cls != .completion

/-- Every request of the TLPs that `p` picks and that have not entered stage 8 is flagged for recheck (R161, R162). -/
def flagRecheck (s : State) (p : Held → Bool) : State :=
  let n := ((queuedHeld s).filter (fun h => p h && h.flaggable)).length
  let s := mapQueued s (fun h => if p h && h.flaggable then { h with recheck := true } else h)
  { s with fab := { s.fab with flagged := s.fab.flagged + n } }

/-- The TLPs that `p` picks leave the count of their slot (R161). -/
def leaveCount (s : State) (p : Held → Bool) : State :=
  let f := fun (h : Held) => if p h then { h with uncounted := true } else h
  let s := mapQueued s f
  { s with core := { s.core with leaving := s.core.leaving.map f } }

/-! ### Enqueueing (R65, R80, R81) -/

/-- The random-early draw of a profile against an average depth in 1/256 cell; the 32-bit LFSR's value is free (R80, log entry 2). -/
def redDraw (s : State) (v c avg : Nat) : Bool × State :=
  let k := Reg.RED_PROF_A v c
  let lo := getF s k Fld.RED_PROF_A_MIN_TH
  let hi := getF s k Fld.RED_PROF_A_MAX_TH
  if avg < lo * 256 then (false, s)
  else if hi ≤ lo ∨ hi * 256 ≤ avg then (true, s)
  else
    let (r, s) := draw s 32
    (decide (r * (65536 * (hi - lo)) < getF s k Fld.RED_PROF_A_PMAX * (avg - lo * 256) * 4294967296), s)

/-- The average depth of a queue is brought up to date at an enqueue (R80): avg ← avg + (q − avg) / 2^WEIGHT, rounded down (log entry 69). -/
def updateAvg (s : State) (key v c q : Nat) : Nat × State :=
  let w := getF s (Reg.RED_PROF_A v c) Fld.RED_PROF_A_WEIGHT
  let a := agetD s.cong.voqAvg key 0
  let a' := if a ≤ q * 256 then a + (q * 256 - a) / 2 ^ w else a - (a - q * 256 + 2 ^ w - 1) / 2 ^ w
  (a', { s with cong := { s.cong with voqAvg := aset 0 s.cong.voqAvg key a' } })

/-- Marking of lossless traffic is on (R81). -/
def markOn (s : State) : Bool := (mode s == 3 || mode s == 4) && isSet s Reg.CC_CTRL Fld.CC_CTRL_MARK_EN

/-- A TLP enters the VOQ of its egress port (R65, R80, R81), and the state then; `none`: a droppable TLP that the profile drops. -/
def enqueue (s : State) (h : Held) : Option Held × State :=
  let c := h.tlp.cls.code
  let q := voqCells s h.outPort h.vc c
  let (hit, s) :=
    if h.vc = 7 then (false, s)
    else
      let (a, s) := updateAvg s (qKey h.outPort h.vc c) h.vc h.colour q
      redDraw s h.vc h.colour a
  if hit && h.tlp.lossy then (none, s)
  else
    let mark := hit && markOn s
    let s := if mark && !h.marked then bump s Reg.CC_MARK_CNT else s
    let h := { h with id := s.core.nextId, qdepth := q, marked := h.marked || mark }
    let s := setVoq { s with core := { s.core with nextId := s.core.nextId + 1 } } h.outPort h.vc c (voq s h.outPort h.vc c ++ [h])
    (some h, portWake s h.outPort)

/-- The dropped droppable TLP of R64 or R81 is counted. -/
def countDrop (s : State) : State := bump s Reg.CORE_DROP_CNT

end Sys2Proof.Machine
end

