-- ==== Sys2Proof/Machine/CongOps.lean ====
section
/-!
DEFINITION. Machine/CongOps.lean: meters, flow-rate contexts, pacing, spraying and feedback (R71–R90).
-/
namespace Sys2Proof.Machine

/-! ### Meters (R78, R79) -/

/-- Colours: 0 green, 1 yellow, 2 red. -/
abbrev Colour.green : Nat := 0

/-- The meter index of a TLP that arrives on a PCIe port, where METER_MAP lets it be metered (R78). -/
def meterIndex (s : State) (p tc rid : Nat) : Option Nat :=
  let k := Reg.METER_MAP p
  if isSet s k Fld.METER_MAP_EN then
    let span := 2 ^ getF s k Fld.METER_MAP_SPAN
    some (getF s k Fld.METER_MAP_BASE + tc * span + rid % span)
  else none

/-- A meter that no write has set up. -/
def Meter.zero : Meter :=
  { cir := 0, pir := 0, cbs := 0, pbs := 0, tc := 0, tp := 0, green := 0, yellow := 0, red := 0, at_ := 0 }

/-- A meter with its buckets refilled to device time `now` (R79). -/
def Meter.refilled (m : Meter) (now : Nat) : Meter :=
  { m with tc := min (m.cbs * 16000) (m.tc + m.cir * (now - m.at_)), tp := min (m.pbs * 16000) (m.tp + m.pir * (now - m.at_)), at_ := now }

/-- One TLP of `payload` bytes at device time `now` (R79): its colour, and the meter after it. -/
def Meter.take (m : Meter) (now payload : Nat) : Nat × Meter :=
  let b := payload + 32
  let m := m.refilled now
  if m.tp < b * 16000 then (2, { m with red := m.red + b })
  else if m.tc < b * 16000 then (1, { m with tp := m.tp - b * 16000, yellow := m.yellow + b })
  else (0, { m with tp := m.tp - b * 16000, tc := m.tc - b * 16000, green := m.green + b })

/-- Stage 2 colours a TLP (R78): metered, or green; nothing is metered in mode 5 (R101). -/
def meter (s : State) (p tc rid payload : Nat) : Nat × State :=
  match (if mode s = 5 then none else meterIndex s p tc rid) with
  | none => (0, s)
  | some i =>
    let (c, m) := (agetD s.cong.meters i Meter.zero).take s.time payload
    (c, { s with cong := { s.cong with meters := aput s.cong.meters i m } })

/-! ### Flow-rate contexts (R83–R87) -/

/-- Flow-rate contexts exist: modes 3 and 4 with CC_EN (R83). -/
def frcOn (s : State) : Bool := (mode s == 3 || mode s == 4) && isSet s Reg.CC_CTRL Fld.CC_CTRL_CC_EN

def frc (s : State) (i : Nat) : Option Frc := aget s.cong.frcs i
def setFrc (s : State) (i : Nat) (f : Frc) : State := { s with cong := { s.cong with frcs := aput s.cong.frcs i f } }

/-- The context of a flow, if it holds one. -/
def frcOfFlow (s : State) (port dest vc : Nat) : Option Nat :=
  (s.cong.frcs.find? (fun e => e.2.port == port && e.2.dest == dest && e.2.vc == vc)).map (fun e => e.1)

/-- The lowest key that a table of `n` leaves free. -/
def freeKey {α : Type} (t : Assoc α) (n : Nat) : Option Nat :=
  let k := t.foldl (fun k e => if e.1 = k then k + 1 else k) 0
  if k < n then some k else none

/-- RMAX of an ingress port: ten times BW of its CORE_PORT_BW (R83); the Mover has no such port: 0, and its flows are never paced (log entry 111). -/
def rmaxOf (s : State) (p : Nat) : Nat := if p < 64 then 10 * getF s (Reg.CORE_PORT_BW p) Fld.CORE_PORT_BW_BW else 0

/-- The context that a TLP entering the fabric here holds (R83): its flow's, a new one, or none when none is free; none while CC_EN, or for a
flow to this node LOCAL_EN, is 0, though the flow held one before (log entry 111). -/
def frcTake (s : State) (port dest vc : Nat) : Option Nat × State :=
  if !frcOn s || (dest == nodeId s && !isSet s Reg.CC_CTRL Fld.CC_CTRL_LOCAL_EN) then (none, s)
  else
    match frcOfFlow s port dest vc with
    | some i => (some i, s)
    | none =>
      match freeKey s.cong.frcs 65536 with
      | none => (none, setF (bump s Reg.CC_NOFRC_CNT) Reg.CC_STATUS Fld.CC_STATUS_FRC_EXHAUSTED 1)
      | some i =>
        let r := rmaxOf s port
        let f : Frc := { vc := vc, dest := dest, port := port, k := 0, lastc := 0, rate := r, rmax := r, tokens := 0, tokensAt := s.time, queue := [],
                         decreased := false, lastDec := 0, periodMarked := false, spray := [], sprayAt := [],
                         lastTlp := s.time, marks := 0 }
        (some i, setFrc s i f)

/-- Tokens of a context brought up to date (R85): RATE × elapsed, up to PACE_BURST KiB. -/
def refill (s : State) (f : Frc) : Frc :=
  let cap : Int := max 1 (getF s Reg.CC_CTRL Fld.CC_CTRL_PACE_BURST) * 1024 * 1600
  let gain : Int := f.rate * (s.time - f.tokensAt)
  { f with tokens := if cap < f.tokens + gain then max cap f.tokens else f.tokens + gain, tokensAt := s.time }

/-- RMAX follows BW of the ingress port (R83); tokens gained so far were gained at the old RATE (R85). -/
def frcRate (s : State) (p : Nat) : State :=
  let r := rmaxOf s p
  { s with cong := { s.cong with frcs := s.cong.frcs.map (fun e =>
      if e.2.port = p then (e.1, { refill s e.2 with rmax := r, rate := if e.2.rate = e.2.rmax then r else min e.2.rate r }) else e) } }

/-- Field of a profile (VC, colour), 0 acting as 1 where the register says so. -/
def profB (s : State) (vc c : Nat) (f : Field) : Nat := getF s (Reg.RED_PROF_B vc c) f

/-- Marks of a feedback entry apply to a context (R86). -/
def frcMarks (s : State) (f : Frc) (cn worst : Nat) : Frc :=
  if cn = 0 then f
  else
    let f := { refill s f with marks := min 0xFFFFFFFF (f.marks + cn), periodMarked := true }
    if !f.decreased || us (max 1 (profB s f.vc worst Fld.RED_PROF_B_DEC_GAP)) ≤ s.time - f.lastDec then
      { f with rate := max (max 1 (profB s f.vc worst Fld.RED_PROF_B_RMIN)) (f.rate - f.rate * profB s f.vc worst Fld.RED_PROF_B_BETA / 256),
               lastc := worst, lastDec := s.time, decreased := true, k := 0, periodMarked := false }
    else f

/-- A spray counter changes: `n` acknowledged on a path (R71, R90). -/
def frcAck (s : State) (f : Frc) (path n : Nat) : Frc :=
  let c := agetD f.spray path 0
  if n = 0 then f else { f with spray := aset 0 f.spray path (c - n), sprayAt := aput f.sprayAt path s.time }

/-- An entry applies to a context of this node (R90). -/
def fbApply (s : State) (i cn worst path ack : Nat) (ackValid : Bool) : State :=
  match frc s i with
  | none => bump s Reg.CC_NOFRC_CNT
  | some f => setFrc s i (frcMarks s (if ackValid then frcAck s f path ack else f) cn worst)

/-- Every spray counter of a context is 0 (R72). -/
def Frc.settled (f : Frc) : Bool := f.spray.all (fun e => e.2 == 0)

/-- A new spray counter is cleared by time or withdrawal (R73, R87). -/
def sprayClear (s : State) (i path : Nat) : State :=
  match frc s i with
  | some f =>
    if agetD f.spray path 0 = 0 then s
    else bump (setFrc s i { f with spray := adel f.spray path, sprayAt := aput f.sprayAt path s.time }) Reg.CC_FENCE_TO_CNT
  | none => s

/-- The end of an INC_PERIOD (R86): without a mark in it, RATE rises by AI, or by 4 × AI after the fourth increase. -/
def incPeriod (s : State) (i : Nat) : State :=
  match frc s i with
  | none => s
  | some f =>
    let f := refill s f
    let ai := profB s f.vc f.lastc Fld.RED_PROF_B_AI
    let f' := { f with periodMarked := false }
    if f.periodMarked || !f.decreased then setFrc s i f'
    else if f.k < 4 then setFrc s i { f' with rate := min f.rmax (f.rate + ai), k := f.k + 1 }
    else setFrc s i { f' with rate := min f.rmax (f.rate + 4 * ai) }

/-! ### Feedback frames (R88, R89) -/

/-- Entries kept for a node. -/
def fbOf (s : State) (node : Nat) : List FbEntry := s.cong.feedback.filter (fun e => e.node == node)

/-- The feedback frame for a source node is sent. -/
def fbSend (s : State) (node : Nat) : State :=
  let es := fbOf s node
  if es.isEmpty then s
  else
    let s := { s with cong := { s.cong with feedback := s.cong.feedback.filter (fun e => e.node != node) } }
    let ent := fun (e : FbEntry) => ({ frc := e.frc, cn := e.cn, worst := e.worst, drop := e.drop, ackValid := e.ackValid, path := e.path,
                                       ack := e.ack } : FeedbackEntry)
    sendToNode (bump s Reg.CC_FB_TX_CNT) node (vc7Frame 2 (8 + 8 * es.length) (.feedback (nodeId s) node (es.map ent)))

/-- One TLP enters the feedback of its flow (R88): marked, sprayed, dropped. -/
def fbNote (s : State) (h : Held) (drop : Bool) : State :=
  match h.frc, h.fab with
  | some i, some f =>
    let mark := h.marked && !drop
    let spr := h.sprayed
    if !mark && !spr then s
    else if f.srcNode = nodeId s then fbApply s i (b2n mark) h.colour f.path (b2n spr) spr
    else
      let old := s.cong.feedback.find? (fun e => e.node == f.srcNode && e.frc == i && e.path == f.path)
      let e := old.getD { node := f.srcNode, frc := i, path := f.path, cn := 0, worst := 0, drop := false, ackValid := false, ack := 0, since := s.time }
      let e := { e with cn := e.cn + b2n mark, worst := if mark then max e.worst h.colour else e.worst, drop := e.drop || (spr && drop),
                        ackValid := e.ackValid || spr, ack := e.ack + b2n spr }
      let rest := s.cong.feedback.filter (fun x => !(x.node == f.srcNode && x.frc == i && x.path == f.path))
      let s := { s with cong := { s.cong with feedback := rest ++ [e] } }
      if 255 ≤ e.cn || 63 ≤ e.ack || 31 ≤ (fbOf s f.srcNode).length || getF s Reg.CC_CTRL Fld.CC_CTRL_FB_HOLD = 0 then fbSend s f.srcNode else s
  | _, _ => s

/-! ### Spraying and the move fence (R71, R144) -/

/-- The path of a set whose egress VOQ holds the fewest cells, the lower port winning a tie (R71). -/
def emptiest (s : State) (dest vc c : Nat) (set : List Nat) : Option Nat :=
  let key := fun k => (voqCells s (pathPort s dest k) vc c, pathPort s dest k)
  set.find? (fun k => set.all (fun j => decide ((key k).1 < (key j).1) || ((key k).1 == (key j).1 && decide ((key k).2 ≤ (key j).2))))

/-- The path on which the source node sprays a TLP, if it may (R71). -/
def sprayPath (s : State) (t : Tlp) (i : Option Nat) (dest vc : Nat) (noSpray : Bool) : Option Nat :=
  let set := ecsOf s dest
  let kind := t.op == .memWrite || t.op == .memRead
  if (mode s = 3 ∨ mode s = 4) ∧ isSet s Reg.CORE_CTRL Fld.CORE_CTRL_SPRAY_EN ∧ kind ∧ t.ro ∧ 1 < set.length ∧ !noSpray then
    match i with
    | some i =>
      match frc s i, emptiest s dest vc t.cls.code set with
      | some f, some k => if agetD f.spray k 0 < 63 then some k else none
      | _, _ => none
    | none => none
  else none

/-- Counts a sprayed TLP on its path. -/
def sprayCount (s : State) (i k : Nat) : State :=
  match frc s i with
  | some f => setFrc s i { f with spray := aput f.spray k (agetD f.spray k 0 + 1), sprayAt := aput f.sprayAt k s.time }
  | none => s

/-- Device time until which a TLP of a flow towards `dest`, given egress port `p`, is held by a move fence (R144): while the
previous set gives the flow another port. -/
def moveHold (s : State) (src port dest vc p : Nat) : Nat :=
  match aget s.cong.moves dest with
  | some m =>
    if s.time < m.until_ then
      match pickPath m.oldSet (flowHash s src port dest vc) with
      | some q => if q = p then 0 else m.until_
      | none => 0
    else 0
  | none => 0

end Sys2Proof.Machine
end

