-- ==== Sys2Proof/Machine/CapOps.lean ====
section
/-!
DEFINITION. Machine/CapOps.lean: COMET selection and staging, and the precise sampler (R91–R93, R425, R426).
-/
namespace Sys2Proof.Machine

/-! ### Header bytes

The layout of a TLP header is PCI Express's: the model takes that of non-flit mode (log entry 112). -/

/-- A number in `n` bytes, most significant first. -/
def natBe (n x : Nat) : List Byte := (natLe n x).reverse

/-- The address, or the register, of a request takes 8 bytes in its header. -/
def longAddr (t : Tlp) : Bool := match t.op with | .message _ => true | _ => decide (2 ^ 32 ≤ t.addr) && t.route == .byAddress

/-- Fmt and Type of a TLP. -/
def typeByte (t : Tlp) : Nat :=
  let fmt := b2n (longAddr t) * 32 + b2n (!t.data.isEmpty) * 64
  match t.op with
  | .memRead => fmt
  | .memReadLocked => fmt + 1
  | .memWrite => fmt
  | .ioRead | .ioWrite => fmt + 2
  | .cfgRead x => fmt + 4 + b2n x
  | .cfgWrite x => fmt + 4 + b2n x
  | .completion => fmt + 10
  | .atomic => fmt + 12
  | .message _ =>
    fmt + 16 + (match t.route with | .toRoot => 0 | .byAddress => 1 | .byId => 2 | .broadcast => 3 | .toLocal => 4)

/-- The header of a TLP that the part makes, but for its IDs, tag and address. -/
def blankHdr (t : Tlp) : List Byte :=
  let dw := (t.addr % 4 + t.len + 3) / 4
  let first := [BitVec.ofNat 8 (typeByte t), BitVec.ofNat 8 (t.tc % 8 * 16 + b2n t.ido * 4)] ++ natBe 2 (b2n t.poisoned * 16384 + b2n t.ro * 8192 + b2n t.translated * 2048 + dw % 1024)
  first ++
  match t.op with
  | .completion => zeros 2 ++ natBe 2 (t.status % 8 * 8192 + t.len % 4096) ++ zeros 3 ++ natBe 1 (t.addr % 128)
  | .message c => zeros 3 ++ natBe 1 c ++ zeros 8
  | .cfgRead _ | .cfgWrite _ => zeros 3 ++ natBe 1 (t.be % 16) ++ zeros 2 ++ natBe 2 (t.addr % 4096 / 4 * 4)
  | _ => zeros 3 ++ natBe 1 (if dw ≤ 1 then 15 else 255) ++ zeros (if longAddr t then 8 else 4)

/-- The header bytes of a TLP as it came, or as the part makes it. -/
def rawHdr (t : Tlp) : List Byte := if t.hdr.isEmpty then blankHdr t else t.hdr

/-- Bytes of the prefixes that stand before a header. -/
def prefixBytes : List Byte → Nat
  | a :: _ :: _ :: _ :: r => if a.toNat / 32 = 4 then 4 + prefixBytes r else 0
  | _ => 0

/-- A request to an address whose header has the other length than the address needs is given that length (R133). -/
def resizeHdr (t : Tlp) (b : List Byte) (k : Nat) : List Byte :=
  let long := bitAt b k 5
  if t.route != .byAddress || t.isMessage || long == longAddr t then b
  else if long then patch (b.take (k + 8) ++ b.drop (k + 12)) k (natBe 1 (num b k 1 - 32))
  else patch (b.take (k + 8) ++ zeros 4 ++ b.drop (k + 8)) k (natBe 1 (num b k 1 + 32))

/-- The header bytes with which a TLP leaves: its IDs, tag and address stand in them as the part has replaced them (R22, R23, R111, R147). -/
def wireHdr (t : Tlp) : List Byte :=
  let b := rawHdr t
  let k := prefixBytes b
  let b := resizeHdr t b k
  let b := patch b (k + 1) (natBe 1 (num b (k + 1) 1 &&& 0x77 ||| (bitsAt t.tag 9 1 * 128 + bitsAt t.tag 8 1 * 8)))
  match t.op with
  | .completion => patch (patch b (k + 4) (natBe 2 t.cplId)) (k + 8) (natBe 2 t.destId ++ natBe 1 t.tag)
  | _ =>
    let b := patch (patch b (k + 4) (natBe 2 t.reqId)) (k + 6) (natBe 1 t.tag)
    match t.route with
    | .byId => patch b (k + 8) (natBe 2 t.destId)
    | .byAddress => if t.isMessage then b else if longAddr t then patch b (k + 8) (natBe 8 (t.addr / 4 * 4)) else patch b (k + 8) (natBe 4 (t.addr / 4 * 4))
    | _ => b

/-- The fabric header of a TLP as it stands in its first segment (R179). -/
def fabHdrBytes (f : FabHdr) : List Byte :=
  natLe 2 (f.destNode % 4096) ++ natLe 2 (f.srcNode % 4096) ++ natLe 1 (f.destPort % 64 + f.kind % 4 * 64) ++ natLe 1 (f.srcVsw % 32 + f.path % 8 * 32) ++
    natLe 3 (f.ctx % 2 ^ 18 + f.gen % 16 * 2 ^ 18 + b2n f.sprayed * 2 ^ 22 + b2n f.marked * 2 ^ 23) ++
    natLe 1 (f.colour % 4 + b2n f.frc.isSome * 4 + b2n f.lossy * 8) ++ natLe 2 (f.frc.getD 0) ++ natLe 3 (f.remain % 2 ^ 22) ++ natLe 1 (f.srcPort % 64)

/-- The bytes of a TLP on a Calez link (R179): fabric header, prefixes, OHC and header, data. -/
def calezBytes (f : FabHdr) (t : Tlp) : List Byte := fabHdrBytes f ++ wireHdr t ++ t.data

/-- A TLP as it leaves: a header that it came with shows what the part has replaced. -/
def asSent (t : Tlp) : Tlp := if t.hdr.isEmpty then t else { t with hdr := wireHdr t }

/-- The header bytes that a capture point sees (R91, R92): 0 ingress, 1 egress. -/
def pointHdr (point : Nat) (t : Tlp) : List Byte := if point = 0 then rawHdr t else wireHdr t

/-- The first 16 header bytes match a COMET filter (R91). -/
def hdrMatches (s : State) (i : Nat) (hdr : List Byte) : Bool :=
  (List.range 4).all (fun k =>
    let m := rd s (Reg.COMET_FLT_MASK i k)
    BitVec.ofNat 64 (num hdr (4 * k) 4) &&& m == rd s (Reg.COMET_FLT_MATCH i k) &&& m)

/-- COMET filter `i` matches a TLP at a capture point: 0 ingress, 1 egress (R91). -/
def cometMatches (s : State) (i point port : Nat) (h : Held) : Bool :=
  let k := Reg.COMET_FLT_CTRL i
  let pt := getF s k Fld.COMET_FLT_CTRL_POINT
  isSet s k Fld.COMET_FLT_CTRL_EN && (pt == 2 || (if pt == 3 then 0 else pt) == point) &&
    (getF s (Reg.COMET_FLT_PORTS i) Fld.COMET_FLT_PORTS_PORTS).testBit port &&
    (getF s k Fld.COMET_FLT_CTRL_KIND).testBit h.tlp.kind && (getF s k Fld.COMET_FLT_CTRL_COLOUR).testBit h.colour && hdrMatches s i (pointHdr point h.tlp)

/-- Filters advance their sample counters at a capture point: the lowest that selects, if any. -/
def cometSelect (s : State) (point port : Nat) (h : Held) : Option Nat × State :=
  (List.range 16).foldl (fun (r : Option Nat × State) i =>
    let s := r.2
    if cometMatches s i point port h then
      let c := agetD s.cong.cometCnt i 0 + 1
      if getF s (Reg.COMET_FLT_CTRL i) Fld.COMET_FLT_CTRL_SAMPLE + 1 ≤ c then
        (match r.1 with | some j => some j | none => some i, { s with cong := { s.cong with cometCnt := adel s.cong.cometCnt i } })
      else (r.1, { s with cong := { s.cong with cometCnt := aput s.cong.cometCnt i c } })
    else r) (none, s)

/-- Records carry COARSE while time is not locked, or coarse (R98, R99). -/
def timeCoarse (s : State) : Bool := !isSet s Reg.TIME_STATUS Fld.TIME_STATUS_LOCKED || isSet s Reg.TIME_STATUS Fld.TIME_STATUS_COARSE

/-- Context ID and generation as a record gives them: 0x3_FFFF for none (R92, R426). -/
def ctxWord (h : Held) : Nat :=
  match h.ctx with
  | some (i, g) => i + g * 262144
  | none => match h.fab with | some f => f.ctx + f.gen * 262144 | none => 0x3FFFF

/-- The bytes of a COMET record but LOSS, HDR_LEN and SEQ (R92): bytes 0–13 and bytes 20–63. -/
def cometHead (s : State) (ts point port filter : Nat) (h : Held) (failed : Bool) : List Byte :=
  natLe 8 ts ++ natLe 2 (nodeId s) ++ natLe 1 (point * 64 + port % 64) ++ natLe 1 (b2n h.marked * 128 + h.colour * 32 + h.vsw % 32) ++
  natLe 1 (b2n (decide (32 < (pointHdr point h.tlp).length)) * 128 + b2n (timeCoarse s) * 64 + b2n h.sprayed * 32 + h.tlp.kind * 8 + h.vc) ++
  natLe 1 (b2n failed * 16 + filter)
def cometTail (point : Nat) (h : Held) (qdepth : Nat) : List Byte :=
  natLe 4 qdepth ++ natLe 4 (ctxWord h) ++ natLe 2 (h.frc.getD 0) ++ natLe 1 (b2n h.frc.isSome) ++ zeros 1 ++ fit 32 (pointHdr point h.tlp)

/-- A COMET record is lost (R93): counted, and its SEQ passes. -/
def cometLose (s : State) : State := bump s Reg.COMET_LOST_CNT

/-- COMET sees a TLP at a capture point (R91, R93): the record selected is staged in a cell of the port's droppable share,
unless the queue is full, R63 refuses the cell or the profile (CAP_VC, green) drops it. -/
def comet (s : State) (point port ts : Nat) (h : Held) (qdepth : Nat) (failed : Bool) : State :=
  if !isSet s Reg.COMET_CTRL Fld.COMET_CTRL_EN || isFenced s ⟨Uk.comet, 0⟩ then s
  else
    match cometSelect s point port h with
    | (none, s) => s
    | (some f, s) =>
      let q := (rd s Reg.COMET_SEQ).toNat
      let s := wr s Reg.COMET_SEQ (BitVec.ofNat 64 ((q + 1) % 4294967296))
      if 1024 ≤ s.cong.staging.length then cometLose s
      else if !admits s port 3 1 then cometLose (countDrop s)
      else
        let vc := getF s Reg.CC_CTRL Fld.CC_CTRL_CAP_VC
        let (a, s) := updateAvg s 2000 vc 0 s.cong.staging.length
        let (hit, s) := redDraw s vc 0 a
        if hit then cometLose (countDrop (bump s Reg.CC_DROP_CNT))
        else
          let r : CometRec := { head := cometHead s ts point port f h failed, hdrLen := min 255 (pointHdr point h.tlp).length, seq := q,
                                tail := cometTail point h qdepth, port := port }
          { addShared s port 3 1 with cong := { (addShared s port 3 1).cong with staging := s.cong.staging ++ [r] } }

/-! ### The sampler -/

/-- Sampler filter `k` matches a TLP at the ingress point (R425). -/
def smpMatches (s : State) (k port : Nat) (h : Held) : Bool :=
  let c := Reg.SMP_FLT_CTRL k
  isSet s c Fld.SMP_FLT_CTRL_EN && (getF s (Reg.SMP_FLT_PORTS k) Fld.SMP_FLT_PORTS_PORTS).testBit port &&
    (getF s c Fld.SMP_FLT_CTRL_KIND).testBit h.tlp.kind && (getF s c Fld.SMP_FLT_CTRL_VC).testBit h.vc &&
    (getF s c Fld.SMP_FLT_CTRL_COLOUR).testBit h.colour

/-- Filters advance their counters: whether any selects. -/
def smpSelect (s : State) (port : Nat) (h : Held) : Bool × State :=
  (List.range 4).foldl (fun (r : Bool × State) k =>
    let s := r.2
    if smpMatches s k port h then
      let c := agetD s.cong.smpCnt k 0 + 1
      if getF s (Reg.SMP_FLT_CTRL k) Fld.SMP_FLT_CTRL_SAMPLE + 1 ≤ c then
        (true, { s with cong := { s.cong with smpCnt := adel s.cong.smpCnt k } })
      else (r.1, { s with cong := { s.cong with smpCnt := aput s.cong.smpCnt k c } })
    else r) (false, s)

/-- The sampler sees a TLP at the ingress point (R425): a selected TLP takes an entry, or is a miss. -/
def smpTake (s : State) (port : Nat) (h : Held) : Option Nat × State :=
  if !isSet s Reg.SMP_CTRL Fld.SMP_CTRL_EN || isFenced s ⟨Uk.sampler, 0⟩ then (none, s)
  else
    match smpSelect s port h with
    | (false, s) => (none, s)
    | (true, s) =>
      match freeKey s.cong.smpEntries 4096 with
      | none => (none, bump s Reg.SMP_MISS_CNT)
      | some i =>
        let e : Sample := { tsIn := h.tsIn, lat := none, inPort := port % 64, ct := h.cut, spray := false, outPort := 0, mark := false, paced := false,
                            colour := h.colour, kind := h.tlp.kind, vc := h.vc, trunc := decide (32 < (rawHdr h.tlp).length), outcome := 0,
                            vsw := h.vsw, qdepth := 0, reason := 0, ctx := none, addrOut := 0, hdr := fit 32 (rawHdr h.tlp), done := false }
        (some i, { s with cong := { s.cong with smpEntries := aput s.cong.smpEntries i e } })

/-- Time from the ingress of a sampled TLP to now, as its record gives it (R426). -/
def smpLat (s : State) (e : Sample) : Nat := min 0xFFFFFFFE (s.time - e.tsIn)

/-- A sampled TLP reaches stage 8 before it is whole (R426): LAT is the time to this moment. -/
def smpLeaves (s : State) (h : Held) : State :=
  match h.sample with
  | none => s
  | some i => { s with cong := { s.cong with smpEntries := s.cong.smpEntries.map (fun x => if x.1 = i then (i, { x.2 with lat := some (smpLat s x.2) }) else x) } }

/-- A sampled TLP reaches its outcome at this part (R426): 0 left, 1 delivered, 2 dropped, 3 ended unusable. -/
def smpDone (s : State) (h : Held) (outcome reason : Nat) : State :=
  match h.sample with
  | none => s
  | some i =>
    match aget s.cong.smpEntries i with
    | none => s
    | some e =>
      let a := match h.tlp.route with | .byAddress => h.tlp.addr | _ => 0
      let e := { e with outcome := outcome, reason := reason, outPort := h.outPort % 64, mark := h.marked, paced := h.paced, spray := h.sprayed,
                        ct := h.cut, vsw := h.vsw, qdepth := h.qdepth, ctx := h.ctx, addrOut := a, colour := h.colour, vc := h.vc,
                        lat := if e.lat.isNone && outcome == 0 then some (smpLat s e) else e.lat, done := true }
      { s with cong := { s.cong with smpEntries := aput s.cong.smpEntries i e, smpDone := s.cong.smpDone ++ [i] } }

/-- The 64 bytes of a sampler record (R426). -/
def Sample.bytes (e : Sample) : List Byte :=
  natLe 8 e.tsIn ++ natLe 4 (e.lat.getD 0xFFFFFFFF) ++ natLe 1 (e.inPort + 64 * b2n e.ct + 128 * b2n e.spray) ++
  natLe 1 (e.outPort + 64 * b2n e.mark + 128 * b2n e.paced) ++ natLe 1 (e.colour + 4 * e.kind + 16 * e.vc + 128 * b2n e.trunc) ++
  natLe 1 (e.outcome + 8 * e.vsw) ++ natLe 4 (e.qdepth % 262144 + e.reason * 2 ^ 24) ++
  natLe 4 (match e.ctx with | some (i, g) => i + g * 262144 | none => 0x3FFFF) ++ natLe 8 e.addrOut ++ fit 32 e.hdr

end Sys2Proof.Machine
end

