-- ==== Sys2Proof/Machine/CtxOps.lean ====
section
/-!
DEFINITION. Machine/CtxOps.lean: transaction contexts, synthetic completions, Fabric Error Reports and the outcome of a TLP
that is dropped (R19–R22, R57, R66, R121, R122, R146–R158).
-/
namespace Sys2Proof.Machine

/-! ### Sizes of TLPs (R292) -/

/-- Device Control of a function (PCI Express capability at 0x50, R104). -/
def devCtl (s : State) (v fn : Nat) : Nat := agetD (s.func v fn).other 22 0 % 65536

/-- Max_Payload_Size that a function's Device Control holds (R292). -/
def fnMps (s : State) (v fn : Nat) : Nat := 128 * 2 ^ min 5 (bitsAt (devCtl s v fn) 5 3)

/-- Max_Payload_Size values in force at a port (R292); a Calez port carries any payload. -/
def portMpsList (s : State) (p : Nat) : List Nat :=
  match upVsw s p with
  | some v => [fnMps s v fnUp]
  | none =>
    match directBridge s p with
    | some (v, k) => [fnMps s v (fnBridge k)]
    | none => (composedOfPort s p).map (fun x => fnMps s x.1 (fnBridge x.2))

/-- The size against which a received TLP is checked, and the size at which a TLP leaving is split (R292). -/
def mpsIn (s : State) (p : Nat) : Nat := if isPcie s p then ((portMpsList s p).max?).getD 128 else 4096
def mpsOut (s : State) (p : Nat) : Nat := if isPcie s p then ((portMpsList s p).min?).getD 128 else 4096

/-- The port is up for the access check (R56): a PCIe link between DL_Active and its next leaving L0, or a live Calez link. -/
def portUp (s : State) (p : Nat) : Bool :=
  if isPcie s p then isSet s (Reg.PORT_STATUS p) Fld.PORT_STATUS_DL_ACTIVE else portActive s p

/-- DPC-contained or fenced (R56), or its link disabled, the LTSSM in Disabled, code 8 (R307). -/
def portHeld (s : State) (p : Nat) : Bool :=
  getF s (Reg.PORT_STATUS p) Fld.PORT_STATUS_LTSSM == 8 || isSet s (Reg.PORT_STATUS p) Fld.PORT_STATUS_DPC_CONTAINED || isSet s (Reg.PORT_STATUS p) Fld.PORT_STATUS_FENCED

/-- REASON of a TLP for a port that cannot take it: 0x06, or 0x0C (R56). -/
def portFault (s : State) (p : Nat) : Option Nat := if portHeld s p then some 0x06 else if portUp s p then none else some 0x0C

/-! ### Synthetic completions (R57, R151) -/

/-- A completion TLP of the part itself. -/
def cplTlp (reqId tag cplId status : Nat) (data : List Byte) : Tlp :=
  { op := .completion, route := .byId, tc := 0, ro := false, ido := false, translated := false, addr := 0, destId := reqId, reqId := reqId,
    tag := tag, cplId := cplId, status := status, len := data.length, data := data, poisoned := false, mctp := false, lossy := false,
    malformed := false, ide := false, be := 0, hdr := [] }

/-- A TLP that the part itself makes, bound for a port. -/
def ownHeld (s : State) (t : Tlp) (outPort v vc : Nat) : Held :=
  { id := 0, tlp := t, ridIn := t.reqId, tagIn := t.tag, addrIn := t.addr, inPort := 64, org := none, outPort := outPort, vsw := v, inst := none, vc := vc, colour := 0,
    fab := none, ctx := none, epoch := epoch s % 4, recheck := false, uncounted := false, cells := cellsFor t.payload, shared := true, marked := false,
    sprayed := false, frc := none, path := 0, cut := false, rest := false, paced := false, waited := false, moveHold := 0, tsIn := s.time, qdepth := 0,
    sample := none, bad := 0, badInj := false }

/-- A TLP of the part itself enters the VOQ of a port; a port that is down drops it, a completion counted (R66); droppable traffic that is not admitted, or
that its profile drops, is counted (R64, R81). -/
def sendOwn (s : State) (t : Tlp) (p v vc : Nat) : State :=
  if portUp s p then
    match chargeCells s (ownHeld s t p v vc) with
    | none => countDrop s
    | some (h, s) => match enqueue s h with | (some _, s) => s | (none, s) => freeHeld (countDrop (bump s Reg.CC_DROP_CNT)) h
  else if t.cls = .completion then countDrop s else s

/-- The completer ID of a synthetic completion (R151): the upstream bridge for a host request, the bridge for a request from
below it, the Mover PF for its own. -/
def synthId (s : State) (v inPort rid : Nat) : Nat :=
  if 64 ≤ inPort then hostId s v fnMover
  else if upPort s v = inPort ∧ vswOn s v then hostId s v fnUp
  else
    match directBridge s inPort with
    | some (_, k) => hostId s v (fnBridge k)
    | none =>
      match (bindsOfPort s inPort).find? (fun e => e.2.devRid == rid) with
      | some (_, e) => hostId s v (fnBridge e.bridge)
      | none => hostId s v fnUp

/-- Data cut into pieces of at most `n` bytes. -/
def pieces : Nat → Nat → List Byte → List (List Byte)
  | 0, _, _ => []
  | fuel + 1, n, d => if d.length ≤ n ∨ n = 0 then [d] else d.take n :: pieces fuel n (d.drop n)

/-- A completion is handed to the Mover: of an engine's read, whose tag is the engine's number. -/
def moverGive (s : State) (v tag status : Nat) (data : List Byte) : State :=
  let s := emit s (.moverCpl v tag { cplTlp (hostId s v fnMover) tag (hostId s v fnMover) status data with len := data.length })
  { s with mover := { s.mover with due := s.mover.due ++ [(tag, status, data)] } }

/-- A synthetic completion leaves through the ingress port of its request; one for the Mover PF goes to its engine (R151). -/
def synth (s : State) (v inPort rid tag vc status : Nat) (data : List Byte) : State :=
  if 64 ≤ inPort then moverGive s v tag status data
  else
    let id := synthId s v inPort rid
    let r := (pieces 4096 (mpsOut s inPort) data).foldl (fun (r : Nat × State) d =>
      (r.1 - d.length, sendOwn r.2 { cplTlp rid tag id status d with len := r.1 } inPort v vc)) (data.length, s)
    r.2

/-! ### AER (R121, R122) -/

/-- Masks and severities of a function's AER: as written, or as PCI Express resets them: Advisory Non-Fatal masked (log entry 113). -/
def aerMask (s : State) (v fn : Nat) (correctable : Bool) : Nat := agetD (s.func v fn).other (if correctable then 69 else 66) (if correctable then 0x2000 else 0)

/-- An error at a function of a vSwitch: logged in its AER, and signalled to the host as its masks and enables say. -/
def aerError (s : State) (v fn bit : Nat) (correctable : Bool) : State :=
  let f := s.func v fn
  let s := s.modFunc v fn (fun f => if correctable then { f with aerCor := setBit f.aerCor bit } else { f with aerUnc := setBit f.aerUnc bit })
  let mask := aerMask s v fn correctable
  let ctl := devCtl s v fn
  if mask.testBit bit then s
  else if correctable then (if ctl.testBit 0 then emit s (.message (upPort s v) 0x30 (hostId s v fn)) else s)
  else
    let fatal := (agetD f.other 67 0).testBit bit
    let on := f.command.testBit 8 || ctl.testBit (if fatal then 2 else 1)
    if on then emit s (.message (upPort s v) (if fatal then 0x33 else 0x31) (hostId s v fn)) else s

/-- A non-posted request is completed with an error status by a function (R122): where its severity is Non-Fatal, the error is logged and is
signalled as Advisory Non-Fatal, bit 13 of Correctable Error Status, as PCI Express allows; otherwise as the error itself. -/
def aerAdvisory (s : State) (v fn bit : Nat) : State :=
  if (agetD (s.func v fn).other 67 0).testBit bit then aerError s v fn bit false
  else
    (aerError s v fn 13 true).modFunc v fn (fun f => { f with aerUnc := setBit f.aerUnc bit })

/-- Bits of Uncorrectable Error Status. -/
abbrev Aer.dlProtocol : Nat := 4
abbrev Aer.surpriseDown : Nat := 5
abbrev Aer.flowControl : Nat := 13
abbrev Aer.abort : Nat := 15
abbrev Aer.overflow : Nat := 17
abbrev Aer.malformed : Nat := 18
abbrev Aer.unsupported : Nat := 20
abbrev Aer.acs : Nat := 21

/-- The function at which a failed request of vSwitch `v` that came in on port `p` is logged (R122). -/
def aerPlace (s : State) (v p rid : Nat) : Nat :=
  if upPort s v = p then fnUp
  else
    match directBridge s p with
    | some (_, k) => fnBridge k
    | none => match (bindsOfPort s p).find? (fun e => e.2.devRid == rid) with | some (_, e) => fnBridge e.bridge | none => fnUp

/-- The bridge whose memory window holds an address, if any. -/
def windowBridge (s : State) (v a : Nat) : Option Nat :=
  (bridges s v).find? (fun k =>
    let f := s.func v (fnBridge k)
    f.command.testBit 1 && ((decide (f.memBase ≤ a) && decide (a ≤ f.memLimit)) || (decide (f.prefBase ≤ a) && decide (a ≤ f.prefLimit))))

/-- A posted request of vSwitch `v` fails: its Posted Failure Log entry, and with PFL_AER its AER error (R57, R122, R158). -/
def postedFailed (s : State) (v addr node port reason count : Nat) (remote : Bool) : State :=
  let s := pflAdd s v addr node port reason count remote
  if isSet s (Reg.VSW_CTRL v) Fld.VSW_CTRL_PFL_AER && reason != 0x01 then
    aerError s v (match windowBridge s v addr with | some k => fnBridge k | none => fnUp) Aer.unsupported false
  else s

/-! ### Fabric Error Reports (R153–R156) -/

/-- Entries gathered for a source node: those queued, then those of its open slots. -/
def ferFor (s : State) (node : Nat) : List FerEntry :=
  (s.fab.ferQueue.filter (fun e => e.1 == node)).map (fun e => e.2) ++ (s.fab.ferOpen.filter (fun e => e.1 == node)).map (fun e => e.2.1)

def FerEntry.item (e : FerEntry) : FerItem :=
  { type := if e.posted then 0 else 1, vsw := e.vsw, reason := e.reason, count := e.count, dropNode := e.dropNode, port := e.port, detail := e.detail }

/-- A Fabric Error Report frame goes out (R154, R156). -/
def ferEmit (s : State) (node seq : Nat) (es : List FerEntry) : State :=
  sendToNode (bump s Reg.FER_TX_CNT) node (vc7Frame 4 (12 + 16 * es.length)
    (.fer { fromNode := nodeId s, toNode := node, seq := seq, ack := false, bootId := s.fab.bootId, items := es.map FerEntry.item }))

/-- A frame for a source node is sent if none towards it is unacknowledged (R156): up to 15 entries, oldest first. -/
def ferSend (s : State) (node : Nat) : State :=
  let es := (ferFor s node).take 15
  if es.isEmpty || s.fab.ferSent.any (fun x => x.node == node) then s
  else
    let fromQ := ((s.fab.ferQueue.filter (fun e => e.1 == node)).take 15).length
    let q := s.fab.ferQueue.foldl (fun (r : Nat × List (Nat × FerEntry)) e =>
      if e.1 = node ∧ r.1 < fromQ then (r.1 + 1, r.2) else (r.1, r.2 ++ [e])) (0, [])
    let o := s.fab.ferOpen.foldl (fun (r : Nat × List (Nat × FerEntry × Nat)) e =>
      if e.1 = node ∧ r.1 + fromQ < 15 then (r.1 + 1, r.2) else (r.1, r.2 ++ [e])) (0, [])
    let seq := agetD s.fab.ferSeq node 0
    let s := { s with fab := { s.fab with ferQueue := q.2, ferOpen := o.2, ferSeq := aput s.fab.ferSeq node ((seq + 1) % 65536),
                                          ferSent := s.fab.ferSent ++ [⟨node, seq, es, 0⟩] } }
    ferEmit s node seq es

/-- An entry finds the queue full (R155): its count joins an open slot of the same source node and vSwitch, or it is lost. -/
def ferNoRoom (s : State) (node : Nat) (e : FerEntry) : State :=
  if s.fab.ferOpen.any (fun x => x.1 == node && x.2.1.vsw == e.vsw) then
    { s with fab := { s.fab with ferOpen := s.fab.ferOpen.foldl (fun (r : Bool × List (Nat × FerEntry × Nat)) x =>
        if !r.1 && x.1 == node && x.2.1.vsw == e.vsw then
          (true, r.2 ++ [(x.1, { x.2.1 with count := min 0xFFFF (x.2.1.count + e.count) }, x.2.2)]) else (r.1, r.2 ++ [x])) (false, []) |>.2 } }
  else detect (bump s Reg.FER_LOST_CNT) 0x0213 .contained Uk.fabric 0 node

/-- A non-posted entry for a source context (R153, R155): queued, and sent at once where R156 allows. -/
def ferNonPosted (s : State) (node ctx gen vsw reason port : Nat) : State :=
  let e : FerEntry := { posted := false, vsw := vsw, reason := reason, count := 1, dropNode := nodeId s, port := port, detail := ctx + gen * 262144 }
  if s.fab.ferQueue.length < 960 then ferSend { s with fab := { s.fab with ferQueue := s.fab.ferQueue ++ [(node, e)] } } node
  else ferNoRoom s node e

/-- A posted entry for a source vSwitch (R153, R155): coalesced by (source node, vSwitch, REASON, PORT). -/
def ferPosted (s : State) (node vsw reason port addr : Nat) : State :=
  let same := fun (x : Nat × FerEntry × Nat) => x.1 == node && x.2.1.vsw == vsw && x.2.1.reason == reason && x.2.1.port == port
  let e : FerEntry := { posted := true, vsw := vsw, reason := reason, count := 1, dropNode := nodeId s, port := port, detail := addr / 4 * 4 }
  if s.fab.ferOpen.any same then
    { s with fab := { s.fab with ferOpen := s.fab.ferOpen.map (fun x =>
        if same x then (x.1, { x.2.1 with count := min 0xFFFF (x.2.1.count + 1) }, x.2.2) else x) } }
  else
    let open_ := fun (s : State) =>
      let s := { s with fab := { s.fab with ferOpen := s.fab.ferOpen ++ [(node, e, s.time)] } }
      if 15 ≤ (ferFor s node).length then ferSend s node else s
    match s.fab.ferOpen with
    | [] => open_ s
    | old :: rest =>
      if s.fab.ferOpen.length < 64 then open_ s
      else if s.fab.ferQueue.length < 960 then
        open_ (ferSend { s with fab := { s.fab with ferOpen := rest, ferQueue := s.fab.ferQueue ++ [(old.1, old.2.1)] } } old.1)
      else ferNoRoom s node e

/-! ### Contexts (R146–R152) -/

def ctx (s : State) (i : Nat) : Option CtxEnt := aget s.fab.ctxs i

/-- KIND of a context (R148). -/
def ctxKind : TlpOp → Nat
  | .memRead | .memReadLocked => 0
  | .atomic => 1
  | .cfgRead _ | .cfgWrite _ => 2
  | .ioRead | .ioWrite => 3
  | _ => 4

/-- Bytes that a request's completions are to bring. -/
def ctxBytes (t : Tlp) : Nat :=
  match t.op with
  | .memRead | .memReadLocked | .atomic | .cfgRead _ | .ioRead => t.len
  | _ => 0

/-- Source contexts of a vSwitch, and destination contexts (R146). -/
def srcCtxs (s : State) (v : Nat) : Nat := (s.fab.ctxs.filter (fun e => e.2.source && e.2.vsw == v)).length
def destCtxs (s : State) : Nat := (s.fab.ctxs.filter (fun e => !e.2.source)).length

/-- A context can be had: its quota is not full and one of 262,143 IDs is free (R146). -/
def ctxRoom (s : State) (v : Nat) (source : Bool) : Bool :=
  decide (s.fab.ctxs.length < 262143) &&
    (if source then decide (srcCtxs s v < getF s (Reg.CTX_QUOTA v) Fld.CTX_QUOTA_QUOTA) else decide (destCtxs s < getF s Reg.CTX_CTRL Fld.CTX_CTRL_FAB_QUOTA))

/-- The lowest free context ID is taken, under its current generation (R149, log entry 21). -/
def ctxNew (s : State) (mk : Nat → CtxEnt) : Option (Nat × Nat × State) :=
  match freeKey s.fab.ctxs 262143 with
  | none => none
  | some i =>
    let g := agetD s.fab.gens i 0
    some (i, g, { s with fab := { s.fab with ctxs := aput s.fab.ctxs i (mk g) } })

/-- A context ends (R149): it is freed, its GEN goes up by one modulo 16; a remapped tag that did not end by its completions
is quarantined for QUAR_TIME (R150). -/
def ctxFree (s : State) (i : Nat) (byCpl : Bool) : State :=
  match ctx s i with
  | none => s
  | some c =>
    let s := { s with fab := { s.fab with ctxs := adel s.fab.ctxs i, gens := aset 0 s.fab.gens i ((c.gen + 1) % 16) } }
    match c.outTag with
    | some t =>
      if byCpl || c.outCalez then s
      else
        let q := max 1 (getF s (Reg.CTX_PORT_CFG c.outPort) Fld.CTX_PORT_CFG_QUAR_TIME)
        { s with fab := { s.fab with quarantine := aput s.fab.quarantine (c.outPort * 16384 + t) (s.time + ms q) } }
    | none => s

/-- Tags of a port's pool (R147, R293): 14-bit tags only in flit mode. -/
def tagPool (s : State) (p : Nat) : Nat :=
  match getF s (Reg.CTX_PORT_CFG p) Fld.CTX_PORT_CFG_TAG_BITS with
  | 0 => 256
  | 1 => 1024
  | _ => if isSet s (Reg.PORT_STATUS p) Fld.PORT_STATUS_FLIT then 16384 else 1024

/-- The lowest free tag of a port's pool: neither allocated nor quarantined (R147). -/
def freeTag (s : State) (p : Nat) : Option Nat :=
  let used := s.fab.ctxs.filterMap (fun e => if e.2.outPort = p ∧ !e.2.outCalez then e.2.outTag else none)
  (List.range (tagPool s p)).find? (fun t => !used.contains t && (aget s.fab.quarantine (p * 16384 + t)).isNone)

/-- The requester of a source context receives its synthetic completion (R151): UR, or for a deadline or orphan the vSwitch's
all-ones data or Completer Abort. -/
def ctxSynth (s : State) (c : CtxEnt) (ur : Bool) : State :=
  if ur then synth s c.vsw c.inPort c.reqId c.tag c.vc 1 []
  else if c.kind = 0 ∧ c.toData then synth s c.vsw c.inPort c.reqId c.tag c.vc 0 (List.replicate c.remain 0xFF#8)
  else synth s c.vsw c.inPort c.reqId c.tag c.vc 4 []

/-- A TLP taken out of the part without an outcome of its own: its cells are freed, and a sprayed one is acknowledged as dropped (R71, R88). -/
def ungrip (s : State) (h : Held) : State := freeHeld (if h.sprayed then fbNote s h true else s) h

/-- The non-posted request of a context. -/
def Held.ofCtx (h : Held) (i : Nat) : Bool := h.tlp.cls == .nonPosted && (match h.ctx with | some (j, _) => j == i | none => false)

/-- A held request leaves the part's queues when its context ends without it (R149). -/
def unqueueCtx (s : State) (i : Nat) : State :=
  let gone := (queuedHeld s).filter (fun h => h.ofCtx i)
  forEach gone (dropQueued s (fun h => h.ofCtx i)) (fun s h => smpDone (ungrip s h) h 2 0)

/-- A source context is ended other than by its completions (R149). -/
def ctxKill (s : State) (i : Nat) (ur : Bool) : State :=
  match ctx s i with
  | some c => ctxSynth (ctxFree (unqueueCtx s i) i false) c ur
  | none => s

/-- A late completion (R152): discarded, counted and logged. -/
def lateCpl (s : State) (port : Nat) (calez : Bool) (node gen id cplId : Nat) : State :=
  let s := bump s Reg.LATE_CPL_CNT
  let k := Reg.LATE_LOG
  if isSet s k Fld.LATE_LOG_VALID then setF s k Fld.LATE_LOG_SECOND 1
  else wr s k (BitVec.ofNat 64 (2 ^ 63 + port % 64 * 2 ^ 56 + b2n calez * 2 ^ 55 + node % 4096 * 2 ^ 40 + gen % 16 * 2 ^ 36 +
    id % 2 ^ 18 * 2 ^ 18 + cplId % 65536))

/-! ### The outcome of a dropped TLP (R57, R66, R153) -/

/-- The TLP came from another node of the fabric. -/
def fromFabric (s : State) (h : Held) : Bool := match h.fab with | some f => f.srcNode != nodeId s | none => false

/-- PORT of a failure (R154): the egress port where the REASON names one, otherwise the port of arrival. -/
def failPort (h : Held) (reason : Nat) : Nat :=
  if reason = 0x06 ∨ reason = 0x0C ∨ reason = 0x0E then h.outPort % 64 else h.inPort % 64

/-- Completion status of a failed request (R57): Completer Abort for an ACS violation, otherwise Unsupported Request. -/
def failStatus (reason : Nat) : Nat := if reason = 0x03 then 4 else 1

/-- AER of a non-posted request that a host or an endpoint of this node sent and that fails (R122). -/
def aerRequest (s : State) (h : Held) (reason : Nat) : State :=
  if fromFabric s h || 64 ≤ h.inPort then s
  else
    let fn := aerPlace s h.vsw h.inPort h.ridIn
    if reason = 0x03 then aerError s h.vsw fn Aer.acs false
    else if (2 ≤ reason ∧ reason ≤ 0x0A) ∨ reason = 0x0C then aerAdvisory s h.vsw fn (if failStatus reason = 4 then Aer.abort else Aer.unsupported)
    else s

/-- The one outcome of a TLP that this node drops (R19, R66, R153), whatever it holds. -/
def dropOutcome (s : State) (h : Held) (reason : Nat) : State :=
  let s := if h.sprayed then fbNote s h true else s
  let s := smpDone s h 2 reason
  let p := failPort h reason
  match h.tlp.cls with
  | .completion => s
  | .posted =>
    if h.tlp.isMessage || h.tlp.lossy then s
    else
      match h.fab with
      | some f => if f.srcNode = nodeId s then postedFailed s h.vsw h.tlp.addr (nodeId s) p reason 1 false
                  else ferPosted s f.srcNode f.srcVsw reason p h.tlp.addr
      | none => postedFailed s h.vsw h.tlp.addr (nodeId s) p reason 1 false
  | .nonPosted =>
    let live := match h.ctx with | some (i, g) => (match ctx s i with | some c => c.gen == g | none => false) | none => true
    let s := match h.ctx with | some (i, _) => if live then ctxFree s i false else s | none => s
    if !live && !fromFabric s h then s
    else
    match h.fab with
    | some f => if f.srcNode = nodeId s then synth (aerRequest s h reason) h.vsw h.inPort h.ridIn h.tagIn h.vc (failStatus reason) []
                else ferNonPosted s f.srcNode f.ctx f.gen f.srcVsw reason p
    | none => synth (aerRequest s h reason) h.vsw h.inPort h.ridIn h.tagIn h.vc (failStatus reason) []

/-- A TLP in the part is dropped (R66): its cells are freed, completions are counted. -/
def dropHeld (s : State) (h : Held) (reason : Nat) : State :=
  let s := freeHeld s h
  let s := if h.tlp.cls = .completion then countDrop s else s
  dropOutcome s h reason

/-- CORE_ERR_LOG and CORE_ACCESS_CNT of a failure at stage 1, 3 or 4 (R57). -/
def logFail (s : State) (h : Held) (step reason : Nat) : State :=
  let s := pcCore (bump s Reg.CORE_ACCESS_CNT) 0x107 (h.inPort % 64)
  let k := Reg.CORE_ERR_LOG
  if isSet s k Fld.CORE_ERR_LOG_VALID then setF s k Fld.CORE_ERR_LOG_SECOND 1
  else wr s k (BitVec.ofNat 64 (2 ^ 63 + h.ridIn % 65536 * 2 ^ 32 + h.vsw % 32 * 2 ^ 27 + h.inPort % 64 * 2 ^ 21 + step * 2 ^ 18 +
    h.tlp.kind * 2 ^ 16 + reason))

/-- What a failure at stage 1, 3 or 4 of a TLP that a host or an endpoint of this node sent reports beside its outcome (R122): to the managers
where no bridge logs it (log entry 114), and an ACS Violation of a posted request. -/
def aerFail (s : State) (h : Held) (reason : Nat) : State :=
  if fromFabric s h || 64 ≤ h.inPort then s
  else
    match reason with
    | 0x01 => msix s (getF s Reg.VSW_GLOBAL Fld.VSW_GLOBAL_MGR_VSWITCH) 0 1
    | 0x03 => if h.tlp.cls = .nonPosted then s else aerError s h.vsw (aerPlace s h.vsw h.inPort h.ridIn) Aer.acs false
    | 0x0B =>
      match upVsw s h.inPort, directBridge s h.inPort with
      | some v, _ => aerError s v fnUp Aer.malformed false
      | none, some (v, k) => aerError s v (fnBridge k) Aer.malformed false
      | none, none => msixManagers s 1
    | _ => s

/-- A TLP fails stage 1, 3 or 4 (R57): logged, captured by COMET as failed, and given its outcome. -/
def failTlp (s : State) (h : Held) (step reason : Nat) : State :=
  let (sm, s) := smpTake s (h.inPort % 64) h
  let h := { h with sample := sm }
  let s := aerFail (comet (logFail s h step reason) 0 (h.inPort % 64) h.tsIn h 0 true) h reason
  let s := returnCredits s h
  if reason = 0x0B then
    let s := if h.inPort < 64 then pcPort (bump s (Reg.PORT_MALFORMED_CNT h.inPort)) h.inPort 0x106 else s
    smpDone s h 2 reason
  else if reason = 0x01 ∧ h.org = none then
    let s := bump s Reg.BIND_UNBOUND_CNT
    dropOutcome s { h with vsw := getF s Reg.VSW_GLOBAL Fld.VSW_GLOBAL_MGR_VSWITCH } reason
  else dropOutcome s h reason

/-- A TLP fails stage 4 (R57): the context that a non-posted one took in stage 3 is free again, under its next generation (log entry 115). -/
def failCheck (s : State) (h : Held) (reason : Nat) : State :=
  let s := if h.tlp.cls != .nonPosted then s
           else match freeKey s.fab.ctxs 262143 with
             | some i => { s with fab := { s.fab with gens := aset 0 s.fab.gens i ((agetD s.fab.gens i 0 + 1) % 16) } }
             | none => s
  failTlp s h 4 reason

end Sys2Proof.Machine
end

