-- ==== Sys2Proof/Machine/AdvOps.lean ====
section
/-!
DEFINITION. Machine/AdvOps.lean: paths withdrawn and restored, advertisements, takeovers, and the settlement of frames of
ended sessions (R138–R145, R190).
-/
namespace Sys2Proof.Machine

/-- Advertisements are on (R140). -/
def advOn (s : State) : Bool := (mode s == 3 || mode s == 4) && isSet s Reg.ROUTE_CTRL Fld.ROUTE_CTRL_ADV_EN

/-- Advertisement entries leave on one Calez port, at most 62 in a frame (R143). -/
def advPort (s : State) (p : Nat) (es : List AdvEntry) : State :=
  match portLink s p with
  | none => s
  | some n =>
    if czLive s n && advOn s && !es.isEmpty then
      forEach (List.range ((es.length + 61) / 62)) s (fun s i =>
        let part := (es.drop (62 * i)).take 62
        czPut (bump s Reg.ADV_TX_CNT) n (vc7Frame 3 (8 + 4 * part.length) (.routeAdv (nodeId s) part)))
    else s

/-- Every Calez port whose link is alive. -/
def activePorts (s : State) : List Nat := ((calezLinks s).filter (czLive s)).filterMap (linkPort s)

/-- Advertisement entries leave on every ACTIVE port that `f` picks. -/
def advAll (s : State) (es : List AdvEntry) (f : Nat → Bool) : State := forEach ((activePorts s).filter f) s (fun s p => advPort s p es)

/-! ### Contexts of a path (R145, R149) -/

/-- A source context is orphaned (R149). -/
def orphan (s : State) (i : Nat) : State := bump (ctxKill s i false) Reg.ORPHAN_CNT

/-- Contexts whose requests or completions take the entry of destination `d`. -/
def ctxsTowards (s : State) (d : Nat) (p : CtxEnt → Bool) : List (Nat × CtxEnt) :=
  s.fab.ctxs.filter (fun e => ((route s e.2.peerNode).servedBy.getD e.2.peerNode) == d && p e.2)

/-- A destination context loses its completion path (R145). -/
def destPathLost (s : State) (i : Nat) (c : CtxEnt) (oldPort : Nat) : State :=
  match hashedPath s (nodeId s) c.outPort c.peerNode c.cvc with
  | none => ctxFree s i false
  | some k =>
    if c.started ∧ 0 < c.remain then
      ferNonPosted (ctxFree s i false) c.peerNode c.peerCtx c.peerGen c.vsw 0x0C oldPort
    else { s with fab := { s.fab with ctxs := aput s.fab.ctxs i { c with path := k } } }

/-- Contexts of path `k` towards `d` after its withdrawal, and of `d` altogether when its set is empty. -/
def pathContexts (s : State) (d k oldPort : Nat) : State :=
  let none_ := (route s d).ecs.isEmpty
  let s := forEach (ctxsTowards s d (fun c => c.source && c.outCalez && (c.path == k || none_))) s (fun s e => orphan s e.1)
  forEach (ctxsTowards s d (fun c => !c.source && (c.path == k || none_))) s (fun s e => destPathLost s e.1 e.2 oldPort)

/-! ### Changes of the equal-cost set (R140, R144) -/

/-- A move fence for a destination whose set before the change gave these ports (R144): nothing is held if the set was empty. -/
def moveFence (s : State) (d : Nat) (oldPorts : List Nat) : State :=
  let wait := us (max 10 (min 10000 (getF s Reg.SPRAY_FENCE_TO Fld.SPRAY_FENCE_TO_TIMEOUT)))
  if oldPorts.isEmpty then s else { s with cong := { s.cong with moves := aput s.cong.moves d ⟨s.time + wait, oldPorts⟩ } }

/-- The ports of the equal-cost set in force for a destination. -/
def ecsPorts (s : State) (d : Nat) : List Nat := (ecsOf s d).map (pathPort s d)

/-- Destinations that `d`'s entry routes: `d` itself unless taken over, and those that `d` serves. -/
def routedBy (s : State) (d : Nat) : List Nat :=
  (if (route s d).servedBy.isNone then [d] else []) ++ (s.fab.routes.filter (fun e => e.2.servedBy == some d)).map (fun e => e.1)

/-- Sets WDRAWN of one path of an entry. -/
def setWithdrawn (s : State) (d k : Nat) (w : Bool) : State :=
  let e := route s d
  { s with fab := { s.fab with routes := aput s.fab.routes d { e with paths := aput e.paths k { (e.path k) with withdrawn := w } } } }

/-- Path `k` towards `d` is withdrawn (R140): its contexts act, and an empty set is advertised. -/
def pathWithdraw (s : State) (d k : Nat) : State :=
  let e := route s d
  if !(e.path k).configured || (e.path k).withdrawn then s
  else
    let had := !e.ecs.isEmpty
    let s := pathContexts (setWithdrawn s d k true) d k (e.path k).port
    if had && (route s d).ecs.isEmpty then advAll s [⟨d, 0, 0⟩] (fun _ => true) else s

/-- Path `k` towards `d` returns (R140): a move fence if the set grows, and a set no longer empty is advertised. -/
def pathRestore (s : State) (d k : Nat) : State :=
  let e := route s d
  if !(e.path k).configured || !(e.path k).withdrawn then s
  else
    let olds := (routedBy s d).map (fun x => (x, ecsPorts s x))
    let s' := setWithdrawn s d k false
    if (route s' d).ecs = e.ecs then s'
    else
      let s' := forEach olds s' (fun s x => moveFence s x.1 x.2)
      if e.ecs.isEmpty then
        let ports := (route s' d).ecs.map (fun j => ((route s' d).path j).port)
        advAll s' [⟨d, 1, 0⟩] (fun p => !ports.contains p)
      else s'

/-- Every (destination, path) whose path fits. -/
def pathsWhere (s : State) (f : PathEnt → Bool) : List (Nat × Nat) :=
  s.fab.routes.flatMap (fun e => (e.2.paths.filter (fun x => f x.2)).map (fun x => (e.1, x.1)))

/-- A Calez port leaves ACTIVE: every path through it is withdrawn (R140). -/
def portPathsDown (s : State) (p : Nat) : State := forEach (pathsWhere s (fun x => x.port == p)) s (fun s x => pathWithdraw s x.1 x.2)

/-- A Calez port reaches ACTIVE (R140, R141): its paths start withdrawn, or with ADV_EN 0 are in force; the node advertises
itself and every destination that it reaches through another port. -/
def portPathsUp (s : State) (p : Nat) : State :=
  if advOn s then
    let ds := (s.fab.routes.filter (fun e => e.2.ecs.any (fun k => (e.2.path k).port != p))).map (fun e => (⟨e.1, 1, 0⟩ : AdvEntry))
    advPort s p ((if s.twin.restoreWithheld then [] else [⟨nodeId s, 1, 0⟩]) ++ ds.filter (fun x => x.node != nodeId s))
  else forEach (pathsWhere s (fun x => x.port == p)) s (fun s x => pathRestore s x.1 x.2)

/-! ### Frames of an ended session (R190) -/

/-- TLPs of settled frames that were not delivered are dropped with REASON 0x0C (R190, R66). -/
def settleUndelivered (s : State) (port : Nat) (fs : List Stored) : State :=
  forEach (fs.filterMap (fun x => x.held)) s (fun s h => dropHeld s { h with cells := 0, outPort := port } 0x0C)

/-- TLPs of settled frames in doubt are counted and a CONTAINED fault is raised; non-posted requests of other nodes are reported. -/
def settleDoubt (s : State) (n port : Nat) (fs : List Stored) : State :=
  let hs := fs.filterMap (fun x => x.held)
  if hs.isEmpty then s
  else
    let s := detect (bumpN s (Reg.CZ_INDOUBT_CNT n) hs.length) 0x0212 .contained Uk.fabric 0 (port * 4294967296 + hs.length)
    forEach hs s (fun s h =>
      if h.tlp.cls = .nonPosted then
        match h.fab with
        | some f => if f.srcNode = nodeId s then s else ferNonPosted s f.srcNode f.ctx f.gen f.srcVsw 0x0C port
        | none => s
      else s)

/-- The ended session of a link is settled: nothing is pending on it any longer. -/
def endedClear (s : State) (n : Nat) : State :=
  setF (s.modLink n (fun l => { l with ended := none })) (Reg.CZ_STATUS n) Fld.CZ_STATUS_RESOLVE_PENDING 0

/-- Every frame of the ended session settles in doubt. -/
def endedDoubt (s : State) (n : Nat) : State :=
  match (s.link n).ended with
  | some e => settleDoubt (endedClear s n) n e.port e.frames
  | none => s

/-- A RESOLVE, or PREV fields, tell RX_LAST of the ended session (R190): later frames were not delivered; outside the range it
is ignored and counted. -/
def endedResolve (s : State) (n rxLast : Nat) : State :=
  match (s.link n).ended with
  | none => s
  | some e =>
    match e.frames with
    | [] => endedClear s n
    | x :: _ =>
      let first := x.frame.seq
      let k := (rxLast + 4096 + 1 - first) % 4096
      if e.frames.length < k then bump s (Reg.CZ_UNKNOWN_CNT n)
      else settleUndelivered (endedClear s n) e.port (e.frames.drop k)

/-! ### Advertisements received (R142, R143) -/

/-- A takeover of `b` by `a` is applied at this node (R143): TAKEN, withdrawn paths through `b`, orphaned contexts, frames of
sessions with `b` in doubt; learnt for the first time, it is passed on. -/
def takeoverApply (s : State) (b a from_ : Nat) : State :=
  let e := route s b
  if e.servedBy = some a then s
  else
    let s := { s with fab := { s.fab with routes := aput s.fab.routes b { e with servedBy := some a } } }
    let s := forEach (pathsWhere s (fun x => x.nextNode == b)) s (fun s x => pathWithdraw s x.1 x.2)
    let s := forEach (s.fab.ctxs.filter (fun c => c.2.source && c.2.peerNode == b)) s (fun s c => orphan s c.1)
    let s := forEach ((List.range 32).filter (fun n => match (s.link n).ended with | some x => x.node == b | none => false)) s endedDoubt
    advAll s [⟨b, 2, a⟩] (fun p => p != from_)

/-- TAKEN clears in the entry of a destination (R143). -/
def clearTaken (s : State) (b : Nat) : State :=
  let e := route s b
  match e.servedBy with
  | none => s
  | some _ =>
    let old := ecsPorts s b
    let s := { s with fab := { s.fab with routes := aput s.fab.routes b { e with servedBy := none } } }
    if ecsPorts s b = old then s else moveFence s b old

/-- A RESTORE for a destination clears TAKEN and is then passed on (R143); a twin that serves the destination clears TAKEN when it
stops serving, and passes the RESTORE on meanwhile (R229). -/
def untake (s : State) (b from_ : Nat) : State :=
  match (route s b).servedBy with
  | none => s
  | some _ =>
    let s := if serving s && b == partner s then s else clearTaken s b
    advAll s [⟨b, 1, 0⟩] (fun p => p != from_)

/-- One entry of an advertisement that came in on port `p` (R140, R143). -/
def advEntry (s : State) (p : Nat) (x : AdvEntry) : State :=
  let through := fun (s : State) => (List.range 8).filter (fun k => ((route s x.node).path k).configured && ((route s x.node).path k).port == p)
  match x.event with
  | 0 =>
    let s := forEach (through s) s (fun s k => pathWithdraw s x.node k)
    if (route s x.node).ecs.isEmpty then { s with cong := { s.cong with eligible := s.cong.eligible.filter (fun y => y != x.node) } } else s
  | 1 =>
    let s := if s.cong.eligible.contains x.node then s else { s with cong := { s.cong with eligible := s.cong.eligible ++ [x.node] } }
    let s := forEach (through s) s (fun s k => pathRestore s x.node k)
    untake s x.node p
  | 2 => takeoverApply s x.node x.server p
  | _ => s

/-- An advertisement arrives on a port (R140, R141): ignored while ADV_EN is 0, or if the port's configured neighbour is
another node. -/
def advReceive (s : State) (p from_ : Nat) (es : List AdvEntry) : State :=
  let s := bump s Reg.ADV_RX_CNT
  if !advOn s then s
  else if (pathsWhere s (fun x => x.configured && x.port == p && x.nextNode != from_)) != [] then bump s Reg.ADV_MISMATCH_CNT
  else forEach es s (fun s x => advEntry s p x)

end Sys2Proof.Machine
end

