-- ==== Sys2Proof/Machine/Ingress.lean ====
section
/-!
DEFINITION. Machine/Ingress.lean: stages 1 to 6 for a TLP (R52–R64, R67, R70–R74, R102–R120, R127, R132–R136, R146, R220).
-/
namespace Sys2Proof.Machine

/-! ### Where a TLP comes from and where it goes -/

/-- What stage 3 finds (R55). -/
inductive Target where
  /-- A physical port, the downstream bridge through which it is reached (none: the upstream bridge), and the TLP as it is to leave there. -/
  | port (p : Nat) (via : Option Nat) (t : Tlp)
  /-- Every port named, with the bridge through which it is reached: a broadcast message. -/
  | ports (ps : List (Nat × Nat))
  /-- A FAM window: the entry's index, the entry, and the replaced address. -/
  | fam (i : Nat) (e : FamEnt) (addr : Nat)
  /-- A BAR of a function of the part. -/
  | bar (fn bar ofs : Nat)
  /-- A message or a request to a function of the part. -/
  | func (fn : Nat)
  /-- A configuration request that the part answers itself. -/
  | cfg
  /-- Failure: CORE_ERR_LOG STEP and REASON of R57. -/
  | fail (step reason : Nat)
  deriving DecidableEq, Repr

/-- BARs of the management function and the Mover PF with their sizes (R109): function, BAR, log2 of the size. -/
def barList (s : State) (v : Nat) : List (Nat × Nat × Nat) :=
  let lp := getF s (Reg.MGMT_LP_WIN v) Fld.MGMT_LP_WIN_SIZE_LOG2
  let ap := getF s (Reg.MGMT_FAP v) Fld.MGMT_FAP_SIZE_LOG2
  [(fnMgmt, 0, if isSet s (Reg.VSW_CTRL v) Fld.VSW_CTRL_MGR_DIRECT then 29 else 20)] ++
  (if 20 ≤ lp then [(fnMgmt, 2, lp)] else []) ++ (if 20 ≤ ap ∧ (mode s = 3 ∨ mode s = 4) then [(fnMgmt, 4, ap)] else []) ++
  (if mode s = 5 then [] else [(fnMover, 0, 16), (fnMover, 2, 24)])

/-- A configuration request. -/
def isCfg (t : Tlp) : Bool := match t.op with | .cfgRead _ | .cfgWrite _ => true | _ => false

/-- The configuration request that a TLP carries. -/
def cfgOf (t : Tlp) : CfgReq :=
  { write := (match t.op with | .cfgWrite _ => true | _ => false), type1 := (match t.op with | .cfgRead x => x | .cfgWrite x => x | _ => false),
    bus := t.destId / 256 % 256, dev := t.destId / 8 % 32, fn := t.destId % 8, reg := t.addr / 4 % 1024, be := t.be, data := num t.data 0 4,
    tag := t.tag, reqId := t.reqId }

/-- What is routed in Service mode (R28, R76): configuration requests and what goes to BAR0 of the management function. -/
def serviceAllows (t : Tlp) : Target → Bool
  | .bar fn b _ => fn == fnMgmt && b == 0
  | _ => isCfg t

/-- Base that the host has given a BAR: its two double words. -/
def barBase (s : State) (v fn b : Nat) : Nat :=
  let f := s.func v fn
  agetD f.bars b 0 / 16 * 16 + agetD f.bars (b + 1) 0 * 4294967296

/-- The BAR of a function of the part that holds an address, with Memory Space Enable set: function, BAR, offset. -/
def barHit (s : State) (v a : Nat) : Option (Nat × Nat × Nat) :=
  (((barList s v).filter (fun x => (s.func v x.1).command.testBit 1)).find? (fun x =>
    let b := barBase s v x.1 x.2.1
    decide (b ≤ a) && decide (a < b + 2 ^ x.2.2))).map (fun x => (x.1, x.2.1, a - barBase s v x.1 x.2.1))

/-- Functions bound to a composed bridge. -/
def boundAt (s : State) (v k : Nat) : List BindEnt :=
  (s.hosts.bind.filter (fun e => e.2.valid && e.2.kind != 2 && e.2.vsw == v && e.2.bridge == k)).map (fun e => e.2)

/-- Key of a function below a port (State: `Hosts.ranges`). -/
def fnKey (port devRid : Nat) : Nat := port * 65536 + devRid

/-- A bound function is within the host's reach: numbers of 8 and more need ARI forwarding (R108). -/
def reachable (s : State) (v k : Nat) (e : BindEnt) : Bool := decide (e.hostDevfn < 8) || (s.func v (fnBridge k)).ariFwd

/-- The bound function of a composed bridge that holds an address (R108). -/
def rangeHit (s : State) (v k a : Nat) : Option BindEnt :=
  (boundAt s v k).find? (fun e => reachable s v k e && s.hosts.fnMse.contains (fnKey e.port e.devRid) &&
    (agetD s.hosts.ranges (fnKey e.port e.devRid) []).any (fun r => decide (r.2.1 ≤ a) && decide (a < r.2.1 + r.2.2)))

/-- The bound function at a device and function number of a composed bridge (R108). -/
def devfnHit (s : State) (v k devfn : Nat) : Option BindEnt := (boundAt s v k).find? (fun e => e.hostDevfn == devfn && reachable s v k e)

/-- The port below bridge `k` for an address: that of a direct bridge, or of the bound function that holds it. -/
def bridgeTarget (s : State) (v k a : Nat) (t : Tlp) : Target :=
  if isDirect s v k then .port (bridgePort s v k) (some k) t
  else match rangeHit s v k a with | some e => .port e.port (some k) t | none => .fail 3 0x02

/-- Bytes of the fabric aperture of a vSwitch (R109): 0 while it has none. -/
def aperture (s : State) (v : Nat) : Nat :=
  let n := getF s (Reg.MGMT_FAP v) Fld.MGMT_FAP_SIZE_LOG2
  if n < 20 then 0 else 2 ^ n

/-- The outbound FAM entry that an aperture offset matches (R133): its index and itself; an entry that reaches beyond the
aperture never matches (R135). -/
def famOut (s : State) (v ofs : Nat) : Option (Nat × FamEnt) :=
  s.fab.fam.find? (fun e => e.2.valid && e.2.kind == 0 && e.2.vsw == v && decide (e.2.win ≤ ofs) && decide (ofs < e.2.win + 2 ^ e.2.size) &&
    decide (e.2.win + 2 ^ e.2.size ≤ aperture s v))

/-- The inbound entry of a table that an arriving TLP matches (R134). -/
def famIn (tbl : Assoc FamEnt) (src port a : Nat) : Option (Nat × FamEnt) :=
  tbl.find? (fun e => e.2.valid && e.2.kind == 1 && e.2.port == port && decide (e.2.win ≤ a) && decide (a < e.2.win + 2 ^ e.2.size) &&
    (src &&& e.2.nodeMask) == (e.2.node &&& e.2.nodeMask))

/-- A FAM entry allows a TLP (R136). -/
def FamEnt.allows (e : FamEnt) (t : Tlp) : Bool :=
  (match t.op with
   | .memRead | .memReadLocked => e.read
   | .memWrite => e.write
   | .atomic => e.atomic
   | _ => false) && (!t.translated || e.xlat)

/-- Bits of ACS Control (R119). -/
abbrev Acs.sv : Nat := 0
abbrev Acs.tb : Nat := 1
abbrev Acs.rr : Nat := 2
abbrev Acs.uf : Nat := 4
abbrev Acs.ec : Nat := 5
abbrev Acs.dt : Nat := 6

/-- Function that an origin stands for in ACS. -/
def Origin.fn : Origin → Nat
  | .host => fnUp | .bridge k => fnBridge k | .mover => fnMover

/-- ACS of a peer-to-peer request that would go to bridge `j` (R119): 0 allowed, 1 redirected to the host, 2 blocked.  Direct Translated P2P lets
a translated request pass both redirect and Egress Control. -/
def acsPeer (s : State) (v : Nat) (o : Origin) (j : Nat) (t : Tlp) : Nat :=
  let f := s.func v o.fn
  let direct := t.translated && f.acs.testBit Acs.dt
  if direct then 0
  else if f.acs.testBit Acs.ec && f.acsVec.testBit j then (if f.acs.testBit Acs.rr then 1 else 2)
  else if f.acs.testBit Acs.rr then 1 else 0

/-- The upstream port of a vSwitch as a target. -/
def toHost (s : State) (v : Nat) (t : Tlp) : Target := .port (upPort s v) none t

/-- Address routing of memory requests and AtomicOps (R55 steps 2 and 3, R108–R110, R119). -/
def routeAddr (s : State) (v : Nat) (o : Origin) (t : Tlp) : Target :=
  match barHit s v t.addr with
  | some (fn, b, ofs) =>
    if fn = fnMgmt ∧ b = 4 then
      match famOut s v ofs with
      | some (i, e) => if e.allows t then .fam i e (e.remoteBase + (ofs - e.win)) else .fail 4 0x05
      | none => .fail 3 0x02
    else if o = .mover ∧ fn ≠ fnMover ∧ (s.func v fnMover).acs.testBit Acs.rr then toHost s v t
    else .bar fn b ofs
  | none =>
    match windowBridge s v t.addr, o with
    | some k, .host => bridgeTarget s v k t.addr t
    | some k, o =>
      if o = .bridge k then
        if (s.func v (fnBridge k)).acs.testBit Acs.uf then toHost s v t
        else if isDirect s v k then .fail 3 0x02
        else bridgeTarget s v k t.addr t
      else
        match acsPeer s v o k t with
        | 0 => bridgeTarget s v k t.addr t
        | 1 => toHost s v t
        | _ => .fail 4 0x03
    | none, .host => .fail 3 0x02
    | none, _ =>
      let u := s.func v fnUp
      if u.command.testBit 1 && ((decide (u.memBase ≤ t.addr) && decide (t.addr ≤ u.memLimit)) ||
          (decide (u.prefBase ≤ t.addr) && decide (t.addr ≤ u.prefLimit))) then .fail 3 0x02
      else toHost s v t

/-- I/O base and limit of a bridge: bytes 0x1C and 0x1D of its header, with the upper halves at 0x30. -/
def ioHit (s : State) (v a : Nat) : Option Nat :=
  (bridges s v).find? (fun k =>
    let f := s.func v (fnBridge k)
    let w := agetD f.other 7 0
    let u := agetD f.other 12 0
    let base := bitsAt w 4 4 * 4096 + u % 65536 * 65536
    let lim := bitsAt w 12 4 * 4096 + 4095 + u / 65536 * 65536
    f.command.testBit 0 && w % 65536 != 0 && decide (base ≤ a) && decide (a ≤ lim))

/-- I/O requests: a direct bridge's window, or the host. -/
def routeIo (s : State) (v : Nat) (o : Origin) (t : Tlp) : Target :=
  match ioHit s v t.addr with
  | some k => if isDirect s v k then .port (bridgePort s v k) (some k) t else .fail 3 0x02
  | none => if o = .host then .fail 3 0x02 else toHost s v t

/-- ID routing within a vSwitch (R55 step 2, R111, R119): an ID that no function holds is REASON 0x02 for a host's TLP, 0x01 for an endpoint's. -/
def routeId (s : State) (v : Nat) (o : Origin) (t : Tlp) : Target :=
  let bus := t.destId / 256 % 256
  let devfn := t.destId % 256
  if bus = (s.vsw v).bus ∧ devfn < 3 then .func devfn
  else
    match (bridges s v).find? (fun k =>
      let f := s.func v (fnBridge k)
      if isDirect s v k then decide (f.secBus ≤ bus) && decide (bus ≤ f.subBus) && f.secBus != 0 else f.secBus == bus && bus != 0) with
    | some k =>
      let hit := if isDirect s v k then .port (bridgePort s v k) (some k) t
        else match devfnHit s v k devfn with
          | some e => .port e.port (some k) { t with destId := e.devRid }
          | none => .fail 3 (if o = .host then 0x02 else 0x01)
      if o = .host ∨ o = .bridge k then hit
      else
        match acsPeer s v o k t with
        | 0 => hit
        | 1 => toHost s v t
        | _ => .fail 4 0x03
    | none => if o = .host then .fail 3 0x02 else toHost s v t

/-- Ports below a vSwitch, each once, with a bridge through which it is reached. -/
def portsBelow (s : State) (v : Nat) : List (Nat × Nat) :=
  ((bridges s v).flatMap (fun k => if isDirect s v k then [(bridgePort s v k, k)] else (boundAt s v k).map (fun e => (e.port, k)))).foldl
    (fun l x => if l.any (fun y => y.1 == x.1) then l else l ++ [x]) []

/-- The vSwitch has the function (R102): the Mover PF is absent in Service mode. -/
def fnExists (s : State) (v fn : Nat) : Bool :=
  if fn = 0 ∨ fn = 2 then true else if fn = 1 then mode s != 5 else decide (8 ≤ fn) && (bridges s v).contains (fn - 8)

/-- A binding whose shared PF is guarded (R118). -/
def guarded (s : State) (e : BindEnt) : Bool := isSet s Reg.VSW_GLOBAL Fld.VSW_GLOBAL_PF_GUARD_EN && e.pfShared

/-- R118 holds a write to a shared PF back. -/
def guardHits (s : State) (e : BindEnt) (r : CfgReq) : Bool :=
  let k := fnKey e.port e.devRid
  let what := Config.regOf e.port e.devRid r.reg
  r.write && guarded s e &&
    (what == 1 || (what == 2 && r.be.testBit 1 && r.data.testBit 15) ||
      (r.reg == 1 && r.be.testBit 0 &&
        ((s.hosts.fnMse.contains k && !r.data.testBit 1) || (s.hosts.fnBme.contains k && !r.data.testBit 2))))

/-- Configuration requests (R103, R107, R108, R111, R118, R127): a function of the vSwitch, a direct bridge's range, or a function bound to a composed
bridge, which the request reaches as Type 0.  What the part answers itself goes nowhere else: an unready vSwitch's requests, and writes held back. -/
def routeCfg (s : State) (v : Nat) (o : Origin) (t : Tlp) : Target :=
  let r := cfgOf t
  let u := s.func v fnUp
  let devfn := r.dev * 8 + r.fn
  if o ≠ .host then .fail 3 0x02
  else if !vswReady s v then .cfg
  else if !r.type1 then (if r.dev = 0 ∧ r.fn < 3 ∧ fnExists s v r.fn then .cfg else .fail 3 0x02)
  else if u.secBus = 0 ∨ r.bus < u.secBus ∨ u.subBus < r.bus then .fail 3 0x02
  else if r.bus = u.secBus then (if (bridges s v).any (fun k => bridgeDevfn k == devfn) then .cfg else .fail 3 0x02)
  else
    match (bridges s v).find? (fun k =>
      let f := s.func v (fnBridge k)
      f.secBus != 0 && decide (f.secBus ≤ r.bus) && decide (r.bus ≤ f.subBus)) with
    | none => .fail 3 0x02
    | some k =>
      if isDirect s v k then .port (bridgePort s v k) (some k) t
      else if r.bus ≠ (s.func v (fnBridge k)).secBus then .fail 3 0x02
      else
        match devfnHit s v k devfn with
        | none => .fail 3 0x02
        | some e =>
          if guardHits s e r then .cfg
          else .port e.port (some k) { t with op := (if r.write then TlpOp.cfgWrite false else TlpOp.cfgRead false), destId := e.devRid }

/-- Stage 3: routing within the vSwitch (R55). -/
def lookup (s : State) (v : Nat) (o : Origin) (t : Tlp) : Target :=
  match t.op, t.route with
  | .cfgRead _, _ => routeCfg s v o t
  | .cfgWrite _, _ => routeCfg s v o t
  | .ioRead, _ => routeIo s v o t
  | .ioWrite, _ => routeIo s v o t
  | _, .byAddress => routeAddr s v o t
  | _, .byId => routeId s v o t
  | _, .toRoot => if o = .host then .func fnUp else if t.mctp then .func fnMgmt else toHost s v t
  | _, .broadcast => if o = .host then .ports (portsBelow s v) else .fail 3 0x02
  | _, .toLocal => .func o.fn

/-! ### Stage 4 -/

/-- The vSwitch refuses new requests (R45, R49, R227, R231). -/
def refuses (s : State) (v : Nat) : Bool :=
  (s.vsw v).refusing || (s.vsw v).modeHeld ||
    (mode s == 4 && (twinState s == 5 || (twinState s == 1 && !s.twin.joinFromSplit)))

/-- A quiesced or unready vSwitch fails a TLP with REASON 0x08 (R57, R127); an unready one answers configuration requests. -/
def refused (s : State) (v p : Nat) (t : Tlp) : Bool :=
  if isCfg t then refuses s v && vswReady s v else t.cls != .completion && (refuses s v || (upPort s v == p && !vswReady s v))

/-- A request, to which Bus Master Enable applies (R125). -/
def bmeApplies (t : Tlp) : Bool := !t.isMessage && t.cls != .completion

/-- What a bridge in D3hot passes on (R129): configuration requests, and the messages PM_PME, PME_Turn_Off and PME_TO_Ack. -/
def passesD3 (t : Tlp) : Bool := match t.op with | .message c => c == 0x18 || c == 0x19 || c == 0x1B | _ => isCfg t

/-- What stops a TLP where it enters its vSwitch, wherever it goes (R123–R125, R129): its bridge is contained, in D3hot, or its Bus Master Enable is
clear. -/
def entryBlocks (s : State) (v : Nat) (o : Origin) (t : Tlp) : Option Nat :=
  match o with
  | .host => none
  | .mover => if bmeApplies t && !(s.func v fnMover).command.testBit 2 then some 0x04 else none
  | .bridge k =>
    let f := s.func v (fnBridge k)
    if f.contained then some 0x06
    else if f.d3hot && !passesD3 t then some 0x02
    else if bmeApplies t && !f.command.testBit 2 then some 0x04
    else none

/-- What stops a TLP that the upstream bridge of a vSwitch would pass to its host (R125, R129). -/
def upBlocks (s : State) (v : Nat) (t : Tlp) : Option Nat :=
  let u := s.func v fnUp
  if u.d3hot && !passesD3 t then some 0x02 else if bmeApplies t && !u.command.testBit 2 then some 0x04 else none

/-- Access check of a TLP of vSwitch `v` that is to leave on local port `p` through bridge `via`, or through the upstream bridge (R56, R57, R120,
R124, R125, R129): its REASON, if it fails. -/
def access (s : State) (v : Nat) (o : Origin) (p : Nat) (via : Option Nat) (t : Tlp) : Option Nat :=
  let partition := match via with
    | none => upPort s v == p
    | some _ => (match directBridge s p with | some (w, _) => w == v | none => (upVsw s p).isNone)
  let fn := match via with | some k => fnBridge k | none => fnUp
  let f := s.func v fn
  if !partition then some 0x04
  else if via.isSome && f.contained then some 0x06
  else if via.isSome && f.d3hot && !passesD3 t then some 0x02
  else if o = .host ∧ (s.func v fnUp).d3hot ∧ ¬ passesD3 t then some 0x02
  else
    match (if via.isNone then upBlocks s v t else none) with
    | some r => some r
    | none => if t.op = .atomic ∧ (agetD f.other 30 0).testBit 7 then some 0x04 else portFault s p

/-- ACS checks of the bridge where a request enters (R119, R120). -/
def acsEntry (s : State) (v : Nat) (o : Origin) (t : Tlp) (rid : Nat) : Bool :=
  match o with
  | .bridge k =>
    let f := s.func v (fnBridge k)
    let bus := rid / 256 % 256
    (f.acs.testBit Acs.sv && isDirect s v k && t.cls != .completion && !(decide (f.secBus ≤ bus) && decide (bus ≤ f.subBus))) ||
      (f.acs.testBit Acs.tb && t.translated)
  | _ => false

/-! ### Contexts (R20, R21, R74, R146) -/

/-- Completion timeout of a vSwitch in µs (R151). -/
def timeoutOf (s : State) (v : Nat) : Nat := max 100 (min 4000000 (getF s (Reg.CTO v) Fld.CTO_TIMEOUT))

/-- Core VC to which a port maps a traffic class (R53). -/
def tcVc (s : State) (p tc : Nat) : Nat := bitsAt (rd s (Reg.TC_VC_MAP p)).toNat (3 * (tc % 8)) 3

/-- The context that a non-posted request takes, under a generation (R21, R74, R148). -/
def ctxOf (s : State) (h : Held) (g : Nat) : CtxEnt :=
  let calez := (portLink s h.outPort).isSome
  let k := ctxKind h.tlp.op
  let cvc := if isPcie s h.outPort then tcVc s h.outPort h.tlp.tc else h.vc
  match h.fab, fromFabric s h with
  | some f, true =>
    { reqId := h.tlp.reqId, tag := 0, outCalez := calez, outTag := none, source := false, inPort := h.inPort, outPort := h.outPort, gen := g,
      peerNode := f.srcNode, peerCtx := f.ctx, peerGen := f.gen, toData := false, vc := h.vc,
      path := (hashedPath s (nodeId s) h.outPort f.srcNode cvc).getD 0, kind := k, remain := min 4096 (ctxBytes h.tlp),
      deadline := h.tsIn / 16000 + f.remain + 1000, vsw := f.srcVsw, cvc := cvc, started := false }
  | fab, _ =>
    { reqId := h.ridIn, tag := h.tagIn, outCalez := calez, outTag := none, source := true, inPort := h.inPort, outPort := h.outPort, gen := g,
      peerNode := (match fab with | some f => f.destNode | none => nodeId s), peerCtx := 0x3FFFF, peerGen := 0,
      toData := isSet s (Reg.CTO h.vsw) Fld.CTO_TO_DATA, vc := h.vc, path := if calez then h.path else 0, kind := k,
      remain := min 4096 (ctxBytes h.tlp), deadline := timeUs s + timeoutOf s h.vsw, vsw := h.vsw, cvc := cvc, started := false }

/-- A request takes its context (R20, R146): a TLP for the fabric carries it in its header. -/
def takeCtx (s : State) (h : Held) : Held × State :=
  if h.tlp.cls != .nonPosted then (h, s)
  else
    match ctxNew s (ctxOf s h) with
    | none => (h, s)
    | some (i, g, s) =>
      let fab := h.fab.map (fun f => if f.srcNode = nodeId s then { f with ctx := i, gen := g, remain := timeoutOf s h.vsw } else f)
      ({ h with ctx := some (i, g), fab := fab }, s)

/-- A request of this ingress port waits for a context; those behind it in the class wait with it (R146). -/
def ctxBehind (s : State) (h : Held) : Bool := s.core.ctxWait.any (fun w => w.inPort == h.inPort)

/-- No context can be had for a non-posted request, or it stands behind one that waits for its own (R146). -/
def ctxLacks (s : State) (h : Held) : Bool := h.tlp.cls == .nonPosted && (ctxBehind s h || !ctxRoom s h.vsw (!fromFabric s h))

/-- A request waits for a context at its ingress port (R146): counted once where a quota or the table is what it lacks. -/
def ctxHold (s : State) (h : Held) : State :=
  let s := if ctxRoom s h.vsw (!fromFabric s h) then s
    else
      let s := if h.waited then s else bump s Reg.CTX_WAIT_CNT
      if 262143 ≤ s.fab.ctxs.length then setF s Reg.CTX_STATUS Fld.CTX_STATUS_EXHAUSTED 1 else s
  let h := { h with waited := h.waited || !ctxRoom s h.vsw (!fromFabric s h) }
  { s with core := { s.core with ctxWait := s.core.ctxWait ++ [h] } }

/-! ### Stages 5 and 6 -/

/-- A TLP passes to its VOQ (R65, R80, R88); a droppable one may be dropped by its profile (R81). -/
def toVoq (s : State) (h : Held) : State :=
  match enqueue s h with
  | (none, s) => smpDone (freeHeld (countDrop (bump s Reg.CC_DROP_CNT)) h) h 2 0
  | (some h, s) =>
    let s := if h.moveHold = 0 then s else bump s Reg.MOVE_HOLD_CNT
    let s := if h.cut then pcCore s 0x102 (h.outPort % 64) else s
    if (portLink s h.outPort).isNone then fbNote s h false else s

/-- No change of rate or width is pending at an egress port (R67): its link is up and not training. -/
def rateSettled (s : State) (p : Nat) : Bool :=
  match portLink s p with | some n => czActive s n | none => getF s (Reg.PORT_STATUS p) Fld.PORT_STATUS_LTSSM == 4

/-- Whether stage 5 grants cut-through to a TLP whose rest has not come in (R67), and whether a refusal counts. -/
def cutGrant (s : State) (h : Held) : Bool × Bool :=
  if !h.rest || h.tlp.payload ≤ 64 then (false, false)
  else if bitsAt (rd s (Reg.CT_CTRL h.inPort)).toNat (2 * h.tlp.tc) 2 != 0 then (false, false)
  else
    let i := Reg.CORE_PORT_BW h.inPort
    let e := Reg.CORE_PORT_BW h.outPort
    let ok := isSet s Reg.CORE_CTRL Fld.CORE_CTRL_CT_EN && decide (getF s e Fld.CORE_PORT_BW_BW ≤ getF s i Fld.CORE_PORT_BW_BW) &&
      !((isSet s i Fld.CORE_PORT_BW_FLIT || (portLink s h.inPort).isSome) && isPcie s h.outPort && !isSet s e Fld.CORE_PORT_BW_FLIT) &&
      rateSettled s h.outPort
    (ok, !ok)

/-- A TLP waits for its rest. -/
def stow (s : State) (x : Stowed) : State := { s with core := { s.core with storing := s.core.storing ++ [x] } }

/-- From stage 5 to stage 6 (R85): a TLP joins its pacing queue or its VOQ. -/
def stage6 (s : State) (h : Held) : State :=
  let src := match h.fab with | some f => f.srcNode == nodeId s | none => false
  match (if src then h.frc else none) with
  | none => toVoq s h
  | some i =>
    match frc s i with
    | none => toVoq s h
    | some f =>
      let f := { refill s f with lastTlp := s.time }
      if !f.queue.isEmpty ∨ (f.rate < f.rmax ∧ f.tokens < 0) then
        setFrc s i { f with queue := f.queue ++ [{ h with paced := true, cut := false }] }
      else
        let cost : Int := (h.tlp.payload + 32) * 1600
        toVoq (setFrc s i (if f.rate < f.rmax then { f with tokens := f.tokens - cost } else f)) h

/-- A refusal of cut-through is counted (R67). -/
def cutCount (s : State) (h : Held) : State :=
  if (cutGrant s h).2 then pcCore (bump s Reg.CORE_CTFB_CNT) 0x103 (h.inPort % 64) else s

/-- A TLP that is charged goes on where it is whole or cut through, and is stored until its rest has come in otherwise (R67). -/
def place (s : State) (h : Held) : State :=
  let cut := (cutGrant s h).1
  let s := cutCount s h
  if h.rest && !cut then stow s (.voq h) else stage6 s { h with cut := cut }

/-- Stage 5 (R61–R64): the TLP is charged; a droppable one that is refused is dropped, and its credits go back (log entry 118). -/
def storeTlp (s : State) (h : Held) : State :=
  match chargeCells s h with
  | none => smpDone (returnCredits (countDrop s) h) h 2 0
  | some (h, s) => place s h

/-- The ingress capture point, after stage 4 (R91, R425). -/
def capture (s : State) (h : Held) : Held × State :=
  let q := if h.outPort < 64 then voqCells s h.outPort h.vc h.tlp.cls.code else 0
  let s := pcCore (comet s 0 (h.inPort % 64) h.tsIn h q false) 0x100 (h.inPort % 64)
  let (sm, s) := smpTake s (h.inPort % 64) h
  ({ h with sample := sm }, s)

/-- A TLP that has passed stage 4: with its epoch (R160) and its context. -/
def passed (s : State) (h : Held) : Held × State :=
  let (h, s) := takeCtx s { h with epoch := epoch s % 4, waited := false }
  capture s h

/-- A checked TLP takes its context and is stored. -/
def launch (s : State) (h : Held) : State := let (h, s) := passed s h; storeTlp s h

/-- A request is delivered to a function of the part, which carries it out before the command ends: its credits go back. -/
def deliverNow (s : State) (d : LocalDue) : State :=
  let s := smpDone (returnCredits s d.held) d.held 1 0
  { s with core := { s.core with localDue := s.core.localDue ++ [d] } }

/-- A checked request for a function of the part takes its context and is delivered once it is whole (R20, R109). -/
def deliverFn (s : State) (h : Held) (mk : Held → LocalDue) : State :=
  let (h, s) := passed s { h with outPort := 64 }
  if h.rest then stow s (.due (mk h)) else deliverNow s (mk h)

/-- A copy of a broadcast message is charged to the shared pool and goes on; its port's failure is logged (R55, R57, log entry 20). -/
def copyTo (s : State) (v : Nat) (o : Origin) (h : Held) (p k : Nat) : State :=
  let h := { h with outPort := p }
  match access s v o p (some k) h.tlp with
  | some r => logFail s h 4 r
  | none =>
    if h.tlp.lossy && !admits s h.inPort 3 h.cells then countDrop s
    else place (addShared s h.inPort (poolClass h) h.cells) { h with shared := true }

/-- A broadcast message leaves on every port below: one TLP at the ingress point, whose credits go back at once (R55, R91). -/
def broadcast (s : State) (v : Nat) (o : Origin) (h : Held) (ps : List (Nat × Nat)) : State :=
  let (h, s) := passed s { h with outPort := ((ps.map (fun x => x.1)).head?).getD 64 }
  let s := smpDone (returnCredits s h) h 0 0
  forEach ps s (fun s x => copyTo s v o { h with sample := none } x.1 x.2)

/-! ### The fabric side (R23, R70–R72, R134, R220) -/

/-- The requester ID under which a request is issued on a port: PROXY_RID, where 0 on an upstream port selects the management
function of its vSwitch (R134). -/
def proxyId (s : State) (rid p : Nat) : Nat :=
  if rid = 0 then (match upVsw s p with | some v => hostId s v fnMgmt | none => 0) else rid

/-- A request issued on a local port from the fabric side (R56, R125, R129, R134): `arr` as it arrived waits where no context can be had. -/
def issue (s : State) (arr h : Held) (p rid : Nat) (allowed : Bool) : State :=
  let h := { h with outPort := p, tlp := { h.tlp with reqId := proxyId s rid p } }
  if fromFabric s h && ctxLacks s h then ctxHold s arr
  else if !allowed then failCheck s h 0x05
  else
    match (match upVsw s p with | some w => upBlocks s w h.tlp | none => none) with
    | some r => failCheck s h r
    | none => match portFault s p with | some r => failCheck s h r | none => launch s h

/-- A TLP for a port of the partner that this twin serves (R220). -/
def serveTlp (s : State) (h : Held) (f : FabHdr) : State :=
  let p := f.destPort
  if !isSet s (Reg.TWIN_PORT_MAP p) Fld.TWIN_PORT_MAP_VALID then failTlp s h 3 0x0A
  else
    match famIn s.twin.shadowFam f.srcNode p h.tlp.addr with
    | none => failTlp s h 3 0x02
    | some (_, e) =>
      let a := (h.tlp.addr + (rd s (Reg.TWIN_PORT_OFS p)).toNat) % 2 ^ 64
      issue s h { h with tlp := { h.tlp with addr := a } } (getF s (Reg.TWIN_PORT_MAP p) Fld.TWIN_PORT_MAP_LOCAL_PORT)
        (getF s (Reg.TWIN_PORT_MAP p) Fld.TWIN_PORT_MAP_PROXY_RID) (e.allows h.tlp)

/-- A TLP for this node from the fabric, or from one of its own windows (R134, R136). -/
def arriveTlp (s : State) (h : Held) (f : FabHdr) : State :=
  match famIn s.fab.fam f.srcNode f.destPort h.tlp.addr with
  | none => failTlp s h 3 0x02
  | some (_, e) => issue s h h f.destPort e.proxyRid (e.allows h.tlp)

/-- The fabric side of this part is the TLP's destination: its own node, or the partner that it serves. -/
def fabHere (s : State) (node : Nat) : Bool := node == nodeId s || (serving s && node == partner s)

/-- A TLP at its destination on the fabric side. -/
def fabArrive (s : State) (h : Held) (f : FabHdr) : State := if f.destNode = nodeId s then arriveTlp s h f else serveTlp s h f

/-- Why stage 3 finds no way for a TLP that a FAM window sends into the fabric, if it finds none (R57, R138, R220). -/
def famRoute (s : State) (h : Held) (e : FamEnt) (addr : Nat) : Option Nat :=
  let me := nodeId s
  if e.node = me then (if (famIn s.fab.fam me e.port addr).isNone then some 0x02 else none)
  else if fabHere s e.node then
    if !isSet s (Reg.TWIN_PORT_MAP e.port) Fld.TWIN_PORT_MAP_VALID then some 0x0A
    else if (famIn s.twin.shadowFam me e.port addr).isNone then some 0x02 else none
  else if (hashedPath s me (h.inPort % 64) e.node h.vc).isNone then some 0x0A else none

/-- A TLP that a FAM window sends into the fabric (R23, R70–R72, R83, R138): the Mover's port 64 stands in the hash and in the header as 0
(log entry 111). -/
def enterFabric (s : State) (h : Held) (e : FamEnt) (addr : Nat) : State :=
  let me := nodeId s
  let hdr : FabHdr := { destNode := e.node, srcNode := me, destPort := e.port, srcVsw := h.vsw, path := 0, ctx := 0x3FFFF, gen := 0, sprayed := false,
                        marked := false, colour := h.colour, frc := none, lossy := h.tlp.lossy, remain := 0, srcPort := h.inPort % 64, kind := h.tlp.kind }
  let h := { h with tlp := { h.tlp with addr := addr }, fab := some hdr }
  if fabHere s e.node then
    let (fc, s) := frcTake s h.inPort e.node h.vc
    fabArrive s { h with frc := fc, fab := some { hdr with frc := fc } } hdr
  else
    match hashedPath s me (h.inPort % 64) e.node h.vc with
    | none => failTlp s h 3 0x0A
    | some k0 =>
      let (fc, s) := frcTake s h.inPort e.node h.vc
      let sp := sprayPath s h.tlp fc e.node h.vc e.noSpray
      let k := sp.getD k0
      let p := pathPort s e.node k
      if (portFault s p).isSome then failTlp s h 3 0x0A
      else
        let s := match sp, fc with | some j, some c => sprayCount s c j | _, _ => s
        launch s { h with frc := fc, path := k, sprayed := sp.isSome, outPort := p,
                          fab := some { hdr with frc := fc, path := k, sprayed := sp.isSome },
                          moveHold := moveHold s me (h.inPort % 64) e.node h.vc p }

/-! ### Completions (R22, R74, R149, R152) -/

/-- Completion bytes come in for a context (R149): the last ones, or an error status, end it. -/
def ctxTake (s : State) (i : Nat) (c : CtxEnt) (t : Tlp) : State :=
  let left := c.remain - t.payload
  if t.status ≠ 0 ∨ left = 0 then ctxFree s i true
  else { s with fab := { s.fab with ctxs := aput s.fab.ctxs i { c with remain := left, started := true } } }

/-- A late completion at the core (R152), which the ingress point sees as failed (log entry 116). -/
def lateHeld (s : State) (h : Held) (calez : Bool) (node gen id : Nat) : State :=
  let (sm, s) := smpTake s (h.inPort % 64) h
  let s := comet s 0 (h.inPort % 64) h.tsIn h 0 true
  smpDone (returnCredits (lateCpl s h.inPort calez node gen id h.tlp.cplId) h) { h with sample := sm } 2 0

/-- The vSwitch of a TLP from a PCIe port, where in it the TLP enters, and the ID under which the vSwitch knows its sender
(R55 step 1, R107, R111). -/
def resolve (s : State) (p rid : Nat) : Option (Nat × Origin × Nat) :=
  match upVsw s p with
  | some v => some (v, .host, rid)
  | none =>
    match directBridge s p with
    | some (v, k) => some (v, .bridge k, rid)
    | none =>
      match s.hosts.bind.find? (fun e => e.2.valid && e.2.kind != 2 && e.2.port == p && e.2.devRid == rid) with
      | some (_, e) => some (e.vsw, .bridge e.bridge, (s.func e.vsw (fnBridge e.bridge)).secBus * 256 + e.hostDevfn)
      | none => none

/-- The bridge between a function below a port and its vSwitch is contained (R123, R124). -/
def idContained (s : State) (p rid : Nat) : Bool :=
  match resolve s p rid with | some (v, .bridge k, _) => (s.func v (fnBridge k)).contained | _ => false

/-- REASON for which a completion that a context takes cannot go to the requester (R56, R123, R124). -/
def cplFault (s : State) (c : CtxEnt) (h : Held) : Option Nat :=
  if (isPcie s h.inPort && idContained s h.inPort h.ridIn) || (isPcie s c.inPort && idContained s c.inPort c.reqId) then some 0x06
  else if 64 ≤ c.inPort then none else portFault s c.inPort

/-- A completion of a source context goes to its requester, restored to its IDs (R22, R149, R239). -/
def cplSource (s : State) (i : Nat) (c : CtxEnt) (h : Held) : State :=
  let h' := { h with tlp := { h.tlp with destId := c.reqId, reqId := c.reqId, tag := c.tag }, outPort := c.inPort, vsw := c.vsw, ctx := some (i, c.gen) }
  match cplFault s c h with
  | some r => failTlp s h' 4 r
  | none =>
    if h.rest && !(cutGrant s h').1 then stow (cutCount s h') (.cpl h)
    else
      let (h', s) := capture (ctxTake s i c h.tlp) { h' with epoch := epoch s % 4 }
      if c.inPort < 64 then storeTlp s h'
      else smpDone (emit (returnCredits (fbNote s h' false) h') (.moverCpl c.vsw c.tag h'.tlp)) h' 1 0

/-- A completion of a destination context goes back on the path that the context records (R22, R74, R145). -/
def cplDest (s : State) (i : Nat) (c : CtxEnt) (h : Held) : State :=
  let p := pathPort s c.peerNode c.path
  let hdr : FabHdr := { destNode := c.peerNode, srcNode := nodeId s, destPort := 0, srcVsw := c.vsw, path := c.path, ctx := c.peerCtx, gen := c.peerGen,
                        sprayed := false, marked := false, colour := h.colour, frc := none, lossy := false, remain := 0, srcPort := c.outPort, kind := 2 }
  let h' := { h with fab := some hdr, outPort := p, path := c.path, vsw := c.vsw, vc := c.cvc, ctx := some (i, c.gen) }
  if !((servedRoute s c.peerNode).path c.path).configured then failTlp s h' 3 0x0A
  else
    match portFault s p with
    | some r => failTlp s h' 4 r
    | none =>
      if h.rest && !(cutGrant s h').1 then stow (cutCount s h') (.cpl h)
      else
        let (fc, s) := frcTake (ctxTake s i c h.tlp) c.outPort c.peerNode c.cvc
        let (h', s) := capture s { h' with fab := some { hdr with frc := fc }, frc := fc, epoch := epoch s % 4,
                                           moveHold := moveHold s (nodeId s) c.outPort c.peerNode c.cvc p }
        storeTlp s h'

/-- A completion from a PCIe port, matched by (port, tag), or for IDE by (port, requester ID, tag) (R147, R294). -/
def cplPcie (s : State) (p : Nat) (h : Held) : State :=
  match s.fab.ctxs.find? (fun e => e.2.outPort == p && !e.2.outCalez && e.2.outTag == some h.tlp.tag && (!h.tlp.ide || e.2.reqId == h.tlp.destId)) with
  | some (i, c) => if c.source then cplSource s i c h else cplDest s i c h
  | none => lateHeld { s with fab := { s.fab with quarantine := adel s.fab.quarantine (p * 16384 + h.tlp.tag) } } h false 0 0 h.tlp.tag

/-- A completion from a Calez port for this node, matched by (context ID, generation). -/
def cplCalez (s : State) (h : Held) (f : FabHdr) : State :=
  match ctx s f.ctx with
  | some c => if c.source ∧ c.gen = f.gen then cplSource s f.ctx c h else lateHeld s h true f.srcNode f.gen f.ctx
  | none => lateHeld s h true f.srcNode f.gen f.ctx

/-- A completion reaches its context: again, where it waited for its rest. -/
def cplArrive (s : State) (h : Held) : State := match h.fab with | some f => cplCalez s h f | none => cplPcie s h.inPort h

/-- A function of the part answers a request: the answer ends the request's context as a completion does; where that has ended, the answer is
late (R149, R152). -/
def answerOwn (s : State) (v : Nat) (h : Held) (t : Tlp) : State :=
  match h.ctx with
  | none => s
  | some (i, g) =>
    match (ctx s i).filter (fun c => c.gen == g) with
    | none => lateCpl s 64 false 0 g i t.cplId
    | some c =>
      let s := ctxTake s i c t
      if 64 ≤ h.inPort then moverGive s v h.tagIn t.status t.data else sendOwn s t h.inPort v h.vc

/-! ### A TLP arrives -/

/-- Core VC of a TLP on a port (R53): VC7 for an MCTP message to a management function. -/
def classVc (s : State) (p : Nat) (t : Tlp) : Nat :=
  let mgmt := t.mctp && (match resolve s p t.reqId with | some (v, o, _) => lookup s v o t == .func fnMgmt | none => false)
  if mgmt then 7 else tcVc s p t.tc

/-- A TLP as it arrives. -/
def arrival (s : State) (t : Tlp) (p v vc colour : Nat) (rest : Bool) : Held :=
  { ownHeld s t 0 v vc with ridIn := (if t.cls = .completion then t.cplId else t.reqId), inPort := p, colour := colour, shared := false, rest := rest }

/-- A list with a member or without it. -/
def member (l : List Nat) (x : Nat) (on : Bool) : List Nat := if on then (if l.contains x then l else l ++ [x]) else l.filter (fun y => y != x)

/-- The bytes of a double word that the byte enables of a write name, in place of the old ones. -/
def mergeBe (be old data : Nat) : Nat :=
  let byte := fun (i : Nat) => (if be.testBit i then bitsAt data (8 * i) 8 else bitsAt old (8 * i) 8) * 256 ^ i
  byte 0 + byte 1 + byte 2 + byte 3

/-- What the part learns of the function `rid` below port `p` from a write that it forwards (R108): its memory enables, and the base of a BAR or of the
expansion ROM, whose enable is bit 0. -/
def learn (s : State) (p rid : Nat) (r : CfgReq) : State :=
  let k := fnKey p rid
  let size := Config.barSizeOf p rid r.reg
  if !r.write then s
  else if r.reg = 1 then
    if r.be.testBit 0 then
      { s with hosts := { s.hosts with fnMse := member s.hosts.fnMse k (r.data.testBit 1), fnBme := member s.hosts.fnBme k (r.data.testBit 2) } }
    else s
  else if ((4 ≤ r.reg ∧ r.reg < 10) ∨ r.reg = 12) ∧ size ≠ 0 then
    let high := Config.regOf p rid r.reg == 3 && r.reg != 12
    let b := if high then r.reg - 1 else r.reg
    let l := agetD s.hosts.ranges k []
    let old := match l.find? (fun x => x.1 == b) with | some x => x.2.1 | none => 0
    let w := mergeBe r.be (if high then old / 4294967296 else old % 4294967296) r.data
    let base := if high then old % 4294967296 + w * 4294967296 else old / 4294967296 * 4294967296 + w / 16 * 16
    let base := base / size * size
    let gone := l.filter (fun x => x.1 != b)
    { s with hosts := { s.hosts with ranges := aput s.hosts.ranges k (if r.reg = 12 && !w.testBit 0 then gone else gone ++ [(b, base, size)]) } }
  else s

/-- Stage 4 of a request or message that stage 3 has found a target for (R56, R57, R119, R120, R123–R125, R127, R129, R294): its REASON, if it fails. -/
def checkFail (s : State) (v : Nat) (o : Origin) (h : Held) (tg : Target) : Option Nat :=
  let t := h.tlp
  let composed := match o with | .bridge k => !isDirect s v k | _ => false
  if refused s v h.inPort t then some 0x08
  else if acsEntry s v o t t.reqId then some 0x03
  else
    match entryBlocks s v o t with
    | some r => some r
    | none =>
      match tg with
      | .fail _ r => some r
      | .fam _ _ _ => if t.ide then some 0x0F else none
      | .port p via t' =>
        if t.ide && (composed || (match via with | some k => !isDirect s v k | none => false)) then some 0x0F else access s v o p via t'
      | _ => none

/-- Stages 3 and 4 of a request or message of vSwitch `v`, then its queue, or the function that it is for (R52, R55–R57, R146): where it can have no context
it waits before stage 4, and stage 3 looks it up anew afterwards (log entry 115). -/
def request (s : State) (v : Nat) (o : Origin) (h : Held) : State :=
  let h := { h with org := some o }
  let t := h.tlp
  let tg := lookup s v o t
  let lost := match tg with
    | .fail 3 r => some r
    | .fam _ e a => famRoute s h e a
    | _ => none
  if mode s = 5 ∧ ¬ serviceAllows t tg then failTlp s h 4 0x09
  else if t.op = .memReadLocked then failTlp s h 3 0x07
  else
    match lost with
    | some r => failTlp s h 3 r
    | none =>
      if ctxLacks s h then ctxHold s h
      else
        match checkFail s v o h tg with
        | some r => failCheck s (match tg with | .port p _ _ => { h with outPort := p } | _ => h) r
        | none =>
          match tg with
          | .fail _ _ => s
          | .cfg => deliverFn s h (.cfg v (cfgOf t))
          | .func fn => deliverFn s h (.mem v fn 6 0)
          | .bar fn b ofs => deliverFn s h (.mem v fn b ofs)
          | .fam _ e a => enterFabric s h e a
          | .ports ps => broadcast s v o h ps
          | .port p _ t' => launch (if isCfg t && !(cfgOf t').type1 then learn s p t'.destId (cfgOf t') else s) { h with tlp := t', outPort := p }

/-- Bus B is captured from a Type 0 configuration write on the upstream port (R103). -/
def busCapture (s : State) (v : Nat) (o : Origin) (t : Tlp) : State :=
  if o = .host ∧ t.op = .cfgWrite false then s.modVsw v (fun x => { x with bus := t.destId / 256 % 256 }) else s

/-- A TLP on a PCIe port, whole or with its rest still to come in, passes stages 1 to 6 (R52). -/
def ingressTlp (s : State) (p : Nat) (t : Tlp) (rest : Bool) : State :=
  let rid := if t.cls = .completion then t.cplId else t.reqId
  let s := pcPort s p 0x100
  let flit := isSet s (Reg.PORT_STATUS p) Fld.PORT_STATUS_FLIT
  let wideTag := decide (1024 ≤ t.tag) && t.cls != .completion && !flit && (upVsw s p).isSome
  if t.malformed || decide (mpsIn s p < t.payload) || wideTag then
    failTlp s (arrival s t p ((upVsw s p).getD 0) (classVc s p t) 0 rest) 1 0x0B
  else
    let vc := classVc s p t
    let (colour, s) := if vc = 7 then (0, s) else meter s p t.tc rid t.payload
    match resolve s p rid with
    | none => failTlp s (arrival s t p 0 vc colour rest) 3 0x01
    | some (v, o, id) =>
      let h := { arrival s t p v vc colour rest with org := some o }
      if t.cls = .completion then cplPcie s p { h with tlp := { t with cplId := id } }
      else request (busCapture s v o t) v o { h with tlp := { t with reqId := id } }

/-- A TLP from a Calez link at this part (R55, R179, R220, R221). -/
def fabricTlp (s : State) (h : Held) (f : FabHdr) : State :=
  let cpl := h.tlp.cls == .completion
  if f.destNode = nodeId s then if cpl then cplCalez s h f else arriveTlp s h f
  else if fabHere s f.destNode then if cpl then bump (lateHeld s h true f.srcNode f.gen f.ctx) Reg.TWIN_ORPHAN_CNT else serveTlp s h f
  else
    match hashedPath s f.srcNode f.srcPort f.destNode h.vc with
    | none => failTlp s h 3 0x0A
    | some k =>
      let q := pathPort s f.destNode k
      if (portFault s q).isSome then failTlp s h 3 0x0A
      else
        let (h, s) := capture s { h with outPort := q, epoch := epoch s % 4, moveHold := moveHold s f.srcNode f.srcPort f.destNode h.vc q }
        storeTlp s h

/-- A TLP comes over a Calez link: its first segment, with the rest still to come in, or whole. -/
def fabricIngress (s : State) (n : Nat) (f : FabHdr) (t : Tlp) (vc : Nat) (rest : Bool) : State :=
  match linkPort s n with
  | none => s
  | some p =>
    fabricTlp s { arrival s t p f.srcVsw vc f.colour rest with fab := some f, marked := f.marked, sprayed := f.sprayed, frc := f.frc, path := f.path,
                                                               ctx := none, ridIn := t.reqId } f

/-- A request of a Mover instance enters the core as from a port of its own, under its Mover PF (R239, R240). -/
def moverIngress (s : State) (v n : Nat) (t : Tlp) : State :=
  request s v .mover { arrival s t 64 v (tcVc s (upPort s v) t.tc) 0 false with ridIn := hostId s v fnMover, inst := some n }

/-- Requests that wait for a context are tried again, in the arrival order of their ingress port; those that can have one go on (R146). -/
def retryCtx (s : State) : State :=
  forEach s.core.ctxWait { s with core := { s.core with ctxWait := [] } } (fun s h =>
    if ctxLacks s h then ctxHold s h
    else
      match h.org, h.fab with
      | some o, _ => request s h.vsw o h
      | none, some f => fabricTlp s h f
      | none, none => s)

end Sys2Proof.Machine
end

