-- ==== Sys2Proof/Machine/Egress.lean ====
section
/-!
DEFINITION. Machine/Egress.lean: stage 8: the egress scheduler, sending on PCIe and Calez links, and a port that goes down
(R65, R66, R68, R69, R72, R144, R147, R149, R160–R163, R177–R182, R289–R294).
-/
namespace Sys2Proof.Machine

/-! ### Sending on a Calez link -/

/-- Bytes of a TLP on the wire: its header and its payload. -/
def wireBytes (t : Tlp) : Nat := (wireHdr t).length + t.data.length

/-- A frame of a TLP, or the abort frame of one (R177, R178). -/
def tlpFrame (h : Held) (first last : Bool) (len : Nat) (body : FrameBody) : Frame :=
  { type := 1, vc := h.vc, pool := h.tlp.cls.code, first := first, last := last, abort := body == .abort, seq := 0, ack := 0, len := len,
    cr0 := none, cr1 := none, session := 0, body := body }

/-- The frames of a TLP (R178, R179): segments of 256 bytes, the fabric header and the TLP in the first. -/
def tlpFrames (h : Held) (f : FabHdr) : List Frame :=
  let n := 16 + wireBytes h.tlp
  let k := (n + 255) / 256
  (List.range k).map (fun i => tlpFrame h (i == 0) (i + 1 == k) (min 256 (n - 256 * i))
    (if i = 0 then .tlp f (asSent h.tlp) else .part (((calezBytes f h.tlp).drop (256 * i)).take 256)))

/-- The fabric header with which a TLP leaves (R179, R180): its mark, and at its source node the µs left to its deadline. -/
def fabOut (s : State) (h : Held) : FabHdr :=
  let f := h.fab.getD { destNode := nodeId s, srcNode := nodeId s, destPort := 0, srcVsw := h.vsw, path := 0, ctx := 0x3FFFF, gen := 0,
                        sprayed := false, marked := false, colour := h.colour, frc := none, lossy := h.tlp.lossy, remain := 0, srcPort := h.inPort % 64, kind := h.tlp.kind }
  let left := match h.ctx with
    | some (i, _) => (match ctx s i with | some c => if c.source then c.deadline - timeUs s else f.remain | none => f.remain)
    | none => f.remain
  { f with marked := f.marked || h.marked, remain := if h.tlp.cls = .nonPosted then left else 0 }

/-- An ICP packet has begun to leave on a link and has segments to come (R178). -/
def icpBegun (l : Link) : Bool := match l.txq with | x :: _ => !x.frame.first | [] => false

/-- Credits and replay store of a link for a TLP, with no other object in progress on VC7 (R178, R181, R182, R186). -/
def calezReady (s : State) (n : Nat) (h : Held) : Bool :=
  czActive s n && !(s.link n).quietAsked && !(h.vc == 7 && icpBegun (s.link n)) && decide (4 * h.cells ≤ czCredits s n h.vc h.tlp.cls.code) && storeRoom s n (tlpFrames h (fabOut s h))

/-- The frames of a TLP as the replay store keeps them: the TLP with its last segment (R185). -/
def tlpStored (s : State) (h : Held) : List Stored :=
  (tlpFrames h (fabOut s h)).map (fun f => ⟨f, if f.last then some { h with cells := 0 } else none⟩)

/-- A TLP leaves on a Calez link (R182); of one whose rest is still to come in, the first segment, the others being owed. -/
def sendCalez (s : State) (n : Nat) (h : Held) : State :=
  let fs := tlpStored s h
  let s := czCharge s n h.vc h.tlp.cls.code (4 * h.cells)
  if h.rest then forEach (fs.take 1) (s.modLink n (fun l => { l with owed := aset [] l.owed h.vc (fs.drop 1) })) (fun s x => czSend s n x)
  else forEach fs s (fun s x => czSend s n x)

/-- The segments that a VC of a link owes leave. -/
def sendOwed (s : State) (n vc : Nat) : State :=
  let fs := agetD (s.link n).owed vc []
  forEach fs (s.modLink n (fun l => { l with owed := adel l.owed vc })) (fun s x => czSend s n x)

/-- An object in progress on a VC of a link ends unusable: the abort frame (R178), which is not charged (R182). -/
def sendAbort (s : State) (n : Nat) (h : Held) : State :=
  czSend (s.modLink n (fun l => { l with owed := adel l.owed h.vc })) n ⟨tlpFrame h false true 0 .abort, none⟩

/-! ### Sending on a PCIe port -/

/-- A header with the Length of `n` bytes at the TLP's address in it. -/
def lengthHdr (t : Tlp) (n : Nat) : List Byte :=
  let b := wireHdr t
  let k := prefixBytes b
  patch b (k + 2) (natBe 2 (num b (k + 2) 1 / 4 * 1024 + (t.addr % 4 + n + 3) / 4 % 1024))

/-- The header of the first `n` bytes of a TLP that is split (R292): a write has every byte of its last double word. -/
def firstHdr (t : Tlp) (n : Nat) : List Byte :=
  let b := lengthHdr t n
  let k := prefixBytes b
  if t.op = .completion then b else patch b (k + 7) (natBe 1 (num b (k + 7) 1 % 16 + (if t.addr % 4 + n ≤ 4 then 0 else 240)))

/-- The header of what is left of a TLP that is split (R292): a write has every byte of its first double word, a completion its own Byte Count and
Lower Address. -/
def restHdr (t : Tlp) : List Byte :=
  let b := lengthHdr t t.data.length
  let k := prefixBytes b
  if t.op = .completion then patch (patch b (k + 6) (natBe 2 (t.status % 8 * 8192 + t.len % 4096))) (k + 11) (natBe 1 (t.addr % 128))
  else patch b (k + 7) (natBe 1 (num b (k + 7) 1 / 16 * 16 + 15))

/-- The pieces of a TLP at an egress Max_Payload_Size `m` (R292): writes break at multiples of `m`, completions of 64 bytes. -/
def tlpPieces : Nat → Nat → Tlp → List Tlp
  | 0, _, t => [t]
  | fuel + 1, m, t =>
    let cpl := t.op == .completion
    if !(t.op == .memWrite || cpl) || decide (t.data.length ≤ m) then [t]
    else
      let n := if cpl then m - t.addr % 64 else m - t.addr % m
      let left := { t with data := t.data.drop n, len := t.len - n, addr := if cpl then (t.addr + n) % 128 else t.addr + n }
      { t with data := t.data.take n, len := if cpl then t.len else n, hdr := firstHdr t n } :: tlpPieces fuel m { left with hdr := restHdr { left with hdr := t.hdr } }

/-- Bytes of a port's replay store (R289), and bytes that its unacknowledged TLPs take. -/
def pcieStore (s : State) (p : Nat) : Nat :=
  match portSlot s p with
  | some (t, i) => (if t < 8 then 32768 else 8192) * slotWidth (tileSplit s t) i
  | none => 0
def pcieUsed (s : State) (p : Nat) : Nat := ((s.port p).unacked.map (fun x => wireBytes x.2.tlp)).sum

/-- Header and data credits that a TLP takes. -/
def dataCredits (t : Tlp) : Nat := (t.data.length + 15) / 16

/-- Credits of the link partner for TLPs of a class (R65, R291); none has come by UpdateFC: not limited (log entry 22). -/
def pcieCredits (s : State) (p : Nat) (ts : List Tlp) (c : Nat) : Bool :=
  match aget (s.port p).fcLimit c with
  | none => true
  | some (lh, ld) =>
    let (uh, ud) := agetD (s.port p).fcUsed c (0, 0)
    decide (uh + ts.length ≤ lh) && decide (ud + (ts.map dataCredits).sum ≤ ld)

/-- LTSSM state of a port. -/
def ltssm (s : State) (p : Nat) : Nat := getF s (Reg.PORT_STATUS p) Fld.PORT_STATUS_LTSSM

/-- Link, credits and replay store of a PCIe port for a TLP. -/
def pcieReady (s : State) (p : Nat) (h : Held) : Bool :=
  let ts := tlpPieces 64 (mpsOut s p) h.tlp
  isSet s (Reg.PORT_STATUS p) Fld.PORT_STATUS_DL_ACTIVE && ltssm s p == 4 && pcieCredits s p ts h.tlp.cls.code &&
    decide (pcieUsed s p + (ts.map wireBytes).sum ≤ pcieStore s p)

/-- One TLP, a piece of a held one, enters the replay store and leaves. -/
def pcieTx (s : State) (p : Nat) (h : Held) (t : Tlp) : State :=
  let x := s.port p
  let (uh, ud) := agetD x.fcUsed t.cls.code (0, 0)
  let x := { x with unacked := x.unacked ++ [(x.txSeq, { h with tlp := t, cells := 0 })], txSeq := (x.txSeq + 1) % 4096,
                    fcUsed := aput x.fcUsed t.cls.code (uh + 1, ud + dataCredits t) }
  pcPort (emit (injectCrc (s.modPort p (fun _ => x)) Uk.port p) (.tlp p (asSent t))) p 0x101

/-- The last TLP begun on a port is nullified (R68): it took no sequence number and no credits, and is not in the replay store. -/
def pcieNullify (s : State) (p : Nat) (h : Held) : State :=
  let x := s.port p
  let (uh, ud) := agetD x.fcUsed h.tlp.cls.code (0, 0)
  let s := if x.unacked.any (fun u => u.2.id == h.id) then
      s.modPort p (fun x => { x with unacked := x.unacked.filter (fun u => u.2.id != h.id), txSeq := (x.txSeq + 4095) % 4096,
                                     fcUsed := aput x.fcUsed h.tlp.cls.code (uh - 1, ud - dataCredits h.tlp) })
    else s
  emit s (.nullified p (asSent h.tlp))

/-- A non-posted request that leaves on a PCIe port takes its tag (R147, R294). -/
def giveTag (s : State) (p : Nat) (h : Held) : Held × State :=
  match (if h.tlp.cls = .nonPosted ∧ isPcie s p then h.ctx else none) with
  | none => (h, s)
  | some (i, _) =>
    match ctx s i with
    | none => (h, s)
    | some c =>
      let t := if h.tlp.ide then some h.tlp.tag else freeTag s p
      ({ h with tlp := { h.tlp with tag := t.getD h.tlp.tag } }, { s with fab := { s.fab with ctxs := aput s.fab.ctxs i { c with outTag := t } } })

/-- A TLP leaves on a PCIe port, in pieces where it exceeds the egress Max_Payload_Size (R292). -/
def sendPcie (s : State) (p : Nat) (h : Held) : State :=
  let ts := tlpPieces 64 (mpsOut s p) h.tlp
  let s := if 1 < ts.length then bump s (Reg.PORT_SPLIT_CNT p) else s
  forEach ts s (fun s t => pcieTx s p h t)

/-! ### Eligibility (R65, R69, R72, R144) -/

/-- Hash bucket of a requester ID (R69). -/
def idoBucket (rid : Nat) : Nat := bitsAt rid 0 6 ^^^ bitsAt rid 6 6 ^^^ bitsAt rid 12 4

/-- The posted fence of a TLP is met (R69): the posted TLPs of its ingress port that were enqueued before it have left. -/
def fenceMet (s : State) (p : Nat) (h : Held) : Bool :=
  let ahead := (voq s p h.vc 0).filter (fun x => x.inPort == h.inPort && decide (x.id < h.id))
  match h.tlp.cls with
  | .posted => true
  | c =>
    if c = .completion ∧ h.tlp.ro then true
    else if h.tlp.ido && isSet s Reg.CORE_CTRL Fld.CORE_CTRL_IDO_EN then ahead.all (fun x => idoBucket x.ridIn != idoBucket h.ridIn)
    else ahead.isEmpty

/-- The spray fence holds a TLP (R72): at its source node, without RO and not sprayed, while its flow's counters are not all 0. -/
def sprayHeld (s : State) (h : Held) : Bool :=
  match h.fab, h.frc with
  | some f, some i => f.srcNode == nodeId s && f.destNode != nodeId s && !h.tlp.ro && !h.sprayed && (match frc s i with | some x => !x.settled | none => false)
  | _, _ => false

/-- The request needs a remapped tag and the pool has none (R147). -/
def tagMissing (s : State) (p : Nat) (h : Held) : Bool :=
  isPcie s p && h.ctx.isSome && h.tlp.cls == .nonPosted && !h.tlp.ide && (freeTag s p).isNone

/-- The egress link can take a TLP now: link, credits, replay store. -/
def linkReady (s : State) (p : Nat) (h : Held) : Bool := match portLink s p with | some n => calezReady s n h | none => pcieReady s p h

/-- A TLP that has begun to leave holds the port, or on a Calez port its VC, until its rest has left (R67, R178); one that is to be split leaves
whole (log entry 117). -/
def wireFree (s : State) (p : Nat) (h : Held) : Bool :=
  !s.core.leaving.any (fun x => x.outPort == p && (isPcie s p || x.vc == h.vc)) &&
    !(h.rest && isPcie s p && decide (1 < (tlpPieces 64 (mpsOut s p) h.tlp).length))

/-- A head of a VOQ is eligible (R65). -/
def eligible (s : State) (p : Nat) (h : Held) : Bool :=
  linkReady s p h && wireFree s p h && !tagMissing s p h && fenceMet s p h && !sprayHeld s h && decide (h.moveHold ≤ s.time)

/-- The classes of a VC in their round robin, from behind the class served last: posted 0, completion 2, non-posted 1. -/
def classOrder (last : Option Nat) : List Nat :=
  match last with | some 0 => [2, 1, 0] | some 2 => [1, 0, 2] | _ => [0, 2, 1]

/-- The head that a VC offers: its class and itself. -/
def vcHead (s : State) (p vc : Nat) : Option (Nat × Held) :=
  ((classOrder (aget s.core.lastCls (p * 8 + vc))).filterMap (fun c => ((voq s p vc c).head?).map (fun h => (c, h)))).find? (fun x => eligible s p x.2)

def setDeficit (s : State) (p vc d : Nat) : State := { s with core := { s.core with deficit := aset 0 s.core.deficit (p * 8 + vc) d } }

/-- Deficit-weighted round robin among VC0–VC6 (R65 step 2) from VC `vc`, whose turn it is: the VC that serves, with its
deficit reduced by the bytes served. -/
def drr : Nat → Nat → Nat → State → (Nat → Option (Nat × Held)) → Option (Nat × State)
  | 0, _, _, _, _ => none
  | fuel + 1, p, vc, s, hd =>
    let d := agetD s.core.deficit (p * 8 + vc) 0
    let s := { s with core := { s.core with lastVc := aput s.core.lastVc p vc } }
    let next := fun (s : State) =>
      let w := (vc + 1) % 7
      let q := 64 * max 1 (getF s (Reg.SCHED_QUANTUM p) (Fld.SCHED_QUANTUM_Q_VC w))
      drr fuel p w (if (hd w).isSome then setDeficit s p w (agetD s.core.deficit (p * 8 + w) 0 + q) else s) hd
    match hd vc with
    | some (_, h) => if wireBytes h.tlp ≤ d then some (vc, setDeficit s p vc (d - wireBytes h.tlp)) else next s
    | none => next (setDeficit s p vc 0)

/-- The TLP that the scheduler of a port takes: its VC, its class and itself. -/
def schedPick (s : State) (p : Nat) : Option (Nat × Nat × Held × State) :=
  match vcHead s p 7 with
  | some (c, h) => some (7, c, h, s)
  | none =>
    if (List.range 7).all (fun v => (vcHead s p v).isNone) then none
    else
      match drr 600 p (agetD s.core.lastVc p 6) s (vcHead s p) with
      | some (v, s') => (vcHead s p v).map (fun x => (v, x.1, x.2, s'))
      | none => none

/-! ### The recheck (R163) -/

/-- The check of a rechecked request against the rules of its own vSwitch: binding, routing and ACS in force.  What was routed by ID needs its
target's binding (log entry 119). -/
def recheckLocal (s : State) (v : Nat) (o : Origin) (h : Held) (id : Nat) : Option Nat :=
  let t := { h.tlp with reqId := id, addr := h.addrIn }
  let bound := fun (p : Nat) => upPort s v == p || (match directBridge s p with | some (w, _) => w == v | none => false) ||
    s.hosts.bind.any (fun e => e.2.valid && e.2.kind != 2 && e.2.vsw == v && e.2.port == p && e.2.devRid == t.destId)
  if acsEntry s v o t id then some 0x03
  else if t.route = .byAddress ∧ !t.isMessage then
    match lookup s v o t with
    | .port p _ _ => if p = h.outPort then none else some 0x02
    | .fam _ e _ => (match h.fab with | some f => if f.destNode = e.node then none else some 0x02 | none => some 0x02)
    | .fail _ r => some r
    | _ => some 0x02
  else if t.route = .byId ∧ ¬ bound h.outPort then some (if o = .host then 0x02 else 0x01)
  else none

/-- The check against the inbound entries of the node that a TLP has reached. -/
def recheckInbound (s : State) (h : Held) : Option Nat :=
  match h.fab with
  | none => none
  | some f =>
    let tbl := if f.destNode = nodeId s then some s.fab.fam else if serving s ∧ f.destNode = partner s then some s.twin.shadowFam else none
    match tbl with
    | none => none
    | some tbl =>
      let a := if f.srcNode = nodeId s then h.tlp.addr else h.addrIn
      match famIn tbl f.srcNode f.destPort a with
      | none => some 0x02
      | some (_, e) => if e.allows h.tlp then none else some 0x05

/-- REASON for which a flagged request fails its recheck, if it does. -/
def recheckFail (s : State) (h : Held) : Option Nat :=
  let own :=
    if fromFabric s h then none
    else if 64 ≤ h.inPort then recheckLocal s h.vsw .mover h h.ridIn
    else
      match resolve s h.inPort h.ridIn with
      | none => some 0x01
      | some (v, o, id) => if v = h.vsw then recheckLocal s v o h id else some 0x01
  match own with
  | some r => some r
  | none => recheckInbound s h

/-! ### The scheduler -/

/-- Heads that wait for a tag, or that a spray fence holds, are counted once (R147, event 0x106). -/
def countWaits (s : State) (p : Nat) : State :=
  forEach ((List.range 8).flatMap (fun v => (List.range 3).map (fun c => (v, c)))) s (fun s x =>
    match voq s p x.1 x.2 with
    | [] => s
    | h :: q =>
      if h.waited then s
      else
        let tag := tagMissing s p h
        let spr := (portLink s p).isSome && sprayHeld s h
        if tag || spr then
          let s := setVoq s p x.1 x.2 ({ h with waited := true } :: q)
          let s := if tag then bump s Reg.CTX_WAIT_CNT else s
          if spr then pcCore s 0x106 p else s
        else s)

/-- A TLP goes onto its link. -/
def sendOn (s : State) (p : Nat) (h : Held) : State := match portLink s p with | some n => sendCalez s n h | none => sendPcie s p h

/-- A TLP has been taken from its VOQ and leaves: captured at the egress point, sent, its cells freed once it is whole (R52 stage 8, R67, R160). -/
def depart (s : State) (p : Nat) (h : Held) (depth : Nat) : State :=
  let (h, s) := giveTag s p h
  let s := sendOn (pcCore (comet s 1 p s.time h depth false) 0x101 p) p h
  if h.rest then smpLeaves { s with core := { s.core with leaving := s.core.leaving ++ [h] } } h else smpDone (freeHeld s h) h 0 0

/-- A TLP that has begun to leave ends unusable on its link (R68): nullified, or closed by an abort frame. -/
def spoil (s : State) (p : Nat) (h : Held) : State := match portLink s p with | some n => sendAbort s n h | none => pcieNullify s p h

/-- What of a TLP is on its link when a read of a cell after the first fails: the first segment on a Calez link; on a PCIe port nothing is kept of it. -/
def beginOn (s : State) (p : Nat) (h : Held) : State := match portLink s p with | some n => sendCalez s n { h with rest := true } | none => s

/-- A TLP begins to leave and ends unusable (R59). -/
def departSpoilt (s : State) (p : Nat) (h : Held) (depth : Nat) : State :=
  let (h, s) := giveTag s p h
  let s := bump (spoil (beginOn (comet s 1 p s.time h depth false) p h) p h) Reg.CORE_NULLIFY_CNT
  dropHeld (smpDone (smpLeaves s h) h 3 0) { h with sample := none } 0x0E

/-- The TLP is on more than one frame of a Calez link; on a PCIe port it leaves as it is read. -/
def streams (s : State) (p : Nat) (h : Held) : Bool := if (portLink s p).isSome then decide (1 < (tlpFrames h (fabOut s h)).length) else true

/-- The read of a TLP's cells at egress (R59): with an uncorrectable error in the header slot it is discarded with its outcome; with one in the payload
it leaves poisoned where that is found before it begins to leave, in its first cell, and is ended unusable otherwise (which cell, log entry 112);
a CONTAINED fault is raised; a corrected word counts. -/
def egressRead (s : State) (p : Nat) (h : Held) (depth : Nat) : State :=
  if h.bad = 0 then depart s p h depth
  else if h.bad = 3 then depart (correctableBy s h.badInj ⟨Uk.core, 0⟩ 2 1 0x0100) p h depth
  else
    let (cell, s) := draw s 18
    let s := detectBy s h.badInj 0x0101 .contained Uk.core 0 cell
    if h.bad = 1 then dropHeld s h 0x0E
    else if cell % h.cells = 0 ∨ ¬ streams s p h then depart s p { h with tlp := { h.tlp with poisoned := true } } depth
    else departSpoilt s p h depth

/-- The egress scheduler of a port takes one eligible head and sends it, or drops a flagged one that fails its recheck (R65, R163). -/
def egress (s : State) (p : Nat) : State :=
  let s := countWaits s p
  match schedPick s p with
  | none => s
  | some (v, c, h, s) =>
    let depth := voqCells s p v c
    let s := setVoq s p v c ((voq s p v c).drop 1)
    let s := { s with core := { s.core with lastCls := aput s.core.lastCls (p * 8 + v) c } }
    if h.recheck then
      let s := bump s Reg.EPOCH_RECHECK_CNT
      match recheckFail s h with
      | some r => dropHeld (bump s Reg.EPOCH_RECHECK_FAIL_CNT) h r
      | none => egressRead s p h depth
    else egressRead s p h depth

/-! ### The rest of a TLP (R67, R68) -/

/-- A TLP whose rest is still to come in on a port, or on one VC of it. -/
def arrivingOn (p : Nat) (vc : Option Nat) (h : Held) : Bool :=
  h.rest && h.inPort == p && (match vc with | some v => h.vc == v | none => true)

/-- A TLP stored until it is whole goes on. -/
def stowedOn (s : State) : Stowed → State
  | .voq h => stage6 s { h with rest := false }
  | .due d => deliverNow s (d.map (fun h => { h with rest := false }))
  | .cpl h => cplArrive s { h with rest := false }

/-- A TLP that the part has not accepted ends: no outcome; its context is freed and its cells are released (R68). -/
def unaccepted (s : State) (h : Held) : State :=
  let s := match (if h.tlp.cls = .nonPosted then h.ctx else none) with | some (i, _) => ctxFree s i false | none => s
  smpDone (ungrip s h) h 3 0

/-- TLPs that have begun to leave and that `p` picks are taken out. -/
def dropLeaving (s : State) (p : Held → Bool) : State := { s with core := { s.core with leaving := s.core.leaving.filter (fun h => !p h) } }

/-- The rest of the TLP that arrives on a port, or on one VC of it, has come in (R67), or cannot (R68). -/
def restEnd (s : State) (p : Nat) (vc : Option Nat) (good : Bool) : State :=
  let mine := arrivingOn p vc
  let stowed := s.core.storing.filter (fun x => mine x.held)
  let gone := s.core.leaving.filter mine
  let s := dropLeaving { s with core := { s.core with storing := s.core.storing.filter (fun x => !mine x.held) } } mine
  if good then
    let s := forEach gone (mapQueued s (fun h => if mine h then { h with rest := false } else h)) (fun s h =>
      smpDone (freeHeld (match portLink s h.outPort with | some n => sendOwed s n h.vc | none => s) h) h 0 0)
    forEach stowed s stowedOn
  else
    let begun := (queuedHeld s).filter mine
    let s := forEach stowed (dropQueued s mine) (fun s x => match x with | .voq h => unaccepted s h | .due d => unaccepted s { d.held with cells := 0 } | .cpl h => smpDone s h 3 0)
    let s := forEach begun s (fun s h => unaccepted (if h.cut then bump s Reg.CORE_NULLIFY_CNT else s) h)
    forEach gone s (fun s h => unaccepted (bump (spoil s h.outPort h) Reg.CORE_NULLIFY_CNT) h)

/-- A TLP on a PCIe port (R52, R67, R68): whole, its header and first data, or what becomes of the rest. -/
def ingress (s : State) (p : Nat) (t : Tlp) (a : Arrival) : State :=
  match a with
  | .whole => ingressTlp s p t false
  | .first => ingressTlp s p t true
  | .restGood => restEnd s p none true
  | .restBad => restEnd s p none false

/-! ### A port goes down (R66, R68, R149) -/

/-- TLPs in the VOQs of a port. -/
def voqsOf (s : State) (p : Nat) : List Held := (s.core.voqs.filter (fun e => e.1 / 24 == p)).flatMap (fun e => e.2)

/-- Every TLP in the VOQs of a port is dropped (R66). -/
def dropVoqs (s : State) (p : Nat) : State :=
  let hs := voqsOf s p
  let s := { s with core := { s.core with voqs := s.core.voqs.filter (fun e => e.1 / 24 != p) } }
  forEach hs s (fun s h => dropHeld s h 0x0C)

/-- TLPs that had begun to leave on a port, and those that a PCIe port has sent and its partner has not acknowledged: each once (R66). -/
def dropBegun (s : State) (p : Nat) : State :=
  let gone := s.core.leaving.filter (fun h => h.outPort == p)
  let sent := ((s.port p).unacked.map (fun u => u.2)).foldl (fun l h => if (gone ++ l).any (fun x => x.id == h.id) then l else l ++ [h]) []
  let s := (dropLeaving s (fun h => h.outPort == p)).modPort p (fun x => { x with unacked := [] })
  let s := forEach gone s (fun s h => dropHeld s h 0x0C)
  forEach (sent.filter (fun h => h.tlp.cls != .nonPosted)) s (fun s h => dropHeld s { h with sample := none, sprayed := false } 0x0C)

/-- Contexts whose PCIe OUT_PORT left L0 or triggered DPC (R149): Unsupported Request at their source node, otherwise a
report entry with the REASON. -/
def ctxPortDown (s : State) (p reason : Nat) : State :=
  forEach (s.fab.ctxs.filter (fun e => e.2.outPort == p && !e.2.outCalez)) s (fun s e =>
    let s := bump s Reg.ORPHAN_CNT
    if e.2.source then ctxKill s e.1 true
    else ferNonPosted (ctxFree (unqueueCtx s e.1) e.1 false) e.2.peerNode e.2.peerCtx e.2.peerGen e.2.vsw reason p)

/-- What the core does when the link of a port goes down; `reason` 0x0C, or 0x06 for DPC.  A request that waits for the port ends with its
context (R149). -/
def corePortDown (s : State) (p reason : Nat) : State := dropVoqs (ctxPortDown (dropBegun (restEnd s p none false) p) p reason) p

/-! ### Pacing and the sweep (R85, R149, R150) -/

/-- The path of a TLP that leaves its pacing queue, by the route table in force, and the state with a sprayed one counted on it instead of on the path
that it had (R71, R85); a completion keeps its path. -/
def pacedPath (s : State) (i : Nat) (h : Held) (f : FabHdr) : Option (Nat × Bool) × State :=
  if h.tlp.cls = .completion then (some (h.path, false), s)
  else
    let s := if h.sprayed then (match frc s i with | some x => setFrc s i (frcAck s x h.path 1) | none => s) else s
    match (if h.sprayed then sprayPath s h.tlp (some i) f.destNode h.vc false else none) with
    | some k => (some (k, true), sprayCount s i k)
    | none => ((hashedPath s f.srcNode f.srcPort f.destNode h.vc).map (fun k => (k, false)), s)

/-- The head of a pacing queue passes to its VOQ on the route then in force, once it is whole (R85). -/
def pacingRelease (s : State) (i : Nat) : State :=
  match frc s i with
  | none => s
  | some f =>
    match f.queue with
    | [] => s
    | h :: q =>
      let f := refill s f
      if h.rest ∨ (f.tokens < 0 ∧ f.rate < f.rmax) then s
      else
        let cost : Int := (h.tlp.payload + 32) * 1600
        let s := setFrc s i { f with queue := q, tokens := if f.rate < f.rmax then f.tokens - cost else f.tokens, lastTlp := s.time }
        match h.fab with
        | none => toVoq s h
        | some fh =>
          if fabHere s fh.destNode then (match portFault s h.outPort with | some r => dropHeld s h r | none => toVoq s h)
          else
            match pacedPath s i h fh with
            | (none, s) => dropHeld s { h with sprayed := false } 0x0A
            | (some (k, spr), s) =>
              let p := pathPort s fh.destNode k
              let h := { h with outPort := p, path := k, sprayed := spr, fab := some { fh with path := k, sprayed := spr },
                                moveHold := moveHold s fh.srcNode fh.srcPort fh.destNode h.vc p }
              if (portFault s p).isSome then dropHeld s h 0x0A
              else
                let own := if h.tlp.cls = .nonPosted then h.ctx.bind (fun x => (ctx s x.1).map (fun c => (x.1, c))) else none
                toVoq (match own with
                  | some (c, x) => { s with fab := { s.fab with ctxs := aput s.fab.ctxs c { x with outPort := p, path := k } } }
                  | none => s) h

/-- The sweep visits a context (R149): one past its deadline ends. -/
def sweep (s : State) (i : Nat) : State :=
  match ctx s i with
  | some c =>
    if c.deadline < timeUs s then
      if c.source then ctxKill (bump s Reg.CTO_CNT) i false else ctxFree (unqueueCtx s i) i false
    else s
  | none => s

/-- QUAR_TIME of a quarantined tag has passed (R150). -/
def quarantineEnd (s : State) (p tag : Nat) : State := { s with fab := { s.fab with quarantine := adel s.fab.quarantine (p * 16384 + tag) } }

/-- A move fence ends (R144): the TLPs that it holds become eligible. -/
def moveEnd (s : State) (d : Nat) : State :=
  mapQueued { s with cong := { s.cong with moves := adel s.cong.moves d } } (fun h =>
    match h.fab with | some f => if f.destNode = d then { h with moveHold := 0 } else h | none => h)

/-- A flow-rate context is retired (R84). -/
def frcRetire (s : State) (i : Nat) : State :=
  match frc s i with
  | some f => if f.settled && f.queue.isEmpty then { s with cong := { s.cong with frcs := adel s.cong.frcs i } } else s
  | none => s

/-- Outside modes 3 and 4 there are no flow-rate contexts and no feedback (R101): what waited in their pacing queues goes on to its VOQ. -/
def frcsEnd (s : State) : State :=
  if mode s = 3 ∨ mode s = 4 then s
  else
    let waiting := s.cong.frcs.flatMap (fun e => e.2.queue)
    forEach waiting { s with cong := { s.cong with frcs := [], feedback := [] } } (fun s h => toVoq s { h with frc := none, sprayed := false })

/-- The feedback frame whose first entry is oldest is sent (R88). -/
def feedbackHold (s : State) : State :=
  match s.cong.feedback with
  | [] => s
  | e :: r => fbSend s (r.foldl (fun (a : FbEntry) b => if b.since < a.since then b else a) e).node

/-! ### Fabric Error Reports sent (R155–R157) -/

/-- A frame for a source node is due (R155): a closed slot or a non-posted entry waits, 15 entries wait, or FER_HOLD has passed since the first. -/
def ferDue (s : State) (node : Nat) : Bool :=
  s.fab.ferQueue.any (fun e => e.1 == node) || decide (15 ≤ (ferFor s node).length) ||
    s.fab.ferOpen.any (fun e => e.1 == node && decide (e.2.2 + us (getF s Reg.FER_CTRL Fld.FER_CTRL_FER_HOLD) ≤ s.time))

/-- The frame towards a node is settled: the next one leaves if it is due (R155, R156). -/
def ferNext (s : State) (node : Nat) : State :=
  let s := { s with fab := { s.fab with ferSent := s.fab.ferSent.filter (fun y => y.node != node) } }
  if ferDue s node then ferSend s node else s

/-- A FER frame is not acknowledged in time (R156): sent again, at most three times, then discarded. -/
def ferRetry (s : State) (node : Nat) : State :=
  match s.fab.ferSent.find? (fun x => x.node == node) with
  | none => s
  | some x =>
    let rest := s.fab.ferSent.filter (fun y => y.node != node)
    if x.resends < 3 then
      ferEmit { s with fab := { s.fab with ferSent := rest ++ [{ x with resends := x.resends + 1 }] } } node x.seq x.entries
    else ferNext (detect (bump s Reg.FER_LOST_CNT) 0x0213 .contained Uk.fabric 0 node) node

end Sys2Proof.Machine
end

