-- ==== Sys2Proof/Machine/MoverOps.lean ====
section
/-!
DEFINITION. Machine/MoverOps.lean: Mover instances, descriptors, engines, translation, dirty logging and quiescing (R234–R256).
-/
namespace Sys2Proof.Machine

/-! ### Instances (R234–R237) -/

/-- STATE of an instance: 0 UNBOUND, 1 DISABLED, 2 ENABLED, 3 QUIESCING, 4 QUIESCED, 5 ERROR. -/
abbrev Im.disabled : Nat := 1
abbrev Im.enabled : Nat := 2
abbrev Im.quiescing : Nat := 3
abbrev Im.quiesced : Nat := 4
abbrev Im.error : Nat := 5

/-- The vSwitch to which an instance is bound; the Mover is unavailable in mode 5 (R234). -/
def instVsw (s : State) (n : Nat) : Option Nat :=
  if mode s = 0 then (if n < 4096 then some 0 else none)
  else if mode s != 5 && isSet s (Reg.MV_INST_BIND n) Fld.MV_INST_BIND_VALID then some (getF s (Reg.MV_INST_BIND n) Fld.MV_INST_BIND_VSWITCH) else none

/-- State of an instance (R235): a bound instance that nothing has set otherwise is DISABLED. -/
def instState (s : State) (n : Nat) : Nat := if (instVsw s n).isSome then max 1 (getF s (Reg.INST_STATUS n) Fld.INST_STATUS_STATE) else 0
def setInstState (s : State) (n x : Nat) : State := setF s (Reg.INST_STATUS n) Fld.INST_STATUS_STATE x
def setLastErr (s : State) (n x : Nat) : State := setF s (Reg.INST_STATUS n) Fld.INST_STATUS_LAST_ERR x

/-- Fields of the set-up (R237). -/
def Inst.ringLog2 (i : Inst) : Nat := byteBits i.setup 8 0 5
def Inst.ringBase (i : Inst) : Nat := num i.setup 0 8 / 4096 * 4096
def Inst.maxPrio (i : Inst) : Nat := byteBits i.setup 9 0 3
def Inst.barEn (i : Inst) : Bool := bitAt i.setup 9 3
def Inst.fabricEn (i : Inst) : Bool := bitAt i.setup 9 4
def Inst.maxActive (i : Inst) : Nat := max 1 (min 16 (byteBits i.setup 10 0 5))
def Inst.pasid (i : Inst) : Nat := num i.setup 12 4 % 2 ^ 20

/-- The instances bound to a vSwitch. -/
def instsOf (s : State) (v : Nat) : List Nat := (List.range 4096).filter (fun n => instVsw s n == some v)

/-- An instance has a read outstanding: its ring's, an engine's, or that of a descriptor that has ended. -/
def instReads (s : State) (n : Nat) : Bool :=
  (s.inst n).fetching || (s.inst n).descs.any (fun d => match d.wait with | .read _ _ => true | .flush => true | _ => false) || s.mover.orphans.any (fun e => e.2 == n)

/-- A write of an instance is still in the part (R235). -/
def instWrites (s : State) (n : Nat) : Bool := (allHeld s).any (fun h => h.inst == some n && h.tlp.cls == .posted)

/-- An instance is quiesced in the sense of R45 (R235). -/
def instQuiet (s : State) (n : Nat) : Bool := instState s n != Im.enabled && instState s n != Im.quiescing && !instReads s n

def headOf (s : State) (n : Nat) : Nat := (rd s (Reg.INST_HEAD n)).toNat
def tailOf (s : State) (n : Nat) : Nat := (rd s (Reg.INST_TAIL n)).toNat

/-- IOVA of the slot of a count. -/
def slotIova (i : Inst) (slot : Nat) : Nat := i.ringBase + slot % 2 ^ i.ringLog2 * 64

/-- An instance stops in ERROR (R235, R238): LAST_ERR, interrupt entry 1, vector 0 of its Mover PF. -/
def instError (s : State) (n code : Nat) (signal : Bool) : State :=
  let s := setLastErr (setInstState s n Im.error) n code
  if signal then
    let s := instInterrupt s n 1
    match instVsw s n with | some v => msix s v fnMover 0 | none => s
  else s

/-! ### Descriptors (R239–R242) -/

def Desc.opcode (d : Desc) : Nat := num d.bytes 0 1
def Desc.noReplay (d : Desc) : Bool := bitAt d.bytes 1 0
def Desc.fence (d : Desc) : Bool := bitAt d.bytes 1 1
def Desc.irq (d : Desc) : Bool := bitAt d.bytes 1 2
def Desc.srcSpace (d : Desc) : Nat := byteBits d.bytes 2 3 2
def Desc.dstSpace (d : Desc) : Nat := byteBits d.bytes 2 5 2
def Desc.length (d : Desc) : Nat := num d.bytes 4 4
def Desc.src (d : Desc) : Nat := num d.bytes 8 8
def Desc.dst (d : Desc) : Nat := num d.bytes 16 8
def Desc.prio (d : Desc) (i : Inst) : Nat := min (byteBits d.bytes 2 0 3) i.maxPrio

/-- R241 finds a descriptor wrong. -/
def descBad (s : State) (i : Inst) (d : Desc) : Bool :=
  let space := fun x => x == 3 || (x == 1 && !((mode s == 3 || mode s == 4) && i.fabricEn)) || (x == 2 && !i.barEn)
  let copies := d.opcode == 1 || d.opcode == 3
  decide (3 < d.opcode) || d.length == 0 || decide (2 ^ 30 < d.length) || space d.dstSpace || space d.srcSpace ||
    decide (2 ^ 64 < d.dst + d.length) || (copies && decide (2 ^ 64 < d.src + d.length)) || byteBits d.bytes 1 3 5 != 0 || bitAt d.bytes 2 7 ||
    num d.bytes 3 1 != 0 || num d.bytes 36 12 != 0

/-- STATUS codes of R242. -/
abbrev Ds.ok : Nat := 0
abbrev Ds.badDesc : Nat := 1
abbrev Ds.badAddr : Nat := 2
abbrev Ds.xlatFault : Nat := 3
abbrev Ds.readError : Nat := 4
abbrev Ds.abortedQuiesce : Nat := 5
abbrev Ds.abortedBme : Nat := 6
abbrev Ds.abortedReset : Nat := 7
abbrev Ds.ringError : Nat := 8

/-! ### Requests of the Mover PF -/

/-- A memory request of the Mover PF (R240); a read has a tag. -/
def mvTlp (s : State) (v : Nat) (op : TlpOp) (addr len : Nat) (data : List Byte) (ro translated : Bool) (tag : Nat) : Tlp :=
  { op := op, route := .byAddress, tc := 0, ro := ro, ido := false, translated := translated, addr := addr, destId := 0, reqId := hostId s v fnMover,
    tag := tag, cplId := 0, status := 0, len := len, data := data, poisoned := false, mctp := false, lossy := false, malformed := false, ide := false,
    be := 0, hdr := [] }

/-- The checks of R55–R57 that the Mover applies to a request before it issues it (R241). -/
def mvAllowed (s : State) (v : Nat) (t : Tlp) : Bool :=
  let h := arrival s t 64 v (tcVc s (upPort s v) t.tc) 0 false
  let tg := lookup s v .mover t
  (checkFail s v .mover h tg).isNone &&
    (match tg with
     | .fam _ e a => (famRoute s h e a).isNone &&
         (fabHere s e.node || (match hashedPath s (nodeId s) 0 e.node h.vc with | some k => (portFault s (pathPort s e.node k)).isNone | none => false))
     | _ => true)

/-- ATS, PRI and PASID enables of a Mover PF. -/
def atsOn (s : State) (v : Nat) : Bool := (s.func v fnMover).ats.testBit 0
def priOn (s : State) (v : Nat) : Bool := (s.func v fnMover).ats.testBit 1

/-- An ATC entry gives an access (R244). -/
def AtcEnt.covers (a : AtcEnt) (v pasid iova : Nat) (write : Bool) : Bool :=
  a.vsw == v && a.pasid == pasid && decide (a.iova ≤ iova) && decide (iova < a.iova + a.size) && (if write then a.write else a.read)

/-- The address and AT of a request in a space (R240, R244): `none` asks for a translation. -/
def translate (s : State) (v n space a : Nat) (write : Bool) : Option (Nat × Bool × State) :=
  match space with
  | 1 => some (barBase s v fnMgmt 4 + a, false, s)
  | 2 => some (a, false, s)
  | _ =>
    if atsOn s v then
      match s.mover.atc.find? (fun x => x.covers v (s.inst n).pasid a write) with
      | some x => some (x.addr + (a - x.iova), true, { s with mover := { s.mover with atc := s.mover.atc.erase x ++ [x] } })
      | none => none
    else some (a, false, s)

/-- Max_Payload_Size and Max_Read_Request_Size of a Mover PF. -/
def mvMps (s : State) (v : Nat) : Nat := fnMps s v fnMover
def mvMrrs (s : State) (v : Nat) : Nat := 128 * 2 ^ min 5 (bitsAt (devCtl s v fnMover) 12 3)

/-! ### Dirty logging (R250, R252) -/

/-- The size of the dirty region, and its base, taken aligned to the size (R450). -/
def dirtySize (s : State) : Nat :=
  let k := getF s Reg.MV_DIRTY_REGION Fld.MV_DIRTY_REGION_SIZE_LOG2
  if k < 20 then 0 else 2 ^ min 32 k
def dirtyBase (s : State) : Nat :=
  let b := getF s Reg.MV_DIRTY_REGION Fld.MV_DIRTY_REGION_BASE * 4096
  if dirtySize s = 0 then b else b / dirtySize s * dirtySize s

/-- Bytes of a dirty copy. -/
def Dirty.bytes (d : Dirty) : Nat := (d.pages + 63) / 64 * 8

/-- A write of an instance in IOVA space sets the bit of its page (R250). -/
def logDirty (s : State) (n iova : Nat) : State :=
  match (s.inst n).dirty with
  | none => s
  | some d =>
    let page := (iova - d.iovaBase) / 4096
    if iova < d.iovaBase ∨ d.pages ≤ page then s.modInst n (fun i => { i with dirty := some { d with outOfRange := true } })
    else
      let a := dirtyBase s + d.ofs + page / 8
      let (go, s) := ddrAccess s a .write 5 1
      if go then { s with mem := memPut s.mem a (BitVec.ofNat 8 (setBit (memGet s.mem a).toNat (page % 8))) }
      else s.modInst n (fun i => { i with dirty := some { d with lost := true } })

/-! ### The end of a descriptor (R242, R243) -/

def setDesc (s : State) (n : Nat) (d : Desc) : State :=
  s.modInst n (fun i => { i with descs := i.descs.map (fun x => if x.slot = d.slot then d else x) })

/-- HEAD advances past the slots whose record, and every earlier one, has been written (R243). -/
def advanceHead : Nat → Nat → State → State
  | 0, _, s => s
  | fuel + 1, n, s =>
    let h := headOf s n
    if (s.inst n).written.contains h then
      advanceHead fuel n (wr (s.modInst n (fun i => { i with written := i.written.filter (fun x => x != h) })) (Reg.INST_HEAD n)
        (BitVec.ofNat 64 ((h + 1) % 2 ^ 32)))
    else s

/-- An engine's read no longer holds an invalidation back (R245). -/
def engineReadEnds (s : State) (e : Nat) : State :=
  { s with mover := { s.mover with invals := s.mover.invals.map (fun x => { x with engines := x.engines.filter (fun y => y != e) }) } }

/-- An engine waits for its read no more: it takes no other descriptor before the completion. -/
def orphanRead (s : State) (e n : Nat) (d : Desc) : State :=
  match d.wait with
  | .read _ _ | .flush => { s with mover := { s.mover with orphans := aput s.mover.orphans e n } }
  | _ => s

/-- A descriptor leaves the instance without a record: its engine is free, or waits for the read outstanding. -/
def dropDesc (s : State) (n : Nat) (d : Desc) : State :=
  let s := s.modInst n (fun i => { i with descs := i.descs.filter (fun x => x.slot != d.slot) })
  let s := { s with mover := { s.mover with prg := s.mover.prg.filter (fun x => x.2 != (n, d.slot)) } }
  match d.phase with | .running e => orphanRead s e n d | _ => s

/-- The count that stands for an instance's ring among the page requests: no slot has it. -/
abbrev ringSlot : Nat := 2 ^ 32

/-- The ring waits for nothing, and no page request of it is outstanding. -/
def ringDrop (s : State) (n : Nat) : State :=
  let s := s.modInst n (fun i => { i with ringWait := .none })
  { s with mover := { s.mover with prg := s.mover.prg.filter (fun x => x.2 != (n, ringSlot)) } }

/-- Every fetched descriptor of an instance ends without a record (R254): LAST_ERR and INST_ABORT_CNT record it. -/
def abortAll (s : State) (n code : Nat) : State :=
  let ds := (s.inst n).descs
  let k := ds.length + (s.inst n).recs.length
  let s := forEach ds s (fun s d => dropDesc s n d)
  let s := ringDrop (s.modInst n (fun i => { i with recs := [] })) n
  bumpN (setLastErr s n code) (Reg.INST_ABORT_CNT n) k

/-- A ring fetch or write-back has failed (R243). -/
def ringFail (s : State) (n : Nat) : State := instError (abortAll s n Ds.ringError) n Ds.ringError true

/-- The ring asks for a translation, unless it waits for one (R243, R244): an ATC miss. -/
def ringAsk (s : State) (v n iova : Nat) (write : Bool) : State :=
  if (s.inst n).ringWait = .none then
    emit (bump (s.modInst n (fun i => { i with ringWait := .xlat iova write })) Reg.MV_ATC_MISS_CNT) (.atsRequest v (s.inst n).pasid iova)
  else s

/-- The ring read of the next slot is issued, while the instance is ENABLED, its ring waits for nothing and a slot waits (R243); a read
that would fail its checks is not issued (R241). -/
def fetchNext (s : State) (n : Nat) : State :=
  let i := s.inst n
  if instState s n = Im.enabled ∧ !i.fetching ∧ i.ringWait = .none ∧ i.nextFetch ≠ tailOf s n ∧ !(List.range 16).all (fun e => isFenced s ⟨Uk.engine, e⟩) then
    match instVsw s n with
    | none => s
    | some v =>
      let a := slotIova i i.nextFetch
      match translate s v n 0 a false with
      | none => ringAsk s v n a false
      | some (addr, at_, s) =>
        let t := mvTlp s v .memRead addr 64 [] false at_ (16 + n)
        if mvAllowed s v t then
          emit (moverIngress (s.modInst n (fun i => { i with fetching := true })) v n t) (.fetch n (i.nextFetch % 2 ^ i.ringLog2))
        else ringFail s n
  else s

/-- Bytes of a completion record are written (R242): IOVA of the slot, logged as dirty; `none` where the write cannot be issued. -/
def writeRecord (s : State) (v n slot ofs : Nat) (bytes : List Byte) : Option State :=
  let a := slotIova (s.inst n) slot + ofs
  match translate s v n 0 a true with
  | none => none
  | some (addr, at_, s) =>
    let t := mvTlp s v .memWrite addr bytes.length bytes false at_ 0
    if mvAllowed s v t then some (moverIngress (logDirty s n a) v n t) else none

/-- The slot of a count has a translation for its record. -/
def recReady (s : State) (v n slot : Nat) : Bool := (translate s v n 0 (slotIova (s.inst n) slot + 48) true).isSome

/-- A descriptor ends with its completion record (R242): HEAD advances, its interrupt is raised; a record that cannot be written takes
the instance to ERROR (R243). -/
def recWrite (s : State) (v n : Nat) (d : Desc) (status : Nat) : State :=
  let s := bump s Reg.MV_DESC_CNT
  let s := if status = Ds.ok then s else setLastErr s n status
  let s := if status = Ds.xlatFault then bump s Reg.MV_XLAT_FAULT_CNT else s
  let crc := if d.opcode = 3 then d.crc else 0
  match writeRecord s v n d.slot 48 (natLe 2 status ++ zeros 2 ++ natLe 4 d.offset ++ natLe 4 crc) with
  | none => ringFail s n
  | some s =>
    match writeRecord s v n d.slot 60 (zeros 3 ++ [0x80#8]) with
    | none => ringFail s n
    | some s =>
      let s := advanceHead 65536 n (s.modInst n (fun i => { i with written := i.written ++ [d.slot] }))
      if d.irq then instInterrupt s n 0 else s

/-- A descriptor ends with a status (R242): its record is written, or waits for the translation of its slot (R243). -/
def descEnd (s : State) (n : Nat) (d : Desc) (status : Nat) : State :=
  match instVsw s n with
  | none => dropDesc s n d
  | some v =>
    let s := dropDesc s n d
    if recReady s v n d.slot then recWrite s v n d status
    else ringAsk (s.modInst n (fun i => { i with recs := i.recs ++ [(d, status)] })) v n (slotIova (s.inst n) d.slot + 48) true

/-- The ring goes on (R243): records that wait are written, oldest first, and the next slot is fetched. -/
def ringRun : Nat → State → Nat → Nat → State
  | 0, s, _, _ => s
  | fuel + 1, s, v, n =>
    match (s.inst n).recs with
    | [] => fetchNext s n
    | (d, status) :: rest =>
      if recReady s v n d.slot then ringRun fuel (recWrite (s.modInst n (fun i => { i with recs := rest })) v n d status) v n
      else ringAsk s v n (slotIova (s.inst n) d.slot + 48) true

/-- What the ring waited for has come. -/
def ringGo (s : State) (v n : Nat) : State := ringRun ((s.inst n).recs.length + 1) (ringDrop s n) v n

/-! ### Parking (R244) -/

/-- The lowest PRG index of a PF that is not outstanding, within the allocation that the host has written. -/
def freePrg (s : State) (v : Nat) : Option Nat :=
  (List.range (min 512 (agetD (s.func v fnMover).other 187 0))).find? (fun k => (aget s.mover.prg (v * 512 + k)).isNone)

/-- Parked descriptors, and then rings, that wait for a PRG index take free ones, and their page requests leave. -/
def askPages (s : State) (v : Nat) : State :=
  let waiting := (instsOf s v).flatMap (fun n => ((s.inst n).descs.filter (fun d => d.phase == .parked none)).map (fun d => (n, d)))
  let s := forEach waiting s (fun s x =>
    match freePrg s v with
    | none => s
    | some k =>
      let a := match x.2.wait with | .xlat iova _ => iova | _ => 0
      let s := setDesc s x.1 { x.2 with phase := .parked (some k) }
      emit { s with mover := { s.mover with prg := aput s.mover.prg (v * 512 + k) (x.1, x.2.slot) } } (.pageRequest v k (s.inst x.1).pasid a))
  forEach (instsOf s v) s (fun s n =>
    match (s.inst n).ringWait, freePrg s v with
    | .parked none a w, some k =>
      let s := s.modInst n (fun i => { i with ringWait := .parked (some k) a w })
      emit { s with mover := { s.mover with prg := aput s.mover.prg (v * 512 + k) (n, ringSlot) } } (.pageRequest v k (s.inst n).pasid a)
    | _, _ => s)

/-- The Mover PF may send page requests (R244). -/
def mayPark (s : State) (v : Nat) : Bool := resumeEn s && priOn s v && !s.mover.prgStopped.contains v

/-- A ring access met no access (R243): with MOVER_FAULT_RESUME_EN the instance's fetching parks, otherwise it stops in ERROR. -/
def ringDenied (s : State) (v n iova : Nat) (write : Bool) : State :=
  if mayPark s v then askPages (s.modInst n (fun i => { i with ringWait := .parked none iova write })) v else ringFail s n

/-- The instances of a vSwitch whose ring is parked stop in ERROR (R243, R244). -/
def ringsFail (s : State) (v : Nat) : State :=
  forEach ((instsOf s v).filter (fun n => match (s.inst n).ringWait with | .parked _ _ _ => true | _ => false)) s ringFail

/-- A translation was denied (R244): with MOVER_FAULT_RESUME_EN the descriptor parks at its committed offset, or with NO_REPLAY where
its bytes have not yet been used (R249); otherwise it ends. -/
def noAccess (s : State) (v n : Nat) (d : Desc) : State :=
  if mayPark s v then
    let s := setDesc (pcMover (bump s Reg.MV_PARK_CNT) 0x102 (match d.phase with | .running e => e | _ => 0)) n
      (if d.noReplay then { d with phase := .parked none } else { d with phase := .parked none, done := 0, crcRun := d.crc })
    askPages s v
  else descEnd s n d Ds.xlatFault

/-! ### An engine at work (R240–R249) -/

/-- The descriptor on an engine, with its instance. -/
def engDesc (s : State) (e : Nat) : Option (Nat × Desc) :=
  (s.mover.insts.flatMap (fun x => x.2.descs.map (fun d => (x.1, d)))).find? (fun x => x.2.phase == .running e)

/-- The engine waits for a translation: an ATC miss. -/
def askXlat (s : State) (e v n : Nat) (d : Desc) (iova : Nat) (write : Bool) : State :=
  pcMover (emit (setDesc (bump s Reg.MV_ATC_MISS_CNT) n { d with wait := .xlat iova write }) (.atsRequest v (s.inst n).pasid iova)) 0x103 e

/-- Descriptor offset at which the chunk in progress ends (R248). -/
def Desc.chunkEnd (d : Desc) : Nat := min d.length (d.offset + (4096 - (d.dst + d.offset) % 4096))

/-- Bytes written in the chunk in progress advance by `k`; at the chunk's end the committed offset does (R248). -/
def advance (s : State) (e n : Nat) (d : Desc) (k crc : Nat) : State :=
  let d := { d with done := d.done + k, crcRun := crc }
  if d.offset + d.done < d.chunkEnd then setDesc s n d
  else
    let b := (rd s (Reg.INST_BYTES n)).toNat + d.done
    pcMover (wr (setDesc s n { d with offset := d.offset + d.done, done := 0, crc := crc }) (Reg.INST_BYTES n) (BitVec.ofNat 64 b)) 0x101 e

/-- The data write at the engine's position (R240, R250): `none` where a check fails. -/
def writeData (s : State) (v n : Nat) (d : Desc) (pos addr : Nat) (at_ : Bool) (bytes : List Byte) : Option State :=
  let t := mvTlp s v .memWrite addr bytes.length bytes true at_ 0
  if mvAllowed s v t then some (moverIngress (if d.dstSpace = 0 then logDirty s n (d.dst + pos) else s) v n t) else none

/-- An engine stops at a chunk boundary: pre-empted, quiesced with ABORT, or disabled (R247, R254, MV_CTRL). -/
def engStops (s : State) (e n : Nat) (d : Desc) : Option State :=
  if d.done ≠ 0 then none
  else if d.stopping = 3 then some (descEnd s n d Ds.abortedQuiesce)
  else if isFenced s ⟨Uk.engine, e⟩ && d.noReplay || !(getF s Reg.MV_CTRL Fld.MV_CTRL_ENG_EN).testBit e && d.noReplay then some (descEnd s n d Ds.readError)
  else if d.stopping = 2 ∨ !(getF s Reg.MV_CTRL Fld.MV_CTRL_ENG_EN).testBit e ∨ isFenced s ⟨Uk.engine, e⟩ then
    some (setDesc (orphanRead s e n d) n { d with phase := .pending, stopping := 0, wait := .none })
  else none

/-- One action of an engine: whether it goes on at once, and the state. -/
def engStep (s : State) (e v n : Nat) (d : Desc) : Bool × State :=
  let pos := d.offset + d.done
  if d.opcode = 0 then (false, descEnd s n d Ds.ok)
  else if d.offset = d.length then
    if d.dstSpace = 0 then (false, descEnd s n d Ds.ok)
    else
      let a := if d.dstSpace = 1 then barBase s v fnMgmt 4 + (d.dst + d.length - 1) else d.dst + d.length - 1
      let t := mvTlp s v .memRead a 0 [] false false e
      if mvAllowed s v t then (false, moverIngress (setDesc s n { d with wait := .flush }) v n t) else (false, descEnd s n d Ds.badAddr)
  else
    match engStops s e n d with
    | some s => (false, s)
    | none =>
      match translate s v n d.dstSpace (d.dst + pos) true with
      | none => (false, askXlat s e v n d (d.dst + pos) true)
      | some (da, dat, s) =>
        let mps := mvMps s v
        let room := min (d.chunkEnd - pos) (mps - (d.dst + pos) % mps)
        if d.opcode = 2 then
          let bytes := (List.range room).map (fun i => (natLe 8 d.src)[(pos + i) % 8]?.getD 0#8)
          match writeData s v n d pos da dat bytes with
          | none => (false, descEnd s n d Ds.badAddr)
          | some s => (true, advance s e n d room d.crcRun)
        else
          match translate s v n d.srcSpace (d.src + pos) false with
          | none => (false, askXlat s e v n d (d.src + pos) false)
          | some (sa, sat, s) =>
            let want := if d.noReplay then room else d.chunkEnd - pos
            let len := min want (min (mvMrrs s v) (4096 - (d.src + pos) % 4096))
            let t := mvTlp s v .memRead sa len [] true sat e
            if mvAllowed s v t then (false, moverIngress (setDesc s n { d with wait := .read pos len }) v n t)
            else (false, descEnd s n d Ds.badAddr)

/-- An engine works until it must wait for a read, a translation or a free descriptor. -/
def engRun : Nat → Nat → State → State
  | 0, _, s => s
  | fuel + 1, e, s =>
    match engDesc s e with
    | none => s
    | some (n, d) =>
      match d.wait, instVsw s n with
      | .none, some v =>
        match engStep s e v n d with
        | (true, s) => engRun fuel e s
        | (false, s) => s
      | _, _ => s

/-- Runs an engine as far as it goes. -/
def engGo (s : State) (e : Nat) : State := engRun (2 ^ 30) e s

/-! ### Dispatch and pre-emption (R243, R246, R247) -/

/-- FENCE holds a descriptor back no more (R239, R243): every earlier one of its instance has completed. -/
def fencePast (s : State) (n : Nat) (d : Desc) : Bool :=
  !d.fence || (((s.inst n).descs ++ (s.inst n).recs.map (fun x => x.1)).all (fun x =>
    decide ((d.slot + 2 ^ 32 - headOf s n) % 2 ^ 32 ≤ (x.slot + 2 ^ 32 - headOf s n) % 2 ^ 32)))

/-- A pending descriptor may start: MAX_ACTIVE, and FENCE (R243). -/
def mayStart (s : State) (n : Nat) (d : Desc) : Bool :=
  let i := s.inst n
  let st := instState s n
  (st == Im.enabled || st == Im.quiescing) && decide ((i.descs.filter (fun x => match x.phase with | .running _ => true | _ => false)).length < i.maxActive) &&
    fencePast s n d

/-- Pending descriptors that may start, in ring order within an instance, instances from behind the one served last. -/
def startable (s : State) : List (Nat × Desc) :=
  let all := s.mover.insts.flatMap (fun x => (x.2.descs.filter (fun d => d.phase == .pending && mayStart s x.1 d)).map (fun d => (x.1, d)))
  all.filter (fun x => decide (s.mover.lastInst < x.1)) ++ all.filter (fun x => decide (x.1 ≤ s.mover.lastInst))

/-- The descriptor that a free engine takes (R246). -/
def nextDesc (s : State) : Option (Nat × Desc) :=
  let l := startable s
  let top := (l.map (fun x => x.2.prio (s.inst x.1))).foldl max 0
  l.find? (fun x => x.2.prio (s.inst x.1) == top)

/-- An engine can take a descriptor: enabled, not fenced, with none on it and no read outstanding. -/
def engFree (s : State) (e : Nat) : Bool :=
  (getF s Reg.MV_CTRL Fld.MV_CTRL_ENG_EN).testBit e && !isFenced s ⟨Uk.engine, e⟩ && (engDesc s e).isNone && (aget s.mover.orphans e).isNone

/-- A free engine takes the pending descriptor of highest priority (R246). -/
def dispatch (s : State) (e : Nat) : State :=
  if mode s != 5 && engFree s e then
    match nextDesc s with
    | none => s
    | some (n, d) =>
      let s := setDesc s n { d with phase := .running e, wait := .none, stopping := 0, started := s.mover.order }
      engGo { s with mover := { s.mover with lastInst := n, order := s.mover.order + 1 } } e
  else s

/-- A pending descriptor of priority `pr` pre-empts the engine with the lowest priority, the one started last among equals (R247). -/
def preempt (s : State) (pr : Nat) : State :=
  let es := (List.range 16).filterMap (fun e => (engDesc s e).map (fun x => (e, x)))
  if (List.range 16).any (engFree s) || !resumeEn s then s
  else
    let key := fun (x : Nat × Nat × Desc) => (x.2.2.prio (s.inst x.2.1), x.2.2.started)
    match es.find? (fun x => es.all (fun y => decide ((key x).1 < (key y).1) || ((key x).1 == (key y).1 && decide ((key y).2 ≤ (key x).2)))) with
    | some (e, n, d) =>
      if d.prio (s.inst n) < pr ∧ !d.noReplay ∧ d.stopping = 0 then
        let s := pcMover (bump (setDesc s n { d with stopping := 2 }) Reg.MV_PREEMPT_CNT) 0x104 e
        match engDesc s e with
        | some (n, d) => (engStops s e n d).getD s
        | none => s
      else s
    | none => s

/-- A descriptor has become pending: it may pre-empt. -/
def pended (s : State) (n : Nat) (d : Desc) : State := if mayStart s n d then preempt s (d.prio (s.inst n)) else s

/-! ### Events of an instance -/

/-- A doorbell write (R243). -/
def tailWrite (s : State) (n count : Nat) : State :=
  if (count + 2 ^ 32 - headOf s n) % 2 ^ 32 ≤ 2 ^ (s.inst n).ringLog2 then fetchNext (wr s (Reg.INST_TAIL n) (BitVec.ofNat 64 (count % 2 ^ 32))) n
  else setF s (Reg.INST_STATUS n) Fld.INST_STATUS_DB_ERR 1

/-- A fetched slot arrives (R241, R243). -/
def fetchDone (s : State) (n : Nat) (ok : Bool) (bytes : List Byte) : State :=
  let i := s.inst n
  if (aget s.mover.orphans (16 + n)).isSome then
    bump (engineReadEnds { s with mover := { s.mover with orphans := adel s.mover.orphans (16 + n) } } (16 + n)) Reg.MV_DISCARD_CNT
  else if !i.fetching then s
  else
    let s := engineReadEnds (s.modInst n (fun i => { i with fetching := false })) (16 + n)
    if instState s n ≠ Im.enabled then (if instState s n = Im.error then bump s Reg.MV_DISCARD_CNT else s)
    else if !ok then ringFail s n
    else
      let b := fit 64 bytes
      let d : Desc := { slot := i.nextFetch, bytes := b, phase := .pending, offset := 0, done := 0, crc := num b 32 4, crcRun := num b 32 4, wait := .none,
                        started := 0, stopping := 0 }
      let s := s.modInst n (fun i => { i with descs := i.descs ++ [d], nextFetch := (i.nextFetch + 1) % 2 ^ 32 })
      let s := if d.opcode ≠ 0 ∧ descBad s i d then descEnd s n d Ds.badDesc
               else if d.opcode = 0 ∧ fencePast s n d then descEnd s n d Ds.ok
               else pended s n d
      fetchNext s n

/-- A source read, or the zero-length read before a record, completes (R243, R248). -/
def readDone (s : State) (e : Nat) (ok : Bool) (data : List Byte) : State :=
  match engDesc s e with
  | none =>
    match aget s.mover.orphans e with
    | some _ => bump (engineReadEnds { s with mover := { s.mover with orphans := adel s.mover.orphans e } } e) Reg.MV_DISCARD_CNT
    | none => s
  | some (n, d) =>
    match d.wait, instVsw s n with
    | .flush, some _ =>
      let d := { d with wait := .none }
      descEnd (engineReadEnds s e) n d (if ok then Ds.ok else Ds.readError)
    | .read pos len, some v =>
      let s := engineReadEnds s e
      let d := { d with wait := .none }
      if !ok then descEnd (setDesc s n d) n d Ds.readError
      else
        let bytes := fit len data
        let go := forEach (List.range (len / mvMps s v + 2)) (some (s, d, 0)) (fun (r : Option (State × Desc × Nat)) _ =>
          match r with
          | none => none
          | some (s, d, k) =>
            if len ≤ k then r
            else
              match translate s v n d.dstSpace (d.dst + pos + k) true with
              | none => some (s, d, len)
              | some (da, dat, s) =>
                let m := min (len - k) (mvMps s v - (d.dst + pos + k) % mvMps s v)
                let piece := (bytes.drop k).take m
                match writeData s v n d (pos + k) da dat piece with
                | none => none
                | some s =>
                  let crc := if d.opcode = 3 then crc32cRun (d.crcRun ^^^ 0xFFFFFFFF) piece ^^^ 0xFFFFFFFF else d.crcRun
                  let s := advance s e n d m crc
                  match engDesc s e with | some (_, d) => some (s, d, k + m) | none => none)
        match go with
        | none => match engDesc s e with | some (n, d) => descEnd s n { d with wait := .none } Ds.badAddr | none => s
        | some (s, d, _) => engGo (setDesc s n { d with wait := .none }) e
    | _, _ => s

/-- A granted translation is cached (R244): a vSwitch at its quota replaces its least recently used entry. -/
def atcPut (s : State) (v n iova size addr : Nat) (read write : Bool) : State :=
  let z := max 4096 size
  let x : AtcEnt := { vsw := v, pasid := (s.inst n).pasid, iova := iova / z * z, size := z, read := read, write := write, addr := addr / z * z }
  let mine := s.mover.atc.filter (fun y => y.vsw == v)
  let quota := getF s (Reg.MV_ATC_QUOTA v) Fld.MV_ATC_QUOTA_QUOTA
  let atc := if quota ≤ mine.length ∨ 16384 ≤ s.mover.atc.length then (match mine with | y :: _ => s.mover.atc.erase y | [] => s.mover.atc.drop 1) else s.mover.atc
  { s with mover := { s.mover with atc := atc ++ [x] } }

/-- The Mover's own context for a tag ends with its completion, where no completion has ended it (R149). -/
def mvCtxEnd (s : State) (tag : Nat) : State :=
  forEach (s.fab.ctxs.filter (fun e => e.2.source && e.2.inPort == 64 && e.2.tag == tag)) s (fun s e => ctxFree (unqueueCtx s e.1) e.1 true)

/-- Completions that the part itself makes for reads of the Mover arrive (R57, R151). -/
def moverDue (s : State) : State :=
  forEach s.mover.due { s with mover := { s.mover with due := [] } } (fun s x =>
    if x.1 < 16 then readDone s x.1 (x.2.1 == 0) x.2.2 else fetchDone s (x.1 - 16) (x.2.1 == 0) x.2.2)

/-- The interrupt writes raised enter the core (R238): posted, with the Mover PF's requester ID, where its requests may go. -/
def moverIrqs (s : State) : State :=
  forEach s.mover.irqs { s with mover := { s.mover with irqs := [] } } (fun s x =>
    match instVsw s x.1 with
    | none => s
    | some v =>
      let i := s.inst x.1
      let a := num i.setup (16 + 12 * x.2) 8
      let t := mvTlp s v .memWrite a 4 (fit 4 (i.setup.drop (24 + 12 * x.2))) false false 0
      if mvAllowed s v t then emit (moverIngress s v x.1 t) (.instInterrupt x.1 x.2 a (num i.setup (24 + 12 * x.2) 4)) else s)

/-- A translation completion for an engine arrives (R244). -/
def xlatDone (s : State) (e : Nat) (r : AtsResult) : State :=
  match engDesc s e with
  | none => s
  | some (n, d) =>
    match d.wait, instVsw s n with
    | .xlat iova write, some v =>
      match r with
      | .error => descEnd s n { d with wait := .none } Ds.xlatFault
      | .granted size addr rd_ wr_ =>
        if d.stopping = 3 ∧ d.done = 0 then descEnd s n { d with wait := .none } Ds.abortedQuiesce
        else if (if write then wr_ else rd_) then engGo (setDesc (atcPut s v n iova size addr rd_ wr_) n { d with wait := .none }) e
        else noAccess s v n d
    | _, _ => s

/-- A translation completion for the ring of an instance arrives (R243, R244); once fetching has stopped, a failure of a fetch's says
nothing (R254). -/
def ringXlatDone (s : State) (n : Nat) (r : AtsResult) : State :=
  match (s.inst n).ringWait, instVsw s n with
  | .xlat iova write, some v =>
    let idle := !write && instState s n != Im.enabled
    match r with
    | .error => if idle then ringGo s v n else ringFail s n
    | .granted size addr rd_ wr_ =>
      if (if write then wr_ else rd_) then ringGo (atcPut s v n iova size addr rd_ wr_) v n
      else if idle then ringGo s v n else ringDenied s v n iova write
  | _, _ => s

/-- A PRG Response (R244): code 0 Success, 1 Invalid Request, 15 Response Failure. -/
def prgResponse (s : State) (v index code : Nat) : State :=
  match aget s.mover.prg (v * 512 + index) with
  | none => bump s Reg.MV_PRG_STALE_CNT
  | some (n, slot) =>
    let s := { s with mover := { s.mover with prg := adel s.mover.prg (v * 512 + index) } }
    let s := match (s.inst n).descs.find? (fun d => d.slot == slot) with
      | none => if slot = ringSlot then (if code = 0 then ringGo s v n else ringFail s n) else s
      | some d =>
        if code = 0 then
          let d := { d with phase := .pending, wait := .none }
          pended (setDesc s n d) n d
        else descEnd s n { d with wait := .none } Ds.xlatFault
    if code = 0 ∨ code = 1 then askPages s v
    else
      let parked := (instsOf s v).flatMap (fun n => ((s.inst n).descs.filter (fun d => match d.phase with | .parked _ => true | _ => false)).map (fun d => (n, d)))
      let s := ringsFail (forEach parked s (fun s x => descEnd s x.1 { x.2 with wait := .none } Ds.xlatFault)) v
      msix { s with mover := { s.mover with prgStopped := if s.mover.prgStopped.contains v then s.mover.prgStopped else s.mover.prgStopped ++ [v] } } v fnMover 2

/-- The host writes the ATS, PRI and PASID enables of a Mover PF (R244). -/
def pfEnables (s : State) (v enables : Nat) : State :=
  let old := (s.func v fnMover).ats
  let s := s.modFunc v fnMover (fun f => { f with ats := enables % 8 })
  let lost := (List.range 3).any (fun i => old.testBit i && !enables.testBit i)
  let s := if old.testBit 1 && !enables.testBit 1 then { s with mover := { s.mover with prgStopped := s.mover.prgStopped.filter (fun w => w != v) } } else s
  if lost then
    let parked := (instsOf s v).flatMap (fun n => ((s.inst n).descs.filter (fun d => match d.phase with | .parked _ => true | _ => false)).map (fun d => (n, d)))
    ringsFail (forEach parked s (fun s x => descEnd s x.1 { x.2 with wait := .none } Ds.xlatFault)) v
  else s

/-- Two ranges overlap. -/
def overlaps (a an b bn : Nat) : Bool := decide (a < b + bn) && decide (b < a + an)

/-- An Invalidate Request (R245). -/
def invalidate (s : State) (v pasid iova size itag : Nat) : State :=
  let s := { s with mover := { s.mover with atc := s.mover.atc.filter (fun x => !(x.vsw == v && x.pasid == pasid && overlaps x.iova x.size iova size)) } }
  let es := (List.range 16).filter (fun e =>
    match engDesc s e with
    | some (n, d) =>
      (match d.wait with
       | .read pos len => instVsw s n == some v && (s.inst n).pasid == pasid && d.srcSpace == 0 && overlaps (d.src + pos) len iova size
       | _ => false)
    | none => match aget s.mover.orphans e with | some n => instVsw s n == some v | none => false)
  let rings := ((instsOf s v).filter (fun n => (s.inst n).fetching && (s.inst n).pasid == pasid &&
    overlaps (slotIova (s.inst n) (s.inst n).nextFetch) 64 iova size)).map (fun n => 16 + n)
  { s with mover := { s.mover with invals := s.mover.invals ++ [⟨v, itag, es ++ rings⟩] } }

/-- The Invalidate Completion is sent once no such read is outstanding (R245). -/
def invalDone (s : State) (v itag : Nat) : State :=
  match s.mover.invals.find? (fun x => x.vsw == v && x.itag == itag && x.engines.isEmpty) with
  | some x => emit (bump { s with mover := { s.mover with invals := s.mover.invals.erase x } } Reg.MV_INV_CNT) (.invalidateDone v itag)
  | none => s

/-! ### States of an instance (R235, R254) -/

/-- The set-up and what goes with it return to reset values (R254, R255). -/
def instClear (s : State) (n x : Nat) : State :=
  let s := s.modInst n (fun i => { Inst.init with dirty := i.dirty })
  let s := forEach [Reg.INST_STATUS n, Reg.INST_TAIL n, Reg.INST_HEAD n, Reg.INST_MB_CTRL n, Reg.INST_ABORT_CNT n, Reg.INST_BYTES n] s (fun s k => wr s k (resetOf k))
  setInstState { s with mover := { s.mover with relayPend := s.mover.relayPend.filter (fun x => x != n) } } n x

/-- ENABLE (R235, R237, R253). -/
def instEnable (s : State) (n : Nat) : State :=
  let st := instState s n
  let i := s.inst n
  if (st = 1 ∨ st = 4 ∨ st = 5) ∧ 4 ≤ i.ringLog2 ∧ i.ringLog2 ≤ 16 then
    let h := BitVec.ofNat 64 (num i.setup 44 4)
    let s := wr (wr (wr (setInstState s n Im.enabled) (Reg.INST_HEAD n) h) (Reg.INST_TAIL n) h) (Reg.INST_BYTES n) 0
    let s := if i.fetching then { s with mover := { s.mover with orphans := aput s.mover.orphans (16 + n) n } } else s
    zeroAlive (s.modInst n (fun i => { i with nextFetch := h.toNat, written := [], recs := [], ringWait := .none, fetching := false, byCtrl := false })) (Ch.mailbox n)
  else s

/-- DISABLE. -/
def instDisable (s : State) (n : Nat) : State := if instState s n = 4 ∨ instState s n = 5 then setInstState s n Im.disabled else s

/-- Fetching stops (R254): a ring parked on a fetch waits no more, but for a record to write. -/
def ringQuiet (s : State) (n : Nat) : State :=
  match (s.inst n).ringWait, instVsw s n with
  | .parked _ _ false, some v => ringGo s v n
  | _, _ => s

/-- QUIESCE, with or without ABORT (R254). -/
def instQuiesce (s : State) (n : Nat) (abort byCtrl : Bool) : State :=
  let st := instState s n
  if st = Im.enabled ∨ (st = Im.quiescing ∧ abort) then
    let s := setInstState s n Im.quiescing
    let s := ringQuiet (s.modInst n (fun i => { i with byCtrl := i.byCtrl || byCtrl })) n
    if abort then
      forEach (s.inst n).descs s (fun s d =>
        match d.phase with
        | .running e =>
          let s := setDesc s n { d with stopping := 3 }
          match engDesc s e with
          | some (m, x) => if x.wait = .none then (engStops s e m x).getD s else s
          | none => s
        | _ => descEnd s n { d with wait := .none } Ds.abortedQuiesce)
    else s
  else s

/-- The instances of a range that are not quiesced. -/
def notQuiet (s : State) (first count : Nat) : Nat := ((List.range count).filter (fun i => !instQuiet s (first + i))).length

/-- MOVER_QUIESCE commands whose instances are all quiesced are answered (R255). -/
def quiesceReplies (s : State) : State :=
  forEach s.mover.quiesces s (fun s q =>
    if notQuiet s q.first q.count = 0 then
      reply { s with mover := { s.mover with quiesces := s.mover.quiesces.erase q } } q.req St.ok (zeros 4)
    else s)

/-- A quiescing instance with nothing fetched, no read outstanding and no write in the part becomes QUIESCED (R235, R254). -/
def instQuiesced (s : State) (n : Nat) : State :=
  let i := s.inst n
  if instState s n = Im.quiescing ∧ i.descs.isEmpty ∧ i.recs.isEmpty ∧ !instReads s n ∧ !instWrites s n then
    let s := setInstState s n Im.quiesced
    let s := if i.byCtrl then (match instVsw s n with | some v => msix s v fnMover 1 | none => s) else s
    quiesceReplies (s.modInst n (fun i => { i with byCtrl := false }))
  else s

/-- BME of the Mover PF is cleared, or the PF enters D3hot (R254). -/
def mvBmeClear (s : State) (v : Nat) : State :=
  forEach ((instsOf s v).filter (fun n => instState s n == Im.enabled || instState s n == Im.quiescing)) s
    (fun s n => instError (abortAll s n Ds.abortedBme) n Ds.abortedBme false)

/-- Dirty logging of an instance stops with LOST (R252). -/
def dirtyLost (s : State) (n : Nat) : State :=
  s.modInst n (fun i => { i with dirty := i.dirty.map (fun d => { d with lost := true }) })

/-- FLR of the Mover PF, or HOST_PERST_N of its vSwitch (R125, R126, R254): descriptors are lost, tags retired, set-ups cleared. -/
def mvFlr (s : State) (v lastErr : Nat) : State :=
  let s := forEach ((s.fab.ctxs.filter (fun e => e.2.inPort == 64 && e.2.vsw == v && e.2.source)).map (fun e => e.1)) s (fun s i => ctxFree (unqueueCtx s i) i false)
  forEach (instsOf s v) s (fun s n =>
    let held := (s.mover.orphans.filter (fun e => e.2 != n))
    let s := { s with mover := { s.mover with orphans := held, prg := s.mover.prg.filter (fun x => x.2.1 != n) } }
    let s := if (s.inst n).dirty.isSome then setF (dirtyLost s n) (Reg.INST_STATUS n) Fld.INST_STATUS_DIRTY_ON 0 else s
    let s := instClear s n Im.disabled
    if lastErr = 0 then s else setLastErr s n lastErr)

/-- The set-up with its reserved bits 0 (R237). -/
def setupClean (b : List Byte) : List Byte :=
  let mask : List Nat := [0, 0xF0] ++ List.replicate 6 255 ++ [31, 31, 31, 0, 255, 255, 15, 0, 0xFC] ++ List.replicate 11 255 ++ [0xFC] ++ List.replicate 11 255 ++
    [15, 0, 0, 0, 255, 255, 255, 255] ++ List.replicate 16 0
  (b.zip mask).map (fun x => x.1 &&& BitVec.ofNat 8 x.2)

/-- A write to the set-up window (R237): discarded while ENABLED or QUIESCING but for the mask bits; a mask that clears sends
the interrupt it held (R238). -/
def setupWrite (s : State) (n ofs : Nat) (bytes : List Byte) : State :=
  let st := instState s n
  let i := s.inst n
  let old := num i.setup 40 1
  let locked := st == Im.enabled || st == Im.quiescing
  let b40 := if ofs ≤ 40 ∧ 40 < ofs + bytes.length then (num bytes (40 - ofs) 1) % 4 + old / 4 % 4 * 4 else old
  let base := if locked then fit 64 i.setup else setupClean (fit 64 (patch (fit 64 i.setup) ofs bytes))
  let s := s.modInst n (fun i => { i with setup := patch base 40 (natLe 1 b40) })
  forEach [0, 1] s (fun s e =>
    let m := num (s.inst n).setup 40 1
    if m.testBit (2 + e) && !m.testBit e then
      instInterrupt (s.modInst n (fun i => { i with setup := patch i.setup 40 (natLe 1 (clearBit m (2 + e))) })) n e
    else s)

/-- MB_FROM_DEVICE is freed (R253): the next reply takes it. -/
def mbAck (s : State) (n : Nat) : State :=
  let s := setF s (Reg.INST_STATUS n) Fld.INST_STATUS_MB_IN_FULL 0
  match (s.inst n).mbWait with
  | [] => s
  | p :: r => deliver (s.modInst n (fun i => { i with mbWait := r })) (Ch.mailbox n) 0 p

/-- Host software writes MB_REPLY (R253): the relay reply goes to the instance's mailbox. -/
def mbReply (s : State) (n len : Nat) (send : Bool) : State :=
  if send then
    match (s.inst n).relay with
    | some r => reply (s.modInst n (fun i => { i with relay := none })) r St.ok ((fit 64 (s.inst n).relayOut).take (min 48 len))
    | none => s
  else s

/-! ### Mover commands (R255) -/

/-- A range of instances that goes beyond the last, or is empty. -/
def rangeBad (first count : Nat) : Bool := count == 0 || decide (4096 < first + count)

/-- MOVER_BIND. -/
def moverBind (r : IcpReq) (s : State) : State :=
  let first := num r.payload 0 2
  let count := num r.payload 2 2
  let v := num r.payload 4 1
  let un := bitAt r.payload 6 0
  let ans := fun (s : State) st bad => reply s r st (natLe 2 bad ++ zeros 2)
  if rangeBad first count || (!un && (32 ≤ v || !vswOn s v)) then ans s St.notPermitted 0
  else
    let ns := (List.range count).map (fun i => first + i)
    match ns.find? (fun n => instState s n == Im.enabled || instState s n == Im.quiescing || (s.inst n).dirty.isSome) with
    | some n => ans s St.notQuiesced n
    | none =>
      ans (forEach ns s (fun s n =>
        let s := (instClear s n (if un then 0 else Im.disabled)).modInst n (fun _ => Inst.init)
        wr s (Reg.MV_INST_BIND n) (if un then 0 else BitVec.ofNat 64 (2 ^ 31 + v)))) St.ok 0

/-- MOVER_QUIESCE. -/
def moverQuiesce (r : IcpReq) (s : State) : State :=
  let first := num r.payload 0 2
  let count := num r.payload 2 2
  let flags := num r.payload 4 1
  let wait := max 1 (num r.payload 6 2)
  if rangeBad first count then reply s r St.notPermitted (zeros 4)
  else
    let ns := (List.range count).map (fun i => first + i)
    if flags.testBit 1 then
      reply (forEach (ns.filter (fun n => instState s n == Im.quiesced)) s instEnable) r St.ok (zeros 4)
    else
      let s := forEach ns s (fun s n => instQuiesce s n (flags.testBit 0) false)
      quiesceReplies { s with mover := { s.mover with quiesces := s.mover.quiesces ++ [⟨r, first, count, s.time + ms wait⟩] } }

/-- WAIT of a MOVER_QUIESCE passes (R255): the oldest that waits is answered TIMEOUT. -/
def moverQuiesceTimeout (s : State) : State :=
  match s.mover.quiesces with
  | [] => s
  | q :: rest =>
    reply { s with mover := { s.mover with quiesces := rest } } q.req St.timeout (natLe 2 (notQuiet s q.first q.count) ++ zeros 2)

/-- The lowest place in the dirty region where a copy of `n` bytes fits (R255). -/
def dirtyPlace (s : State) (n : Nat) : Option Nat :=
  let held := s.mover.insts.filterMap (fun x => x.2.dirty.map (fun d => (d.ofs, d.bytes)))
  let cands := 0 :: held.map (fun x => x.1 + x.2)
  let ok := fun a => decide (a + n ≤ dirtySize s) && held.all (fun x => decide (a + n ≤ x.1) || decide (x.1 + x.2 ≤ a))
  (cands.filter ok).min?

/-- Zeroes bytes of the LPDDR4X. -/
def memZero (m : List Host.Cell) (a n : Nat) : List Host.Cell := m.filter (fun e => !(decide (a ≤ e.1) && decide (e.1 < a + n)))

/-- A posted write of the management function of a vSwitch to its host: it needs Bus Master Enable. -/
def mgmtWrite (s : State) (v addr : Nat) (bytes : List Byte) : State :=
  if (s.func v fnMgmt).command.testBit 2 then
    sendOwn s { mvTlp s v .memWrite addr bytes.length bytes false false 0 with reqId := hostId s v fnMgmt } (upPort s v) v 0
  else s

/-- The vSwitch whose host is the manager that sent a command; the lowest manager for the BMC and the relay channel. -/
def managerVsw (s : State) (r : IcpReq) : Nat := if r.chan < 64 then r.chan % 32 else (managers s).headD 0

/-- MOVER_DIRTY (R251, R252). -/
def moverDirty (r : IcpReq) (s : State) : State :=
  let op := num r.payload 0 1
  let space := num r.payload 1 1
  let n := num r.payload 2 2
  let pages := num r.payload 4 4
  let base := num r.payload 8 8
  let map_ := num r.payload 16 8
  let ans := fun (s : State) st words fl => reply s r st (natLe 4 words ++ natLe 1 fl ++ zeros 3)
  let on := fun (s : State) (b : Bool) => setF s (Reg.INST_STATUS n) Fld.INST_STATUS_DIRTY_ON (b2n b)
  if 2 < op ∨ 1 < space ∨ 4096 ≤ n ∨ base % 4096 ≠ 0 ∨ map_ % 8 ≠ 0 ∨ (op = 0 ∧ (pages = 0 ∨ 2 ^ 28 < pages)) then ans s St.notPermitted 0 0
  else
    match op, (s.inst n).dirty with
    | 0, old =>
      if (match old with | some d => d.harvest.isSome | none => false) then ans s St.busy 0 0
      else
        let s := s.modInst n (fun i => { i with dirty := none })
        let d : Dirty := { pages := pages, iovaBase := base, ofs := 0, lost := false, outOfRange := false, harvest := none }
        (match dirtyPlace s d.bytes with
         | none => ans (s.modInst n (fun i => { i with dirty := old })) St.noResource 0 0
         | some a =>
           let s := { s with mem := memZero s.mem (dirtyBase s + a) d.bytes }
           ans (on (s.modInst n (fun i => { i with dirty := some { d with ofs := a } })) true) St.ok 0 0)
    | _, none => ans s St.notPermitted 0 0
    | 1, some d =>
      if d.harvest.isSome then ans s St.busy 0 0
      else
        let a := dirtyBase s + d.ofs
        let (go, s) := ddrAccess s a .read 5 1
        let bad := ddrBad s a d.bytes
        let s := if bad then ddrUncorrectable s a 5 else s
        let d := { d with lost := d.lost || bad || !go }
        let words := ((s.mem.filter (fun e => decide (a ≤ e.1) && decide (e.1 < a + d.bytes))).map (fun e => (e.1 - a) / 8)).eraseDups
        let vals := words.map (fun w => (w, memRead s.mem (a + 8 * w) 8))
        let s := if go then { s with mem := memZero s.mem a d.bytes } else s
        let vals := if go then vals else []
        let s := forEach vals s (fun s x =>
          if space = 1 then
            let (go, s) := ddrAccess s (map_ + 8 * x.1) .write 5 1
            if go then { s with mem := memWrite s.mem (map_ + 8 * x.1) x.2 } else s
          else mgmtWrite s (managerVsw s r) (map_ + 8 * x.1) x.2)
        s.modInst n (fun i => { i with dirty := some { d with harvest := some (r, vals.length) } })
    | _, some d =>
      if d.harvest.isSome then ans s St.busy 0 0
      else ans (on (s.modInst n (fun i => { i with dirty := none })) false) St.ok 0 (b2n d.lost + 2 * b2n d.outOfRange)

/-- The last word of a HARVEST has been written (R251): the reply tells the words, LOST and OUT_OF_RANGE. -/
def harvestDone (s : State) (n : Nat) : State :=
  match (s.inst n).dirty with
  | some d =>
    (match d.harvest with
     | some (r, w) =>
       reply (s.modInst n (fun i => { i with dirty := some { d with harvest := none, outOfRange := false } })) r St.ok
         (natLe 4 w ++ natLe 1 (b2n d.lost + 2 * b2n d.outOfRange) ++ zeros 3)
     | none => s)
  | none => s

/-- MOVER_T_STATUS: 24 bytes of the instance's state. -/
def moverTStatus (r : IcpReq) (s : State) : State :=
  let n := r.chan - 128
  reply s r St.ok (natLe 1 (instState s n) ++ zeros 1 ++ natLe 2 (getF s (Reg.INST_STATUS n) Fld.INST_STATUS_LAST_ERR) ++ natLe 4 (headOf s n) ++
    natLe 4 (tailOf s n) ++ regBytes s (Reg.INST_ABORT_CNT n) 4 ++ regBytes s (Reg.INST_BYTES n) 8)

/-- MOVER_T_RELAY (R253): the packet waits for host software. -/
def moverTRelay (r : IcpReq) (s : State) : State :=
  let n := r.chan - 128
  match (s.inst n).relay with
  | some _ => reply s r St.busy []
  | none =>
    let s := s.modInst n (fun i => { i with relay := some r, relayIn := fit 64 r.raw, relayOut := [] })
    let s := { s with mover := { s.mover with relayPend := if s.mover.relayPend.contains n then s.mover.relayPend else s.mover.relayPend ++ [n] } }
    match instVsw s n with | some v => msix s v fnMgmt (10 + n / 76) | none => s

end Sys2Proof.Machine
end

