-- ==== Sys2Proof/Machine/PortOps.lean ====
section
/-!
DEFINITION. Machine/PortOps.lean: PCIe links up and down, DPC, resets of a vSwitch, power management and messages of a port
(R62, R116, R117, R121–R127, R284–R308, R324).
-/
namespace Sys2Proof.Machine

/-- LTSSM codes of PORT_STATUS. -/
abbrev Lt.off : Nat := 0
abbrev Lt.detect : Nat := 1
abbrev Lt.l0 : Nat := 4
abbrev Lt.recovery : Nat := 5
abbrev Lt.l1 : Nat := 6
abbrev Lt.l23 : Nat := 7
abbrev Lt.disabled : Nat := 8
abbrev Lt.hotReset : Nat := 9

def setPs (s : State) (p : Nat) (f : Field) (x : Nat) : State := setF s (Reg.PORT_STATUS p) f x
def setLtssm (s : State) (p x : Nat) : State := setPs s p Fld.PORT_STATUS_LTSSM x

/-! ### Slots of composed bridges (R116) -/

/-- Presence Detect State and Data Link Layer Link Active of a composed bridge. -/
def composedPresent (s : State) (v k : Nat) : Bool := !(boundAt s v k).isEmpty && !(s.func v (fnBridge k)).powerOff
def composedActive (s : State) (v k : Nat) : Bool := composedPresent s v k && !(s.func v (fnBridge k)).dpcHeld

/-- The changed bits of a composed bridge's slot follow its state. -/
def composedSlot (s : State) (v k : Nat) : State :=
  if !isComposed s v k then s
  else
    s.modFunc v (fnBridge k) (fun f =>
      let a := composedPresent s v k
      let b := composedActive s v k
      let st := if f.present = a then f.slotStatus else setBit f.slotStatus Sl.presence
      { f with present := a, dllActive := b, slotStatus := if f.dllActive = b then st else setBit st Sl.dlState })

/-! ### Reservations (R62) -/

/-- Cells that a pair of reservation values holds. -/
def rsvCells (h d : Nat) : Nat := ((List.range 3).map (fun i => bitsAt h (10 * i) 10 + bitsAt d (10 * i) 10)).sum

/-- The reservation in force of (port, VC). -/
def rsvOf (s : State) (p vc : Nat) : Nat × Nat := agetD s.core.rsvForce (p * 8 + vc) (if vc = 0 ∨ vc = 7 then (0x1004010, 0x4001040) else (0, 0))

/-- At a data link initialisation the reservations written take effect, unless the shared pool would fall below 8,192 cells. -/
def takeRsv (s : State) (p : Nat) : State :=
  let want := fun (v : Nat) => ((rd s (Reg.PORT_RSV_H p v)).toNat, (rd s (Reg.PORT_RSV_D p v)).toNat)
  let total := ((List.range 64).map (fun q => ((List.range 8).map (fun v =>
    let r := if q = p then want v else rsvOf s q v
    rsvCells r.1 r.2)).sum)).sum
  if total + 8192 ≤ 262144 then
    let s := forEach (List.range 8) s (fun s v => { s with core := { s.core with rsvForce := aput s.core.rsvForce (p * 8 + v) (want v) } })
    setF s Reg.BUF_SHARED Fld.BUF_SHARED_SHARED_CELLS (262144 - total)
  else setF s Reg.CORE_STATUS Fld.CORE_STATUS_RSV_REFUSED 1

/-- Credits as a link can carry them (R290): the code of the smallest scale factor at which `x` fits a field whose largest value is `top`, and the credits
that the field then stands for; the largest value where `x` fits at none, or no scaling was negotiated and it does not fit. -/
def scaleCredits (scaled : Bool) (top x : Nat) : Nat × Nat :=
  if !scaled then (0, min top x)
  else if x ≤ top then (1, x)
  else if x / 4 ≤ top then (2, x / 4 * 4)
  else (3, min top (x / 16) * 16)

/-- The credits that a PCIe port advertises at a data link initialisation (R60, R290, R291): of each class, its header cells over VC0 to VC7, and 13 data
credits for each of its data cells, as dedicated credits of VC0. -/
def initCredits (s : State) (p : Nat) : State :=
  forEach [(TlpClass.posted, 0), (TlpClass.nonPosted, 1), (TlpClass.completion, 2)] s (fun s x =>
    let of := fun (r : Nat) => bitsAt r (10 * x.2) 10
    let h := ((List.range 8).map (fun v => of (rsvOf s p v).1)).sum
    let d := ((List.range 8).map (fun v => of (rsvOf s p v).2)).sum
    let sc := (s.port p).scaled
    emit s (.dllp p (.initFc x.1 (scaleCredits sc 127 h).2 (scaleCredits sc 2047 (13 * d)).2 (scaleCredits sc 127 h).1 (scaleCredits sc 2047 (13 * d)).1)))

/-! ### Rates (R67, R286) -/

/-- Payload rate of a lane in 0.01 GB/s by rate code. -/
def laneRate (rate : Nat) : Nat := match rate with | 0 => 25 | 1 => 50 | 2 => 98 | 3 => 197 | 4 => 394 | _ => 790

/-- CORE_PORT_BW of a PCIe port at a rate and width; RMAX of its flows follows (R83). -/
def setBw (s : State) (p rate width : Nat) (flit : Bool) : State :=
  frcRate (wr s (Reg.CORE_PORT_BW p) (BitVec.ofNat 64 (b2n flit * 65536 + (laneRate rate * width + 5) / 10))) p

/-- The bridge function that controls a physical port: the upstream bridge, or a direct bridge (R284). -/
def portFn (s : State) (p : Nat) : Option (Nat × Nat) :=
  match upVsw s p with
  | some v => some (v, fnUp)
  | none => (directBridge s p).map (fun x => (x.1, fnBridge x.2))

/-- Highest rate code that the Target Link Speed of the bridge that controls a port allows; no limit until the host has written one (R285). -/
def speedLimit (s : State) (p : Nat) : Nat :=
  match portFn s p with
  | some (v, k) => let t := agetD (s.func v k).other 32 0 % 16; if t = 0 then 5 else t - 1
  | none => 5

/-- Highest rate of a port: MAX_RATE, Target Link Speed, 32 GT/s outside flit mode (R285). -/
def rateCap (s : State) (p : Nat) (flit : Bool) : Nat :=
  min (min (if flit then 5 else 4) (speedLimit s p)) (min 5 (getF s (Reg.PORT_CFG p) Fld.PORT_CFG_MAX_RATE))

/-- Lanes of a port's slot. -/
def portWidth (s : State) (p : Nat) : Nat := match portSlot s p with | some (t, i) => slotWidth (tileSplit s t) i | none => 0

/-! ### Containment (R123, R124, R307, R308) -/

/-- Bridges with a function bound below a port are contained: DPC_HELD is set, and where the host has enabled DPC it triggers, with reason Surprise
Down, which DPC reports as an unmasked uncorrectable error (R123). -/
def containComposed (s : State) (p : Nat) : State :=
  forEach (composedOfPort s p) s (fun s x =>
    let s := s.modFunc x.1 (fnBridge x.2) (fun f =>
      let f := { f with dpcHeld := true, contained := true }
      if f.dpcEn = 0 ∨ f.dpcTrig then f else { f with dpcTrig := true, dpcReason := 0, aerUnc := setBit f.aerUnc Aer.surpriseDown })
    composedSlot s x.1 x.2)

/-- DPC triggers at a composed bridge for an error of its host's own functions: that bridge alone is contained (R124). -/
def dpcComposed (s : State) (v k dpcReason : Nat) : State :=
  s.modFunc v (fnBridge k) (fun f => { f with dpcTrig := true, dpcReason := dpcReason, contained := true })

/-- The port serves composed bridges: no direct bridge holds it, and it is no upstream port (R284). -/
def servesComposed (s : State) (p : Nat) : Bool := (upVsw s p).isNone && (directBridge s p).isNone

/-- A lane of the port is not under test (R279). -/
def laneInService (s : State) (p : Nat) : Bool :=
  match portSlot s p with | some (t, i) => (slotLanes s t i).any (fun l => !(s.tile t).testLanes.testBit l) | none => false

/-- A port may train: enabled, LINK_EN, not disabled, contained or fenced, and its host not in reset. -/
def mayTrain (s : State) (p : Nat) : Bool :=
  isPcie s p && isSet s (Reg.PORT_CFG p) Fld.PORT_CFG_LINK_EN && !isSet s (Reg.PORT_CTRL p) Fld.PORT_CTRL_DISABLE &&
    !isSet s (Reg.PORT_STATUS p) Fld.PORT_STATUS_DPC_CONTAINED && !isSet s (Reg.PORT_STATUS p) Fld.PORT_STATUS_FENCED &&
    !isFenced s ⟨Uk.port, p⟩ && laneInService s p && (match portFn s p with | some (v, k) => !(s.func v k).linkDisabled && !vswResetting s v | none => true)

/-- A port without a link trains from Detect where it may. -/
def trainFromDetect (s : State) (p : Nat) : State := if mayTrain s p then portWake (setLtssm s p Lt.detect) p else s

/-! ### A PCIe link goes down (R66, R149, R287) -/

/-- A port may run at a rate now: below 64 GT/s the ring PLL serves it; at 64 GT/s the LC PLL must be stable (R261). -/
def rateClocked (s : State) (p rate : Nat) : Bool :=
  match portSlot s p with | some (t, _) => rate != 5 || isSet s (Reg.TILE_STATUS t) Fld.TILE_STATUS_LC_STABLE | none => true

/-- The change of a port to 64 GT/s waits in Recovery while the LC PLL starts (R261). -/
def lcAwait (s : State) (p : Nat) : State :=
  match portSlot s p with | some (t, _) => lcStart (setLtssm s p Lt.recovery) t | none => s

/-- The PLLs of a port's tile follow the rates that its links run (R260). -/
def portPlls (s : State) (p : Nat) : State :=
  match portSlot s p with
  | some (t, _) => if tilePower s t ≤ 1 then pllStart s t else s
  | none => s

/-! ### INTx wires (R295) -/

/-- A virtual wire of a bridge: the OR over the functions behind it, each swizzled by its device number. -/
def wireOn (s : State) (v k w : Nat) : Bool := (List.range 256).any (fun d => (s.func v (fnBridge k)).intx.testBit (4 * d + w))

/-- A virtual wire of the upstream port: the OR over the bridges, each swizzled by its device number. -/
def wireUp (s : State) (v u : Nat) : Bool := (bridges s v).any (fun k => wireOn s v k ((u + 4 - bridgeDevfn k / 8 % 4) % 4))

/-- The wires behind a bridge change; the upstream port sends a message for each of its own that changes with them. -/
def intxSet (s : State) (v k new : Nat) : State :=
  let t := s.modFunc v (fnBridge k) (fun f => { f with intx := new })
  forEach [0, 1, 2, 3] t (fun x u =>
    if wireUp s v u == wireUp t v u || !portUp s (upPort s v) then x
    else emit x (.message (upPort s v) ((if wireUp t v u then 0x20 else 0x24) + u) (hostId s v fnUp)))

/-- The wires of one function behind a bridge are deasserted: its link is down, or it is bound no more. -/
def intxDrop (s : State) (v k devfn : Nat) : State :=
  let w := (s.func v (fnBridge k)).intx
  if bitsAt w (4 * devfn) 4 = 0 then s else intxSet s v k (w - bitsAt w (4 * devfn) 4 * 2 ^ (4 * devfn))

/-- The wires behind a port whose link goes down are deasserted. -/
def intxPort (s : State) (p : Nat) : State :=
  match directBridge s p with
  | some (v, k) => if (s.func v (fnBridge k)).intx = 0 then s else intxSet s v k 0
  | none => forEach (bindsOfPort s p) s (fun s e => intxDrop s e.2.vsw e.2.bridge e.2.hostDevfn)

/-! ### LTR (R301) -/

/-- Physical ports below a vSwitch: each once. -/
def pmePorts (s : State) (v : Nat) : List Nat := (portsBelow s v).map (fun x => x.1)

/-- Nanoseconds of an LTR value, if it states a requirement. -/
def ltrNs (x : Nat) : Option Nat := if x.testBit 15 then some (x % 1024 * 32 ^ min 5 (bitsAt x 10 3)) else none

/-- LTR value of a latency: the smallest scale that holds it, rounded down. -/
def ltrCode (ns : Nat) : Nat :=
  let k := ((List.range 6).find? (fun k => decide (ns / 32 ^ k < 1024))).getD 5
  2 ^ 15 + k * 1024 + min 1023 (ns / 32 ^ k)

/-- The least requirement over the ports below a vSwitch, less 1 µs (R301). -/
def ltrMin (s : State) (v lsb : Nat) : Nat :=
  let vals := ((pmePorts s v).filter (fun p => (s.port p).ltrSeen)).filterMap (fun p => ltrNs (bitsAt (rd s (Reg.PORT_LTR p)).toNat lsb 16))
  match vals.min? with | some x => ltrCode (x - 1000) | none => 0

/-- The upstream port of a vSwitch sends an LTR message when its value has changed. -/
def ltrUpdate (s : State) (v : Nat) : State :=
  let u := upPort s v
  let x := BitVec.ofNat 64 (ltrMin s v 16 * 65536 + ltrMin s v 0)
  if rd s (Reg.PORT_LTR u) = x || !portUp s u then s else emit (wr s (Reg.PORT_LTR u) x) (.message u 0x10 x.toNat)

/-- CLKREQ# of a port as the device drives it, through the expander that its poll list entry names (R299). -/
def clkreqDrive (s : State) (p : Nat) (on : Bool) : State :=
  if (s.port p).clkreqOut == on then s else (sigWrite (s.modPort p (fun x => { x with clkreqOut := on })) p Sig.clkreqOut 1 (b2n on) false).2

/-- The link of a PCIe port leaves L0 under R287 for an LTSSM state; `reason` is that of R149. -/
def linkLost (s : State) (p lt reason : Nat) : State :=
  let was := isSet s (Reg.PORT_STATUS p) Fld.PORT_STATUS_DL_ACTIVE
  let s := lanesDown (pressAbandonPort s p) p
  let s := setPs (setPs (setPs (setLtssm s p lt) p Fld.PORT_STATUS_DL_ACTIVE 0) p Fld.PORT_STATUS_WIDTH 0) p Fld.PORT_STATUS_L1_SUB 0
  let s := setPs (setPs (setPs (setPs s p Fld.PORT_STATUS_RATE 0) p Fld.PORT_STATUS_FLIT 0) p Fld.PORT_STATUS_REVERSED 0) p Fld.PORT_STATUS_WIDTH_DEGRADED 0
  let s := frcRate (wr s (Reg.CORE_PORT_BW p) 0) p
  let s := wr (setF s (Reg.PORT_PTM p) Fld.PORT_PTM_VALID 0) (Reg.PORT_LTR p) 0
  let s := s.modPort p (fun x => { x with replayNum := 0, fcLimit := [], fcUsed := [], ltrSeen := false, pmeWait := none, txSeq := 0, scaled := false })
  let s := corePortDown (portPlls s p) p reason
  let s := if was then forEach (vswsOfPort s p) (intxPort s p) ltrUpdate else s
  if was then slotStatus (portEvent (bump s (Reg.PORT_DOWN_CNT p)) p Ev.linkDown) p Sl.dlState else s

/-- DPC triggers at a direct bridge, or its port is disabled (R307): the LTSSM enters Disabled. -/
def portDisabled (s : State) (p reason : Nat) (dpc : Bool) : State :=
  let s := if dpc then setPs s p Fld.PORT_STATUS_DPC_CONTAINED 1 else s
  linkLost s p Lt.disabled reason

/-- DPC triggers at a direct bridge (R123, R124). -/
def dpcDirect (s : State) (v k dpcReason : Nat) : State :=
  let p := bridgePort s v k
  let s := s.modFunc v (fnBridge k) (fun f => { f with dpcTrig := true, dpcReason := dpcReason, contained := true })
  portEvent (portDisabled s p 0x06 true) p Ev.dpc

/-- A port below composed bridges loses its link: contained until the manager releases it (R123, R308). -/
def composedLost (s : State) (p : Nat) : State :=
  let s := containComposed (linkLost (setPs s p Fld.PORT_STATUS_DPC_CONTAINED 1) p Lt.disabled 0x06) p
  portEvent s p Ev.dpc

/-! ### Resets of a vSwitch (R125, R126, R288) -/

/-- An FLR to a bound function, unless R118 guards it (R125, R126). -/
def guardCount (s : State) : State := msix (bump s Reg.BIND_GUARD_CNT) (getF s Reg.VSW_GLOBAL Fld.VSW_GLOBAL_MGR_VSWITCH) fnMgmt 1
def flrBound (s : State) (e : BindEnt) : State := if guarded s e then guardCount s else emit s (.flr e.port e.devRid)

/-- The ICP ring of a vSwitch ends (R324): its registers reset, its waiting replies go. -/
def ringEnd (s : State) (v : Nat) : State :=
  let ks := [Reg.ICP_SQ_BASE v, Reg.ICP_CQ_BASE v, Reg.ICP_RING_CFG v, Reg.ICP_RING_STATUS v, Reg.ICP_SQ_TAIL v, Reg.ICP_SQ_HEAD v, Reg.ICP_CQ_TAIL v, Reg.ICP_CQ_HEAD v]
  let s := forEach ks s (fun s k => wr s k (resetOf k))
  let i := s.icp
  { s with icp := { i with cplWait := adel i.cplWait v, fetching := i.fetching.filter (fun x => x != v), sessions := amod i.sessions v 0 (fun x => x + 1) } }

/-- A hot reset of a downstream port, or PERST# where R305 says so. -/
def resetBelow (s : State) (p : Nat) : State :=
  let up := isSet s (Reg.PORT_STATUS p) Fld.PORT_STATUS_DL_ACTIVE
  let s := if isSet s (Reg.PORT_CFG p) Fld.PORT_CFG_PERST_ON_HOST || !up then perstWrite s p true else emit s (.hotReset p)
  if getF s (Reg.PORT_STATUS p) Fld.PORT_STATUS_LTSSM = Lt.disabled then s else linkLost s p Lt.hotReset 0x0C

/-- The hierarchy of a vSwitch is reset (R126, R288): functions, ports of direct bridges, bound functions, Mover instances, ring. -/
def vswReset (s : State) (v : Nat) : State :=
  let s := forEach ((s.fab.ctxs.filter (fun e => e.2.source && e.2.vsw == v && e.2.inPort == upPort s v)).map (fun e => e.1)) s (fun s i => ctxFree (unqueueCtx s i) i false)
  let mine := fun (h : Held) => h.vsw == v && h.inPort == upPort s v && h.fab.isNone
  let s := { s with core := { s.core with ctxWait := s.core.ctxWait.filter (fun h => !mine h) } }
  let held := (bridges s v).filter (fun k => (s.func v (fnBridge k)).dpcHeld)
  let s := forEach (bridges s v) s (fun s k =>
    if isDirect s v k then resetBelow (setPs s (bridgePort s v k) Fld.PORT_STATUS_DPC_CONTAINED 0) (bridgePort s v k)
    else forEach (boundAt s v k) s flrBound)
  let s := mvFlr s v Ds.abortedReset
  let s := s.modVsw v (fun x => { x with bus := 0, funcs := [], msixMask := [], msixPend := [], msixTab := [] })
  let s := forEach held s (fun s k => s.modFunc v (fnBridge k) (fun f => { f with dpcHeld := true, contained := true }))
  let s := forEach ((bridges s v).filter (isComposed s v)) s (fun s k =>
    s.modFunc v (fnBridge k) (fun f => { f with present := composedPresent s v k, dllActive := composedActive s v k }))
  let s := forEach (s.ports.map (fun e => e.1)) s (fun s p =>
    if (s.port p).pmeOff.contains v then s.modPort p (fun x => { x with pmeOff := x.pmeOff.filter (fun w => w != v) }) else s)
  ringEnd s v

/-- Ports of the direct bridges of a vSwitch train again once its reset ends: from Hot Reset, or from Disabled, since what had disabled them has been
reset with the bridge (R126). -/
def resetOver (s : State) (v : Nat) : State :=
  forEach ((bridges s v).filter (isDirect s v)) s (fun s k =>
    let p := bridgePort s v k
    let s := if perstFree s p then perstWrite s p false else s
    let lt := getF s (Reg.PORT_STATUS p) Fld.PORT_STATUS_LTSSM
    if lt = Lt.hotReset ∨ lt = Lt.disabled then trainFromDetect s p else s)

/-- The vSwitches that a HOST_PERST_N input resets (PERST_SEL, R126). -/
def perstVsws (s : State) (n : Nat) : List Nat := (vswitches s).filter (fun v => getF s (Reg.VSW_CTRL v) Fld.VSW_CTRL_PERST_SEL == n)

/-- The level of a HOST_PERST_N input. -/
def perstPin (s : State) (n : Nat) (low : Bool) : State :=
  let rest := s.hosts.perstPins.filter (fun x => x != n)
  { s with hosts := { s.hosts with perstPins := if low then rest ++ [n] else rest } }

/-- A HOST_PERST_N input is asserted (R126): the vSwitches that it serves are reset. -/
def perstAssert (s : State) (n : Nat) : State :=
  forEach (perstVsws s n) (perstPin s n true) (fun s v =>
    vswReset (linkLost (s.modVsw v (fun x => { x with perstHold := false })) (upPort s v) Lt.detect 0x0C) v)

/-- A HOST_PERST_N input is deasserted: the 20 ms hold of the vSwitches that it serves begins. -/
def perstDeassert (s : State) (n : Nat) : State :=
  if s.hosts.perstPins.contains n then forEach (perstVsws s n) (perstPin s n false) (fun s v => s.modVsw v (fun x => { x with perstHold := true }))
  else s

/-- The hold ends: the vSwitch leaves reset. -/
def perstHoldEnd (s : State) (v : Nat) : State :=
  if (s.vsw v).perstHold then
    let s := s.modVsw v (fun x => { x with perstHold := false })
    trainFromDetect (resetOver s v) (upPort s v)
  else s

/-- A PCIe link goes down (R287, R288, R308) with the LTSSM in the state given: Detect, L2/L3 Ready, Disabled, Hot Reset or Loopback; in no other has it left
L0. -/
def pcieDown (s : State) (p lt : Nat) : State :=
  if !isPcie s p || !(lt == Lt.detect || decide (Lt.l23 ≤ lt)) then s
  else
    match upVsw s p with
    | some v =>
      let s := linkLost s p lt 0x0C
      if lt = Lt.l23 then s else resetOver (vswReset s v) v
    | none =>
      if servesComposed s p && lt != Lt.l23 && !(composedOfPort s p).isEmpty then composedLost s p
      else linkLost s p lt 0x0C

/-- A Surprise Down (R123, R306): a plain link loss where the host had set Power Controller Control to Off (R304). -/
def surpriseDown (s : State) (p : Nat) : State :=
  if !isPcie s p then s
  else if (s.port p).hostOff then pcieDown s p Lt.detect
  else
    let s := detect (portEvent s p Ev.surpriseDown) 0x0202 .contained Uk.port p (getF s (Reg.PORT_STATUS p) Fld.PORT_STATUS_LTSSM)
    let s := clearPortCoef s p
    match upVsw s p, directBridge s p with
    | some _, _ => pcieDown s p Lt.detect
    | none, some (v, k) =>
      let s := aerError s v (fnBridge k) Aer.surpriseDown false
      if (s.func v (fnBridge k)).dpcEn != 0 then dpcDirect s v k 0 else trainFromDetect (linkLost s p Lt.detect 0x0C) p
    | none, none => composedLost s p

/-- Receiver Overflow, a flow control or a data link protocol error takes the link down (R306). -/
def fatalError (s : State) (p : Nat) (e : LinkError) : State :=
  if !isPcie s p then s
  else
    let bit := match e with | .receiverOverflow => Aer.overflow | .flowControl => Aer.flowControl | .dataLink => Aer.dlProtocol
    let s := detect s 0x0201 .contained Uk.port p bit
    let s := match portFn s p with | some (v, k) => aerError s v k bit false | none => s
    match upVsw s p, directBridge s p with
    | none, some (v, k) => if (s.func v (fnBridge k)).dpcEn != 0 then dpcDirect s v k 0 else trainFromDetect (pcieDown s p Lt.detect) p
    | _, _ => trainFromDetect (pcieDown s p Lt.detect) p

/-! ### A PCIe link comes up (R285, R286, R305, R308) -/

/-- DPC_HELD clears on the composed bridges of a port; those whose hosts have cleared DPC Trigger Status leave containment (R308). -/
def heldClear (s : State) (p : Nat) : State :=
  forEach (composedOfPort s p) s (fun s x =>
    let s := s.modFunc x.1 (fnBridge x.2) (fun f => { f with dpcHeld := false, contained := f.contained && f.dpcTrig })
    composedSlot s x.1 x.2)

/-- Trained narrower than the slot: the status bit and its event (R286). -/
def widthCheck (s : State) (p width : Nat) : State :=
  if width < portWidth s p then portEvent (setPs s p Fld.PORT_STATUS_WIDTH_DEGRADED 1) p Ev.widthDegraded
  else setPs s p Fld.PORT_STATUS_WIDTH_DEGRADED 0

/-- A PCIe link reaches DL_Active (R285, R286, R305); a rate above 2.5 GT/s has been reached by a change of rate since L0.  A rate of 64 GT/s that has no clock yet is reached by a change of rate (R261). -/
def pcieUp (s : State) (p rate width : Nat) (flit reversed : Bool) (partnerRate : Nat) : State :=
  let lt := getF s (Reg.PORT_STATUS p) Fld.PORT_STATUS_LTSSM
  let clocked := match portSlot s p with | some (t, _) => tileClocked s t false | none => false
  if !mayTrain s p || !clocked || (lt != 1 && lt != 2 && lt != 3 && lt != 4 && lt != 5) || isSet s (Reg.PORT_STATUS p) Fld.PORT_STATUS_DL_ACTIVE then s
  else
    let flit := flit && isSet s (Reg.PORT_CFG p) Fld.PORT_CFG_FLIT_OFFER
    let w := min width (portWidth s p)
    let target := min rate (rateCap s p flit)
    let clk := rateClocked s p target
    let rate := if clk then target else 4
    let s := initCredits ((takeRsv s p).modPort p (fun x => { x with scaled := flit || x.scaled })) p
    let s := setPs (setPs (setPs (setPs (setPs (setLtssm s p Lt.l0) p Fld.PORT_STATUS_DL_ACTIVE 1) p Fld.PORT_STATUS_RATE rate) p Fld.PORT_STATUS_WIDTH w)
      p Fld.PORT_STATUS_FLIT (b2n flit)) p Fld.PORT_STATUS_REVERSED (b2n reversed)
    let s := coefPcie (lanesUp (widthCheck (setBw s p rate w flit) p w) p rate) p rate
    let s := slotStatus (portEvent s p Ev.linkUp) p Sl.dlState
    let s := if rate = 0 then s else portEvent s p Ev.speedChange
    let s := clkreqDrive s p true
    let s := match upVsw s p with
      | some v => ltrUpdate (zeroAlive s (32 + v)) v
      | none =>
        match directBridge s p with
        | some (v, k) => emit s (.message p 0x50 (agetD (s.func v (fnBridge k)).other 25 0 / 128 % 2 ^ 10))
        | none => heldClear s p
    let auto := match portFn s p with | some (v, k) => !(agetD (s.func v k).other 32 0).testBit 5 | none => true
    let goal := max target (if auto then min partnerRate (rateCap s p flit) else 0)
    if rate < goal then (if rateClocked s p goal then setLtssm s p Lt.recovery else lcAwait s p) else portPlls s p

/-- A change of rate or width completes (R286). -/
def rateChange (s : State) (p rate width : Nat) : State :=
  if !isPcie s p || !isSet s (Reg.PORT_STATUS p) Fld.PORT_STATUS_DL_ACTIVE then s
  else
    let flit := isSet s (Reg.PORT_STATUS p) Fld.PORT_STATUS_FLIT
    let r := min rate (rateCap s p flit)
    let w := min width (portWidth s p)
    let old := getF s (Reg.PORT_STATUS p) Fld.PORT_STATUS_RATE
    let oldW := getF s (Reg.PORT_STATUS p) Fld.PORT_STATUS_WIDTH
    let s := pressAbandonPort s p
    if !rateClocked s p r then lcAwait s p
    else
      let s := setPs (setPs (setLtssm s p Lt.l0) p Fld.PORT_STATUS_RATE r) p Fld.PORT_STATUS_WIDTH w
      let s := coefPcie (lanesUp (setBw s p r w flit) p r) p r
      let s := if r = old then s else portEvent s p Ev.speedChange
      let s := if w = oldW then s else widthCheck s p w
      portPlls s p

/-- The LTSSM moves between Detect, Polling, Configuration, Recovery and L0 (R265). -/
def ltssmMove (s : State) (p lt : Nat) : State :=
  let old := getF s (Reg.PORT_STATUS p) Fld.PORT_STATUS_LTSSM
  let active := isSet s (Reg.PORT_STATUS p) Fld.PORT_STATUS_DL_ACTIVE
  if isPcie s p && decide (1 ≤ lt ∧ lt ≤ 5) && (decide (1 ≤ old ∧ old ≤ 5) || (old == 9 && mayTrain s p) || (old == 0 && mayTrain s p)) && (!active || lt == 4 || lt == 5) then
    setLtssm (pressAbandonPort s p) p lt
  else s

/-! ### Releases and disables (R124, R307–R309) -/

/-- A port held in Disabled is released (R308). -/
def portReleased (s : State) (p : Nat) : State := trainFromDetect (setPs s p Fld.PORT_STATUS_DPC_CONTAINED 0) p

/-- RELEASE of a port below composed bridges (R308); a port under a direct bridge leaves containment by its host alone (R307). -/
def portRelease (s : State) (p : Nat) : State := if servesComposed s p then portReleased s p else s

/-- DISABLE of PORT_CTRL (R307). -/
def setDisable (s : State) (p : Nat) (on : Bool) : State :=
  let was := isSet s (Reg.PORT_CTRL p) Fld.PORT_CTRL_DISABLE
  let s := setF s (Reg.PORT_CTRL p) Fld.PORT_CTRL_DISABLE (b2n on)
  if on && !was then (if servesComposed s p && !(composedOfPort s p).isEmpty then composedLost s p
                      else match upVsw s p with
                        | some v => vswReset (portDisabled s p 0x06 false) v
                        | none => portDisabled s p 0x06 false)
  else if !on && was then trainFromDetect s p
  else s

/-- A host's Link Disable (R307): a composed bridge ignores it. -/
def linkDisable (s : State) (v k : Nat) (on : Bool) : State :=
  if !isDirect s v k then s
  else
    let p := bridgePort s v k
    let was := (s.func v (fnBridge k)).linkDisabled
    let s := s.modFunc v (fnBridge k) (fun f => { f with linkDisabled := on })
    if on && !was then portDisabled s p 0x06 false else if !on && was then trainFromDetect s p else s

/-- Retrain Link, and RETRAIN: Recovery from L0 (R285, R309). -/
def retrain (s : State) (p : Nat) : State :=
  if getF s (Reg.PORT_STATUS p) Fld.PORT_STATUS_LTSSM = Lt.l0 then setLtssm (pressAbandonPort s p) p Lt.recovery else s

/-- The host clears DPC Trigger Status (R124). -/
def dpcClear (s : State) (v k : Nat) : State :=
  let f := s.func v (fnBridge k)
  if !f.dpcTrig then s
  else
    let s := s.modFunc v (fnBridge k) (fun f => { f with dpcTrig := false, contained := f.dpcHeld })
    if isDirect s v k then portReleased s (bridgePort s v k) else composedSlot s v k

/-- Secondary Bus Reset (R125). -/
def secondaryReset (s : State) (v k : Nat) : State :=
  if isDirect s v k then
    let p := bridgePort s v k
    trainFromDetect (linkLost (emit s (.hotReset p)) p Lt.hotReset 0x0C) p
  else if isComposed s v k then forEach (boundAt s v k) s flrBound
  else s

/-- PERST_FORCE (R305). -/
def perstForce (s : State) (p : Nat) (on : Bool) : State :=
  let s := setF s (Reg.PORT_CTRL p) Fld.PORT_CTRL_PERST_FORCE (b2n on)
  if on then perstWrite s p true else perstRelease s p

/-! ### Data link layer packets (R283, R290, R299, R306) -/

/-- A correctable error of a PCIe link: its bit in the AER of the bridge, and one event toward the Link threshold (R122, R306, R354). -/
def linkCorrectable (s : State) (p bit : Nat) : State :=
  let s := match portFn s p with | some (v, k) => aerError s v k bit true | none => s
  correctable s ⟨Uk.port, p⟩ 0 1 0x0200

/-- A replay begins; the fourth in a row rolls REPLAY_NUM over, which counts toward the Link threshold, and the link retrains (R306). -/
def pcieReplay (s : State) (p : Nat) : State :=
  let n := (s.port p).replayNum + 1
  let s := s.modPort p (fun x => { x with replayNum := if 4 ≤ n then 0 else n })
  let s := pcPort (emit (bump s (Reg.PORT_REPLAY_CNT p)) (.replay p)) p 0x102
  if 4 ≤ n then setLtssm (linkCorrectable s p 8) p Lt.recovery else s

/-- The replay timer expires: a correctable error, and a replay (R306). -/
def replayTimer (s : State) (p : Nat) : State :=
  if isPcie s p && portUp s p then pcieReplay (linkCorrectable s p 12) p else s

/-- What a PCIe link receives over a tick with errors (R306): a receiver error, a flit that FEC corrects, a TLP or flit whose CRC fails; whether each
occurs is free.  A failed TLP is a Bad TLP; a failed flit is replayed. -/
def portErrors (s : State) (p : Nat) : State :=
  let (e, s) := draw s 3
  let flit := isSet s (Reg.PORT_STATUS p) Fld.PORT_STATUS_FLIT
  let s := if e.testBit 0 then linkCorrectable (bump s (Reg.PORT_RX_ERR_CNT p)) p 0 else s
  let s := if flit && e.testBit 1 then correctable (bump s (Reg.PORT_FEC_CORR_CNT p)) ⟨Uk.port, p⟩ 0 1 0x0200 else s
  if e.testBit 2 then
    let s := bump s (Reg.PORT_CRC_ERR_CNT p)
    if flit then s else linkCorrectable s p 6
  else s

/-- The PCIe links in L0 over a tick. -/
def portsTick (s : State) : State :=
  forEach ((List.range 64).filter (fun p => isPcie s p && getF s (Reg.PORT_STATUS p) Fld.PORT_STATUS_LTSSM == Lt.l0)) s portErrors

/-- TLPs up to a sequence number leave the replay store. -/
def ackTo (s : State) (p seq : Nat) : State :=
  s.modPort p (fun x =>
    let gone := fun (k : Nat) => decide ((seq + 4096 - k) % 4096 < 2048)
    if x.unacked.any (fun u => gone u.1) then { x with unacked := x.unacked.filter (fun u => !gone u.1), replayNum := 0 } else x)

/-- The host, or for ports below composed bridges the manager, allows L1 (R299). -/
def l1Allowed (s : State) (p : Nat) : Bool :=
  isSet s (Reg.PORT_PM p) Fld.PORT_PM_L1_ALLOW &&
    (match portFn s p with | some (v, k) => (agetD (s.func v k).other 24 0).testBit 1 | none => true)

/-- The link enters L1, and the substate that its enables and CLKREQ# allow (R297, R299). -/
def enterL1 (s : State) (p : Nat) : State :=
  let en := match portFn s p with | some (v, k) => agetD (s.func v k).other 166 0 | none => 0
  let sub := if (sigBind s p Sig.clkreqIn).isNone then 1
    else if (en.testBit 2 || en.testBit 0) && isSet s (Reg.PORT_PM p) Fld.PORT_PM_L12_ALLOW then 3
    else if en.testBit 3 || en.testBit 1 then 2 else 1
  let s := if 2 ≤ sub then clkreqDrive s p false else s
  setPs (setLtssm (pressAbandonPort s p) p Lt.l1) p Fld.PORT_STATUS_L1_SUB sub

/-- The link leaves L1 through Recovery (R297, R298). -/
def exitL1 (s : State) (p : Nat) : State :=
  if getF s (Reg.PORT_STATUS p) Fld.PORT_STATUS_LTSSM = Lt.l1 then
    portWake (setPs (setLtssm (pressAbandonPort (clkreqDrive s p true) p) p Lt.recovery) p Fld.PORT_STATUS_L1_SUB 0) p
  else s

/-- A DLLP arrives. -/
def dllp (s : State) (p : Nat) (d : Dllp) : State :=
  if !isPcie s p then s
  else
    match d with
    | .ack seq => ackTo s p seq
    | .nak seq => pcieReplay (ackTo s p seq) p
    | .updateFc _ c hdr data =>
      s.modPort p (fun x =>
        let lim := (aget x.fcLimit c.code).getD (agetD x.fcUsed c.code (0, 0))
        { x with fcLimit := aput x.fcLimit c.code (lim.1 + hdr, lim.2 + data) })
    | .initFc c hdr data _ _ =>
      s.modPort p (fun x => { x with fcLimit := aput x.fcLimit c.code (if hdr = 0 then 2 ^ 32 else hdr, if data = 0 then 2 ^ 32 else data) })
    | .feature sc => s.modPort p (fun x => { x with scaled := sc || isSet s (Reg.PORT_STATUS p) Fld.PORT_STATUS_FLIT })
    | .pmEnterL1 =>
      if (upVsw s p).isSome || getF s (Reg.PORT_STATUS p) Fld.PORT_STATUS_LTSSM != Lt.l0 then s
      else if l1Allowed s p && voqsEmpty s p then enterL1 (emit s (.dllp p .pmRequestAck)) p
      else emit s (.message p 0x14 0)
    | .pmEnterPciL1 =>
      if (upVsw s p).isNone && isSet s (Reg.PORT_PM p) Fld.PORT_PM_L1_ALLOW && getF s (Reg.PORT_STATUS p) Fld.PORT_STATUS_LTSSM == Lt.l0 && voqsEmpty s p then
        enterL1 (emit s (.dllp p .pmRequestAck)) p
      else s
    | .pmRequestAck => if (upVsw s p).isSome && getF s (Reg.PORT_STATUS p) Fld.PORT_STATUS_LTSSM == Lt.l0 then enterL1 s p else s

/-- An idle upstream port requests ASPM L1 (R299). -/
def l1Request (s : State) (p : Nat) : State :=
  if (upVsw s p).isSome && l1Allowed s p && getF s (Reg.PORT_STATUS p) Fld.PORT_STATUS_LTSSM == Lt.l0 && voqsEmpty s p then emit s (.dllp p .pmEnterL1) else s

/-- CLKREQ# is sampled in L1.1 or L1.2 (R299): asserted, it ends the substate. -/
def clkreq (s : State) (p : Nat) (on : Bool) : State :=
  if 2 ≤ getF s (Reg.PORT_STATUS p) Fld.PORT_STATUS_L1_SUB then
    let s := s.modPort p (fun x => { x with clkreqIn := on })
    if on then exitL1 s p else s
  else s

/-! ### Power management messages (R300, R301) -/

/-- Every acknowledgement for a vSwitch has come: its upstream port acknowledges and enters L2/L3 Ready. -/
def pmeCollected (s : State) (v : Nat) : State :=
  let u := upPort s v
  if (s.port u).pmeOff.contains v && (pmePorts s v).all (fun p => (s.port p).pmeWait.isNone) then
    linkLost (emit (s.modPort u (fun x => { x with pmeOff := [] })) (.message u 0x1B 0)) u Lt.l23 0x0C
  else s

/-- PME_Turn_Off arrives from the host of a vSwitch. -/
def pmeTurnOff (s : State) (v : Nat) : State :=
  let u := upPort s v
  let s := s.modPort u (fun x => { x with pmeOff := [v] })
  let s := forEach (pmePorts s v) s (fun s p =>
    let lt := getF s (Reg.PORT_STATUS p) Fld.PORT_STATUS_LTSSM
    if lt = Lt.l0 ∨ lt = Lt.l1 then
      let offs := v :: (s.port p).pmeOff.filter (fun w => w != v)
      let s := s.modPort p (fun x => { x with pmeOff := offs })
      if (directBridge s p).isSome || (vswsOfPort s p).all (fun w => offs.contains w) then
        emit (s.modPort p (fun x => { x with pmeWait := some (s.time + ms 10), pmeOff := [] })) (.message p 0x19 0)
      else s
    else s)
  pmeCollected s v

/-- PME_TO_Ack arrives from below: the link goes to L2/L3 Ready. -/
def pmeAck (s : State) (p : Nat) : State :=
  match (s.port p).pmeWait with
  | some _ =>
    let vs := vswsOfPort s p
    let s := linkLost (s.modPort p (fun x => { x with pmeWait := none })) p Lt.l23 0x0C
    forEach vs s pmeCollected
  | none => s

/-- A link that does not answer within 10 ms is taken as answered. -/
def pmeTimeout (s : State) (p : Nat) : State :=
  match (s.port p).pmeWait with
  | some _ => forEach (vswsOfPort s p) (s.modPort p (fun x => { x with pmeWait := none })) pmeCollected
  | none => s

/-- An LTR message from below (R301). -/
def ltr (s : State) (p snoop nosnoop : Nat) : State :=
  if !isPcie s p || (upVsw s p).isSome then s
  else
    let s := wr (s.modPort p (fun x => { x with ltrSeen := true })) (Reg.PORT_LTR p) (BitVec.ofNat 64 (nosnoop % 65536 * 65536 + snoop % 65536))
    forEach (vswsOfPort s p) s ltrUpdate

/-! ### INTx, errors and PTM (R100, R121, R295, R296) -/

/-- A message from a function whose composed bridge is contained fails with REASON 0x06 (R123, R124). -/
def messageFail (s : State) (p v rid : Nat) : State :=
  let t := { cplTlp 0 0 0 0 [] with op := .message 0, route := .toRoot, reqId := rid }
  logFail s (arrival s t p v 0 0 false) 4 0x06

/-- The wires of a bridge with one of a function set or cleared: the function's device number swizzles the pin (R295). -/
def intxWith (f : Func) (devfn pin : Nat) (on : Bool) : Nat :=
  let i := 4 * devfn + (pin + devfn / 8) % 4
  if on then setBit f.intx i else clearBit f.intx i

/-- An Assert_INTx or Deassert_INTx arrives from below (R295); a bound function is known to the host by its host device number. -/
def intx (s : State) (p rid pin : Nat) (on : Bool) : State :=
  match directBridge s p with
  | some (v, k) => intxSet s v k (intxWith (s.func v (fnBridge k)) (rid % 256) pin on)
  | none =>
    match (bindsOfPort s p).find? (fun e => e.2.devRid == rid) with
    | none => bump s Reg.BIND_UNBOUND_CNT
    | some (_, e) =>
      if (s.func e.vsw (fnBridge e.bridge)).contained then messageFail s p e.vsw rid
      else intxSet s e.vsw e.bridge (intxWith (s.func e.vsw (fnBridge e.bridge)) e.hostDevfn pin on)

/-- DPC Trigger Enable of a bridge takes an error message (R123): 1 ERR_FATAL, 2 ERR_NONFATAL as well. -/
def dpcTakes (f : Func) (severity : Nat) : Bool := (f.dpcEn == 1 && severity == 2) || (f.dpcEn == 2 && decide (1 ≤ severity))

/-- An error message from below (R121, R123, R124): severity 0 correctable, 1 non-fatal, 2 fatal.  Where the host has set DPC Trigger Enable for it,
DPC triggers at the bridge, with the severity as its reason, in place of the message. -/
def errorMessage (s : State) (p rid severity : Nat) : State :=
  let code := if severity = 0 then 0x30 else if severity = 1 then 0x31 else 0x33
  match directBridge s p with
  | some (v, k) =>
    if dpcTakes (s.func v (fnBridge k)) severity then dpcDirect s v k severity else emit s (.message (upPort s v) code rid)
  | none =>
    match (bindsOfPort s p).find? (fun e => e.2.devRid == rid) with
    | some (_, e) =>
      if (s.func e.vsw (fnBridge e.bridge)).contained then messageFail s p e.vsw rid
      else if dpcTakes (s.func e.vsw (fnBridge e.bridge)) severity then dpcComposed s e.vsw e.bridge severity
      else emit s (.message (upPort s e.vsw) code ((s.func e.vsw (fnBridge e.bridge)).secBus * 256 + e.hostDevfn))
    | none => bump s Reg.BIND_UNBOUND_CNT

/-- A PTM dialogue of an upstream port (R296). -/
def ptmDialogue (s : State) (p : Nat) (offset : Word) : State :=
  match upVsw s p with
  | some v =>
    if (agetD (s.func v fnUp).other 178 0).testBit 0 && isSet s (Reg.PORT_STATUS p) Fld.PORT_STATUS_DL_ACTIVE then
      setF (wr s (Reg.HOST_TIME_OFS v) offset) (Reg.PORT_PTM p) Fld.PORT_PTM_VALID 1
    else s
  | none => s

/-- A PTM Request from below is answered with device time plus the host offset of the vSwitch to which the requester is bound (R100). -/
def ptmRequest (s : State) (p rid : Nat) : State :=
  match (if (upVsw s p).isSome then none else resolve s p rid) with
  | some (v, _, _) => if portUp s p then emit s (.message p 0x53 ((s.time + (rd s (Reg.HOST_TIME_OFS v)).toNat) % 2 ^ 64)) else s
  | none => s

end Sys2Proof.Machine
end

