-- ==== Sys2Proof/Machine/EpochOps.lean ====
section
/-!
DEFINITION. Machine/EpochOps.lean: checks and writes of FAM, binding and route entries, rule changes and epochs (R113–R118, R132–R138, R144, R159–R165, R210).
-/
namespace Sys2Proof.Machine

/-! ### Records of a table command -/

/-- The record size, the place of the entry in a record, and the size of an entry, by KIND of R214: 0 FAM, 1 route, 2 binding. -/
def recSize (kind : Nat) : Nat := match kind with | 0 => 40 | 1 => 72 | _ => 24
def entSize (kind : Nat) : Nat := match kind with | 0 => 32 | 1 => 64 | _ => 16

/-- INDEX and entry of each record of a table command's payload; the reserved bytes of a ROUTE_WRITE record count as the high bits of its NODE. -/
def tableRecs (kind : Nat) (p : List Byte) : List (Nat × List Byte) :=
  (List.range (num p 0 2)).map (fun i =>
    let r := (p.drop (8 + recSize kind * i)).take (recSize kind)
    (if kind = 1 then num r 0 8 else num r 0 4, (r.drop 8).take (entSize kind)))

/-- FORCED of a BIND_WRITE (R338). -/
def forcedFlag (p : List Byte) : Bool := bitAt p 2 0

/-- Position of the first record that a check refuses, where each record is checked on the table left by those before it. -/
def firstBad {τ : Type} (step : τ → Nat × List Byte → Option τ) : Nat → τ → List (Nat × List Byte) → Option Nat
  | _, _, [] => none
  | i, t, x :: xs => match step t x with | none => some i | some t => firstBad step (i + 1) t xs

/-- The table to which an entry of an owner belongs (R210): the live one, the shadow one, or neither. -/
def ownerTable (s : State) (owner : Nat) : Option Bool :=
  if mode s != 4 then some true else if owner = nodeId s then some true else if owner = partner s then some false else none

/-- The live tables with the rule changes that wait made in them (R161, R329). -/
def famNext (s : State) : Assoc FamEnt :=
  s.fab.waiting.foldl (fun t c => match c with | .fam _ recs => recs.foldl (fun t x => aput t x.1 x.2) t | _ => t) s.fab.fam
def bindNext (s : State) : Assoc BindEnt :=
  s.fab.waiting.foldl (fun t c => match c with | .bind _ recs => recs.foldl (fun t x => aput t x.1 x.2) t | _ => t) s.hosts.bind

/-! ### FAM entries (R132, R135) -/

/-- What R135 refuses of a valid entry whatever the tables hold. -/
def famSelfBad (b : List Byte) (e : FamEnt) : Bool :=
  1 < e.kind || e.size < 12 || 52 < e.size || e.win % 2 ^ e.size != 0 || (e.kind == 0 && e.remoteBase % 2 ^ e.size != 0) || famReservedSet b ||
    (if e.kind = 0 then e.nodeMask != 0 || e.proxyRid != 0 else e.remoteBase != 0 || e.vsw != 0)

/-- Two windows overlap. -/
def FamEnt.overlaps (a b : FamEnt) : Bool := decide (a.win < b.win + 2 ^ b.size) && decide (b.win < a.win + 2 ^ a.size)

/-- What R135 refuses against the other entries of a table and the aperture. -/
def famTableBad (s : State) (t : Assoc FamEnt) (e : FamEnt) : Bool :=
  if e.kind = 0 then
    decide (aperture s e.vsw < e.win + 2 ^ e.size) || t.any (fun x => x.2.valid && x.2.kind == 0 && x.2.vsw == e.vsw && x.2.overlaps e)
  else
    t.any (fun x => x.2.valid && x.2.kind == 1 && x.2.port == e.port && x.2.overlaps e &&
      ((x.2.node ^^^ e.node) &&& x.2.nodeMask &&& e.nodeMask) == 0)

/-- One FAM record checked on a live table. -/
def famLiveStep (s : State) (t : Assoc FamEnt) (x : Nat × List Byte) : Option (Assoc FamEnt) :=
  let e := famRead x.2
  let t' := adel t x.1
  if 131072 ≤ x.1 then none
  else if e.valid && (famSelfBad x.2 e || famTableBad s t' e) then none
  else some (aput t' x.1 e)

/-- One FAM record of a FAM_WRITE: those for the live table in full, those for the shadow table by themselves (R211). -/
def famStep (s : State) (t : Assoc FamEnt) (x : Nat × List Byte) : Option (Assoc FamEnt) :=
  match ownerTable s (famRead x.2).owner with
  | none => none
  | some true => famLiveStep s t x
  | some false => if 131072 ≤ x.1 || ((famRead x.2).valid && famSelfBad x.2 (famRead x.2)) then none else some t

/-! ### Binding entries (R113, R114) -/

/-- What R107 and R114 refuse of a binding that is to become valid, against the other entries of the table. -/
def bindBad (s : State) (t : Assoc BindEnt) (e : BindEnt) : Bool :=
  e.kind == 3 || decide (getF s (Reg.VSW_CTRL e.vsw) Fld.VSW_CTRL_NUM_VBR ≤ e.bridge) ||
    !(if e.kind = 2 then isDirect s e.vsw e.bridge else isComposed s e.vsw e.bridge) ||
    t.any (fun x => x.2.valid && ((x.2.port == e.port && x.2.devRid == e.devRid) ||
      (x.2.vsw == e.vsw && x.2.bridge == e.bridge && x.2.hostDevfn == e.hostDevfn) || (x.2.port == e.port && (x.2.kind == 2 || e.kind == 2)))) ||
    (e.kind != 2 && !(bridgesOnPort s e.port).isEmpty) ||
    (if e.kind = 2 then bridgePort s e.vsw e.bridge != e.port
     else
       let b := getF s (Reg.DEV_BUS e.port) Fld.DEV_BUS_DEV_BUS_BASE
       decide (e.devRid / 256 < b) || decide (b + getF s (Reg.DEV_BUS e.port) Fld.DEV_BUS_DEV_BUS_COUNT ≤ e.devRid / 256))

/-- The record asks for an orderly unbinding of a bound function (R117, R338). -/
def isOrderly (t : Assoc BindEnt) (forced : Bool) (x : Nat × List Byte) : Bool :=
  !forced && !(bindRead x.2).valid && (match aget t x.1 with | some e => e.valid && e.kind != 2 | none => false)

/-- One binding record checked on a live table (R114): KIND and INDEX of any record, the rest of one with VALID 1 (log entry 120), and an orderly
unbinding only of the only function of its bridge. -/
def bindLiveStep (s : State) (forced : Bool) (t : Assoc BindEnt) (x : Nat × List Byte) : Option (Assoc BindEnt) :=
  let e := bindRead x.2
  let t' := adel t x.1
  if 16384 ≤ x.1 || e.kind == 3 then none
  else if e.valid then (if bindBad s t' e then none else some (aput t' x.1 e))
  else if isOrderly t forced x then
    let old := agetD t x.1 BindEnt.empty
    if t'.any (fun y => y.2.valid && y.2.kind != 2 && y.2.vsw == old.vsw && y.2.bridge == old.bridge) then none else some t
  else some (aput t' x.1 e)

/-- One record of a BIND_WRITE. -/
def bindStep (s : State) (forced : Bool) (t : Assoc BindEnt) (x : Nat × List Byte) : Option (Assoc BindEnt) :=
  match ownerTable s (bindRead x.2).owner with
  | none => none
  | some true => bindLiveStep s forced t x
  | some false => if 16384 ≤ x.1 || (bindRead x.2).kind == 3 then none else some t

/-! ### Route entries (R137, R165) -/

/-- One record of a ROUTE_WRITE: its reserved fields, and for a live entry its ports. -/
def routeStep (s : State) (live : Bool) (u : Unit) (x : Nat × List Byte) : Option Unit :=
  if 4096 ≤ x.1 || routeReservedSet x.2 then none
  else if live && (List.range 8).any (fun k =>
      let p := pathRead (num x.2 (8 + 4 * k) 4) false
      p.configured && (match portLink s p.port with | some _ => false | none => true)) then none
  else some u

/-- The first refused record of a table command, as its coordinator (or a part alone) or as the partner checks it (R165, R211). -/
def tableRefused (s : State) (kind : Nat) (coord : Bool) (p : List Byte) : Option Nat :=
  match kind with
  | 0 => firstBad (famStep s) 0 (famNext s) (tableRecs 0 p)
  | 1 => firstBad (routeStep s coord) 0 () (tableRecs 1 p)
  | _ => firstBad (bindStep s (forcedFlag p)) 0 (bindNext s) (tableRecs 2 p)

/-! ### Writes (R115–R118, R144, R165) -/

/-- PF_SHARED of every entry follows the bindings (R113). -/
def sharePfs (t : Assoc BindEnt) : Assoc BindEnt :=
  t.map (fun e =>
    let sh := t.any (fun x => x.2.valid && x.2.kind == 1 && x.2.port == e.2.port && x.2.vsw != e.2.vsw &&
      Config.pfOf x.2.port x.2.devRid == e.2.devRid)
    (e.1, { e.2 with pfShared := e.2.valid && e.2.kind == 0 && sh }))

/-- A function that is no longer bound, or bound anew: what the part has learnt of it goes. -/
def forgetFn (s : State) (e : BindEnt) : State :=
  let k := fnKey e.port e.devRid
  let s := intxDrop s e.vsw e.bridge e.hostDevfn
  { s with hosts := { s.hosts with ranges := adel s.hosts.ranges k, fnMse := s.hosts.fnMse.filter (fun x => x != k),
                                   fnBme := s.hosts.fnBme.filter (fun x => x != k) } }

/-- Binding entries are written to the live table: PF_SHARED and the slots of composed bridges follow. -/
def bindApply (s : State) (recs : List (Nat × BindEnt)) : State :=
  let olds := recs.filterMap (fun x => (aget s.hosts.bind x.1).filter (fun e => e.valid))
  let t := recs.foldl (fun t x => aput t x.1 x.2) s.hosts.bind
  let s := { s with hosts := { s.hosts with bind := sharePfs t, unbinding := s.hosts.unbinding.filter (fun i => !(recs.map (fun x => x.1)).contains i) } }
  let s := forEach (olds ++ (recs.map (fun x => x.2)).filter (fun e => e.valid)) s forgetFn
  let bs := ((olds ++ recs.map (fun x => x.2)).map (fun e => (e.vsw, e.bridge))).eraseDups
  forEach (bs.map (fun b => b.1)).eraseDups (forEach bs s (fun s b => composedSlot s b.1 b.2)) ltrUpdate

/-- Orderly unbindings begin (R117): Attention Button Pressed on the slot, and the wait for its host. -/
def bindOrderly (s : State) (idx : List Nat) : State :=
  forEach idx s (fun s i =>
    match aget s.hosts.bind i with
    | some e =>
      if s.hosts.unbinding.contains i then s
      else
        let s := { s with hosts := { s.hosts with unbinding := s.hosts.unbinding ++ [i] } }
        s.modFunc e.vsw (fnBridge e.bridge) (fun f => { f with slotStatus := setBit f.slotStatus Sl.attn })
    | none => s)

/-- FAM entries are written to the live table. -/
def famApply (s : State) (recs : List (Nat × FamEnt)) : State :=
  { s with fab := { s.fab with fam := recs.foldl (fun t x => aput t x.1 x.2) s.fab.fam } }

/-- The entry that a route write leaves (R165): a path with the PORT and NEXT_NODE of the configured path it replaces keeps
WDRAWN; any other starts withdrawn unless its port is ACTIVE. -/
def routeNew (s : State) (old : RouteEnt) (b : List Byte) : RouteEnt :=
  { valid := bitAt b 1 7, servedBy := old.servedBy,
    paths := (List.range 8).foldl (fun t k =>
      let p := pathRead (num b (8 + 4 * k) 4) false
      let o := old.path k
      let w := if o.configured && o.port == p.port && o.nextNode == p.nextNode then o.withdrawn else !portActive s p.port
      let p := { p with withdrawn := p.configured && w }
      if p = PathEnt.empty then t else aput t k p) [] }

/-- A route entry is written between two lookups: contexts of paths that go act under R145 and R149, and a set that gains a
path gets a move fence (R144); nothing is advertised. -/
def routeWrite (s : State) (d : Nat) (b : List Byte) : State :=
  let old := route s d
  let olds := (routedBy s d).map (fun x => (x, ecsPorts s x))
  let s1 := { s with fab := { s.fab with routes := aput s.fab.routes d (routeNew s old b) } }
  let new := route s1 d
  let gone := (List.range 8).filter (fun k =>
    let o := old.path k
    let n := new.path k
    old.valid && o.configured && !o.withdrawn &&
      (!new.valid || !n.configured || n.withdrawn || n.port != o.port || n.nextNode != o.nextNode))
  let s1 := forEach gone s1 (fun s k => pathContexts s d k (old.path k).port)
  if new.ecs.any (fun k => !(old.ecs.contains k && (old.path k).port == (new.path k).port)) then forEach olds s1 (fun s x => moveFence s x.1 x.2) else s1

/-- A route entry as the shadow table holds it: without its RO fields (R209). -/
def shadowRoute (b : List Byte) : RouteEnt :=
  { valid := bitAt b 1 7, servedBy := none,
    paths := (List.range 8).foldl (fun t k =>
      let p := pathRead (num b (8 + 4 * k) 4) false
      if p = PathEnt.empty then t else aput t k p) [] }

/-- The 64 bytes of a shadow route entry: RO fields 0. -/
def RouteEnt.shadowBytes (e : RouteEnt) : List Byte :=
  natLe 2 (b2n e.valid * 32768) ++ zeros 6 ++ (List.range 8).flatMap (fun k => natLe 4 (e.path k).word) ++ zeros 24

/-- The records of a table command for this twin's shadow tables are written (R210); a SERVING twin changes them by T_SYNC alone (R221). -/
def shadowApply (s : State) (kind : Nat) (coord : Bool) (p : List Byte) : State :=
  let rs := tableRecs kind p
  if twinState s = 3 then s else
  match kind with
  | 0 =>
    let mine := rs.filter (fun x => ownerTable s (famRead x.2).owner == some false)
    { s with twin := { s.twin with shadowFam := mine.foldl (fun t x => aput t x.1 (famRead x.2)) s.twin.shadowFam } }
  | 1 =>
    if coord then s
    else { s with twin := { s.twin with shadowRoute := rs.foldl (fun t x => aput t x.1 (shadowRoute x.2)) s.twin.shadowRoute } }
  | _ =>
    let mine := rs.filter (fun x => ownerTable s (bindRead x.2).owner == some false && !isOrderly s.twin.shadowBind (forcedFlag p) x)
    { s with twin := { s.twin with shadowBind := mine.foldl (fun t x => aput t x.1 { (bindRead x.2) with pfShared := false }) s.twin.shadowBind } }

/-! ### Epochs (R159–R164) -/

/-- An advance that takes effect at once: what is still stamped with the slot that it reuses is flagged for recheck and leaves its count (R161). -/
def epochNow (s : State) : State :=
  let slot := (epoch s + 1) % 4
  let old := fun (h : Held) => !h.uncounted && h.epoch % 4 == slot
  epochAdvance (leaveCount (flagRecheck s old) old)

/-- The reply payload of a table command (R165, R338): EPOCH, INDEX, and for a BIND_WRITE the orderly unbindings still waiting. -/
def tablePayload (s : State) (opcode index : Nat) : List Byte :=
  (if opcode = 0x0203 then zeros 4 else natLe 4 (epoch s)) ++ natLe 2 index ++ natLe 2 (if opcode = 0x0201 then s.hosts.unbinding.length else 0)

/-- The reply of a command whose table change has been applied; a T_COMMIT is answered with TXN and EPOCH, and its transaction
has then been applied on both twins as far as this twin knows (R211, R212). -/
def ruleReply (s : State) (r : IcpReq) : State :=
  if r.opcode = 0x0712 then
    let s := if getF s Reg.TWIN_TXN Fld.TWIN_TXN_TXN = num r.payload 0 4 then setF s Reg.TWIN_TXN Fld.TWIN_TXN_FATE 2 else s
    reply s r St.ok (r.payload.take 4 ++ natLe 4 (epoch s))
  else reply s r St.ok (tablePayload s r.opcode 0)

/-- ACS Control of a bridge, its enables masked to those it implements (R119): bits 0–6. -/
def acsWrite (s : State) (v k acs vec : Nat) : State := s.modFunc v k (fun f => { f with acs := acs % 128, acsVec := vec % 2 ^ 64 })

/-- A rule change is made, the epoch advances by one, and its command is answered. -/
def ruleApply (s : State) (c : RuleChange) : State :=
  match c with
  | .fam r recs => let s := epochNow (famApply s recs); match r with | some r => ruleReply s r | none => s
  | .bind r recs => let s := epochNow (bindApply s recs); match r with | some r => ruleReply s r | none => s
  | .acs v k acs vec => epochNow (acsWrite s v k acs vec)

/-- The slot that the next epoch would reuse holds TLPs (R161). -/
def slotHolds (s : State) : Bool := epochCount s ((epoch s + 1) % 4) != 0

/-- A rule change is made now, or waits for its slot behind those that wait. -/
def ruleChange (s : State) (c : RuleChange) : State :=
  if s.fab.waiting.isEmpty && !slotHolds s then ruleApply s c
  else { s with fab := { s.fab with waiting := s.fab.waiting ++ [c] } }

/-- The rule changes that wait and whose slot is free are made. -/
def ruleDrain : Nat → State → State
  | 0, s => s
  | fuel + 1, s =>
    match s.fab.waiting with
    | [] => s
    | c :: rest => if slotHolds s then s else ruleDrain fuel (ruleApply { s with fab := { s.fab with waiting := rest } } c)

/-- The slot of the oldest waiting change drains or SYNC_LIMIT passes (R161): what is left in it is flagged, and the change is made. -/
def slotDrained (s : State) : State :=
  match s.fab.waiting with
  | [] => s
  | c :: rest => ruleDrain rest.length (ruleApply { s with fab := { s.fab with waiting := rest } } c)

/-- The part of a table command that this twin's live tables take (R116, R165, R210): FAM and binding records as one rule change, route
records between two lookups, orderly unbindings begin; then the command is answered. -/
def liveApply (s : State) (kind : Nat) (coord : Bool) (req : Option IcpReq) (p : List Byte) : State :=
  let answer := fun (s : State) => match req with | some r => ruleReply s r | none => s
  let rs := tableRecs kind p
  match kind with
  | 0 =>
    let mine := (rs.map (fun x => (x.1, famRead x.2))).filter (fun x => ownerTable s x.2.owner == some true)
    if mine.isEmpty then answer s else ruleChange s (.fam req mine)
  | 1 => answer (if coord then forEach rs s (fun s x => routeWrite s x.1 x.2) else s)
  | _ =>
    let mine := rs.filter (fun x => ownerTable s (bindRead x.2).owner == some true)
    let wait := mine.filter (isOrderly (bindNext s) (forcedFlag p))
    let now_ := mine.filter (fun x => !isOrderly (bindNext s) (forcedFlag p) x)
    let s := bindOrderly s (wait.map (fun x => x.1))
    if now_.isEmpty then answer s else ruleChange s (.bind req (now_.map (fun x => (x.1, bindRead x.2))))

/-! ### The MPU at the table store (R451, R454) -/

/-- Offsets of the tables in the table store: the parts of R15 in the order of its table (log entry 47). -/
abbrev Tbl.fam : Nat := 0
abbrev Tbl.ctx : Nat := 0x400000
abbrev Tbl.frc : Nat := 0xA00000
abbrev Tbl.bind : Nat := 0xC00000
abbrev Tbl.route : Nat := 0xC40000
abbrev Tbl.meter : Nat := 0xF00000
abbrev Tbl.shadow : Nat := 0x1000000

/-- The master that writes the tables for a table command: the twin mirror agent in mode 4, else a management core (R451; log entry 127). -/
def tableMaster (s : State) : Nat := if mode s = 4 then 11 else 1

/-- The address of the large MPU at which an entry of a table stands (R452). -/
def tableAddr (kind i : Nat) : Nat :=
  0x8000000000 + (match kind with | 0 => Tbl.fam + 32 * i | 1 => Tbl.route + 64 * i | _ => Tbl.bind + 16 * i)

/-- The first entry of a table command that the large MPU does not let be written. -/
def tableDenied (s : State) (kind : Nat) (p : List Byte) : Option Nat :=
  ((tableRecs kind p).map (fun x => tableAddr kind x.1)).find? (fun a => !mpuAllows s 0 a .write (tableMaster s) 1)

/-- A table write that the MPU denies ends with INTERNAL, which raises source 0x0501 (R346, R454). -/
def tableFail (s : State) (kind a : Nat) (req : Option IcpReq) : State :=
  let op := match req, kind with | some r, _ => r.opcode | none, 0 => 0x0202 | none, 1 => 0x0203 | none, _ => 0x0201
  let s := detect (mpuDeny s 0 a .write (tableMaster s) 1 false) 0x0501 .contained Uk.icp 0 op
  match req with
  | some r => reply s r St.internal (if r.opcode = 0x0712 then r.payload.take 4 ++ natLe 4 (epoch s) else tablePayload s r.opcode 0)
  | none => s

/-- A table command is carried out on this part: the shadow tables of a pair first, then the live ones; none where the MPU denies a write. -/
def tableStore (s : State) (kind : Nat) (coord : Bool) (req : Option IcpReq) (p : List Byte) : State :=
  match tableDenied s kind p with
  | some a => tableFail s kind a req
  | none => liveApply (if mode s = 4 then shadowApply s kind coord p else s) kind coord req p

/-- The epoch that a held TLP is stamped with. -/
def stampOf (s : State) (h : Held) : Nat := epoch s - (epoch s + 4 - h.epoch % 4) % 4

/-- SYNC_LIMIT passes for the oldest ended epoch that requests still hold (R162). -/
def syncExpiry (s : State) : State :=
  let open_ := (queuedHeld s).filter (fun h => h.flaggable && !h.uncounted && decide (stampOf s h < epoch s))
  match (open_.map (stampOf s)).min? with
  | some e => flagRecheck s (fun h => !h.uncounted && stampOf s h == e)
  | none => s

/-- No request stamped before an epoch is left unflagged (R164). -/
def synced (s : State) (target : Nat) : Bool :=
  (stampedHeld s).all (fun h => !h.flaggable || h.uncounted || decide (target ≤ stampOf s h))

/-- EPOCH_SYNC replies (R164, R165): the epoch reached and the requests flagged, on both twins together with BOTH. -/
def syncReply (s : State) (w : EpochWait) (status : Nat) : State :=
  let s := { s with fab := { s.fab with syncs := s.fab.syncs.erase w } }
  reply s w.req status (natLe 4 (epoch s) ++ natLe 4 (min 0xFFFFFFFF (s.fab.flagged - w.from_ + w.twinFlagged)))

/-- The oldest EPOCH_SYNC whose requests have all left or been flagged, and whose partner has answered, replies. -/
def syncDone (s : State) : State :=
  match s.fab.syncs.find? (fun w => synced s w.target && (!w.both || w.twinDone)) with
  | some w => syncReply s w St.ok
  | none => s

end Sys2Proof.Machine
end

