-- ==== Sys2Proof/Machine/LinkOps.lean ====
section
/-!
DEFINITION. Machine/LinkOps.lean: Calez links: down, training, equalisation, acknowledgement, QUIET, frames received, time
exchange (R98, R172–R205, R267–R272).
-/
namespace Sys2Proof.Machine

def setCz (s : State) (n : Nat) (f : Field) (x : Nat) : State := setF s (Reg.CZ_STATUS n) f x
def setCzState (s : State) (n x : Nat) : State := setCz s n Fld.CZ_STATUS_STATE x

/-- Reasons of CZ_DOWN. -/
abbrev Dn.timeout : Nat := 0x01
abbrev Dn.align : Nat := 0x02
abbrev Dn.replay : Nat := 0x03
abbrev Dn.protocol : Nat := 0x04
abbrev Dn.self : Nat := 0x05
abbrev Dn.partner : Nat := 0x06
abbrev Dn.wake : Nat := 0x07
abbrev Dn.uncorr : Nat := 0x08
abbrev Dn.tile : Nat := 0x09
abbrev Dn.refused : Nat := 0x0A
abbrev Dn.empty : Nat := 0x0B
abbrev Dn.passes : Nat := 0x0C
abbrev Dn.fenced : Nat := 0x0D

/-- The port of a link; 0 where the link has none. -/
def czPort (s : State) (n : Nat) : Nat := (linkPort s n).getD 0

/-- The link is the twin link (R206). -/
def isTwinLink (s : State) (n : Nat) : Bool := isSet s (Reg.CZ_CTRL n) Fld.CZ_CTRL_TWIN
def twinLink (s : State) : Option Nat := (calezLinks s).find? (isTwinLink s)
def twinLive (s : State) : Bool := match twinLink s with | some n => czLive s n | none => false

/-- KA_INTERVAL as in force: 4 on the twin link (R208). -/
def kaInterval (s : State) (n : Nat) : Nat := if isTwinLink s n && mode s == 4 then 4 else getF s (Reg.CZ_TIMER n) Fld.CZ_TIMER_KA_INTERVAL

/-! ### Down and RESET (R188, R189, R193, R200) -/

/-- A link enters RESET: RESET blocks go out, its training state is forgotten; the PRESS step on its lanes is abandoned. -/
def enterReset (s : State) (n reason : Nat) : State :=
  let s := lanesDown (pressAbandonPort s (czPort s n)) (czPort s n)
  let s := setCz (setCz (setCz (setCz s n Fld.CZ_STATUS_STATE Cz.reset) n Fld.CZ_STATUS_WIDTH 0) n Fld.CZ_STATUS_RATE 0) n Fld.CZ_STATUS_REVERSED 0
  (emit s (.block n (.reset (nodeId s) reason))).modLink n (fun l =>
    { l with param := none, laneOk := 0, quietAsked := false, discarding := false, eqPeer := [], eqCnt := [], eqFom := [], eqDone := [],
             resetAt := some (s.time, reason), resumed := false })

/-- Training begins anew from RESET, with PASS at 0 (R193). -/
def restartTraining (s : State) (n : Nat) : State := setCz (enterReset s n 0) n Fld.CZ_STATUS_PASS 0

/-- The link goes down (R189): its frames unacknowledged wait for resolution, its paths are withdrawn, its VOQs dropped. -/
def czDown (s : State) (n reason : Nat) : State :=
  if !czLive s n then s
  else
    let p := czPort s n
    let l := s.link n
    let peer := Reg.CZ_PEER n
    let node := getF s peer Fld.CZ_PEER_PEER_NODE
    let s := wr (bump s (Reg.CZ_DOWN_CNT n)) (Reg.CZ_DOWN n) (BitVec.ofNat 64 (czState s n * 256 + reason))
    let ended : Option EndedSession :=
      if l.unacked.isEmpty then none else some ⟨getF s (Reg.CZ_STATUS n) Fld.CZ_STATUS_SESSION, node, p, l.unacked⟩
    let prev : PrevRx := ⟨node, getF s peer Fld.CZ_PEER_PEER_SESSION, getF s peer Fld.CZ_PEER_PEER_PORT, czAck l, 3⟩
    let s := s.modLink n (fun l => { l with ended := ended, prev := some prev, unacked := [], txq := [], objRx := [], icpPart := [], unreported := 0,
                                            owed := [], crDue := [], uncorr := [], nakAt := none, replays := 0, held := !isSet s (Reg.CZ_CTRL n) Fld.CZ_CTRL_AUTO_RETRAIN })
    let s := setCz (enterReset s n reason) n Fld.CZ_STATUS_PASS 0
    let s := setCz s n Fld.CZ_STATUS_RESOLVE_PENDING (b2n ended.isSome)
    let s := frcRate (wr s (Reg.CORE_PORT_BW p) 0) p
    let s := corePortDown (portPathsDown s p) p 0x0C
    if reason = Dn.self ∨ reason = Dn.partner ∨ reason = Dn.fenced then s
    else detect s 0x0210 .contained Uk.calez n (rd s (Reg.CZ_DOWN n)).toNat

/-- A link is refused or cannot agree: held in RESET, a CONTAINED fault (R196, R197). -/
def czRefuse (s : State) (n reason : Nat) : State :=
  let s := wr s (Reg.CZ_DOWN n) (BitVec.ofNat 64 (czState s n * 256 + reason))
  let s := (enterReset s n reason).modLink n (fun l => { l with held := true })
  detect s 0x0211 .contained Uk.calez n (rd s (Reg.CZ_DOWN n)).toNat

/-- A link held in RESET may train again. -/
def czUnhold (s : State) (n : Nat) : State :=
  if czState s n = Cz.reset then setCz (s.modLink n (fun l => { l with held := false })) n Fld.CZ_STATUS_PASS 0 else s

/-- Held because it was refused or found no agreement: reasons 0x0A to 0x0C. -/
def czRefused (s : State) (n : Nat) : Bool :=
  (s.link n).held && (let r := getF s (Reg.CZ_DOWN n) Fld.CZ_DOWN_REASON; decide (Dn.refused ≤ r ∧ r ≤ Dn.passes))

/-- A reset is requested at this side (R189, R200): an ACTIVE link goes down; a held link trains again; a reset under way is joined. -/
def czResetReq (s : State) (n : Nat) : State :=
  if czLive s n then czDown s n Dn.self else czUnhold s n

/-- TRAIN_EN is cleared: an ACTIVE link goes down with reason 0x05, a training one enters RESET. -/
def trainEnClear (s : State) (n : Nat) : State :=
  let s := setF s (Reg.CZ_CTRL n) Fld.CZ_CTRL_TRAIN_EN 0
  if czLive s n then czDown s n Dn.self else if czState s n = Cz.reset then s else restartTraining s n

/-- TRAIN_EN is set. -/
def trainEnSet (s : State) (n : Nat) : State :=
  let was := isSet s (Reg.CZ_CTRL n) Fld.CZ_CTRL_TRAIN_EN
  let s := setF s (Reg.CZ_CTRL n) Fld.CZ_CTRL_TRAIN_EN 1
  if was then s else portWake (czUnhold s n) (czPort s n)

/-- The offer is written: it applies at the next PARAM; a link held with reason 0x0A to 0x0C trains again. -/
def offerWrite (s : State) (n w r : Nat) : State :=
  let s := setF (setF s (Reg.CZ_CTRL n) Fld.CZ_CTRL_OFFER_W w) (Reg.CZ_CTRL n) Fld.CZ_CTRL_OFFER_R r
  if czRefused s n then czUnhold s n else s

/-- A RESET block arrives (R200): an ACTIVE link goes down, a refused one trains again; from DETECT to PARAM it joins the reset under way: RESET is
entered again, uncounted, PASS kept (log entry 121). -/
def resetBlock (s : State) (n : Nat) : State :=
  let s := s.modLink n (fun l => { l with discarding := false })
  if czLive s n then czDown s n Dn.partner
  else if czState s n = Cz.reset then (if czRefused s n then czUnhold s n else s)
  else enterReset s n 0

/-- CLEAR of CZ_STORED: the start point and the records of classes 4 and 5 go (R271). -/
def storedClear (s : State) (n : Nat) : State :=
  let s := wr s (Reg.CZ_STORED n) 0
  match portSlot s (czPort s n) with
  | some (t, i) => clearCoef s t i (fun c => c == 4 || c == 5)
  | none => s

/-! ### Training (R193–R199) -/

/-- The link may train: enabled, not held, not fenced, its tile clocked, in a mode with Calez ports. -/
def czMayTrain (s : State) (n : Nat) : Bool :=
  (linkPort s n).isSome && isSet s (Reg.CZ_CTRL n) Fld.CZ_CTRL_TRAIN_EN && !(s.link n).held && !isFenced s ⟨Uk.calez, n⟩ &&
    tileClocked s (n / 4) true && (mode s == 3 || mode s == 4 || mode s == 5)

/-- Lanes of a link's slot. -/
def czLanes (s : State) (n : Nat) : Nat := slotWidth (tileSplit s (n / 4)) (n % 4)

/-- Code of a width: 1 x4, 2 x8, 3 x16. -/
def widthCode (w : Nat) : Nat := if 16 ≤ w then 3 else if 8 ≤ w then 2 else 1
def codeWidth (c : Nat) : Nat := if c = 0 then 0 else 2 ^ (c + 1)

/-- The port lane of a logical lane, and the logical lane of a port lane: mirrored where the whole link is reversed (R167). -/
def portLane (s : State) (n lane : Nat) : Nat := if isSet s (Reg.CZ_STATUS n) Fld.CZ_STATUS_REVERSED then czLanes s n - 1 - lane else lane

/-- A mask of logical lanes with the order of the port's lanes turned round. -/
def mirrorMask (w m : Nat) : Nat := (bitsOf w m).foldl (fun a i => a + 2 ^ (w - 1 - i)) 0

/-- Mask of `w` lanes from `b` up. -/
def laneMask (b w : Nat) : Nat := (2 ^ w - 1) * 2 ^ b

/-- At least four aligned lanes are in a mask. -/
def alignedLanes (m : Nat) : Bool := (List.range 4).any (fun i => bitsAt m (4 * i) 4 == 15)

/-- DETECT ends with the lanes detected, a lane under test not among them (R279): LOCK begins at the start point or the training point (R194). -/
def detectDone (s : State) (n found : Nat) : State :=
  let lanes := (bitsOf (czLanes s n) found).foldl (fun m i => if (s.tile (n / 4)).testLanes.testBit (4 * (n % 4) + i) then m else setBit m i) 0
  if !alignedLanes (lanes % 2 ^ czLanes s n) then s
  else
    let k := Reg.CZ_STORED n
    let l := s.link n
    let pass := getF s (Reg.CZ_STATUS n) Fld.CZ_STATUS_PASS
    let start := pass == 0 && isSet s k Fld.CZ_STORED_VALID && !l.skipStart
    let s := match portSlot s (czPort s n) with
      | some (t, i) => lanesSet s t i Fld.LANE_STATUS_DETECTED (fun x => b2n (lanes.testBit x))
      | none => s
    let s := if pass = 0 then setCz s n Fld.CZ_STATUS_LANE_BASE (if start then l.startBase else 0) else s
    let s := s.modLink n (fun l =>
      if start then { l with atStart := true, tryWidth := getF s k Fld.CZ_STORED_WIDTH, tryRate := getF s k Fld.CZ_STORED_RATE, laneOk := lanes }
      else if pass = 0 then { l with atStart := false, skipStart := false, tryWidth := widthCode (czLanes s n), tryRate := 0, laneOk := lanes }
      else { l with atStart := false, laneOk := lanes })
    setCzState (pressAbandonPort s (czPort s n)) n Cz.lock

/-- What this side offers in PARAM (R195): the offer as read at its entry. -/
def ownParam (s : State) (n : Nat) : Param :=
  let l := s.link n
  let pv := l.prev.getD ⟨0, 0, 0, 0, 0⟩
  { node := nodeId s, twin := isTwinLink s n, port := czPort s n,
    widths := l.offer.1 % 2 ^ widthCode (czLanes s n), rates := l.offer.2,
    session := (getF s (Reg.CZ_STATUS n) Fld.CZ_STATUS_SESSION + 1) % 256, ka := kaInterval s n, prevValid := l.prev.isSome, prevNode := pv.node,
    prevSession := pv.session, prevRxLast := pv.rxLast, prevPort := pv.port, laneOk := l.laneOk }

/-- Seeds of equalisation (R271, R272): the stored TX of each lane at the rate, or the flat setting 0, 0, 63, 0. -/
def eqSeed (s : State) (n : Nat) : Assoc Nat :=
  (List.range (czLanes s n)).map (fun i =>
    let r := coefOf s (n / 4) (n % 4 * 4 + portLane s n i) (4 + (s.link n).tryRate)
    (i, if bitAt r 0 7 then num r 1 3 else 63 * 4096))

/-- The first setting that the leader asks of the partner on a lane (R271, R272): the stored PEER_TX, or the flat setting where no record is held or
it is another partner's. -/
def eqAsk (s : State) (n lane : Nat) : Nat :=
  let r := coefOf s (n / 4) (n % 4 * 4 + portLane s n lane) (4 + (s.link n).tryRate)
  if bitAt r 0 7 && num r 48 2 == (s.link n).peer.1 % 4096 && num r 50 1 == (s.link n).peer.2 % 64 then num r 4 3 else 63 * 4096

/-- PARAM is entered: this side's blocks go out. -/
def enterParam (s : State) (n : Nat) : State :=
  let s := setCzState (pressAbandonPort s (czPort s n)) n Cz.param
  let s := s.modLink n (fun l => { l with param := none, offer := (getF s (Reg.CZ_CTRL n) Fld.CZ_CTRL_OFFER_W, getF s (Reg.CZ_CTRL n) Fld.CZ_CTRL_OFFER_R) })
  emits s ((List.range 3).map (fun i => .block n (.param i false (ownParam s n))))

/-- The result of two offers (R196): width code, first lane of the group, rate; none where either set is empty. -/
def paramResult (a b : Param) (width : Nat) : Option (Nat × Nat × Nat) :=
  let ok := a.laneOk &&& b.laneOk
  let group := fun (c : Nat) =>
    if !(a.widths.testBit (c - 1) && b.widths.testBit (c - 1)) then none
    else
      let w := codeWidth c
      ((List.range (width / w)).find? (fun j => bitsAt ok (j * w) w == 2 ^ w - 1)).map (fun j => (c, j * w))
  let rate := if a.rates.testBit 1 && b.rates.testBit 1 then some 1 else if a.rates.testBit 0 && b.rates.testBit 0 then some 0 else none
  match [3, 2, 1].findSome? group, rate with
  | some (c, j), some r => some (c, j, r)
  | _, _ => none

/-- Payload rate of a Calez port in 0.1 GB/s (R167). -/
def czBw (code rate : Nat) : Nat := (if rate = 1 then 1445 else 720) * codeWidth code / 10

/-- A link enters ACTIVE from PARAM (R181, R183, R190, R194, R271): a new session, every LIMIT sent, the start point and the coefficient
records stored, its paths back or waiting for RESTORE, its node advertised. -/
def linkActive (s : State) (n : Nat) (p : Param) (code base rate : Nat) : State :=
  let port := czPort s n
  let s := takeRsv s port
  let st := Reg.CZ_STATUS n
  let s := setF s st Fld.CZ_STATUS_SESSION ((getF s st Fld.CZ_STATUS_SESSION + 1) % 256)
  let s := setCz (setCz (setCz (setCzState (pressAbandonPort s port) n Cz.active) n Fld.CZ_STATUS_WIDTH code) n Fld.CZ_STATUS_RATE rate) n Fld.CZ_STATUS_LANE_BASE base
  let s := wr s (Reg.CZ_PEER n) (BitVec.ofNat 64 (p.node % 4096 * 65536 + p.port % 64 * 256 + p.session % 256))
  let keys := (List.range 8).flatMap (fun v => (List.range 3).map (fun c => (v, c)))
  let lims := keys.map (fun x => (x.1 * 4 + x.2, czLimit0 s port x.1 x.2))
  let s := s.modLink n (fun l =>
    { l with nextTx := 0, nextRx := 0, unacked := [], replays := 0, replayAt := 0, ackMoved := s.time, unreported := 0, nakAt := none,
             startBase := base, crDue := [], uncorr := [], owed := [], discarding := false, limit := [], cons := [], rxLimit := lims, rxUsed := [], objRx := [], lastValid := s.time,
             lastFrame := s.time, partnerKa := p.ka, quietAsked := false, txq := [], icpPart := [],
             skipStart := false })
  let s := emits s (keys.map (fun x => .block n (.credit x.1 x.2 (czLimit0 s port x.1 x.2))))
  let s := wr s (Reg.CZ_STORED n) (BitVec.ofNat 64 (2 ^ 31 + code * 2 ^ 29 + rate * 2 ^ 28 + p.node % 4096 * 65536 + p.port % 64 * 256))
  let l := s.link n
  let s := match portSlot s port with
    | some (t, i) => coefStore s t i (4 + rate) (fun x => agetD l.eqTx (portLane s n x) 258048) (fun x => agetD l.eqPeer (portLane s n x) 258048) (p.node % 4096) (p.port % 64)
    | none => s
  let s := frcRate (wr (lanesUp s port (6 + rate)) (Reg.CORE_PORT_BW port) (BitVec.ofNat 64 (65536 + czBw code rate))) port
  portPathsUp s port

/-- PARAM with the partner's blocks at hand (R192, R196, R197). -/
def paramGo (s : State) (n : Nat) : State :=
  if czState s n != Cz.param then s
  else
  match (s.link n).param with
  | none => s
  | some p =>
    let l := s.link n
    let me := ownParam s n
    if (mode s = 3 ∨ mode s = 4) ∧ p.node = nodeId s then czRefuse s n Dn.refused
    else if mode s = 4 ∧ isTwinLink s n ∧ (p.node ≠ partner s ∨ !p.twin) then czRefuse s n Dn.refused
    else
      match paramResult me p (czLanes s n) with
      | none => czRefuse s n Dn.empty
      | some (c, b, r) =>
        if c = l.tryWidth ∧ r = l.tryRate then
          if l.ended.isSome then s else linkActive s n p c b r
        else
          let pass := getF s (Reg.CZ_STATUS n) Fld.CZ_STATUS_PASS
          if 2 ≤ pass then czRefuse s n Dn.passes
          else
            let s := setCz (setCz (enterReset s n 0) n Fld.CZ_STATUS_PASS (pass + 1)) n Fld.CZ_STATUS_LANE_BASE b
            s.modLink n (fun l => { l with tryWidth := c, tryRate := r })

/-- The partner's PARAM blocks arrive (R190, R195, R196): their PREV fields may settle the ended session. -/
def paramRx (s : State) (n : Nat) (p : Param) : State :=
  if czState s n != Cz.param then s
  else
    let s := s.modLink n (fun l => { l with param := some p })
    let s := match (s.link n).ended with
      | some e => if p.prevValid ∧ p.node = e.node ∧ p.prevNode = nodeId s ∧ p.prevPort = czPort s n ∧ p.prevSession = e.session then endedResolve s n p.prevRxLast else s
      | none => s
    paramGo s n

/-- A TRAIN block of a lane (R174), with the training state, node and port of this side. -/
def trainBlock (s : State) (n lane op arg : Nat) : Block := .train lane (czState s n) (czPort s n) op arg (nodeId s)

/-- A lane of the link has a record of another partner than ALIGN shows: its search is full, and the fall-back counted (R272). -/
def eqFellBack (s : State) (n lane : Nat) : Bool :=
  let r := coefOf s (n / 4) (n % 4 * 4 + portLane s n lane) (4 + (s.link n).tryRate)
  bitAt r 0 7 && !(num r 48 2 == (s.link n).peer.1 % 4096 && num r 50 1 == (s.link n).peer.2 % 64)

/-- LOCK ends on the lanes of `ok`: the polarity found on each is corrected; which lanes come inverted is free (R167, R193). -/
def lockDone (s : State) (n ok : Nat) : State :=
  let (inv, s) := draw s 16
  let s := s.modLink n (fun l => { l with laneOk := ok })
  let s := match portSlot s (czPort s n) with
    | some (t, i) => lanesSet (lanesSet s t i Fld.LANE_STATUS_LOCKED (fun x => b2n (ok.testBit x))) t i Fld.LANE_STATUS_POL_INV (fun x => b2n (ok.testBit x && inv.testBit x))
    | none => s
  setCzState (pressAbandonPort s (czPort s n)) n Cz.align

/-- ALIGN ends: reversal of the whole link is corrected, whether it comes reversed being free; the sides know each other's node and port, and the lower
leads EQ (R193, R198): it asks each lane's first setting of the partner. -/
def alignDone (s : State) (n node port : Nat) : State :=
  let (r, s) := draw s 1
  let s := setCz s n Fld.CZ_STATUS_REVERSED r
  let s := s.modLink n (fun l => { l with peer := (node, port), laneOk := if r = 1 then mirrorMask (czLanes s n) l.laneOk else l.laneOk,
                                          eqPeer := [], eqCnt := [], eqFom := [], eqDone := [] })
  let s := s.modLink n (fun l => { l with eqTx := eqSeed s n })
  let lead := decide (nodeId s < node) || (nodeId s == node && decide (czPort s n < port))
  let s := setCz s n Fld.CZ_STATUS_LEAD (b2n lead)
  let lanes := bitsOf (czLanes s n) (s.link n).laneOk
  let s := if lanes.any (eqFellBack s n) then bump s (Reg.TILE_EQ_FB_CNT (n / 4)) else s
  let s := setCzState (pressAbandonPort s (czPort s n)) n Cz.eq
  if lead then emits s (lanes.map (fun i => .block n (trainBlock s n i 1 (eqAsk s n i)))) else s

/-- EQ ends: the leader sends DONE on the lanes that have not ended (R269), and PARAM begins. -/
def eqDone (s : State) (n lanes : Nat) : State :=
  let s := s.modLink n (fun l => { l with laneOk := l.laneOk &&& lanes })
  let open_ := (bitsOf (czLanes s n) (s.link n).laneOk).filter (fun i => !(s.link n).eqDone.contains i)
  let s := if isSet s (Reg.CZ_STATUS n) Fld.CZ_STATUS_LEAD then emits s (open_.map (fun i => .block n (trainBlock s n i 3 (agetD (s.link n).eqTx i 258048)))) else s
  enterParam s n

/-- This side's RESUME goes out (R203). -/
def resumeSend (s : State) (n : Nat) : State :=
  emit (s.modLink n (fun l => { l with resumed := true })) (.block n (.resume (czAck (s.link n)) (getF s (Reg.CZ_STATUS n) Fld.CZ_STATUS_SESSION)))

/-- A training state reaches its exit, with the lanes that passed it and, from ALIGN, the partner's node and port (R193); a link that wakes has its lanes
locked and aligned again (R203). -/
def trainExit (s : State) (n lanes node port : Nat) : State :=
  let l := s.link n
  let base := getF s (Reg.CZ_STATUS n) Fld.CZ_STATUS_LANE_BASE
  let group := if l.atStart || 0 < getF s (Reg.CZ_STATUS n) Fld.CZ_STATUS_PASS then laneMask base (codeWidth l.tryWidth) else laneMask 0 (czLanes s n)
  match czState s n with
  | 0 => if czMayTrain s n then setCzState (pressAbandonPort s (czPort s n)) n Cz.detect else s
  | 1 => detectDone s n lanes
  | 2 => lockDone s n (l.laneOk &&& lanes &&& group)
  | 3 => alignDone s n node port
  | 4 => eqDone s n lanes
  | 5 => paramGo s n
  | 8 => resumeSend s n
  | _ => s

/-- LOCK, ALIGN, EQ or PARAM times out (R193, R194). -/
def trainTimeout (s : State) (n : Nat) : State :=
  let st := czState s n
  if st < 2 ∨ 5 < st then s
  else
    let s := if st = Cz.lock ∧ (s.link n).atStart then s.modLink n (fun l => { l with skipStart := true }) else s
    restartTraining s n

/-- DETECT is tried again. -/
def detectRetry (s : State) (n lanes : Nat) : State := if czState s n = Cz.detect then detectDone s n lanes else s

/-- Signal is lost on every included lane during training. -/
def signalLoss (s : State) (n : Nat) : State := if 2 ≤ czState s n ∧ czState s n ≤ 5 then restartTraining s n else s

/-! ### Equalisation (R268–R270) -/

/-- A six-bit field as a magnitude: fields other than MAIN are signed. -/
def mag6 (x : Nat) : Nat := if 32 ≤ x then 64 - x else x

/-- A setting is legal: taps of −31 to 0 beside the main cursor, their magnitudes adding up to 63 (R268). -/
def eqLegal (a : Nat) : Bool :=
  let post := bitsAt a 18 6
  let pre1 := bitsAt a 6 6
  let pre2 := bitsAt a 0 6
  let neg := fun (x : Nat) => x == 0 || decide (33 ≤ x)
  neg post && neg pre1 && neg pre2 && mag6 pre2 + mag6 pre1 + bitsAt a 12 6 + mag6 post == 63

/-- Own setting of a lane. -/
def ownTx (s : State) (n lane : Nat) : Nat := agetD (s.link n).eqTx lane 258048

/-- TRAIN SET: a legal setting is applied; HOLD answers with the one in use. -/
def trainSet (s : State) (n lane arg : Nat) : State :=
  if czState s n != Cz.eq then s
  else
    let a := arg % 2 ^ 24
    let s := if eqLegal a then s.modLink n (fun l => { l with eqTx := aput l.eqTx lane a }) else s
    emit s (.block n (trainBlock s n lane 0 (ownTx s n lane)))

/-- A legal setting from a free value (R268): every legal one comes from some value. -/
def legalOf (r : Nat) : Nat :=
  let a := r % 32
  let b := min (r / 32 % 32) (63 - a)
  let c := min (r / 1024 % 32) (63 - a - b)
  (64 - a) % 64 * 2 ^ 18 + (63 - a - b - c) * 2 ^ 12 + (64 - b) % 64 * 2 ^ 6 + (64 - c) % 64

/-- The leader goes on with a lane (R269): it asks another setting of the partner, changes its own, or ends the lane; the order of the search and its
steps are free (log entry 122). -/
def eqLead (s : State) (n lane : Nat) : State :=
  let (r, s) := draw s 17
  let a := legalOf (r / 4)
  if (s.link n).eqDone.contains lane then s
  else if r % 4 = 0 then emit s (.block n (trainBlock s n lane 1 a))
  else if r % 4 = 1 then emit (s.modLink n (fun l => { l with eqTx := aput l.eqTx lane a })) (.block n (trainBlock s n lane 0 a))
  else emit (s.modLink n (fun l => { l with eqDone := l.eqDone ++ [lane] })) (.block n (trainBlock s n lane 3 (ownTx s n lane)))

/-- TRAIN HOLD: a changed setting of the leader is answered with FOM, its count and the SNR measured; to the leader it is the answer to SET. -/
def trainHold (s : State) (n lane arg snr : Nat) : State :=
  if czState s n != Cz.eq then s
  else
    let l := s.link n
    let a := arg % 2 ^ 24
    if isSet s (Reg.CZ_STATUS n) Fld.CZ_STATUS_LEAD then eqLead (s.modLink n (fun l => { l with eqPeer := aput l.eqPeer lane a })) n lane
    else if aget l.eqPeer lane = some a then s
    else
      let c := (agetD l.eqCnt lane 0 + 1) % 256
      let s := s.modLink n (fun l => { l with eqPeer := aput l.eqPeer lane a, eqCnt := aput l.eqCnt lane c })
      emit s (.block n (trainBlock s n lane 2 (c * 65536 + min 0xFFFF snr)))

/-- TRAIN FOM: the partner's SNR for the leader's setting. -/
def trainFom (s : State) (n lane arg : Nat) : State :=
  if czState s n != Cz.eq then s
  else
    let s := s.modLink n (fun l => { l with eqFom := aput l.eqFom lane (arg % 2 ^ 24) })
    if isSet s (Reg.CZ_STATUS n) Fld.CZ_STATUS_LEAD then eqLead s n lane else s

/-- The receive criterion of a rate in 0.01 dB (R270). -/
def eqCrit (s : State) (n : Nat) : Nat :=
  10 * (if (s.link n).tryRate = 1 then getF s (Reg.TILE_EQ_CRIT (n / 4)) Fld.TILE_EQ_CRIT_SNR_C128
        else getF s (Reg.TILE_EQ_CRIT (n / 4)) Fld.TILE_EQ_CRIT_SNR_PAM4)

/-- TRAIN DONE: equalisation ends on a lane; the partner's DONE is answered, and a lane below its criterion is excluded. -/
def trainDone (s : State) (n lane arg snr : Nat) : State :=
  if czState s n != Cz.eq then s
  else
    let first := !(s.link n).eqDone.contains lane
    let s := s.modLink n (fun l => { l with eqPeer := aput l.eqPeer lane (arg % 2 ^ 24), eqDone := if first then l.eqDone ++ [lane] else l.eqDone,
                                            laneOk := if snr < eqCrit s n then clearBit l.laneOk lane else l.laneOk })
    if first then emit s (.block n (trainBlock s n lane 3 (ownTx s n lane))) else s

/-! ### Acknowledgement and replay (R184–R186) -/

/-- The frames of a link that wait leave as far as they may. -/
def czGo (s : State) (n : Nat) : State := czDrain (s.link n).txq.length n s

/-- An ACK covers the oldest frames up to its value; one outside the range is a protocol error (R185). -/
def czAckTo (s : State) (n ack : Nat) : State :=
  let l := s.link n
  let first := match l.unacked with | x :: _ => x.frame.seq | [] => l.nextTx
  let k := (ack % 4096 + 4096 + 1 - first) % 4096
  if l.unacked.length < k then czDown s n Dn.protocol
  else if k = 0 then s
  else czGo (s.modLink n (fun l => { l with unacked := l.unacked.drop k, ackMoved := s.time, replays := 0 })) n

/-- A replay begins (R185): a REPLAY block and every unacknowledged frame again; the fourth in a row from one frame takes the link down. -/
def czReplay (s : State) (n : Nat) : State :=
  let l := s.link n
  match l.unacked with
  | [] => s
  | x :: _ =>
    let c := if l.replays ≠ 0 ∧ l.replayAt = x.frame.seq then l.replays + 1 else 1
    let s := pcLink (bump s (Reg.CZ_REPLAY_CNT n)) n 0x103
    let s := s.modLink n (fun l => { l with replays := c, replayAt := x.frame.seq, ackMoved := s.time })
    if 4 ≤ c then czDown s n Dn.replay
    else emits s (.block n (.replay x.frame.seq) :: l.unacked.map (fun y => .frame n y.frame))

/-- An ACK block leaves. -/
def sendAck (s : State) (n : Nat) (nak : Bool) : State :=
  let s := if nak then pcLink s n 0x102 else s
  emit (s.modLink n (fun l => { l with unreported := 0 })) (.block n (.ack (czAck (s.link n)) nak))

/-- A loss is found (R184): a NAK, unless one has gone out since the last accepted frame within 2 µs. -/
def czNak (s : State) (n : Nat) : State :=
  let l := s.link n
  let wait := match l.nakAt with | some t => decide (s.time < t + us 2) | none => false
  if wait then s
  else
    let s := correctable (bump s (Reg.CZ_NAK_CNT n)) ⟨Uk.calez, n⟩ 0 1 0x0200
    sendAck (s.modLink n (fun l => { l with nakAt := some s.time })) n true

/-- A LIMIT arrives for a VC and pool (R181). -/
def creditRx (s : State) (n vc pool limit : Nat) : State :=
  if czLive s n then czGo (s.modLink n (fun l => { l with limit := aput l.limit (vc % 8 * 4 + pool % 4) (limit % 65536) })) n else s

/-- A control block has arrived: data blocks count again (R183). -/
def czControl (s : State) (n : Nat) : State := s.modLink n (fun l => { l with discarding := false })

/-- Every LIMIT is sent again (R181). -/
def creditRefresh (s : State) (n : Nat) : State :=
  if czActive s n then emits s ((s.link n).rxLimit.map (fun x => .block n (.credit (x.1 / 4) (x.1 % 4) x.2))) else s

def keepaliveSend (s : State) (n : Nat) : State :=
  if czActive s n then
    emit (s.modLink n (fun l => { l with unreported := 0 })) (.block n (.keepalive (nodeId s) (getF s (Reg.CZ_STATUS n) Fld.CZ_STATUS_SESSION) (czAck (s.link n))))
  else s

def keepaliveRx (s : State) (n node session ack : Nat) : State :=
  let s := czControl s n
  if !czActive s n then s
  else
    let s := if node % 4096 = getF s (Reg.CZ_PEER n) Fld.CZ_PEER_PEER_NODE then s.modLink n (fun l => { l with lastValid := s.time }) else s
    if session % 256 = getF s (Reg.CZ_PEER n) Fld.CZ_PEER_PEER_SESSION then czAckTo s n ack else s

def ackBlock (s : State) (n ack : Nat) (nak : Bool) : State :=
  let s := czControl s n
  if !czActive s n then s
  else
    let s := czAckTo s n ack
    if nak && czActive s n then czReplay s n else s

/-! ### QUIET (R201–R203) -/

/-- The conditions of R201 on this side, but for the idle time. -/
def quietOk (s : State) (n : Nat) : Bool :=
  czActive s n && isSet s (Reg.CZ_CTRL n) Fld.CZ_CTRL_QUIET_EN && getF s (Reg.CZ_TIMER n) Fld.CZ_TIMER_QUIET_IDLE != 0 && !isTwinLink s n &&
    (s.link n).txq.isEmpty && (s.link n).unacked.isEmpty && voqsEmpty s (czPort s n)

def quietIdle (s : State) (n : Nat) : Bool := decide ((s.link n).lastFrame + us (getF s (Reg.CZ_TIMER n) Fld.CZ_TIMER_QUIET_IDLE) ≤ s.time)

/-- A wake begins (R203): TRAIN blocks, or the beacon while the tile is DARK (R281); a PRESS step on its lanes is abandoned. -/
def quietWake (s : State) (n : Nat) : State :=
  if czState s n != Cz.quiet then s
  else
    let p := czPort s n
    let dark := tilePower s (n / 4) == 2
    let s := portWake (pressAbandonPort s p) p
    let s := (setCzState s n Cz.waking).modLink n (fun l => { l with resumed := false })
    if dark then emit s (.beacon n) else s

/-- QUIET is entered: 16 IDLE rows, then electrical idle; what became ready meanwhile wakes the link at once. -/
def enterQuiet (s : State) (n : Nat) : State :=
  let s := (setCzState (pressAbandonPort s (czPort s n)) n Cz.quiet).modLink n (fun l => { l with quietAsked := false, line := { l.line with idle := 16 } })
  if (s.link n).txq.isEmpty && voqsEmpty s (czPort s n) then s else quietWake s n

def quietExpiry (s : State) (n : Nat) : State :=
  if quietOk s n && !(s.link n).quietAsked then emit (s.modLink n (fun l => { l with quietAsked := true })) (.block n (.quiet 0)) else s

def quietReq (s : State) (n : Nat) : State :=
  let s := czControl s n
  if !czActive s n then s
  else if (s.link n).quietAsked then enterQuiet s n
  else if quietOk s n && quietIdle s n then enterQuiet (emit s (.block n (.quiet 1))) n
  else emit s (.block n (.quiet 2))

def quietAck (s : State) (n : Nat) : State :=
  let s := czControl s n
  if czActive s n && (s.link n).quietAsked then enterQuiet s n else s

/-- REJECT or no answer: the side is back in ACTIVE, and what waited leaves. -/
def quietOff (s : State) (n : Nat) : State :=
  if czActive s n && (s.link n).quietAsked then czGo (s.modLink n (fun l => { l with quietAsked := false })) n else s

/-- RESUME arrives (R203): the sides exchange RESUME, so one that has not sent its own does so first. -/
def resumeRx (s : State) (n ack session : Nat) : State :=
  let s := quietWake (czControl s n) n
  if czState s n != Cz.waking then s
  else if session % 256 ≠ getF s (Reg.CZ_PEER n) Fld.CZ_PEER_PEER_SESSION then czDown s n Dn.protocol
  else
    let s := setCzState (if (s.link n).resumed then s else resumeSend s n) n Cz.active
    let s := s.modLink n (fun l => { l with lastValid := s.time, lastFrame := s.time, ackMoved := s.time })
    let s := czAckTo s n ack
    czGo s n

/-! ### Frames received (R176–R184) -/

/-- Credits that an accepted frame uses (R182): VC, pool and credits; a TLP is charged with its first segment, an abort frame not at all. -/
def frameCharge (f : Frame) : Option (Nat × Nat × Nat) :=
  match f.body with
  | .abort | .part _ => none
  | .tlp _ t => some (f.vc, f.pool, 4 * cellsFor t.payload)
  | _ => some (7, 0, 4)

/-- A reserved frame type (R177). -/
def reservedType (f : Frame) : Bool := f.type == 0 || decide (8 ≤ f.type)

/-- The fields of an accepted frame agree with R177 and R178; of a reserved type only LEN is known. -/
def frameOk (l : Link) (f : Frame) : Bool :=
  let vcOk := if f.type = 1 then decide (f.pool < 3) && (match f.body with | .tlp _ t => f.pool == t.cls.code | _ => true)
              else if f.type = 7 then f.vc == 0 && f.pool == 0 else f.vc == 7 && f.pool == 0
  let busy := l.objRx.contains f.vc
  decide (f.len ≤ 256) &&
    (reservedType f ||
      vcOk && (if f.abort then f.len == 0 && !f.first && f.last else (f.last || f.len == 256) && f.first != busy) &&
        (f.type == 1 || f.type == 5 || f.abort || (f.first && f.last)))

/-- The objects in progress after a frame. -/
def objAfter (l : Link) (f : Frame) : List Nat :=
  if reservedType f then l.objRx else if f.last || f.abort then l.objRx.filter (fun v => v != f.vc) else if l.objRx.contains f.vc then l.objRx else l.objRx ++ [f.vc]

/-- A frame that nothing at this node takes is counted, its credits returned. -/
def frameUnknown (s : State) (n : Nat) (f : Frame) : State :=
  let s := bump s (Reg.CZ_UNKNOWN_CNT n)
  match frameCharge f with | some (v, c, k) => czReturn s n v c k | none => s

/-- An accepted frame is queued for what its type names, or discarded where this mode has none (R177, R205). -/
def frameTake (s : State) (n : Nat) (f : Frame) : State :=
  let put := fun (s : State) => s.modLink n (fun l => { l with rxq := l.rxq ++ [f] })
  if reservedType f then frameUnknown s n { f with body := .unknown }
  else if f.abort then put s
  else
    match f.body with
    | .part _ => if mode s = 5 then bump s (Reg.CZ_UNKNOWN_CNT n) else if f.last then put s else s
    | .tlp _ _ => if mode s = 5 then frameUnknown s n f else put s
    | .icp b =>
      if mode s = 4 ∧ isTwinLink s n then
        let whole := (s.link n).icpPart ++ b
        let s := czReturn s n 7 0 4
        if f.last then s.modLink n (fun l => { l with icpPart := [], rxq := l.rxq ++ [{ f with body := .icp whole }] })
        else s.modLink n (fun l => { l with icpPart := whole })
      else frameUnknown s n f
    | .test _ _ => if mode s = 5 then put s else frameUnknown s n f
    | .unknown | .abort => frameUnknown s n f
    | _ => if mode s = 5 then frameUnknown s n f else put s

/-- A frame is accepted (R183): NEXT_RX advances, credits are counted, an ACK block goes out after 32. -/
def frameAccept (s : State) (n : Nat) (f : Frame) : State :=
  let l := s.link n
  let s := (pcLink s n 0x100).modLink n (fun l => { l with nextRx := (l.nextRx + 1) % 4096, nakAt := none, unreported := l.unreported + 1, objRx := objAfter l f })
  if !frameOk l f then czDown s n Dn.protocol
  else
    let s := if 32 ≤ (s.link n).unreported then sendAck s n false else s
    match frameCharge f with
    | none => frameTake s n f
    | some (v, c, k) =>
      let key := v * 4 + c
      let used := agetD (s.link n).rxUsed key 0 + k
      let exceeded := decide (32768 ≤ (agetD (s.link n).rxLimit key 0 + 65536 - used % 65536) % 65536)
      let s := s.modLink n (fun l => { l with rxUsed := aput l.rxUsed key (used % 65536) })
      if exceeded then czDown s n Dn.protocol else frameTake s n f

/-- A frame arrives (R183). -/
def frameRx (s : State) (n : Nat) (f : Frame) (intact : Bool) : State :=
  if !czActive s n || (s.link n).discarding then s
  else if !intact then
    correctable ((bump s (Reg.CZ_CRC_ERR_CNT n)).modLink n (fun l => { l with discarding := true })) ⟨Uk.calez, n⟩ 0 1 0x0200
  else if f.session % 256 ≠ getF s (Reg.CZ_PEER n) Fld.CZ_PEER_PEER_SESSION then
    s.modLink n (fun l => { l with discarding := true, lastValid := s.time })
  else
    let s := s.modLink n (fun l => { l with lastValid := s.time, lastFrame := s.time })
    let cr := fun (s : State) (x : Option (Nat × Nat × Nat)) => match x with | some (v, c, k) => creditRx s n v c k | none => s
    let s := czAckTo (cr (cr s f.cr0) f.cr1) n f.ack
    if !czActive s n then s
    else
      let d := (f.seq % 4096 + 4096 - (s.link n).nextRx) % 4096
      if d = 0 then frameAccept s n f
      else if d < 2048 then czNak s n
      else if d = 2048 then czDown s n Dn.protocol
      else sendAck (bump s (Reg.CZ_DUP_CNT n)) n false

/-- The frame at the head of a link's accepted frames, if `f` takes it. -/
def takeFrame {α : Type} (s : State) (n : Nat) (f : Frame → Option α) : Option (Frame × α × State) :=
  match (s.link n).rxq with
  | x :: r => match f x with | some a => some (x, a, s.modLink n (fun l => { l with rxq := r })) | none => none
  | [] => none

/-- An accepted TLP goes to the core (R179, R183): with its first segment, whole or with the rest to come, and its last segment completes it. -/
def tlpFrameRx (s : State) (n : Nat) : State :=
  match takeFrame s n (fun f => match f.body with | .tlp h t => some (some (h, t)) | .part _ => some none | _ => none) with
  | some (f, some (h, t), s) => fabricIngress s n h t f.vc (!f.last)
  | some (f, none, s) => restEnd s (czPort s n) (some f.vc) true
  | none => s

/-- An abort frame ends the object in progress on its VC as unusable (R178). -/
def abortFrameRx (s : State) (n : Nat) : State :=
  match takeFrame s n (fun f => if f.abort then some () else none) with
  | some (f, _, s) =>
    let s := bump s (Reg.CZ_ABORT_CNT n)
    let s := if f.type = 5 then s.modLink n (fun l => { l with icpPart := [] }) else s
    restEnd s (czPort s n) (some f.vc) false
  | none => s

/-- A TEST frame as COMET sees it in mode 5 (R101): its payload stands as the header bytes (log entry 123). -/
def testHeld (s : State) (n : Nat) (bytes : List Byte) : Held :=
  arrival s { op := .message 0, route := .toLocal, tc := 0, ro := false, ido := false, translated := false, addr := 0, destId := 0, reqId := 0, tag := 0,
              cplId := 0, status := 0, len := bytes.length, data := [], poisoned := false, mctp := false, lossy := false, malformed := false, ide := false,
              be := 0, hdr := bytes.take 16 } (czPort s n) 0 0 0 false

/-- A TEST frame's bits in error are counted while TEST_EN is set (R205). -/
def testFrameRx (s : State) (n : Nat) : State :=
  match takeFrame s n (fun f => match f.body with | .test e b => some (e, b) | _ => none) with
  | some (_, (e, b), s) =>
    let s := comet s 0 (czPort s n) s.time (testHeld s n b) 0 false
    czReturn (if isSet s (Reg.CZ_CTRL n) Fld.CZ_CTRL_TEST_EN then bumpN s (Reg.CZ_TEST_ERR n) e else s) n 7 0 4
  | none => s

/-! ### RESOLVE (R190, R191) -/

/-- A RESOLVE leaves for the partner of the session that ended, over whatever route then exists. -/
def resolveSend (s : State) (n : Nat) : State :=
  match (s.link n).prev with
  | some pv =>
    if pv.left = 0 then s
    else
      let s := s.modLink n (fun l => { l with prev := some { pv with left := pv.left - 1 } })
      sendToNode s pv.node (vc7Frame 6 16 (.resolve ⟨nodeId s, pv.node, czPort s n, pv.port, pv.session, pv.rxLast⟩))
  | none => s

/-- RESOLVE_TO passes (R190). -/
def resolveTimeout (s : State) (n : Nat) : State := endedDoubt s n

/-! ### Time exchange (R97–R99, R174) -/

/-- The grandmaster: the lowest node ID known as eligible; a node that knows none is its own (R98). -/
def grandmaster (s : State) : Nat :=
  if mode s = 3 ∨ mode s = 4 then
    let own := if isSet s Reg.TIME_CTRL Fld.TIME_CTRL_GM_ELIGIBLE then [nodeId s] else []
    ((own ++ s.cong.eligible).min?).getD (nodeId s)
  else nodeId s

/-- The link towards the grandmaster; none at the grandmaster itself. -/
def timeLink (s : State) : Option Nat :=
  if (mode s = 3 ∨ mode s = 4) ∧ grandmaster s ≠ nodeId s then
    match hashedPath s (nodeId s) 0 (grandmaster s) 7 with
    | some k => portLink s (pathPort s (grandmaster s) k)
    | none => none
  else none

/-- TIME_REQ leaves; a link in QUIET is woken first. -/
def timeDue (s : State) : State :=
  match timeLink s with
  | none => s
  | some n =>
    if czState s n = Cz.quiet then quietWake s n
    else if czActive s n then
      let id := (s.cong.timeId + 1) % 256
      emit { s with cong := { s.cong with timeId := id, t1 := s.time, t2lo := none, t2hi := none } } (.block n (.timeReq id))
    else s

def timeReqRx (s : State) (n id : Nat) : State :=
  let s := czControl s n
  if czActive s n then
    emits s [.block n (.timeT2 (id % 256) (s.time % 2 ^ 48)), .block n (.timeHi (id % 256) (s.time / 2 ^ 48 % 65536)), .block n (.timeT3 (id % 256) (s.time % 2 ^ 48))]
  else s

def timeT2 (s : State) (n id t2 : Nat) : State :=
  let s := czControl s n
  if czActive s n ∧ id % 256 = s.cong.timeId then { s with cong := { s.cong with t2lo := some (t2 % 2 ^ 48) } } else s

def timeHi (s : State) (n id hi : Nat) : State :=
  let s := czControl s n
  if czActive s n ∧ id % 256 = s.cong.timeId then { s with cong := { s.cong with t2hi := some (hi % 65536) } } else s

/-- The value with these low 48 bits nearest to another (R174). -/
def nearest48 (lo ref : Nat) : Nat :=
  let b := ref / 2 ^ 48 * 2 ^ 48 + lo
  if ref + 2 ^ 47 < b ∧ 2 ^ 48 ≤ b then b - 2 ^ 48 else if b + 2 ^ 47 < ref then b + 2 ^ 48 else b

/-- The exchange is complete (R98): the offset is taken, device time is stepped or slewed; how far it slews is free (log entry 2). -/
def timeT3 (s : State) (n id t3 : Nat) : State :=
  let s := czControl s n
  match s.cong.t2lo, s.cong.t2hi with
  | some lo, some hi =>
    if !(czActive s n) || id % 256 != s.cong.timeId then s
    else
      let t2 := hi * 2 ^ 48 + lo
      let t3 := nearest48 (t3 % 2 ^ 48) t2
      let s := { s with cong := { s.cong with t4 := s.time } }
      let off : Int := ((t2 : Int) - s.cong.t1 - ((s.cong.t4 : Int) - t3)) / 2
      let s := { bump s (Reg.CZ_TIME_EXCH_CNT n) with cong := { s.cong with t2lo := none, t2hi := none } }
      let st := Reg.TIME_STATUS
      let held := max (-32768) (min 32767 off)
      let s := setF (setF s st Fld.TIME_STATUS_OFFSET (held % 65536).toNat) st Fld.TIME_STATUS_COARSE 0
      let th : Nat := max 1 (getF s Reg.TIME_CTRL Fld.TIME_CTRL_STEP_TH) * 1600
      let good := if off.natAbs < 256 then s.cong.goodExch + 1 else 0
      let s := { s with cong := { s.cong with goodExch := good } }
      if th < off.natAbs then
        let s := { s with time := ((s.time : Int) + off).toNat, cong := { s.cong with goodExch := 0 } }
        setF s st Fld.TIME_STATUS_LOCKED 0
      else
        let (r, s) := draw s 32
        let s := { s with cong := { s.cong with slew := (r % 1001 : Nat) - 500 } }
        if 3 ≤ good then setF s st Fld.TIME_STATUS_LOCKED 1 else s
  | _, _ => s

end Sys2Proof.Machine
end

