-- ==== Sys2Proof/Machine/RegAcc.lean ====
section
/-!
DEFINITION. Machine/RegAcc.lean: the register map by address: which register an offset names, and the values that registers hold a write to (R16, R421, R448, R449).
-/
namespace Sys2Proof.Machine

/-- A register word found at an offset: key, family, and whether it is the high half of a 64-bit register. -/
structure RegHit where
  key : Nat
  fam : Family
  high : Bool
  deriving DecidableEq, Repr

/-- Instance numbers (i, j) of a family and the place within the register, at an offset from the family's base. -/
def Family.place (f : Family) (d : Nat) : Nat × Nat × Nat :=
  let i := if f.dim1.2 = 0 then 0 else d / f.dim1.2
  let r := d - i * f.dim1.2
  let j := if f.dim2.2 = 0 then 0 else r / f.dim2.2
  (i, j, r - j * f.dim2.2)

/-- The register of a family that an offset names: at the register's own offset, or 4 above it for a high half. -/
def Family.hit (f : Family) (n o : Nat) : Option RegHit :=
  if o < f.base then none
  else
    let (i, j, x) := f.place (o - f.base)
    if f.dim1.1 ≤ i ∨ f.dim2.1 ≤ j then none
    else if x = 0 then some ⟨n + 512 * (i + 4096 * j), f, false⟩
    else if x = 4 ∧ f.width = 64 then some ⟨n + 512 * (i + 4096 * j), f, true⟩
    else none

/-- The first family of a list, numbered from `n`, that an offset in a space names. -/
def famSearch (sp : RegSpace) (o : Nat) : Nat → List Family → Option RegHit
  | _, [] => none
  | n, f :: fs => if f.space = sp then (match f.hit n o with | some h => some h | none => famSearch sp o (n + 1) fs) else famSearch sp o (n + 1) fs

/-- The counter bank at a CRS offset, and the offset within it (R421): at base + 0xF000 of each block, 0x0010_7000 for the SP. -/
def bankAt (o : Nat) : Option (Nat × Nat) :=
  let within (base : Nat) (b : Nat) : Option (Nat × Nat) := if base ≤ o ∧ o < base + 0x1000 then some (b, o - base) else none
  if 0x01000000 ≤ o ∧ o < 0x02000000 then within (0x01000000 + o / 0x100000 % 16 * 0x100000 + 0xF000) (Bank.tile (o / 0x100000 % 16))
  else if 0x02000000 ≤ o ∧ o < 0x02400000 then within (o / 0x10000 * 0x10000 + 0xF000) (Bank.port (o / 0x10000 % 64))
  else if 0x07000000 ≤ o ∧ o < 0x07200000 then within (o / 0x10000 * 0x10000 + 0xF000) (Bank.link (o / 0x10000 % 32))
  else
    ([(0x0000F000, 0), (0x00107000, 1), (0x0020F000, 2), (0x0030F000, 3), (0x0040F000, 4), (0x0300F000, 5), (0x0310F000, 6), (0x0320F000, 7),
      (0x0400F000, 8), (0x0500F000, 9), (0x0600F000, 10), (0x0800F000, 11), (0x0900F000, 12), (0x0A00F000, 13), (0x0B00F000, 14),
      (0x0C00F000, 15), (0x0D00F000, 16), (0x0E00F000, 17)] : List (Nat × Nat)).findSome? (fun x => within x.1 x.2)

/-- A bank family's key: bank, then its own numbers (State keys of Machine/RegMap.lean). -/
def bankKey (h : RegHit) (f : Family) (bank : Nat) : Nat :=
  let i := h.key / 512 % 4096
  let j := h.key / 512 / 4096
  h.key % 512 + 512 * (bank + 4096 * (if f.dim2.1 = 1 then i else i * f.dim2.1 + j))

/-- A region register that its MPU has (R452): 64 regions of MPU 0, 16 of every other. -/
def mpuRegionOk (k : Nat) : Bool :=
  let fam := k % 512
  if fam = Reg.MPU_RBASE 0 0 % 512 ∨ fam = Reg.MPU_RATTR 0 0 % 512 then decide (k / 512 % 4096 = 0) || decide (k / 512 / 4096 < 16) else true

/-- The register that a CRS offset names (R448); MPU 15's registers go before the MPU block's counter bank (log entry 24). -/
def crsAt (o : Nat) : Option RegHit :=
  match famSearch .crs o 0 famTable with
  | some h => if mpuRegionOk h.key then some h else none
  | none =>
    match bankAt o with
    | some (b, x) => (famSearch .bank x 0 famTable).map (fun h => { h with key := bankKey h h.fam b })
    | none => none

/-- The bits of a register whose field has one of the access codes. -/
def Family.maskOf (f : Family) (p : Acc → Bool) : Word :=
  (f.fields.filter (fun x => p x.1)).foldl (fun m x => m ||| x.2.mask) 0#64

/-- Fields whose written value is held within limits: family, field, least and greatest value stored (the register tables). -/
def clampTable : List (Nat × Field × Nat × Nat) :=
  [(Reg.SPRAY_FENCE_TO, Fld.SPRAY_FENCE_TO_TIMEOUT, 10, 10000), (Reg.CC_CTRL, Fld.CC_CTRL_CAP_VC, 0, 6),
   (Reg.COMET_RING_SIZE, Fld.COMET_RING_SIZE_SIZE_LOG2, 16, 32), (Reg.SMP_RING_SIZE, Fld.SMP_RING_SIZE_SIZE_LOG2, 16, 32),
   (Reg.VSW_CTRL 0, Fld.VSW_CTRL_NUM_VBR, 0, 63), (Reg.MGMT_LP_WIN 0, Fld.MGMT_LP_WIN_SIZE_LOG2, 0, 33),
   (Reg.MGMT_FAP 0, Fld.MGMT_FAP_SIZE_LOG2, 0, 52), (Reg.EPOCH_CTRL, Fld.EPOCH_CTRL_SYNC_LIMIT, 0, 20),
   (Reg.CTO 0, Fld.CTO_TIMEOUT, 100, 4000000), (Reg.CZ_TIMER 0, Fld.CZ_TIMER_RESOLVE_TO, 2, 255),
   (Reg.CZ_TIMER 0, Fld.CZ_TIMER_KA_INTERVAL, 1, 32), (Reg.CZ_TIMER 0, Fld.CZ_TIMER_LD_TIMEOUT, 2, 64),
   (Reg.MV_ATC_QUOTA 0, Fld.MV_ATC_QUOTA_QUOTA, 0, 16384), (Reg.MV_DIRTY_REGION, Fld.MV_DIRTY_REGION_SIZE_LOG2, 0, 32),
   (Reg.TILE_PRESS_CTRL 0, Fld.TILE_PRESS_CTRL_PERIOD, 10, 10000), (Reg.EGV_CTRL, Fld.EGV_CTRL_MAX_RAMPS, 1, 8),
   (Reg.EGV_WINDOW, Fld.EGV_WINDOW_LIMIT, 1000, 4000000), (Reg.EGV_SLOT_LIM 0, Fld.EGV_SLOT_LIM_INRUSH, 500, 20000),
   (Reg.BG_CTRL, Fld.BG_CTRL_CRIT_MULT, 2, 15), (Reg.LD_PERIOD, Fld.LD_PERIOD_DDR_H, 0, 168), (Reg.LD_PERIOD, Fld.LD_PERIOD_SRAM_S, 10, 600),
   (Reg.SB_POLL 0, Fld.SB_POLL_PERIOD, 10, 10000000), (Reg.MPU_RBASE 0 0, Fld.MPU_RBASE_SIZE_LOG2, 12, 40),
   (Reg.ICP_RING_CFG 0, Fld.ICP_RING_CFG_SQ_LOG2, 2, 8), (Reg.ICP_RING_CFG 0, Fld.ICP_RING_CFG_CQ_LOG2, 2, 8)]

/-- The value that a register stores for one that is written to it: limits of its fields held, VC_OF_TC 7 stored as 0, SPAN
7 as 6, LD_TIMEOUT at least 4 × KA_INTERVAL, EN of METER_MAP under R78. -/
def stored (k : Nat) (v : Word) : Word :=
  let fam := k % 512
  let v := (clampTable.filter (fun c => c.1 == fam)).foldl (fun v c =>
    let x := c.2.1.get v
    let y := max c.2.2.1 (min x (min c.2.2.2 (2 ^ c.2.1.width - 1)))
    if x = y then v else c.2.1.set v y) v
  if fam = Reg.TC_VC_MAP 0 then
    (List.range 8).foldl (fun v t => if (Fld.TC_VC_MAP_VC_OF_TC t).get v = 7 then (Fld.TC_VC_MAP_VC_OF_TC t).set v 0 else v) v
  else if fam = Reg.CZ_TIMER 0 then
    let ka := Fld.CZ_TIMER_KA_INTERVAL.get v
    if Fld.CZ_TIMER_LD_TIMEOUT.get v < ka then Fld.CZ_TIMER_LD_TIMEOUT.set v ka else v
  else if fam = Reg.METER_MAP 0 then
    let v := if Fld.METER_MAP_SPAN.get v = 7 then Fld.METER_MAP_SPAN.set v 6 else v
    if 16384 < Fld.METER_MAP_BASE.get v + 8 * 2 ^ Fld.METER_MAP_SPAN.get v then Fld.METER_MAP_EN.set v 0 else v
  else if fam = Reg.MPU_RATTR 0 0 then if k / 512 % 4096 = 0 then v else v &&& 0x1FF#64
  else v

end Sys2Proof.Machine
end

