-- ==== Sys2Proof/Machine/AccOps.lean ====
section
/-!
DEFINITION. Machine/AccOps.lean: the table access registers (R79, R113, R132, R137, R148, R209).
-/
namespace Sys2Proof.Machine

/-- Bytes of an entry of each table (R339). -/
def famBytes (s : State) (i : Nat) : List Byte := (agetD s.fab.fam i FamEnt.empty).bytes
def bindBytes (s : State) (i : Nat) : List Byte := (agetD s.hosts.bind i BindEnt.empty).bytes
def routeBytes (s : State) (i : Nat) : List Byte := (route s i).bytes i
def meterBytes (s : State) (i : Nat) : List Byte := ((agetD s.cong.meters i Meter.zero).refilled s.time).bytes
def frcBytes (s : State) (i : Nat) : List Byte := match frc s i with | some f => (refill s f).bytes | none => zeros 32
def ctxBytesAt (s : State) (i : Nat) : List Byte :=
  match ctx s i with | some c => c.bytes | none => zeros 8 ++ natLe 2 (agetD s.fab.gens i 0 * 4096) ++ zeros 14
def shadowFamBytes (s : State) (i : Nat) : List Byte := (agetD s.twin.shadowFam i FamEnt.empty).bytes
def shadowBindBytes (s : State) (i : Nat) : List Byte := (agetD s.twin.shadowBind i BindEnt.empty).bytes
def shadowRouteBytes (s : State) (i : Nat) : List Byte := (agetD s.twin.shadowRoute i RouteEnt.empty).shadowBytes

/-- An access register is written: its RW fields are stored, ERR clears where 1 is written, and BUSY reads 0 again when the access ends. -/
def accStore (s : State) (k : Nat) (v : Word) (mask : Nat) : State :=
  let err := (rd s k).getLsbD 30 && !v.getLsbD 30
  wr s k (BitVec.ofNat 64 ((v.toNat &&& mask) + b2n err * 2 ^ 30))

/-- The access is refused: ERR. -/
def accRefuse (s : State) (k : Nat) : State := wr s k (rd s k ||| BitVec.ofNat 64 (2 ^ 30))

/-- OP of an access register. -/
def accOp (v : Word) : Nat := bitsAt v.toNat 26 2

/-- Who may write a table entry: masters 1–4 and 11, and the SP where it applies a configuration (R113, log entry 25). -/
def accMay (m : Nat) (cfg : Bool) : Bool := cfg || (1 ≤ m && m ≤ 4) || m == 11

/-- An access through an access register reaches the table store under the master ID of its writer (R451): the large MPU checks it at
the table store offset (R452), and a denial is logged (R454). -/
def tblPass (s : State) (m : Nat) (cfg : Bool) (ofs op : Nat) : Bool × State :=
  let k := if op = 1 then Rwx.write else Rwx.read
  let a := 0x8000000000 + ofs
  if cfg || mpuAllows s 0 a k m 1 then (true, s) else (false, mpuDeny s 0 a k m 1 false)

/-- A read of a table through an access register: a denied one returns 0 (R454). -/
def tblRead (s : State) (m : Nat) (ofs : Nat) (key : Nat → Nat) (b : List Byte) : State :=
  match tblPass s m false ofs 0 with
  | (true, s) => putData s key b
  | (false, s) => putData s key (zeros b.length)

/-- A write of a table through an access register: a denied one is discarded (R454). -/
def tblWrite (s : State) (m : Nat) (cfg : Bool) (ofs : Nat) (f : State → State) : State :=
  match tblPass s m cfg ofs 1 with
  | (true, s) => f s
  | (false, s) => s

/-- A write of FAM_ACC (R132, R135). -/
def famAcc (s : State) (m : Nat) (cfg : Bool) (v : Word) : State :=
  let s := accStore s Reg.FAM_ACC v 0x0C01FFFF
  let i := bitsAt v.toNat 0 17
  let ofs := Tbl.fam + 32 * i
  if accOp v = 0 then tblRead s m ofs (fun k => Reg.FAM_DATA k) (famBytes s i)
  else if accOp v = 1 && accMay m cfg && ownerTable s (famRead (getData s (fun k => Reg.FAM_DATA k) 4)).owner == some true then
    match famLiveStep s (famNext s) (i, getData s (fun k => Reg.FAM_DATA k) 4) with
    | some _ => tblWrite s m cfg ofs (fun s => famApply s [(i, famRead (getData s (fun k => Reg.FAM_DATA k) 4))])
    | none => accRefuse s Reg.FAM_ACC
  else accRefuse s Reg.FAM_ACC

/-- A write of BIND_ACC (R113, R114): in modes 0 and 1 the table changes by the base configuration alone. -/
def bindAcc (s : State) (m : Nat) (cfg : Bool) (v : Word) : State :=
  let s := accStore s Reg.BIND_ACC v 0x0C003FFF
  let i := bitsAt v.toNat 0 14
  let ofs := Tbl.bind + 16 * i
  if accOp v = 0 then tblRead s m ofs (fun k => Reg.BIND_DATA k) (bindBytes s i)
  else if accOp v = 1 && accMay m cfg && (cfg || (2 ≤ mode s && mode s ≤ 4)) then
    let b := getData s (fun k => Reg.BIND_DATA k) 2
    match (if ownerTable s (bindRead b).owner == some true then bindLiveStep s true (bindNext s) (i, b) else none) with
    | some _ => tblWrite s m cfg ofs (fun s => bindApply s [(i, bindRead b)])
    | none => accRefuse s Reg.BIND_ACC
  else accRefuse s Reg.BIND_ACC

/-- A write of ROUTE_ACC (R137). -/
def routeAcc (s : State) (m : Nat) (cfg : Bool) (v : Word) : State :=
  let s := accStore s Reg.ROUTE_ACC v 0x0C000FFF
  let i := bitsAt v.toNat 0 12
  let ofs := Tbl.route + 64 * i
  if accOp v = 0 then tblRead s m ofs (fun k => Reg.ROUTE_DATA k) (routeBytes s i)
  else if accOp v = 1 && accMay m cfg then tblWrite s m cfg ofs (fun s => routeWrite s i (getData s (fun k => Reg.ROUTE_DATA k) 8))
  else accRefuse s Reg.ROUTE_ACC

/-- A meter as written (R79): both buckets full, the byte counters 0; none where the write is refused. -/
def meterWritten (s : State) (b : List Byte) : Option Meter :=
  let cir := num b 0 4 % 2 ^ 20
  let pir := num b 4 4 % 2 ^ 20
  let cbs := num b 8 4 % 2 ^ 24
  let pbs := num b 12 4 % 2 ^ 24
  if pir < cir ∨ cbs < 4128 ∨ pbs < 4128 then none
  else some { cir := cir, pir := pir, cbs := cbs, pbs := pbs, tc := cbs * 16000, tp := pbs * 16000, green := 0, yellow := 0, red := 0, at_ := s.time }

/-- A write of TBL_ACC (R79, R84). -/
def tblAcc (s : State) (m : Nat) (cfg : Bool) (v : Word) : State :=
  let s := accStore s Reg.TBL_ACC v 0x3C00FFFF
  let i := bitsAt v.toNat 0 16
  let t := bitsAt v.toNat 28 2
  if t = 0 ∧ i < 16384 ∧ accOp v = 0 then tblRead s m (Tbl.meter + 64 * i) (fun k => Reg.TBL_DATA k) (meterBytes s i)
  else if t = 0 ∧ i < 16384 ∧ accOp v = 1 then
    match meterWritten s (getData s (fun k => Reg.TBL_DATA k) 8) with
    | some x => tblWrite s m cfg (Tbl.meter + 64 * i) (fun s => { s with cong := { s.cong with meters := aput s.cong.meters i x } })
    | none => accRefuse s Reg.TBL_ACC
  else if t = 1 ∧ accOp v = 0 then tblRead s m (Tbl.frc + 32 * i) (fun k => Reg.TBL_DATA k) (frcBytes s i)
  else accRefuse s Reg.TBL_ACC

/-- A write of CTX_ACC (R148): reads only; index 0x3_FFFF is no context. -/
def ctxAcc (s : State) (m : Nat) (v : Word) : State :=
  let s := accStore s Reg.CTX_ACC v 0x0C03FFFF
  let i := bitsAt v.toNat 0 18
  if accOp v = 0 ∧ i ≠ 0x3FFFF then tblRead s m (Tbl.ctx + 24 * i) (fun k => Reg.CTX_DATA k) (ctxBytesAt s i) else accRefuse s Reg.CTX_ACC

/-- A write of TWIN_SHADOW_ACC (R209): reads only. -/
def shadowAcc (s : State) (m : Nat) (v : Word) : State :=
  let s := accStore s Reg.TWIN_SHADOW_ACC v 0x3C01FFFF
  let i := bitsAt v.toNat 0 17
  let put (ofs : Nat) (b : List Byte) : State := tblRead s m (Tbl.shadow + ofs) (fun k => Reg.TWIN_SHADOW_DATA k) (fit 64 b)
  if accOp v ≠ 0 then accRefuse s Reg.TWIN_SHADOW_ACC
  else
    match bitsAt v.toNat 28 2 with
    | 0 => put (32 * i) (shadowFamBytes s i)
    | 1 => if i < 16384 then put (0x400000 + 16 * i) (shadowBindBytes s i) else accRefuse s Reg.TWIN_SHADOW_ACC
    | 2 => if i < 4096 then put (0x440000 + 64 * i) (shadowRouteBytes s i) else accRefuse s Reg.TWIN_SHADOW_ACC
    | _ => accRefuse s Reg.TWIN_SHADOW_ACC

/-- A write of TILE_COEF_ACC (R271): CLR clears every record of LANE; else the record of LANE and CLASS is read, CLASS 6 and 7 refused. -/
def coefAcc (s : State) (t : Nat) (v : Word) : State :=
  let k := Reg.TILE_COEF_ACC t
  let s := accStore s k v 0xF7
  let l := bitsAt v.toNat 4 4
  let c := bitsAt v.toNat 0 3
  if v.getLsbD 8 then s.modTile t (fun x => { x with coef := x.coef.filter (fun e => e.1 / 8 != l) })
  else if 6 ≤ c then accRefuse s k
  else putData s (fun i => Reg.TILE_COEF_DATA t i) (fit 64 (coefOf s t l c))

end Sys2Proof.Machine
end

