-- ==== Sys2Proof/Machine/CfgOps.lean ====
section
/-!
DEFINITION. Machine/CfgOps.lean: configuration images: their form, their checks, and what their records set (R31–R41, R259, R431–R433, R440).
-/
namespace Sys2Proof.Machine

/-! ### Record sector pairs (R431) -/

/-- A 32-byte version: 28 bytes and the CRC-32C over them. -/
def recSealed (b : List Byte) : List Byte := fit 28 b ++ natLe 4 (crc32c (fit 28 b))

/-- The magic and the CRC of a version are right. -/
def recSound (magic : Nat) (b : List Byte) : Bool := b.length == 32 && num b 0 2 == magic && num b 28 4 == crc32c (b.take 28)

/-- The bytes of a version of the stored selection record (R31). -/
def SelRec.bytes (r : SelRec) : List Byte :=
  recSealed (natLe 2 0x5E1C ++ natLe 1 r.pMode ++ natLe 1 (b2n r.onceValid) ++ natLe 4 r.pConfig ++ natLe 4 r.pOverlay ++ natLe 1 r.oMode ++ zeros 3 ++
    natLe 4 r.oConfig ++ natLe 4 r.oOverlay ++ natLe 4 r.gen)

/-- What a version of the stored selection record says; none where SMAGIC or SCRC fails (R32). -/
def selRead (b : List Byte) : Option SelRec :=
  if recSound 0x5E1C b then some ⟨num b 2 1, bitAt b 3 0, num b 4 4, num b 8 4, num b 12 1, num b 16 4, num b 20 4, num b 24 4⟩ else none

/-- The bytes of a version of the bank record (R431). -/
def BankRec.bytes (r : BankRec) : List Byte :=
  recSealed (natLe 2 0xB4A7 ++ natLe 1 (r.active % 2 + r.prev % 2 * 2) ++ natLe 1 (r.trial % 4) ++ natLe 4 r.gen ++ natLe 4 r.fwVersion)

/-- What a version of the bank record says; none where BMAGIC or BCRC fails. -/
def bankRead (b : List Byte) : Option BankRec :=
  if recSound 0xB4A7 b then some ⟨num b 2 1 % 2, num b 2 1 / 2 % 2, num b 3 1 % 4, num b 4 4, num b 8 4⟩ else none

/-- GEN of a version, 0 of one that is not valid. -/
def selGen (b : List Byte) : Nat := match selRead b with | some r => r.gen | none => 0
def bankGen (b : List Byte) : Nat := match bankRead b with | some r => r.gen | none => 0

/-- The version in force: the valid one with the highest GEN. -/
def RecPair.newest {α : Type} (r : RecPair) (read : List Byte → Option α) (gen : α → Nat) : Option α :=
  ((r.sec0 ++ r.sec1).filterMap read).foldl (fun b x => match b with | some y => if gen y < gen x then some x else b | none => some x) none

/-- A new version goes into the sector that does not hold the last one; a full sector has been erased by then, for the write waits
for that erase (log entry 26). -/
def RecPair.push (r : RecPair) (gen : List Byte → Nat) (x : List Byte) : RecPair :=
  let top (l : List (List Byte)) : Nat := (l.map gen).foldl max 0
  let toFirst := (r.sec0 ++ r.sec1).isEmpty || decide (top r.sec0 < top r.sec1)
  let put (l : List (List Byte)) : List (List Byte) := if 128 ≤ l.length then [x] else l ++ [x]
  if toFirst then { r with sec0 := put r.sec0 } else { r with sec1 := put r.sec1 }

/-! ### Banks and signed objects (R429–R434) -/

/-- The bank running, and the other one. -/
def curBank (s : State) : Nat := getF s Reg.BOOT_STATUS Fld.BOOT_STATUS_BANK
def bankOf (s : State) (b : Nat) : Bank := if b = 0 then s.flash.bank0 else s.flash.bank1
def modBank (s : State) (b : Nat) (f : Bank → Bank) : State :=
  if b = 0 then { s with flash := { s.flash with bank0 := f s.flash.bank0 } } else { s with flash := { s.flash with bank1 := f s.flash.bank1 } }

/-- Bytes of a signature block, and its fields (R432). -/
abbrev sigLen : Nat := 3736
def sigSlot (blk : List Byte) : Nat := num blk 0 1
def sigPub (blk : List Byte) : List Byte := (blk.drop 4).take 1312
def sigSig (blk : List Byte) : List Byte := (blk.drop 1316).take 2420

/-- The key of a signature block: its slot is programmed and not revoked, and its digest is the slot's (R433). -/
def keyOk (s : State) (blk : List Byte) : Bool :=
  let k := sigSlot blk
  decide (k < 4) && s.otp.keyProg.testBit k && !s.otp.keyRevoked.testBit k && Config.sha3 (sigPub blk) == agetD s.otp.keyDigest k 0

/-- The signature of a signature block verifies over an object (R433). -/
def sigOk (obj blk : List Byte) : Bool := Config.mldsaVerify (Config.sha3 (sigPub blk)) obj (sigSig blk)

/-- The key store keeps the PUBKEY of a slot that has verified an object (R433). -/
def keepKey (s : State) (blk : List Byte) : State :=
  { s with pwr := { s.pwr with keptKeys := aput s.pwr.keptKeys (sigSlot blk) (sigPub blk) } }

/-! ### Images (R35, R36) -/

def imgKind (b : List Byte) : Nat := num b 5 1
def imgMode (b : List Byte) : Nat := num b 6 1
def imgId (b : List Byte) : Nat := num b 8 4
def imgBase (b : List Byte) : Nat := num b 12 4
def imgSeq (b : List Byte) : Nat := num b 16 4
def imgLen (b : List Byte) : Nat := num b 20 4
def imgObj (b : List Byte) : List Byte := b.take (imgLen b)
def imgBlk (b : List Byte) : List Byte := (b.drop (imgLen b)).take sigLen

/-- A header that fails with REASON 0x01 for an image of a kind. -/
def headerBad (kind : Nat) (b : List Byte) : Bool :=
  num b 0 4 != 0x47560C0F || num b 4 1 != 1 || imgKind b != kind || num b 28 4 != crc32c (b.take 28) || num b 7 1 != 0 || num b 26 2 != 0 ||
    imgId b == 0 || (kind == 0 && imgBase b != 0)

/-- LENGTH or COUNT inconsistent, or over its limit: REASON 0x09. -/
def lengthBad (kind : Nat) (b : List Byte) : Bool :=
  decide (imgLen b < 32) || imgLen b % 16 != 0 || decide ((if kind = 0 then 262144 else 4096) < imgLen b) || num b 24 2 != (imgLen b - 32) / 16 ||
    b.length != imgLen b + sigLen

/-- REASON with which an image of a kind fails as a signed object (R35, R440); 0: it verifies. -/
def imageBad (s : State) (kind : Nat) (b : List Byte) : Nat :=
  if headerBad kind b then 0x01
  else if lengthBad kind b then 0x09
  else if !(keyOk s (imgBlk b) && sigOk (imgObj b) (imgBlk b)) then 0x02
  else if imgSeq b < getF s Reg.OTP_STATE Fld.OTP_STATE_CFG_FLOOR then 0x03
  else 0

/-- The stored image of a kind and identity (R33), in an image slot that no CONFIG_STORE is filling. -/
def findImage (s : State) (kind id : Nat) : Option (List Byte) :=
  ((bankOf s (curBank s)).slots.find? (fun e =>
    imgKind e.2 == kind && imgId e.2 == id && (s.pwr.staging.cfg.map (fun c => c.1)) != some e.1)).map (fun e => e.2)

/-- A record of an image. -/
structure CfgRec where
  type : Nat
  width : Nat
  lsb : Nat
  rep : Nat
  ofs : Nat
  val : Nat
  deriving DecidableEq, Repr

/-- The records of an image. -/
def imgRecs (b : List Byte) : List CfgRec :=
  (List.range ((imgLen b - 32) / 16)).map (fun i =>
    let r := (b.drop (32 + 16 * i)).take 16
    ⟨num r 0 1, num r 1 1, num r 2 1, num r 3 1, num r 4 4, num r 8 8⟩)

/-- Stride and first offset of the instances of a block that has them, and how many instances follow the one at an offset (R37). -/
def instancesAfter (o : Nat) : Option (Nat × Nat) :=
  if 0x01000000 ≤ o ∧ o < 0x02000000 then some (0x100000, 15 - o / 0x100000 % 16)
  else if 0x02000000 ≤ o ∧ o < 0x02400000 then some (0x10000, 63 - o / 0x10000 % 64)
  else if 0x07000000 ≤ o ∧ o < 0x07200000 then some (0x10000, 31 - o / 0x10000 % 32)
  else none

/-- The offset of ECL_ARM, the one register of the Global block that a record may set. -/
abbrev eclArmOfs : Nat := 0x100

/-- REASON of an invalid record (R38); 0: it is valid. -/
def recBad (r : CfgRec) : Nat :=
  if 3 < r.type then 0x06
  else if r.type = 0 then (if r.width = 0 ∧ r.lsb = 0 ∧ r.rep = 0 ∧ r.ofs = 0 ∧ r.val = 0 then 0 else 0x07)
  else if r.width = 0 ∨ 64 < r.width ∨ 2 ^ r.width ≤ r.val then 0x07
  else if r.type = 3 then
    if 1 < r.ofs then 0x08 else if r.width = 1 ∧ r.lsb = 0 ∧ r.rep = 0 then 0 else 0x07
  else
    let size := if r.type = 1 then 32 else 64
    if size < r.lsb + r.width ∨ r.ofs % (size / 8) ≠ 0 then 0x07
    else if r.rep != 0 && (match instancesAfter r.ofs with | some (_, n) => decide (n < r.rep) | none => true) then 0x07
    else if r.ofs < 0x00300000 ∧ r.ofs ≠ eclArmOfs then 0x08
    else
      match crsAt r.ofs with
      | none => 0x08
      | some h =>
        if r.type = 2 ∧ h.fam.width ≠ 64 then 0x07
        else
          let lo := r.lsb + (if h.high then 32 else 0)
          let ok := (h.fam.maskOf (fun a => a == .rw || a == .rws || a == .spw)).toNat
          if bitsAt ok lo r.width = 2 ^ r.width - 1 then 0 else 0x08

/-- REASON and INDEX of the first invalid record. -/
def recsBad : Nat → List CfgRec → Option (Nat × Nat)
  | _, [] => none
  | i, r :: rs => if recBad r = 0 then recsBad (i + 1) rs else some (recBad r, i)

/-! ### What records set (R36, R40) -/

/-- A valid field record sets its field in each of its instances; `touch` acts on each register written. -/
def recSet (touch : State → Nat → State) (s : State) (r : CfgRec) : State :=
  if r.type = 1 ∨ r.type = 2 then
    let stride := (match instancesAfter r.ofs with | some (z, _) => z | none => 0)
    forEach (List.range (r.rep + 1)) s (fun s i =>
      match crsAt (r.ofs + i * stride) with
      | some h =>
        let f : Field := ⟨r.lsb + (if h.high then 32 else 0), r.width⟩
        touch (wr s h.key (stored h.key (f.set (rd s h.key) r.val))) h.key
      | none => s)
  else s

/-- The fields that records name, back at their reset values (R40). -/
def recReset (s : State) (r : CfgRec) : State :=
  if r.type = 1 ∨ r.type = 2 then
    let stride := (match instancesAfter r.ofs with | some (z, _) => z | none => 0)
    forEach (List.range (r.rep + 1)) s (fun s i =>
      match crsAt (r.ofs + i * stride) with
      | some h =>
        let f : Field := ⟨r.lsb + (if h.high then 32 else 0), r.width⟩
        wr s h.key (f.set (rd s h.key) (f.get (resetOf h.key)))
      | none => s)
  else s

/-- The registers that records name. -/
def recKeys (rs : List CfgRec) : List Nat :=
  (rs.flatMap (fun r =>
    if r.type = 1 ∨ r.type = 2 then
      let stride := (match instancesAfter r.ofs with | some (z, _) => z | none => 0)
      (List.range (r.rep + 1)).filterMap (fun i => (crsAt (r.ofs + i * stride)).map (fun h => h.key))
    else [])).eraseDups

/-- A coupling switch as the records leave it: that of the last record that sets it, else 1 in modes 0–4 (R40). -/
def switchOf (mode : Nat) (rs : List CfgRec) (i : Nat) : Nat :=
  rs.foldl (fun v r => if r.type = 3 ∧ r.ofs = i then r.val else v) (if mode ≤ 4 then 1 else 0)

/-- An access register that the configuration sets carries its access out (R113, log entry 25). -/
def cfgTouch (s : State) (k : Nat) : State :=
  if k = Reg.FAM_ACC then famAcc s 0 true (rd s k)
  else if k = Reg.BIND_ACC then bindAcc s 0 true (rd s k)
  else if k = Reg.ROUTE_ACC then routeAcc s 0 true (rd s k)
  else if k = Reg.TBL_ACC then tblAcc s 0 true (rd s k)
  else s

/-! ### What a mode allows (R26, R39, R128, R259) -/

/-- Width of the twin link, where exactly one enabled Calez port is marked TWIN. -/
def twinWidth (s : State) : Option Nat :=
  match (calezLinks s).filter (fun n => isSet s (Reg.CZ_CTRL n) Fld.CZ_CTRL_TWIN) with
  | [n] => some (slotWidth (tileSplit s (n / 4)) (n % 4))
  | _ => none

/-- The registers describe a device that a mode forbids: REASON 0x0A. -/
def layoutBad (s : State) (m : Nat) : Bool :=
  let en (t i : Nat) : Bool := isSet s (Reg.TILE_CFG t) (Fld.TILE_CFG_EN i)
  let ports := (allSlots.filter (fun x => en x.1 x.2)).map (fun x => slotPort s x.1 x.2)
  allSlots.any (fun x => en x.1 x.2 && !slotExists (tileSplit s x.1) x.2) ||
    ports.eraseDups.length != ports.length ||
    allSlots.any (fun x => isSet s (Reg.TILE_CFG x.1) (Fld.TILE_CFG_CALEZ x.2) && (decide (8 ≤ x.1) || decide (m ≤ 2))) ||
    (m == 0 && (List.range 32).any (fun v => v != 0 && vswOn s v)) || (decide (m ≤ 4) && (vswitches s).isEmpty) ||
    (m == 0 && s.regs.any (fun e => e.1 % 512 == Reg.MV_INST_BIND 0 && Fld.MV_INST_BIND_VALID.get e.2 != 0 && Fld.MV_INST_BIND_VSWITCH.get e.2 != 0)) ||
    (decide (m ≤ 1) && (vswitches s).any (fun v => (bridgesMapped s v).any (fun k => isComposed s v k))) ||
    (m != 4 && (calezLinks s).any (fun n => isSet s (Reg.CZ_CTRL n) Fld.CZ_CTRL_TWIN)) ||
    (vswitches s).any (fun v => (bridgesMapped s v).any (fun k => isDirect s v k && decide (1 < (bridgesOnPort s (bridgePort s v k)).length))) ||
    (List.range 64).any (fun p => decide (256 < getF s (Reg.DEV_BUS p) Fld.DEV_BUS_DEV_BUS_BASE + getF s (Reg.DEV_BUS p) Fld.DEV_BUS_DEV_BUS_COUNT)) ||
    (m == 4 && (match twinWidth s with | some w => w != 8 && w != 16 | none => true))

/-- The registers that a configuration leaves over reset values, for checks alone. -/
def cfgScratch (rs : List CfgRec) : State := forEach rs State.reset (recSet (fun s _ => s))

/-- REASON and INDEX with which a base configuration and overlay fail validation for a mode (R35, R38–R41); 0: they are valid.  A MODE
above 5 is never valid (R14); that it fails as a mismatch is log entry 108. -/
def configBad (m : Nat) (base : List Byte) (overlay : Option (List Byte)) : Nat × Nat :=
  if imgMode base ≠ m ∨ 5 < m then (0x04, 0xFFFF)
  else
    match recsBad 0 (imgRecs base) with
    | some (r, i) => (r, i)
    | none =>
      if layoutBad (cfgScratch (imgRecs base)) m then (0x0A, 0xFFFF)
      else
        match overlay with
        | none => (0, 0)
        | some o =>
          if imgMode o ≠ m then (0x04, 0xFFFF)
          else if imgBase o ≠ imgId base then (0x05, 0xFFFF)
          else
            match recsBad 0 (imgRecs o) with
            | some (r, i) => (r, i)
            | none => if layoutBad (cfgScratch (imgRecs base ++ imgRecs o)) m then (0x0A, 0xFFFF) else (0, 0)

/-- REASON and INDEX for a named base configuration and overlay; 0 and the images where they may be used (R33, R40, R440). -/
def namedConfig (s : State) (m config overlay : Nat) : (Nat × Nat) × Option (List Byte) × Option (List Byte) :=
  match findImage s 0 config with
  | none => ((0x0B, 0xFFFF), none, none)
  | some b =>
    if imageBad s 0 b ≠ 0 then ((imageBad s 0 b, 0xFFFF), none, none)
    else if overlay = 0 then (configBad m b none, some b, none)
    else
      match findImage s 1 overlay with
      | none => ((0x0B, 0xFFFF), none, none)
      | some o =>
        if imageBad s 1 o ≠ 0 then ((imageBad s 1 o, 0xFFFF), none, none) else (configBad m b (some o), some b, some o)

/-! ### The selection at a boot (R30–R34) -/

/-- The stored selection record in force. -/
def selNow (s : State) : Option SelRec := (bankOf s (curBank s)).sel.newest selRead (fun r => r.gen)

/-- A new version of the stored selection record, its generation one above that in force. -/
def selWrite (s : State) (r : SelRec) : State :=
  let g := (match selNow s with | some x => x.gen + 1 | none => 1)
  modBank s (curBank s) (fun b => { b with sel := b.sel.push selGen ({ r with gen := g } : SelRec).bytes })

/-- A selection that has failed. -/
def selFailed (src : Nat) (why : Nat × Nat) (once : Bool) : BootSel :=
  { base := none, overlay := none, src := src, reason := why.1, index := why.2, fallback := true, once := once }

/-- A named selection, or its failure. -/
def selNamed (s : State) (m config overlay src : Nat) (once : Bool) : BootSel :=
  let (why, b, o) := namedConfig s m config overlay
  if why.1 = 0 then { base := b, overlay := o, src := src, reason := 0, index := 0, fallback := false, once := once } else selFailed src why false

/-- Among the stored base configurations of a mode the one with the lowest CONFIG_ID that verifies (R30, R440); it still has to be valid
(R34). -/
def selLowest (s : State) (m : Nat) (none_ : Option (Nat × Nat)) : BootSel :=
  let c := ((bankOf s (curBank s)).slots.filter (fun e => imgKind e.2 == 0 && imgMode e.2 == m)).map (fun e => e.2)
  let lowest (l : List (List Byte)) : Option (List Byte) :=
    l.foldl (fun x b => match x with | some y => if imgId b < imgId y then some b else x | none => some b) none
  match lowest (c.filter (fun b => imageBad s 0 b == 0)) with
  | some b =>
    let why := configBad m b none
    if why.1 = 0 then { base := some b, overlay := none, src := 0, reason := 0, index := 0, fallback := false, once := false } else selFailed 0 why false
  | none => selFailed 0 (none_.getD (match lowest c with | some b => (imageBad s 0 b, 0xFFFF) | none => (0x0B, 0xFFFF))) false

/-- The configuration that R30 selects for the strap held, and the state once a one-time selection has been taken out of the
record (R32). -/
def bootSelect (s : State) : BootSel × State :=
  let m := s.pwr.strap
  match selNow s with
  | none => (if m ≤ 5 then selLowest s m none else selLowest s 5 (some (0x0B, 0xFFFF)), s)
  | some r =>
    if m ≤ 5 then
      if r.pMode == m && (match findImage s 0 r.pConfig with | some b => imgMode b == m | none => false) then (selNamed s m r.pConfig 0 1 false, s)
      else (selLowest s m none, s)
    else if m = 7 ∧ r.onceValid then
      let s := selWrite s { r with onceValid := false }
      (selNamed s r.oMode r.oConfig r.oOverlay 2 true, s)
    else (selNamed s r.pMode r.pConfig r.pOverlay 1 false, s)

/-! ### Quiesced and affected vSwitches (R45, R46) -/

/-- The vSwitch is quiesced (R45).  A TLP that came over a Calez port carries the number of a vSwitch of its source node. -/
def vswQuiesced (s : State) (v : Nat) : Bool :=
  s.fab.ctxs.all (fun c => !(c.2.source && c.2.vsw == v)) &&
    (allHeld s).all (fun h => !(h.vsw == v && h.tlp.cls == .posted && (portLink s h.inPort).isNone)) &&
    (instsOf s v).all (instQuiet s) && refuses s v

/-- Records of the configuration in force. -/
def inForce (s : State) : List CfgRec :=
  (match s.pwr.sel.base with | some b => imgRecs b | none => []) ++ (match s.pwr.sel.overlay with | some o => imgRecs o | none => [])

/-- The registers that a new configuration gives: a field that only the configuration in force names returns to its reset value, a field
that the new one names takes the last record's value, every other field keeps what it holds (R40, log entry 27). -/
def cfgRegs (s : State) (rs : List CfgRec) : State :=
  forEach rs (forEach (inForce s) s recReset) (recSet (fun s _ => s))

/-- vSwitches with a port, by its upstream port, its direct bridges or functions bound below it. -/
def vswsWithPort (s : State) (p : Nat) : List Nat :=
  (vswitches s).filter (fun v => upPort s v == p || (bridges s v).any (fun k => isDirect s v k && bridgePort s v k == p) ||
    (bindsOfPort s p).any (fun e => e.2.vsw == v))

/-- Every enabled vSwitch, as a mask. -/
def vswMask (l : List Nat) : Nat := l.foldl setBit 0

/-- The vSwitches that a changed register of a record affects (R46): by its block, which for a counter bank is the block of the bank; a register
kept for each vSwitch names that vSwitch, one kept for each port that port, one of an EGV slot the port of the slot, an access register of
the FAM or the binding table every vSwitch (log entry 25). -/
def regAffects (s : State) (k : Nat) : List Nat :=
  match famOf k with
  | none => []
  | some f =>
    let i := k / 512 % 4096
    let o := if f.space = .crs then f.base + i * f.dim1.2 else bankBase i
    if 0x01000000 ≤ o ∧ o < 0x02000000 then (tilePorts s (o / 0x100000 % 16)).flatMap (vswsWithPort s)
    else if 0x02000000 ≤ o ∧ o < 0x02400000 then vswsWithPort s (o / 0x10000 % 64)
    else if 0x07000000 ≤ o ∧ o < 0x07200000 then (match linkPort s (o / 0x10000 % 32) with | some p => vswsWithPort s p | none => [])
    else if (0x03000000 ≤ o ∧ o < 0x03300000) ∨ (0x00400000 ≤ o ∧ o < 0x00500000) ∨ (0x06000000 ≤ o ∧ o < 0x06100000) then vswitches s
    else if (0x04000010 ≤ o ∧ o < 0x04000040) ∨ (0x04008000 ≤ o ∧ o < 0x04008020) then vswitches s
    else if (0x04004000 ≤ o ∧ o < 0x04004200) ∨ (0x05000100 ≤ o ∧ o < 0x05000280) then (vswitches s).filter (fun v => v == i)
    else if (0x05000400 ≤ o ∧ o < 0x05000500) ∨ (0x0D001000 ≤ o ∧ o < 0x0D001400) ∨ (0x0B003000 ≤ o ∧ o < 0x0B003800) then vswsWithPort s i
    else if 0x00300100 ≤ o ∧ o < 0x00300300 then (match egvPort s i with | some p => vswsWithPort s p | none => [])
    else []

/-- AFFECTED of a change to a mode and to records, `whole` where the mode or the base configuration changes (R46). -/
def cfgAffected (s : State) (m : Nat) (rs : List CfgRec) (whole : Bool) : Nat :=
  if whole then vswMask (vswitches s)
  else
    let s' := cfgRegs s rs
    let keys := (recKeys (inForce s ++ rs)).filter (fun k => rd s' k != rd s k)
    let sw := if b2n (resumeEn s) = switchOf m rs 1 then [] else (vswitches s).filter (fun v => !(instsOf s v).isEmpty)
    vswMask (keys.flatMap (regAffects s) ++ sw)

/-- Of a mask of vSwitches, those that are not quiesced. -/
def notQuiesced (s : State) (mask : Nat) : Nat := vswMask ((bitsOf 32 mask).filter (fun v => !vswQuiesced s v))

/-- Status, REASON, INDEX and AFFECTED with which a change to a mode, base configuration and overlay is refused at the checks of R48,
or the affected vSwitches where it may be made.  R48 names no status for REASON 0x01, 0x05 and 0x09 and for an overlay of another MODE: the
model answers NOT_PERMITTED and WRONG_MODE (log entry 110). -/
def modeCheck (s : State) (m config overlay : Nat) : Nat × Nat × Nat × Nat :=
  let (why, b, o) := namedConfig s m config overlay
  if why.1 = 0x0B then (St.noResource, 0x0B, 0xFFFF, 0)
  else if why.1 = 0x02 ∨ why.1 = 0x03 then (St.authFail, why.1, 0xFFFF, 0)
  else if why.1 = 0x04 then (St.wrongMode, 0x04, 0xFFFF, 0)
  else if why.1 ≠ 0 then (St.notPermitted, why.1, why.2, 0)
  else
    let rs := (match b with | some b => imgRecs b | none => []) ++ (match o with | some o => imgRecs o | none => [])
    let whole := m != mode s || config != (rd s Reg.GLB_CONFIG_ID).toNat
    let a := cfgAffected s m rs whole
    let n := notQuiesced s a
    if n ≠ 0 then (St.notQuiesced, 0, 0, n) else (St.ok, 0, 0, a)

end Sys2Proof.Machine
end

