-- ==== Sys2Proof/Machine/Cvu.lean ====
section
/-!
DEFINITION. Machine/Cvu.lean: the check-value units (R368–R374).
-/
namespace Sys2Proof.Machine

/-- Width in bits of an algorithm's result (R368). -/
def cvWidth (alg : Nat) : Nat := match alg with | 2 => 16 | 3 => 64 | _ => 32

/-- Initial value and final XOR of an algorithm (R368). -/
def cvInitial (alg : Nat) : Nat := match alg with | 2 => 0xFFFF | 3 => 0 | _ => 0xFFFFFFFF
def cvFinal (alg : Nat) : Nat := match alg with | 2 => 0 | 3 => 0 | _ => 0xFFFFFFFF

/-- One bit step of a CRC of `w` bits that is not reflected. -/
def crcMsbBit (w poly r : Nat) : Nat := if 2 ^ (w - 1) ≤ r then (r * 2 % 2 ^ w) ^^^ poly else r * 2

/-- One byte fed into a CRC that is not reflected. -/
def crcMsbByte (w poly r : Nat) (b : Byte) : Nat := (List.range 8).foldl (fun r _ => crcMsbBit w poly r) (r ^^^ b.toNat * 2 ^ (w - 8))

/-- One byte fed into the running CRC of an algorithm (R368). -/
def cvByte (alg r : Nat) (b : Byte) : Nat :=
  match alg with
  | 0 => crcByte 0x82F63B78 r b
  | 1 => crcByte 0xEDB88320 r b
  | 2 => crcMsbByte 16 0x1021 r b
  | _ => crcMsbByte 64 0x42F0E1EBA9EA3693 r b

/-- The algorithm of CVU `n`. -/
def cvAlg (s : State) (n : Nat) : Nat := getF s (Reg.CV_CTRL n) Fld.CV_CTRL_ALG

/-- A value cut to the width of the CVU's algorithm: the bits above it are 0 (R368). -/
def cvCut (s : State) (n v : Nat) : Word := BitVec.ofNat 64 (v % 2 ^ cvWidth (cvAlg s n))

/-- INIT: the running CRC takes the algorithm's initial value (R369). -/
def cvInit (s : State) (n : Nat) : State := wr s (Reg.CV_STATE n) (BitVec.ofNat 64 (cvInitial (cvAlg s n)))

/-- Bytes fed into the running CRC, lowest first; discarded while EN is 0 (R369). -/
def cvFeed (s : State) (n : Nat) (bs : List Byte) : State :=
  if isSet s (Reg.CV_CTRL n) Fld.CV_CTRL_EN then
    wr s (Reg.CV_STATE n) (BitVec.ofNat 64 (bs.foldl (cvByte (cvAlg s n)) (rd s (Reg.CV_STATE n)).toNat))
  else s

/-- MISMATCH or ALIVE_ERR has been set (R374): vector 8, and with FAULT_EN source 0x0700; FAULT_EN of CVU6 and CVU7 has no effect in
mode 4 (R372). -/
def cvFail (s : State) (n : Nat) (injected : Bool) : State :=
  let s := msixManagers s 8
  if isSet s (Reg.CV_CTRL n) Fld.CV_CTRL_FAULT_EN && !(mode s == 4 && decide (6 ≤ n)) then
    detectBy s injected 0x0700 .contained Uk.cvu n (rd s (Reg.CV_STATUS n)).toNat
  else s

/-- Step 2 of R370: the result is compared with CV_EXPECT; a FAULT_INJECT of KIND 3 inverts it before (R366). Answers whether they
differ and whether injection acted. -/
def cvCompare (s : State) (n : Nat) : Bool × Bool × State :=
  let (inj, s) := takeInjection s ⟨Uk.cvu, n⟩ 3
  let s := if inj then wr s (Reg.CV_RESULT n) (cvCut s n (~~~ rd s (Reg.CV_RESULT n)).toNat) else s
  if rd s (Reg.CV_RESULT n) == cvCut s n (rd s (Reg.CV_EXPECT n)).toNat then (false, inj, s)
  else (true, inj, setF s (Reg.CV_STATUS n) Fld.CV_STATUS_MISMATCH 1)

/-- Step 3 of R370: the alive counter written is compared with EXP. -/
def cvAlive (s : State) (n a : Nat) : Bool × State :=
  let s := setF s (Reg.CV_STATUS n) Fld.CV_STATUS_ALIVE_LAST a
  let e := getF s (Reg.CV_ALIVE n) Fld.CV_ALIVE_EXP
  let s := setF s (Reg.CV_ALIVE n) Fld.CV_ALIVE_EXP ((a + 1) % 16)
  if e = a then (false, s) else (true, setF s (Reg.CV_STATUS n) Fld.CV_STATUS_ALIVE_ERR 1)

/-- A write to CV_END ends a message (R370). -/
def cvEnd (s : State) (n : Nat) (v : Word) : State :=
  let c := Reg.CV_CTRL n
  let s := wr s (Reg.CV_RESULT n) (cvCut s n ((rd s (Reg.CV_STATE n)).toNat ^^^ cvFinal (cvAlg s n)))
  let (m, inj, s) := if Fld.CV_END_CHECK.get v = 1 && isSet s c Fld.CV_CTRL_CMP_EN then cvCompare s n else (false, false, s)
  let a := Fld.CV_END_ALIVE.get v
  let (e, s) := if isSet s c Fld.CV_CTRL_ALIVE_EN then cvAlive s n a
    else (false, setF s (Reg.CV_STATUS n) Fld.CV_STATUS_ALIVE_LAST a)
  let s := bump (cvInit s n) (Reg.CV_MSG_CNT n)
  if m || e then cvFail s n inj else s

/-- A message of the twin mirror agent through CVU `n`, which it sets to CRC-32C with compares as `ctrl` enables them (R213; log entry 40). -/
def cvMessage (s : State) (n : Nat) (ctrl : Word) (bs : List Byte) (endWord : Word) : State :=
  let s := wr s (Reg.CV_CTRL n) (Fld.CV_CTRL_EN.set ctrl 1)
  cvEnd (cvFeed (cvInit s n) n bs) n endWord

/-- CVU6 computes TCHK on the coordinator (R213): the CRC-32C over the records of a T_PREPARE. -/
def cvTchk (s : State) (recs : List Byte) : Nat × State :=
  let s := cvMessage s 6 0 recs 0
  ((rd s (Reg.CV_RESULT 6)).toNat, s)

/-- CVU7 checks TCHK and ALIVE on the partner (R213); answers whether the TCHK is right. -/
def cvTwinCheck (s : State) (recs : List Byte) (tchk alive : Nat) : Bool × State :=
  let s := setF (wr s (Reg.CV_EXPECT 7) (BitVec.ofNat 64 (tchk % 2 ^ 32))) (Reg.CV_ALIVE 7) Fld.CV_ALIVE_EXP alive
  let s := cvMessage s 7 (Fld.CV_CTRL_ALIVE_EN.set (Fld.CV_CTRL_CMP_EN.set 0 1) 1) recs (Fld.CV_END_ALIVE.set (Fld.CV_END_CHECK.set 0 1) alive)
  (rd s (Reg.CV_RESULT 7) == rd s (Reg.CV_EXPECT 7), s)

/-- A Twin-role packet carries a wrong ALIVE: CVU7 shows it (R213). -/
def cvTwinAlive (s : State) : State := cvFail (setF s (Reg.CV_STATUS 7) Fld.CV_STATUS_ALIVE_ERR 1) 7 false

/-- In mode 4 the SP gives CVU6 and CVU7 to the twin mirror agent, master 11 (R372). -/
def cvTwinOwn (s : State) : State :=
  forEach [6, 7] s (fun s n => setF (setF s (Reg.CVU_OWNER n) Fld.CVU_OWNER_ANY 0) (Reg.CVU_OWNER n) Fld.CVU_OWNER_MASTER 11)

/-- A master may use CVU `n` (R372). -/
def cvOwner (s : State) (n m : Nat) : Bool :=
  isSet s (Reg.CVU_OWNER n) Fld.CVU_OWNER_ANY || getF s (Reg.CVU_OWNER n) Fld.CVU_OWNER_MASTER == m

/-- The CVU that a register belongs to. -/
def cvuOf (k : Nat) : Option Nat :=
  let f := k % 512
  if f = Reg.CV_CTRL 0 ∨ f = Reg.CV_STATUS 0 ∨ f = Reg.CV_ALIVE 0 ∨ f = Reg.CV_DATA8 0 ∨ f = Reg.CV_DATA16 0 ∨ f = Reg.CV_DATA32 0 ∨
     f = Reg.CV_END 0 ∨ f = Reg.CV_EXPECT 0 ∨ f = Reg.CV_STATE 0 ∨ f = Reg.CV_RESULT 0 ∨ f = Reg.CV_MSG_CNT 0 then some (k / 512 % 4096)
  else none

/-- A write of a register of CVU `n` that its owner makes; `plain` is the state after the write's RW and RW1C fields have been stored. -/
def cvStore (s : State) (n k : Nat) (v : Word) (plain : State) : State :=
  let f := k % 512
  if f = Reg.CV_CTRL 0 then (if Fld.CV_CTRL_INIT.get v = 1 then cvInit plain n else plain)
  else if f = Reg.CV_DATA8 0 then cvFeed s n (natLe 1 v.toNat)
  else if f = Reg.CV_DATA16 0 then cvFeed s n (natLe 2 v.toNat)
  else if f = Reg.CV_DATA32 0 then cvFeed s n (natLe 4 v.toNat)
  else if f = Reg.CV_END 0 then cvEnd s n v
  else if f = Reg.CV_STATE 0 ∨ f = Reg.CV_EXPECT 0 then wr plain k (cvCut plain n (rd plain k).toNat)
  else plain

/-- A write to a register of CVU `n` by a master (R372, R373). -/
def cvWrite (s : State) (n m k : Nat) (v : Word) (plain : State) : State :=
  if !cvOwner s n m then setF s (Reg.CV_STATUS n) Fld.CV_STATUS_FOREIGN 1
  else if isFenced s ⟨Uk.cvu, n⟩ && m != 0 then s
  else cvStore s n k v plain

end Sys2Proof.Machine
end

