-- ==== Sys2Proof/Machine/TwinOps.lean ====
section
/-!
DEFINITION. Machine/TwinOps.lean: the twin pair: its session, states, transactions, resynchronisation and handover (R206–R232).
-/
namespace Sys2Proof.Machine

/-! ### Twin-role packets (R213, R214, R327) -/

/-- FW_VERSION of the firmware in the bank running (R335, R430). -/
def fwVersion (s : State) : Nat := num (bankOf s (curBank s)).fw 8 4

/-- A Twin-role packet goes to the twin link, with the next ALIVE and SEQ; T_HANDOVER carries SP_ROUTE. -/
def twinSend (s : State) (opcode : Nat) (payload : List Byte) : State :=
  let t := s.twin
  let p := packet opcode (if opcode = 0x0715 then 5 else 1) t.txSeq (partner s) t.txAlive payload
  { s with icp := { s.icp with twinTx := s.icp.twinTx ++ [p] }, twin := { t with txAlive := (t.txAlive + 1) % 16, txSeq := (t.txSeq + 1) % 65536 } }

/-- The first reply that came over the twin link to a Twin-role packet of an opcode is taken. -/
def takeTwinReply (s : State) (opcode : Nat) : Option (TwinReply × State) :=
  match s.icp.twinReplies.find? (fun r => r.opcode == opcode && !r.relayed) with
  | some r => some (r, { s with icp := { s.icp with twinReplies := s.icp.twinReplies.erase r } })
  | none => none

/-- The partner's heartbeat is lost (R216). -/
def hbLost (s : State) : Bool := !isSet s Reg.TWIN_STATUS Fld.TWIN_STATUS_HB_ALIVE

/-- Automatic takeover is allowed, and the heartbeat is lost (R218). -/
def autoTakeover (s : State) : Bool :=
  hbLost s && isSet s Reg.TWIN_CTRL Fld.TWIN_CTRL_AUTO_TAKEOVER && !isSet s Reg.TWIN_STATUS Fld.TWIN_STATUS_HB_FAULT

/-- The session of the twin link ends (R327): the next begins with a T_HELLO. -/
def sessionEnd (s : State) : State :=
  { s with twin := { s.twin with helloDone := false, helloSeen := false, txAlive := 0, rxRep := 0, relayTx := 0 } }

/-! ### Pair states (R217, R218) -/

/-- The event bit of an entry to a pair state. -/
def stateEvent (st : Nat) : Option Nat := match st with | 2 => some 2 | 3 => some 0 | 4 => some 1 | 5 => some 4 | _ => none

/-- TWIN_STATUS as it reads. -/
def twinStatusWord (s : State) : Word :=
  let w := Fld.TWIN_STATUS_LINK_UP.set (rd s Reg.TWIN_STATUS) (b2n (mode s == 4 && twinLive s))
  Fld.TWIN_STATUS_PARTNER_NODE.set w (if mode s = 4 then partner s else 0)

/-- The SP changes the pair state (R218): STATE, CAUSE, its event and a journal record (R411); SERVING and SPLIT raise a CONTAINED fault. -/
def enterState (s : State) (st cause : Nat) : State :=
  let s := setF (setF s Reg.TWIN_STATUS Fld.TWIN_STATUS_STATE st) Reg.TWIN_STATUS Fld.TWIN_STATUS_CAUSE cause
  let s := journalAdd s 6 (natLe 4 (twinStatusWord s).toNat ++ regBytes s Reg.TWIN_FO_TIME 4) []
  let s := match stateEvent st with | some b => twinEvent s b | none => s
  if st = 3 ∨ st = 4 then detect s 0x0400 .contained Uk.twin 0 cause else s

/-- RESTORE for this node leaves on every ACTIVE Calez port; it is withheld no longer (R141, R227). -/
def sendRestore (s : State) : State :=
  advAll { s with twin := { s.twin with restoreWithheld := false } } [⟨nodeId s, 1, 0⟩] (fun _ => true)

/-- What a twin does when JOINING ends: the refusal of its vSwitches ends with the state, the withheld RESTORE goes out (R227). -/
def joinDone (s : State) : State :=
  let s := { s with twin := { s.twin with joinFromSplit := false } }
  if s.twin.restoreWithheld then sendRestore s else s

/-- A resynchronisation in progress ends (R228). -/
def resyncOff (s : State) : State :=
  setF { s with twin := { s.twin with resync := none } } Reg.TWIN_STATUS Fld.TWIN_STATUS_RESYNC_BUSY 0

/-! ### Transactions (R211–R213) -/

/-- TWIN_TXN shows a transaction, its coordinator and its fate. -/
def setTxn (s : State) (txn coord fate : Nat) : State := wr s Reg.TWIN_TXN (BitVec.ofNat 64 (txn % 2 ^ 32 * 2 ^ 32 + coord * 128 + fate))
def setFate (s : State) (fate : Nat) : State := setF s Reg.TWIN_TXN Fld.TWIN_TXN_FATE fate

/-- A MODE_ACTIVATE that does not go on: the vSwitches it held are released. -/
def modeAbort (s : State) : State :=
  let s := setF { s with pwr := { s.pwr with act := none } } Reg.GLB_MODE_STATUS Fld.GLB_MODE_STATUS_ACT_BUSY 0
  forEach (List.range 32) s (fun s v => if (s.vsw v).modeHeld then s.modVsw v (fun x => { x with modeHeld := false }) else s)

/-- Application of a MODE_ACTIVATE begins (R49): ACCEPTED, and configuration requests to the affected vSwitches are retried. -/
def modeBegin (s : State) : State :=
  match s.pwr.act with
  | none => s
  | some a =>
    let s := setF { s with pwr := { s.pwr with act := some { a with voted := true } } } Reg.GLB_MODE_STATUS Fld.GLB_MODE_STATUS_ACT_BUSY 1
    let s := forEach (bitsOf 32 a.affected) s (fun s v => s.modVsw v (fun x => { x with modeHeld := true }))
    if a.told then s else sendReply s a.req St.accepted (natLe 4 a.affected ++ zeros 4)

/-- The reply payload of a command that a transaction commits, with the INDEX that the partner named. -/
def txnPayload (s : State) (r : IcpReq) (index : Nat) : List Byte := if r.opcode = 0x0904 then zeros 8 else tablePayload s r.opcode index

/-- The transaction that this twin coordinates ends without having been applied: its command is answered. -/
def txnFail (s : State) (status index : Nat) : State :=
  match s.twin.coord with
  | none => s
  | some c =>
    let s := setFate { s with twin := { s.twin with coord := none } } 3
    let s := match c.req with | some r => reply s r status (txnPayload s r index) | none => s
    if c.kind = 3 then modeAbort s else s

/-- T_COMMIT of a transaction, with ABORT or without. -/
def sendCommit (s : State) (txn : Nat) (abort : Bool) : State := twinSend s 0x0712 (natLe 4 txn ++ natLe 1 (b2n abort) ++ zeros 3)

/-- The records of a transaction (R213): what follows the 8-byte header of a table command; of a MODE_ACTIVATE, which has no records, its whole
payload (log entry 40). -/
def txnRecords (kind : Nat) (p : List Byte) : List Byte := if kind = 3 then p else p.drop 8

/-- Steps 1 and 2 of R211: a new transaction is prepared on the partner, with TCHK from CVU6 (R213). -/
def txnStart (s : State) (kind : Nat) (p : List Byte) (req : Option IcpReq) : State :=
  let txn := s.twin.nextTxn
  let c : CoordTxn := { txn := txn, kind := kind, payload := p, req := req, step := .vote, deadline := s.time + ms (if kind = 3 then 10 else 1), beaten := false }
  let s := { s with twin := { s.twin with coord := some c, nextTxn := (txn + 1) % 2 ^ 32 } }
  let (tchk, s) := cvTchk (bump (setTxn s txn 1 1) Reg.TWIN_PREP_CNT) (txnRecords kind p)
  twinSend s 0x0711 (natLe 4 txn ++ natLe 1 kind ++ zeros 3 ++ natLe 4 tchk ++ p)

/-- The coordinator applies its part of a transaction (step 6 of R211), and answers its command. -/
def txnApply (s : State) (c : CoordTxn) (req : Option IcpReq) : State :=
  let s := setFate { s with twin := { s.twin with coord := none } } 2
  if c.kind = 3 then s else tableStore s c.kind true req c.payload

/-- MODE, configuration and overlay that a prepared MODE_ACTIVATE names for the partner (R47, R50). -/
def partnerMode (p : List Byte) : Nat := num p 0 1
def partnerConfig (p : List Byte) : Nat := num p 12 4
def partnerOverlay (p : List Byte) : Nat := num p 16 4

/-- The partner's vote on a transaction: a status and the INDEX of the first refused record. -/
def txnVote (s : State) (kind : Nat) (p : List Byte) : Nat × Nat :=
  if isFenced s ⟨Uk.cvu, 6⟩ || isFenced s ⟨Uk.cvu, 7⟩ then (St.twinDisagree, 0)
  else if kind = 3 then
    let r := modeCheck s (partnerMode p) (partnerConfig p) (partnerOverlay p)
    (r.1, r.2.2.1)
  else match tableRefused s kind false p with | some i => (St.notPermitted, i) | none => (St.ok, 0)

/-- A T_PREPARE arrives (step 3 of R211, R213). -/
def tPrepare (s : State) (r : IcpReq) : State :=
  let txn := num r.payload 0 4
  let kind := num r.payload 4 1
  let p := r.payload.drop 12
  let vote := fun (s : State) (st i : Nat) =>
    reply (if st = St.ok then s else bump s Reg.TWIN_REFUSE_CNT) r st (natLe 4 txn ++ natLe 2 i ++ zeros 2)
  let (right, s) := if isFenced s ⟨Uk.cvu, 7⟩ then (true, s) else cvTwinCheck s (txnRecords kind p) (num r.payload 8 4) (num r.raw 10 1 % 16)
  if !right then
    vote (detect (bump s Reg.TWIN_CHK_ERR_CNT) 0x0403 .contained Uk.twin 0 txn) St.badCrc 0
  else if 3 < kind then vote s St.notPermitted 0
  else if twinState s ≠ 2 then vote s St.twinDisagree 0
  else if s.twin.staged.isSome || s.pwr.act.any (fun a => !(s.twin.coord.any (fun c => c.kind == 3 && c.req.any (fun q => q == a.req)))) then vote s St.busy 0
  else if s.twin.coord.isSome && nodeId s % 2 == 0 then vote s St.busy 0
  else
    let s := { s with twin := { s.twin with coord := s.twin.coord.map (fun c => { c with beaten := true }) } }
    let (st, i) := txnVote s kind p
    if st = St.ok then
      vote (setTxn { s with twin := { s.twin with staged := some ⟨txn, kind, p⟩ } } txn 0 1) st 0
    else vote s st i

/-- A T_COMMIT arrives (steps 4 and 5 of R211). -/
def tCommit (s : State) (r : IcpReq) : State :=
  let txn := num r.payload 0 4
  let abort := bitAt r.payload 4 0
  let body := fun (s : State) => natLe 4 txn ++ natLe 4 (epoch s)
  match s.twin.staged.filter (fun x => x.txn == txn) with
  | none => reply s r (if abort then St.ok else St.notPermitted) (body s)
  | some x =>
    let s := { s with twin := { s.twin with staged := none } }
    if abort then reply (setFate s 3) r St.ok (body s)
    else
      let s := { s with twin := { s.twin with applied := some txn, laterPacket := false } }
      if x.kind = 3 then
        let affected := (modeCheck s (partnerMode x.payload) (partnerConfig x.payload) (partnerOverlay x.payload)).2.2.2
        let a : ModeAct := { req := r, mode := partnerMode x.payload, flags := num x.payload 1 1, configId := partnerConfig x.payload,
                             overlayId := partnerOverlay x.payload, affected := affected, voted := false, told := true }
        ruleReply (modeBegin { s with pwr := { s.pwr with act := some a } }) r
      else tableStore s x.kind false (some r) x.payload

/-- A T_QUERY arrives (R212): a staged transaction that it names is discarded. -/
def tQuery (s : State) (r : IcpReq) : State :=
  let txn := num r.payload 0 4
  let done := s.twin.applied == some txn
  let s := if s.twin.staged.any (fun x => x.txn == txn) then setFate { s with twin := { s.twin with staged := none } } 3 else s
  reply s r St.ok (natLe 4 txn ++ natLe 1 (b2n done) ++ zeros 3)

/-- 2 ms after its vote without a T_COMMIT, a staged transaction is discarded (R211). -/
def stagedDiscard (s : State) : State :=
  if s.twin.staged.isSome then setFate { s with twin := { s.twin with staged := none } } 3 else s

/-- The partner's vote arrives (step 4 of R211). -/
def tPrepareReply (s : State) : State :=
  match takeTwinReply s 0x0711 with
  | none => s
  | some (v, s) =>
    match s.twin.coord with
    | none => s
    | some c =>
      if c.step ≠ .vote ∨ num v.payload 0 4 ≠ c.txn then s
      else if v.status = St.ok ∧ !c.beaten then
        let s := sendCommit { s with twin := { s.twin with coord := some { c with step := .commit, deadline := s.time + ms 1 } } } c.txn false
        if c.kind = 3 then modeBegin s else s
      else
        let s := if v.status = St.ok then s else bump s Reg.TWIN_REFUSE_CNT
        txnFail (sendCommit s c.txn true) (if c.beaten ∨ v.status = St.busy then St.busy else St.twinDisagree) (num v.payload 4 2)

/-- The partner's commit reply arrives (step 6 of R211). -/
def tCommitReply (s : State) : State :=
  match takeTwinReply s 0x0712 with
  | none => s
  | some (v, s) =>
    match s.twin.coord with
    | none => s
    | some c =>
      if c.step ≠ .commit ∨ num v.payload 0 4 ≠ c.txn then s
      else if v.status = St.ok then txnApply s c c.req
      else txnFail s St.twinDisagree 0

/-- T_QUERY of a transaction that settles (R212). -/
def querySend (s : State) : State :=
  match s.twin.coord with
  | some c => if c.step = .settling ∧ twinLive s then twinSend s 0x0713 (natLe 4 c.txn) else s
  | none => s

/-! ### Resynchronisation (R228) -/

/-- A list in pieces of at most `n`, one empty piece for an empty list. -/
def batches {α : Type} (n : Nat) (l : List α) : List (List α) :=
  (List.range (max 1 ((l.length + n - 1) / n))).map (fun i => (l.drop (n * i)).take n)

/-- T_SYNC payloads for the valid entries of a table: the last one carries LAST_OF_TABLE, and END where it is the last of all. -/
def syncTable (table dest per : Nat) (end_ : Bool) (es : List (Nat × List Byte)) : List (List Byte) :=
  let ps := batches per es
  (List.range ps.length).map (fun i =>
    let p := ps.getD i []
    let last := i + 1 == ps.length
    natLe 1 table ++ natLe 1 dest ++ natLe 1 (b2n last + 2 * b2n (last && end_)) ++ zeros 1 ++ natLe 2 p.length ++ zeros 2 ++
      p.flatMap (fun e => natLe 4 e.1 ++ e.2))

/-- T_SYNC payloads for three tables towards one destination. -/
def syncTables (dest : Nat) (end_ : Bool) (fam : Assoc FamEnt) (bind : Assoc BindEnt) (routes : Assoc RouteEnt) : List (List Byte) :=
  syncTable 0 dest 113 false ((fam.filter (fun e => e.2.valid)).map (fun e => (e.1, e.2.bytes))) ++
  syncTable 1 dest 203 false ((bind.filter (fun e => e.2.valid)).map (fun e => (e.1, e.2.bytes))) ++
  syncTable 2 dest 59 end_ ((routes.filter (fun e => e.2.valid)).map (fun e => (e.1, e.2.shadowBytes)))

/-- Resynchronisation begins (R228): a SERVING twin sends its shadow tables for the joiner's live tables and its own live tables
for the joiner's shadow; any other its live tables for the partner's shadow; the joiner of a SERVING twin sends none. -/
def startResync (s : State) : State :=
  let st := twinState s
  let ps := s.twin.partnerState
  let live := syncTables 1 true s.fab.fam s.hosts.bind s.fab.routes
  let old := s.twin.resync.getD ⟨[], false, false, []⟩
  let begin_ := fun (pk : List (List Byte)) (gotEnd : Bool) =>
    let s := setF { s with twin := { s.twin with resync := some { old with toSend := pk.drop 1, sentAll := pk.isEmpty, gotEnd := old.gotEnd || gotEnd } } }
      Reg.TWIN_STATUS Fld.TWIN_STATUS_RESYNC_BUSY 1
    match pk with | p :: _ => twinSend s 0x0714 p | [] => s
  if st = 3 ∧ (ps = 1 ∨ ps = 4) then begin_ (syncTables 0 false s.twin.shadowFam s.twin.shadowBind s.twin.shadowRoute ++ live) true
  else if st = 1 ∧ ps = 3 then begin_ [] false
  else if st = 1 ∧ (ps = 1 ∨ ps = 2 ∨ ps = 4) then begin_ live false
  else s

/-- The partner's answer to a T_SYNC arrives: the next one goes out, or this direction has ended. -/
def tSyncReply (s : State) : State :=
  match takeTwinReply s 0x0714 with
  | none => s
  | some (v, s) =>
    match s.twin.resync with
    | none => s
    | some r =>
      if v.status ≠ St.ok then s
      else
        match r.toSend with
        | p :: rest => twinSend { s with twin := { s.twin with resync := some { r with toSend := rest } } } 0x0714 p
        | [] => { s with twin := { s.twin with resync := some { r with sentAll := true } } }

/-- Entries that a T_SYNC of a table carries. -/
def syncRecs (table : Nat) (p : List Byte) : List (Nat × List Byte) :=
  let z := match table with | 0 => 32 | 1 => 16 | _ => 64
  (List.range (num p 4 2)).map (fun i => (num p (8 + (z + 4) * i) 4, (p.drop (12 + (z + 4) * i)).take z))

/-- Entries of a table, to the table they are for; those for the live tables wait for the handover (R229). -/
def syncWrite (s : State) (table dest : Nat) (es : List (Nat × List Byte)) : State :=
  let t := s.twin
  match table, dest with
  | _, 0 => { s with twin := { t with syncLive := t.syncLive ++ es.map (fun e => (table, e.1, e.2)) } }
  | 0, _ => { s with twin := { t with shadowFam := es.foldl (fun m e => aput m e.1 (famRead e.2)) t.shadowFam } }
  | 1, _ => { s with twin := { t with shadowBind := es.foldl (fun m e => aput m e.1 (bindRead e.2)) t.shadowBind } }
  | _, _ => { s with twin := { t with shadowRoute := es.foldl (fun m e => aput m e.1 (shadowRoute e.2)) t.shadowRoute } }

/-- What a new resynchronisation replaces of a table is emptied: the shadow table, or the entries that an earlier one brought for the live one. -/
def syncClear (s : State) (table dest : Nat) : State :=
  let t := s.twin
  { s with twin := (match table, dest with
      | _, 0 => { t with syncLive := t.syncLive.filter (fun e => e.1 != table) }
      | 0, _ => { t with shadowFam := [] }
      | 1, _ => { t with shadowBind := [] }
      | _, _ => { t with shadowRoute := [] }) }

/-- An entry that T_SYNC brings has the OWNER_NODE of the twin whose table it is for: this one's live table, the partner's shadow (R207, R209). -/
def syncOwned (s : State) (table dest : Nat) (b : List Byte) : Bool :=
  match table with
  | 0 => ownerTable s (famRead b).owner == some (dest == 0)
  | 1 => ownerTable s (bindRead b).owner == some (dest == 0)
  | _ => true

/-- The entries that T_SYNC has brought go into the live tables (R229); the caller advances the epoch. -/
def syncInstall (s : State) : State :=
  let es := s.twin.syncLive
  let of := fun (t : Nat) => (es.filter (fun e => e.1 == t)).map (fun e => e.2)
  let s := { s with twin := { s.twin with syncLive := [] } }
  let s := famApply s ((of 0).map (fun e => (e.1, famRead e.2)))
  let s := bindApply s ((of 1).map (fun e => (e.1, bindRead e.2)))
  forEach (of 2) s (fun s e => routeWrite s e.1 e.2)

/-- A T_SYNC arrives (R228). -/
def tSync (s : State) (r : IcpReq) : State :=
  let table := num r.payload 0 1
  let dest := num r.payload 1 1
  let end_ := bitAt r.payload 2 1
  let es := syncRecs table r.payload
  let top := match table with | 0 => 131072 | 1 => 16384 | _ => 4096
  if 2 < table ∨ 1 < dest ∨ es.any (fun e => decide (top ≤ e.1) || !syncOwned s table dest e.2) then reply s r St.notPermitted []
  else
    let x := s.twin.resync.getD ⟨[], false, false, []⟩
    let key := table * 2 + dest
    let s := if x.begun.contains key then s else syncClear s table dest
    let x := { x with begun := if x.begun.contains key then x.begun else x.begun ++ [key], gotEnd := x.gotEnd || end_ }
    let s := setF { s with twin := { s.twin with resync := some x } } Reg.TWIN_STATUS Fld.TWIN_STATUS_RESYNC_BUSY 1
    reply (syncWrite s table dest es) r St.ok []

/-! ### Takeover (R219, R226) -/

/-- The transaction that this twin coordinates, at a takeover (R212, R219), and FATE of one that only its partner coordinated. -/
def takeoverTxn (s : State) : State :=
  match s.twin.coord with
  | some c => if c.step = .settling then txnFail s St.timeout 0 else txnFail s St.twinDisagree 0
  | none =>
    if s.twin.applied.isSome && !s.twin.laterPacket && getF s Reg.TWIN_TXN Fld.TWIN_TXN_FATE == 2 && !isSet s Reg.TWIN_TXN Fld.TWIN_TXN_COORD then setFate s 4
    else s

/-- Device time since the last valid block on the twin link, in 10 ns. -/
def sinceValid (s : State) : Nat :=
  match twinLink s with | some n => min 65535 ((s.time - (s.link n).lastValid) / 160) | none => 0

/-- This twin takes over its partner's node (R219). -/
def takeover (s : State) (cause : Nat) : State :=
  let s := takeoverTxn (resyncOff s)
  let s := wr s Reg.TWIN_FO_TIME (BitVec.ofNat 64 (sinceValid s * 65536 + sinceValid s))
  let s := { s with twin := { s.twin with handbackBlocked := false, handbackDue := none } }
  takeoverApply (epochNow (enterState s 3 cause)) (partner s) (nodeId s) 64

/-- A TAKEOVER that names this twin arrives while it is SERVING (R226): the odd node leaves. -/
def dualTakeover (s : State) : State :=
  if nodeId s % 2 = 0 then s
  else
    let s := twinEvent (enterState (resyncOff s) 5 7) 7
    let s := { s with twin := { s.twin with leftAt := some s.time, handbackDue := none, handover := none } }
    let s := advAll (clearTaken s (partner s)) [⟨partner s, 1, 0⟩] (fun _ => true)
    detect s 0x0402 .contained Uk.twin 0 0

/-! ### The events of R216 and R218 -/

/-- The twin link has gone down. -/
def twinDown (s : State) : State :=
  if mode s != 4 || twinLive s then s
  else
    let s := sessionEnd s
    match twinState s with
    | 2 => if autoTakeover s then takeover s 1 else enterState s 4 2
    | 1 =>
      let s := resyncOff s
      if s.twin.joinFromSplit then
        let s := { s with twin := { s.twin with joinFromSplit := false } }
        if autoTakeover s then takeover s 3 else enterState s 4 2
      else s
    | 3 => resyncOff s
    | _ => s

/-- The twin link is ACTIVE: T_HELLO (R227). -/
def helloPayload (s : State) : List Byte :=
  let has := !s.fab.fam.isEmpty || !s.hosts.bind.isEmpty || !s.fab.routes.isEmpty
  natLe 1 (twinState s) ++ natLe 1 (b2n has) ++ zeros 2 ++ natLe 4 (rd s Reg.GLB_CONFIG_ID).toNat ++ natLe 4 (fwVersion s) ++
    natLe 4 ((s.twin.nextTxn + 2 ^ 32 - 1) % 2 ^ 32)

def twinUp (s : State) : State :=
  if mode s != 4 || !twinLive s || s.twin.helloDone then s
  else twinSend { s with twin := { s.twin with txAlive := 0, rxRep := 0, relayTx := 0 } } 0x0710 (helloPayload s)

/-- The partner's T_HELLO reply arrives (R218, R227, R228): a twin in SPLIT joins, an unsettled transaction is settled first. -/
def tHelloReply (s : State) : State :=
  match takeTwinReply s 0x0710 with
  | none => s
  | some (v, s) =>
    if v.status ≠ St.ok then s
    else
      let s := { s with twin := { s.twin with helloDone := true, partnerState := num v.payload 0 1 } }
      let s := if twinState s = 4 then enterState { s with twin := { s.twin with joinFromSplit := true } } 1 9 else s
      if s.twin.coord.any (fun c => c.step == .settling) then querySend s else startResync s

/-- A T_QUERY answer settles the transaction (R212); resynchronisation that waited for it begins. -/
def tQueryReply (s : State) : State :=
  match takeTwinReply s 0x0713 with
  | none => s
  | some (v, s) =>
    match s.twin.coord with
    | none => s
    | some c =>
      if c.step ≠ .settling ∨ num v.payload 0 4 ≠ c.txn ∨ v.status ≠ St.ok then s
      else
        let s := twinEvent (if bitAt v.payload 4 0 then txnApply s c none else txnFail { s with twin := { s.twin with coord := some { c with req := none } } } St.timeout 0) 6
        if twinState s = 1 ∧ s.twin.helloDone ∧ s.twin.resync.all (fun r => r.toSend.isEmpty && !r.sentAll) then startResync s else s

/-- The heartbeat is lost, or alive again, or HB_FAULT is set (R216). -/
def heartbeatLost (s : State) : State :=
  if mode s != 4 then s
  else
    let s := setF s Reg.TWIN_STATUS Fld.TWIN_STATUS_HB_ALIVE 0
    if twinState s = 4 ∧ !twinLive s ∧ autoTakeover s then takeover s 3 else s

def heartbeatAlive (s : State) : State :=
  if mode s != 4 then s
  else setF (setF s Reg.TWIN_STATUS Fld.TWIN_STATUS_HB_ALIVE 1) Reg.TWIN_STATUS Fld.TWIN_STATUS_HB_FAULT 0

def heartbeatFault (s : State) : State :=
  if mode s != 4 || !hbLost s || !twinLive s || isSet s Reg.TWIN_STATUS Fld.TWIN_STATUS_HB_FAULT then s
  else detect (twinEvent (setF s Reg.TWIN_STATUS Fld.TWIN_STATUS_HB_FAULT 1) 5) 0x0401 .contained Uk.twin 0 0

/-- TWIN_HB_OUT toggles (R215). -/
def heartbeatToggle (s : State) : State :=
  if s.pwr.hbRun then emit { s with pwr := { s.pwr with hbOut := !s.pwr.hbOut } } (.heartbeat (!s.pwr.hbOut)) else s

/-- JOIN_WAIT passes without an ACTIVE twin link (R218, R227); HB_FAULT bars the takeover as any automatic one (R216). -/
def joinExpiry (s : State) : State :=
  if mode s != 4 || twinState s != 1 || s.twin.joinFromSplit || twinLive s then s
  else
    joinDone (if autoTakeover s then takeover s 6 else enterState s 4 6)

/-! ### Handover and handback (R229–R231) -/

/-- T_HANDOVER goes out, its answer awaited for 1 ms. -/
def startHandover (s : State) (dir : Nat) (req : Option IcpReq) : State :=
  twinSend { s with twin := { s.twin with handover := some (dir, req, s.time + ms 1) } } 0x0715 (natLe 1 dir ++ zeros 7)

/-- Resynchronisation has ended for TWIN_ROLE HANDBACK. -/
def resyncEnded (s : State) : Bool := twinLive s && s.twin.helloDone && s.twin.resync.isNone

/-- Both directions have ended (R218, R228, R229). -/
def resyncEnd (s : State) : State :=
  match s.twin.resync with
  | none => s
  | some r =>
    if !(r.sentAll && r.gotEnd) then s
    else
      let s := resyncOff s
      match twinState s with
      | 1 => if s.twin.partnerState = 3 then s else joinDone (enterState s 2 9)
      | 3 => if isSet s Reg.TWIN_CTRL Fld.TWIN_CTRL_AUTO_HANDBACK && !s.twin.handbackBlocked then startHandover s 1 none else s
      | _ => s

/-- T_HANDOVER arrives: the partner leaves, or hands back (R229, R231). -/
def tHandover (s : State) (r : IcpReq) : State :=
  match num r.payload 0 1, twinState s with
  | 0, 2 => reply (takeover s 4) r St.ok (zeros 8)
  | 1, 1 =>
    if s.twin.resync.all (fun x => x.sentAll && x.gotEnd) then
      let s := epochNow (syncInstall (enterState (resyncOff s) 2 8))
      reply (sendRestore { s with twin := { s.twin with joinFromSplit := false } }) r St.ok (zeros 8)
    else reply s r St.notPermitted (zeros 8)
  | _, _ => reply s r St.notPermitted (zeros 8)

/-- The partner's answer to T_HANDOVER arrives; `go` continues a FW_ACTIVATE (R232). -/
def tHandoverReply (go : State → IcpReq → State) (s : State) : State :=
  match takeTwinReply s 0x0715 with
  | none => s
  | some (v, s) =>
    match s.twin.handover with
    | none => s
    | some (dir, req, _) =>
      let s := { s with twin := { s.twin with handover := none } }
      let answer := fun (s : State) (st : Nat) => match req with | some r => reply s r st (zeros (replyLen r.opcode)) | none => s
      if dir = 0 then
        if v.status = St.ok then
          let s := enterState { s with twin := { s.twin with leftAt := some s.time } } 5 4
          match req with | some r => if s.twin.fwAfter then go s r else answer s St.ok | none => s
        else answer { s with twin := { s.twin with fwAfter := false } } St.twinDisagree
      else if v.status = St.ok then
        let fence := us (max 10 (min 10000 (getF s Reg.SPRAY_FENCE_TO Fld.SPRAY_FENCE_TO_TIMEOUT)))
        answer { s with twin := { s.twin with handbackDue := some (s.time + us 100 + 2 * fence) } } St.ok
      else answer { s with twin := { s.twin with handbackBlocked := true } } St.twinDisagree

/-- The grace period of a handback ends (R229). -/
def handbackEnd (s : State) : State :=
  if s.twin.handbackDue.isNone || twinState s != 3 then s
  else
    let s := { s with twin := { s.twin with handbackDue := none } }
    twinEvent (enterState (clearTaken (epochNow s) (partner s)) 2 8) 3

/-- A LEFT twin has drained: it clears HB_RUN (R231). -/
def handoverDrained (s : State) : State :=
  if s.twin.leftAt.isNone then s else heartbeatStop { s with twin := { s.twin with leftAt := none } }

/-- A vote, a commit reply, the answer to T_HANDOVER or to EPOCH_SYNC with BOTH has not come in its time (R165, R211, R212, R229). -/
def twinTimeout (s : State) : State :=
  match s.twin.coord with
  | some c =>
    match c.step with
    | .vote => txnFail (sendCommit (bump s Reg.TWIN_TO_CNT) c.txn true) St.timeout 0
    | .commit =>
      let s := setFate (bump s Reg.TWIN_TO_CNT) 5
      let s := { s with twin := { s.twin with coord := some { c with step := .settling, req := none } } }
      let s := match c.req with | some r => reply s r St.timeout (txnPayload s r 0) | none => s
      { s with pwr := { s.pwr with act := if c.kind = 3 then s.pwr.act.map (fun a => { a with told := true }) else s.pwr.act } }
    | .settling => s
  | none =>
    match s.twin.handover with
    | some (dir, req, _) =>
      let s := { s with twin := { s.twin with handover := none, fwAfter := false, handbackBlocked := s.twin.handbackBlocked || dir == 1 } }
      match req with | some r => reply s r (if r.opcode = 0x0902 then St.twinDisagree else St.timeout) (zeros (replyLen r.opcode)) | none => s
    | none =>
      match s.fab.syncs.find? (fun w => w.both && !w.twinDone) with
      | some w => syncReply s w St.timeout
      | none => s

/-- The partner's answer to an EPOCH_SYNC with BOTH arrives (R165). -/
def syncTwinReply (s : State) : State :=
  match takeTwinReply s 0x0208 with
  | none => s
  | some (v, s) =>
    match s.fab.syncs.find? (fun w => w.both && !w.twinDone) with
    | none => s
    | some w =>
      if v.status ≠ St.ok then syncReply s w St.twinDisagree
      else
        let f := fun (x : EpochWait) => if x = w then { x with twinDone := true, twinFlagged := num v.payload 4 4 } else x
        { s with fab := { s.fab with syncs := s.fab.syncs.map f } }

/-! ### Entering and leaving mode 4 (R215, R227, R233) -/

/-- The part enters mode 4: JOINING, RESTORE withheld, the heartbeat running, CVU6 and CVU7 the twin mirror agent's. -/
def twinStart (s : State) : State :=
  let s := { s with twin := { s.twin with restoreWithheld := true, joinFromSplit := false } }
  let s := cvTwinOwn (setF (setF s Reg.TWIN_STATUS Fld.TWIN_STATUS_STATE 1) Reg.TWIN_STATUS Fld.TWIN_STATUS_CAUSE 0)
  setF { s with pwr := { s.pwr with hbRun := true } } Reg.TWIN_CTRL Fld.TWIN_CTRL_HB_RUN 1

/-- The part leaves mode 4: ALONE, shadow tables empty, the heartbeat stopped. -/
def twinStop (s : State) : State :=
  let s := { s with twin := { Twin.reset with nextTxn := s.twin.nextTxn } }
  let s := wr s Reg.TWIN_STATUS 0
  heartbeatStop s

/-- An orderly unbinding takes effect (R117, R211): in a pair it is committed on both twins, once no other transaction runs, else it is its own epoch. -/
def unbindNow (s : State) (i : Nat) : State :=
  match aget s.hosts.bind i with
  | none => s
  | some e =>
    if !s.hosts.unbinding.contains i || (mode s == 4 && twinState s == 2 && s.twin.coord.isSome) then s
    else
      let b := { e with valid := false }.bytes
      let p := natLe 2 1 ++ natLe 1 1 ++ zeros 5 ++ natLe 4 i ++ zeros 4 ++ b
      if mode s = 4 ∧ twinState s = 2 then txnStart s 2 p none
      else { s with hosts := { s.hosts with unbinding := s.hosts.unbinding.erase i } } |> fun s => ruleChange s (.bind none [(i, { e with valid := false })])

/-- The orderly unbindings whose slots read Power Controller Control Off take effect (R117). -/
def unbindReady (s : State) : State :=
  forEach (s.hosts.unbinding.filter (fun i => match aget s.hosts.bind i with | some e => (s.func e.vsw (fnBridge e.bridge)).powerOff | none => false)) s unbindNow

end Sys2Proof.Machine
end

