-- ==== Sys2Proof/Machine/ModeOps.lean ====
section
/-!
DEFINITION. Machine/ModeOps.lean: a configuration comes into force, at a boot and by MODE_ACTIVATE (R40–R50, R98, R127, R215, R227, R305, R393, R456).
-/
namespace Sys2Proof.Machine

/-! ### A configuration is applied -/

/-- The records of an image, or none. -/
def recsOf (b : Option (List Byte)) : List CfgRec := match b with | some b => imgRecs b | none => []

/-- Records are applied in order (R40); the staged MPU regions come into force with them (R455, R456, log entry 28). -/
def applyRecs (s : State) (rs : List CfgRec) : State :=
  let s := forEach rs s (recSet cfgTouch)
  forEach (List.range 23) s (fun s m => if mpuPending s m then mpuCommit s m else s)

/-- GLB_MODE_STATUS of a configuration in force: MODE, switches, source, FALLBACK and ONCE_USED; STRAP is the one held. -/
def setMode (s : State) (m src : Nat) (fallback once : Bool) (rs : List CfgRec) : State :=
  let set := fun (f : Field) (v : Nat) (s : State) => setF s Reg.GLB_MODE_STATUS f v
  let s := set Fld.GLB_MODE_STATUS_MODE m (set Fld.GLB_MODE_STATUS_SELECT_SRC src (set Fld.GLB_MODE_STATUS_FALLBACK (b2n fallback) s))
  let s := set Fld.GLB_MODE_STATUS_ONCE_USED (b2n once) (set Fld.GLB_MODE_STATUS_STRAP s.pwr.strap s)
  set Fld.GLB_MODE_STATUS_LIVE_CAL_EN (switchOf m rs 0) (set Fld.GLB_MODE_STATUS_MOVER_FAULT_RESUME_EN (switchOf m rs 1) s)

/-- What the mode in force makes of the node ID and of device time (R98, R130): NODE reads 0 outside modes 3 and 4; LOCKED is set outside
them, and lost where they are entered. -/
def modeFabric (s : State) (old : Nat) : State :=
  let m := mode s
  let fabric := m == 3 || m == 4
  let s := if fabric then s else setF s Reg.FAB_ID Fld.FAB_ID_NODE 0
  if !fabric then setF s Reg.TIME_STATUS Fld.TIME_STATUS_LOCKED 1
  else if old = 3 ∨ old = 4 then s
  else setF { s with cong := { s.cong with goodExch := 0 } } Reg.TIME_STATUS Fld.TIME_STATUS_LOCKED 0

/-- CONFIG_ID and OVERLAY_ID of the images in force. -/
def setConfigIds (s : State) (base overlay : Option (List Byte)) : State :=
  let id := fun (b : Option (List Byte)) => match b with | some b => imgId b | none => 0
  wr (wr s Reg.GLB_CONFIG_ID (BitVec.ofNat 64 (id base))) Reg.GLB_OVERLAY_ID (BitVec.ofNat 64 (id overlay))

/-- The configuration record of the journal (R411). -/
def journalConfig (s : State) : State :=
  journalAdd s 7 (regBytes s Reg.GLB_MODE_STATUS 4 ++ regBytes s Reg.GLB_CONFIG_ID 4 ++ regBytes s Reg.GLB_OVERLAY_ID 4 ++ natLe 4 (fwVersion s)) []

/-- A port begins to train, once its configuration stands (R49, R437): its tile leaves OFF; a PCIe port with a slot waits for slot power. -/
def portBegin (s : State) (p : Nat) : State :=
  match portSlot s p with
  | none => s
  | some (t, i) =>
    if slotCalez s t i then tileWake (czUnhold s (4 * t + i)) t
    else if isSet s (Reg.PORT_CFG p) Fld.PORT_CFG_HP_CAPABLE && !isSet s (Reg.PORT_STATUS p) Fld.PORT_STATUS_POWER_ON then s
    else trainFromDetect (tileWake s t) p

/-- The enabled ports. -/
def enabledPorts (s : State) : List Nat := (List.range 64).filter (fun p => (portSlot s p).isSome)

/-- The slots after a reset (R305, R393): PERST# of every slot is asserted; a slot whose eFuse is found on is ON, and its PERST_DELAY runs. -/
def slotsFound (s : State) : State :=
  let hp := (enabledPorts s).filter (fun p => isPcie s p && isSet s (Reg.PORT_CFG p) Fld.PORT_CFG_HP_CAPABLE)
  let s := forEach hp s (fun s p => perstWrite s p true)
  forEach ((List.range 32).filter (fun n => isSet s (Reg.EGV_SLOT_CFG n) Fld.EGV_SLOT_CFG_VALID && s.pwr.efuses.contains n)) s (fun s n =>
    let s := setEgvState s n 2
    match egvPort s n with
    | some p =>
      let s := setF s (Reg.PORT_STATUS p) Fld.PORT_STATUS_POWER_ON 1
      s.modPort p (fun x => { x with perstDue := some (s.time + perstDelay s p) })
    | none => s)

/-- The configuration that a boot selected is applied (R34, R40, R437): the one of the SP ROM, with everything at reset but bit 0 of ICP_MGR,
where the selection failed (R311). -/
def bootApply (s : State) (sel : BootSel) : State :=
  let rs := recsOf sel.base ++ recsOf sel.overlay
  let m := if sel.fallback then 5 else match sel.base with | some b => imgMode b | none => 5
  let s := setMode (applyRecs s rs) m sel.src sel.fallback sel.once rs
  let s := if sel.fallback then wr s Reg.ICP_MGR 1 else s
  let s := wr s Reg.GLB_MODE_ERR (BitVec.ofNat 64 (sel.index * 65536 + sel.reason))
  let s := setConfigIds (modeFabric s 5) sel.base sel.overlay
  let s := { s with pwr := { s.pwr with sel := sel } }
  let s := if m = 4 then twinStart s else s
  let s := slotsFound (journalConfig s)
  forEach (enabledPorts s) s portBegin

/-! ### MODE_ACTIVATE (R45–R50) -/

/-- The reply payload: AFFECTED, REASON, INDEX. -/
def modePayload (affected reason index : Nat) : List Byte := natLe 4 affected ++ natLe 2 reason ++ natLe 2 index

/-- A rejection: a REASON is kept in GLB_MODE_ERR. -/
def modeReject (s : State) (r : IcpReq) (status affected reason index : Nat) : State :=
  let s := if reason = 0 then s else wr s Reg.GLB_MODE_ERR (BitVec.ofNat 64 (index * 65536 + reason))
  reply s r status (modePayload affected reason index)

/-- A SOLO change within mode 4 leaves the node ID, the twin link's port and width, and TWIN as they are (R50). -/
def soloKeeps (s : State) (config overlay : Nat) : Bool :=
  let (_, b, o) := namedConfig s 4 config overlay
  let s' := cfgRegs s (recsOf b ++ recsOf o)
  nodeId s' == nodeId s && twinLink s' == twinLink s && twinWidth s' == twinWidth s &&
    (match twinLink s with | some n => linkPort s' n == linkPort s n | none => true)

/-- Another MODE_ACTIVATE or a firmware update is in progress (R48, R51). -/
def modeBusy (s : State) : Bool := s.pwr.act.isSome || s.twin.fwAfter || s.pwr.warmReq.isSome

/-- A pair in PAIRED cannot prepare a change: a transaction, a resynchronisation or a handover runs (log entry 75). -/
def pairBusy (s : State) : Bool :=
  s.twin.resync.isSome || s.twin.handover.isSome || s.twin.handbackDue.isSome || s.twin.coord.isSome || s.twin.staged.isSome

/-- The validation step waits for firmware commands that came before it, within its bound of 8 ms (R329). -/
def modeWaits (s : State) (r : IcpReq) : Bool :=
  decoderUp s .fw && s.icp.fwQ.any (fun q => decide (q.at_ ≤ r.at_)) && decide (s.time < r.at_ + ms 8)

/-- MODE_ACTIVATE (R47–R50).  That the rejection of a target mode above 5 carries REASON 0 and leaves GLB_MODE_ERR is log entry 110. -/
def modeActivate (r : IcpReq) (s : State) : State :=
  let p := r.payload
  let m := num p 0 1
  let dry := bitAt p 1 0
  let solo := bitAt p 1 2
  let config := num p 4 4
  let overlay := num p 8 4
  let pair := mode s == 4 && !solo
  if modeBusy s then modeReject s r St.busy 0 0 0
  else if 5 < m then modeReject s r St.wrongMode 0 0 0
  else if !pair && (num p 12 4 != 0 || num p 16 4 != 0) then modeReject s r St.notPermitted 0 0 0
  else if mode s == 4 && (!solo || m == 4) && !(twinState s == 2 && twinLive s) then modeReject s r St.twinDisagree 0 0 0
  else if pair && pairBusy s then modeReject s r St.busy 0 0 0
  else
    let (st, reason, index, affected) := modeCheck s m config overlay
    if st ≠ St.ok then modeReject s r st affected reason index
    else if mode s == 4 && solo && m == 4 && !soloKeeps s config overlay then modeReject s r St.notPermitted 0 0x0A 0xFFFF
    else if dry then reply s r St.ok (modePayload affected 0 0)
    else
      let a : ModeAct := { req := r, mode := m, flags := num p 1 1, configId := config, overlayId := overlay, affected := affected, voted := false, told := false }
      let s := { s with pwr := { s.pwr with act := some a } }
      if pair then txnStart s 3 p (some r) else modeBegin s

/-- A port is changed by new register values: its place, width, kind, rate or the like (R49, R200). -/
def portChanged (s s' : State) (p : Nat) : Bool :=
  let at_ := fun (s : State) => (portSlot s p).map (fun x => (x.1, x.2, slotWidth (tileSplit s x.1) x.2, slotCalez s x.1 x.2))
  at_ s != at_ s' || rd s (Reg.PORT_CFG p) != rd s' (Reg.PORT_CFG p) ||
    (match portLink s p with | some n => rd s (Reg.CZ_CTRL n) != rd s' (Reg.CZ_CTRL n) || rd s (Reg.CZ_TIMER n) != rd s' (Reg.CZ_TIMER n) | none => false)

/-- A port's link goes down for a change of the port. -/
def portStop (s : State) (p : Nat) : State :=
  match portLink s p with
  | some n => czResetReq s n
  | none => linkLost s p Lt.detect 0x0C

/-- Entries of a twin's tables that its boot in mode 4 does not keep (R227): live tables empty. -/
def tablesClear (s : State) : State :=
  let s := bindApply s ((s.hosts.bind.filter (fun e => e.2.valid)).map (fun e => (e.1, { e.2 with valid := false })))
  { s with fab := { s.fab with fam := [], routes := [] }, hosts := { s.hosts with bind := [], unbinding := [] } }

/-- The stored selection record with a selection as primary, its one-time part kept (R47). -/
def persist (s : State) (m config overlay : Nat) : State :=
  let old := (selNow s).getD ⟨0, false, 0, 0, 0, 0, 0, 0⟩
  selWrite s { old with pMode := m, pConfig := config, pOverlay := overlay }

/-- The records of an accepted MODE_ACTIVATE are applied, the epoch advances with every earlier request flagged, and OK is replied (R49, R159). -/
def modeApply (s : State) : State :=
  match s.pwr.act with
  | none => s
  | some a =>
    if !a.voted || s.twin.coord.any (fun c => c.kind == 3) then s
    else
      let (why, b, o) := namedConfig s a.mode a.configId a.overlayId
      if why.1 ≠ 0 then
        let s := detect (modeAbort s) 0x0501 .contained Uk.icp 0 0x0904
        if a.told then s else reply s a.req St.internal (zeros 8)
      else
        let old := mode s
        let rs := recsOf b ++ recsOf o
        let s' := cfgRegs s rs
        let changed := (List.range 64).filter (portChanged s s')
        let tiles := (List.range 16).filter (fun t => rd s (Reg.TILE_CFG t) != rd s' (Reg.TILE_CFG t))
        let s := forEach (changed.filter (fun p => (portSlot s p).isSome)) s portStop
        let s := forEach tiles s tileGoOff
        let s := forEach (inForce s) s recReset
        let s := if a.mode = 4 ∧ old ≠ 4 then tablesClear s else s
        let s := setMode (applyRecs s rs) a.mode 3 false (isSet s Reg.GLB_MODE_STATUS Fld.GLB_MODE_STATUS_ONCE_USED) rs
        let s := setConfigIds (modeFabric (frcsEnd s) old) b o
        let s := { s with pwr := { s.pwr with sel := { base := b, overlay := o, src := 3, reason := 0, index := 0, fallback := false, once := s.pwr.sel.once } } }
        let s := epochNow s
        let s := flagRecheck s (fun h => decide (stampOf s h < epoch s))
        let s := if a.mode = 4 ∧ old ≠ 4 then twinStart s else if old = 4 ∧ a.mode ≠ 4 then twinStop s else s
        let s := if a.flags.testBit 1 then persist s a.mode a.configId a.overlayId else s
        let s := journalConfig (modeAbort s)
        let s := forEach (changed.filter (fun p => (portSlot s p).isSome)) s portBegin
        if a.told then s else reply s a.req St.ok (modePayload a.affected 0 0)

end Sys2Proof.Machine
end

