-- ==== Sys2Proof/Machine/FabRx.lean ====
section
/-!
DEFINITION. Machine/FabRx.lean: feedback, advertisements, reports and resolutions that arrive (R88–R90, R140–R143, R154–R158, R177, R190, R221, R226).
-/
namespace Sys2Proof.Machine

/-- A VC7 frame that this row takes from a link; its credits go back. -/
def takeVc7 {α : Type} (s : State) (n : Nat) (f : FrameBody → Option α) : Option (Frame × α × State) :=
  match takeFrame s n (fun x => f x.body) with
  | some (x, a, s) => some (x, a, czReturn s n 7 0 4)
  | none => none

/-- An addressed frame: acted on here, discarded for a partner served (R221), or forwarded on its hashed path (R177). -/
def addressed (s : State) (dst : Nat) (f : Frame) (here served : State → State) : State :=
  if dst = nodeId s then here s
  else if serving s && dst == partner s then bump (served s) Reg.TWIN_ORPHAN_CNT
  else sendToNode s dst f

/-- A feedback frame (R90). -/
def feedbackRx (s : State) (n : Nat) : State :=
  match takeVc7 s n (fun b => match b with | .feedback _ t es => some (t, es) | _ => none) with
  | none => s
  | some (f, (dst, es), s) =>
    addressed s dst f
      (fun s => forEach es (bump s Reg.CC_FB_RX_CNT) (fun s e => fbApply s e.frc e.cn e.worst e.path e.ack e.ackValid))
      (fun s => s)

/-- A route advertisement (R140–R143, R226). -/
def routeAdvRx (s : State) (n : Nat) : State :=
  match takeVc7 s n (fun b => match b with | .routeAdv a es => some (a, es) | _ => none) with
  | none => s
  | some (_, (from_, es), s) =>
    let mine := fun (e : AdvEntry) => serving s && e.event == 2 && e.node == nodeId s
    let s' := advReceive s (czPort s n) from_ (es.filter (fun e => !mine e))
    if es.any mine && advOn s then dualTakeover s' else s'

/-- The acknowledgement of a report goes to its sender (R156). -/
def ferAck (s : State) (f : FerFrame) (from_ : Nat) : State :=
  sendToNode s f.fromNode (vc7Frame 4 12 (.fer { fromNode := from_, toNode := f.fromNode, seq := f.seq, ack := true, bootId := f.bootId, items := [] }))

/-- One entry of an accepted report (R157). -/
def ferItem (s : State) (x : FerItem) : State :=
  match x.type with
  | 0 => postedFailed s x.vsw x.detail x.dropNode x.port x.reason x.count true
  | 1 =>
    let i := x.detail % 2 ^ 18
    match ctx s i with
    | some c => if c.source ∧ c.gen = bitsAt x.detail 18 4 then ctxKill s i true else bump s Reg.FER_STALE_CNT
    | none => bump s Reg.FER_STALE_CNT
  | _ => s

/-- A Fabric Error Report (R156, R157): accepted, or a repeat; it is acknowledged either way. -/
def ferTake (s : State) (f : FerFrame) : State :=
  let again := aget s.fab.ferKept f.fromNode == some (f.bootId, f.seq)
  let s :=
    if again then bump s Reg.FER_DUP_CNT
    else
      let s := bump { s with fab := { s.fab with ferKept := aput s.fab.ferKept f.fromNode (f.bootId, f.seq) } } Reg.FER_RX_CNT
      forEach f.items s ferItem
  ferAck s f (nodeId s)

def ferRx (s : State) (n : Nat) : State :=
  match takeVc7 s n (fun b => match b with | .fer f => if f.ack then none else some f | _ => none) with
  | none => s
  | some (x, f, s) => addressed s f.toNode x (fun s => ferTake s f) (fun s => ferAck s f f.toNode)

/-- The acknowledgement of a report sent (R156): the next frame towards that node may leave. -/
def ferAckTake (s : State) (f : FerFrame) : State :=
  let keep := fun (x : FerSent) => !(x.node == f.fromNode && x.seq == f.seq && f.bootId == s.fab.bootId)
  if s.fab.ferSent.all keep then s
  else ferNext s f.fromNode

def ferAckRx (s : State) (n : Nat) : State :=
  match takeVc7 s n (fun b => match b with | .fer f => if f.ack then some f else none | _ => none) with
  | none => s
  | some (x, f, s) => addressed s f.toNode x (fun s => ferAckTake s f) (fun s => s)

/-- The link whose ended session a RESOLVE names (R191). -/
def resolveLink (s : State) (r : Resolve) : Option Nat :=
  (List.range 32).find? (fun n =>
    match (s.link n).ended with
    | some e => e.node == r.fromNode && e.port == r.toPort && e.session == r.session
    | none => false)

/-- A RESOLVE (R190): one that names no ended session has been settled already, and is discarded. -/
def resolveRx (s : State) (n : Nat) : State :=
  match takeVc7 s n (fun b => match b with | .resolve r => some r | _ => none) with
  | none => s
  | some (x, r, s) =>
    addressed s r.toNode x
      (fun s => match resolveLink s r with | some m => endedResolve s m r.rxLast | none => bump s (Reg.CZ_UNKNOWN_CNT n))
      (fun s => s)

end Sys2Proof.Machine
end

