-- ==== Sys2Proof/Machine/PcsOps.lean ====
section
/-!
DEFINITION. Machine/PcsOps.lean: the physical coding of a Calez link as it transmits: frames and control blocks in bytes, 66-bit blocks, scrambler,
codewords, PAM4 levels and codeword rows (R89, R143, R154, R167–R176, R191, R195, R201, R205).
-/
namespace Sys2Proof.Machine

/-! ### Frames and control blocks in bytes -/

/-- An entry of a feedback frame (R89). -/
def feedbackBytes (e : FeedbackEntry) : List Byte :=
  natLe 2 e.frc ++ natLe 1 e.cn ++ natLe 1 (e.worst % 4 * 64 + b2n e.drop * 16 + b2n e.ackValid * 8 + e.path % 8) ++ natLe 1 (e.ack % 64) ++ zeros 3

/-- An entry of a route advertisement (R143). -/
def advBytes (e : AdvEntry) : List Byte := natLe 4 (e.node % 4096 + e.event % 4 * 2 ^ 12 + e.server % 4096 * 2 ^ 16)

/-- An entry of a Fabric Error Report (R154). -/
def ferBytes (e : FerItem) : List Byte :=
  natLe 1 (e.type % 4 * 64 + e.vsw % 32) ++ natLe 1 e.reason ++ natLe 2 e.count ++ natLe 2 (e.dropNode % 4096) ++ natLe 1 (e.port % 64) ++ zeros 1 ++ natLe 8 e.detail

/-- The payload of a frame (R89, R143, R154, R177, R179, R191). -/
def bodyBytes : FrameBody → List Byte
  | .tlp h t => calezBytes h t
  | .part b => b
  | .feedback a b es => natLe 2 (a % 4096) ++ natLe 2 (b % 4096) ++ natLe 1 es.length ++ natLe 1 1 ++ zeros 2 ++ es.flatMap feedbackBytes
  | .routeAdv a es => natLe 2 (a % 4096) ++ natLe 1 es.length ++ natLe 1 1 ++ zeros 4 ++ es.flatMap advBytes
  | .fer f => natLe 2 (f.fromNode % 4096) ++ natLe 2 (f.toNode % 4096) ++ natLe 2 f.seq ++ natLe 1 f.items.length ++ natLe 1 (b2n f.ack) ++ natLe 4 f.bootId ++
      f.items.flatMap ferBytes
  | .icp b => b
  | .resolve r => natLe 2 (r.fromNode % 4096) ++ natLe 2 (r.toNode % 4096) ++ natLe 1 (r.fromPort % 64) ++ natLe 1 (r.toPort % 64) ++ natLe 1 r.session ++
      zeros 1 ++ natLe 2 (r.rxLast % 4096) ++ zeros 6
  | .test _ b => b
  | .abort => []
  | .unknown => []

/-- A credit return of a frame header (R176). -/
def creditBytes : Option (Nat × Nat × Nat) → List Byte
  | some (vc, pool, limit) => natLe 1 (vc % 8 + pool % 4 * 8 + 32) ++ natLe 2 limit
  | none => zeros 3

/-- The header of a frame (R176). -/
def frameHdr (f : Frame) : List Byte :=
  natLe 1 (f.type % 16 * 16 + f.vc % 8) ++ natLe 1 (f.pool % 4 * 64 + b2n f.first * 32 + b2n f.last * 16 + b2n f.abort * 8) ++
    natLe 3 (f.seq % 4096 + f.ack % 4096 * 4096) ++ natLe 2 (f.len % 512) ++ creditBytes f.cr0 ++ creditBytes f.cr1 ++ natLe 1 f.session ++ zeros 2

/-- A frame on the line (R176): header, payload, CRC-32C (inverted by an injection, R366), and the pad to a multiple of 8 bytes. -/
def frameBytes (bad : Bool) (f : Frame) : List Byte :=
  let b := frameHdr f ++ fit f.len (bodyBytes f.body)
  let b := b ++ natLe 4 (if bad then crc32c b ^^^ 0xFFFFFFFF else crc32c b)
  b ++ zeros ((8 - b.length % 8) % 8)

/-- The content of PARAM block `i` (R195). -/
def paramBytes (i : Nat) (p : Param) : List Byte :=
  match i with
  | 0 => natLe 2 (p.node % 4096 + b2n p.twin * 4096) ++ natLe 1 (p.port % 64) ++ natLe 1 (p.widths % 8 + p.rates % 4 * 8) ++ natLe 1 p.session ++ natLe 1 (p.ka % 64)
  | 1 => natLe 2 (p.prevNode % 4096 + b2n p.prevValid * 32768) ++ natLe 1 p.prevSession ++ natLe 2 (p.prevRxLast % 4096) ++ natLe 1 (p.prevPort % 64)
  | _ => natLe 2 p.laneOk ++ zeros 4

/-- The eight bytes of a control block (R174); the type is byte 0. -/
def blockBytes : Block → List Byte
  | .idle => natLe 8 0x1E
  | .keepalive node session ack => natLe 1 0x2D ++ natLe 2 (node % 4096) ++ natLe 1 session ++ natLe 2 (ack % 4096) ++ zeros 2
  | .ack a nak => natLe 1 0x33 ++ natLe 2 (a % 4096 + b2n nak * 4096) ++ zeros 5
  | .credit vc pool limit => natLe 1 0x4B ++ natLe 1 (vc % 8 + pool % 4 * 8 + 128) ++ natLe 2 limit ++ zeros 4
  | .replay first => natLe 1 0x55 ++ natLe 2 (first % 4096) ++ zeros 5
  | .reset node reason => natLe 1 0x66 ++ natLe 2 (node % 4096) ++ natLe 1 reason ++ zeros 4
  | .quiet op => natLe 1 0x78 ++ natLe 1 op ++ zeros 6
  | .resume a session => natLe 1 0x87 ++ natLe 2 (a % 4096) ++ natLe 1 session ++ zeros 4
  | .train lane state port op arg node => natLe 1 0x99 ++ natLe 1 (lane % 16 + state % 16 * 16) ++ natLe 1 (port % 64 + op % 4 * 64) ++ natLe 3 arg ++ natLe 2 (node % 4096)
  | .param i seen p => natLe 1 0xA5 ++ natLe 1 (i % 8 + b2n seen * 128) ++ paramBytes i p
  | .timeReq id => natLe 1 0xB4 ++ natLe 1 id ++ zeros 6
  | .timeT2 id t => natLe 1 0xC3 ++ natLe 1 id ++ natLe 6 t
  | .timeHi id t => natLe 1 0xCC ++ natLe 1 id ++ natLe 2 t ++ zeros 4
  | .timeT3 id t => natLe 1 0xD2 ++ natLe 1 id ++ natLe 6 t

/-! ### Blocks (R168, R175) -/

/-- A control block as a 66-bit block: control, and its payload bits. -/
def wireBlock (b : Block) : Bool × Nat := (true, num (blockBytes b) 0 8)

/-- The data blocks of the bytes of a frame: eight bytes each. -/
def dataBlocks (b : List Byte) : List (Bool × Nat) := (List.range (b.length / 8)).map (fun i => (false, num b (8 * i) 8))

/-- The 66-bit blocks that a link sends for what the part has sent on it, in order; an injection inverts the CRC of the next frame (R366). -/
def wireOf (n : Nat) (bad : Bool) : List Out → List (Bool × Nat)
  | [] => []
  | .crcInverted k i :: r => wireOf n (bad || (k == Uk.calez && i == n)) r
  | .block m b :: r => if m = n then wireBlock b :: wireOf n bad r else wireOf n bad r
  | .frame m f :: r => if m = n then dataBlocks (frameBytes bad f) ++ wireOf n false r else wireOf n bad r
  | _ :: r => wireOf n bad r

/-! ### Scrambler (R169) -/

/-- `k` payload bits from bit `i` up through the scrambler x^58 + x^39 + 1: the scrambled bits added to `acc`, and the last 58 of them, the newest in
bit 0. -/
def scrambleFrom (x : Nat) : Nat → Nat → Nat → Nat → Nat × Nat
  | 0, _, st, acc => (acc, st)
  | k + 1, i, st, acc =>
    let b := b2n (x.testBit i != (st.testBit 38 != st.testBit 57))
    scrambleFrom x k (i + 1) ((st * 2 + b) % 2 ^ 58) (acc + b * 2 ^ i)

/-- The 64 payload bits of a block, scrambled, and the scrambler after them. -/
def scramble (st x : Nat) : Nat × Nat := scrambleFrom x 64 0 st 0

/-! ### Codewords (R170, R171) -/

/-- Multiplication in GF(2^10) with x^10 + x^3 + 1. -/
def gfMul (a b : Nat) : Nat :=
  (List.range 10).foldl (fun r i =>
    let r := if r < 512 then 2 * r else (2 * r ^^^ 0x409)
    if a.testBit (9 - i) then r ^^^ b else r) 0

/-- α to a power. -/
def gfPow (k : Nat) : Nat := (List.range k).foldl (fun a _ => gfMul 2 a) 1

/-- A polynomial, highest coefficient first, times x − a. -/
def polyRoot (a : Nat) (g : List Nat) : List Nat := List.zipWith (fun x y => x ^^^ y) (g ++ [0]) (0 :: g.map (gfMul a))

/-- The generator (x − α^0)…(x − α^9), highest coefficient first, without its leading 1. -/
def rsGen : List Nat := ((List.range 10).foldl (fun g i => polyRoot (gfPow i) g) [1]).drop 1

/-- The ten parity symbols of RS(170,160). -/
def rsParity (symbols : List Nat) : List Nat :=
  symbols.foldl (fun r m =>
    let fb := m ^^^ r.headD 0
    List.zipWith (fun x g => x ^^^ gfMul fb g) (r.drop 1 ++ [0]) rsGen) (List.replicate 10 0)

/-- The low `n` bits of a number, the lowest first. -/
def bitList (n x : Nat) : List Nat := (List.range n).map (fun i => b2n (x.testBit i))

/-- Symbols of ten bits, the first the most significant. -/
def symbols : Nat → List Nat → List Nat
  | 0, _ => []
  | k + 1, b => (b.take 10).foldl (fun a x => 2 * a + x) 0 :: symbols k (b.drop 10)

/-- PAM4 levels of the bits of a codeword, in Gray order. -/
def pam4 : List Nat → List Int
  | a :: b :: r => (if a = 0 then (if b = 0 then -3 else -1) else (if b = 0 then 3 else 1)) :: pam4 r
  | _ => []

/-- The marker of a codeword (R171). -/
def marker (lane count : Nat) (am : Bool) : Nat := lane % 16 * 4096 + b2n am * 2048 + count % 2048

/-- The bits of a lane's blocks: sync header, then the scrambled payload. -/
def laneBits : List (Bool × Nat) → Nat → List Nat × Nat
  | [], st => ([], st)
  | (c, x) :: r, st =>
    let (y, st) := scramble st x
    let (bs, st) := laneBits r st
    ((if c then [1, 0] else [0, 1]) ++ bitList 64 y ++ bs, st)

/-- The levels of a lane's codeword of 24 blocks, and its scrambler after it. -/
def codeword (mark : Nat) (blocks : List (Bool × Nat)) (st : Nat) : List Int × Nat :=
  let (bs, st) := laneBits blocks st
  let head := (bitList 16 mark).reverse ++ bs
  let parity := (rsParity (symbols 160 head)).flatMap (fun x => (bitList 10 x).reverse)
  (pam4 (head ++ parity), st)

/-! ### Rows (R167, R172, R193, R201) -/

/-- The logical lanes on which a link sends. -/
def rowLanes (s : State) (n : Nat) : List Nat :=
  let k := Reg.CZ_STATUS n
  let l := s.link n
  let of := fun (c : Nat) => (List.range (codeWidth c)).map (fun i => getF s k Fld.CZ_STATUS_LANE_BASE + i)
  if czLive s n then of (getF s k Fld.CZ_STATUS_WIDTH)
  else if czState s n ≥ 2 && (l.atStart || getF s k Fld.CZ_STATUS_PASS != 0) then of l.tryWidth
  else List.range (czLanes s n)

/-- Whether a link's transmitters are on: not in electrical idle (R193, R201). -/
def lineOn (s : State) (n : Nat) : Bool :=
  let l := s.link n
  match czState s n with
  | 0 => (match l.resetAt with | some (t, _) => decide (s.time ≤ t + us 1) | none => false)
  | 1 => false
  | 7 => l.line.idle != 0 || !l.line.wait.isEmpty
  | _ => true

/-- The block that stands on a lane where nothing waits: RESET, TRAIN, PARAM 0 to 2 in turn, or IDLE (R174, R193, R195). -/
def filler (s : State) (n lane i : Nat) : Block :=
  let l := s.link n
  match czState s n with
  | 0 => .reset (nodeId s) (match l.resetAt with | some (_, r) => r | none => 0)
  | 2 => trainBlock s n lane 0 (ownTx s n lane)
  | 3 => trainBlock s n lane 0 (ownTx s n lane)
  | 4 => trainBlock s n lane 0 (ownTx s n lane)
  | 5 => .param (i % 3) l.param.isSome (ownParam s n)
  | 8 => trainBlock s n lane 0 (ownTx s n lane)
  | _ => .idle

/-- Hundredths of a nanosecond of a codeword at the rate at which a link sends (R167). -/
def codewordTime (s : State) (n : Nat) : Nat :=
  if (if czLive s n then getF s (Reg.CZ_STATUS n) Fld.CZ_STATUS_RATE else (s.link n).tryRate) = 1 then 1328 else 2656

/-- A codeword row leaves (R172): block j of the stream on the lane of index j mod W, the same CW_SEQ and AM on every lane. -/
def lineRow (s : State) (n : Nat) : State :=
  let x := (s.link n).line
  let lanes := rowLanes s n
  let w := lanes.length
  if w = 0 then s
  else
    let am := czActive s n && x.count % 16384 == 0
    let rows := (List.range w).map (fun k =>
      let lane := lanes.getD k 0
      let blocks := (List.range 24).map (fun i => (x.wait[i * w + k]?).getD (wireBlock (filler s n lane i)))
      (lane, codeword (marker lane x.count am) blocks (x.scr.getD lane 0)))
    let scr := rows.foldl (fun l r => l.set r.1 r.2.2) x.scr
    let idle := if czState s n = Cz.quiet ∧ x.wait = [] then x.idle - 1 else x.idle
    emit (s.modLink n (fun l => { l with line := { x with wait := x.wait.drop (24 * w), count := x.count + 1, scr := scr, idle := idle } }))
      (.row n (rows.map (fun r => (portLane s n r.1, r.2.1))))

/-! ### TEST frames (R205) -/

/-- `k` bits of PRBS31, x^31 + x^28 + 1, and its state after them. -/
def prbs : Nat → Nat → List Nat × Nat
  | 0, st => ([], st)
  | k + 1, st =>
    let b := b2n (st.testBit 30 != st.testBit 27)
    let (r, e) := prbs k ((st * 2 + b) % 2 ^ 31)
    (b :: r, e)

/-- Bytes of bits, the lowest first. -/
def bytesOf : Nat → List Nat → List Byte
  | 0, _ => []
  | k + 1, b => BitVec.ofNat 8 ((b.take 8).foldr (fun x a => 2 * a + x) 0) :: bytesOf k (b.drop 8)

/-- In mode 5 with TEST_EN set a link that has nothing else to send sends a TEST frame; where its pattern begins is free (log entry 124). -/
def testSend (s : State) (n : Nat) : State :=
  if mode s = 5 && isSet s (Reg.CZ_CTRL n) Fld.CZ_CTRL_TEST_EN && (s.link n).txq.isEmpty then
    let (st, s) := match (s.link n).line.prbs with | some x => (x, s) | none => let (r, s) := draw s 31; (max 1 r, s)
    let (bits, st') := prbs 2048 st
    let f : Frame := { vc7Frame 7 256 (.test 0 (bytesOf 256 bits)) with vc := 0 }
    if czReady s n f then
      let s := comet s 1 (czPort s n) s.time { testHeld s n (frameHdr f) with outPort := czPort s n } 0 false
      czCharge (czSend (s.modLink n (fun l => { l with line := { l.line with prbs := some st' } })) n ⟨f, none⟩) n 7 0 4
    else s
  else s

/-! ### Codewords received (R173) -/

/-- Uncorrectable codewords of a link counted within 100 µs. -/
def uncorrRecent (s : State) (n : Nat) : List Nat := (s.link n).uncorr.filter (fun t => decide (s.time < t + us 100))

/-- The sixteenth uncorrectable codeword of a lane within 100 µs: those of the sixteen that have not been counted are, how many being free. -/
def uncorrLimit (s : State) (n : Nat) : State :=
  let (r, s) := draw s 4
  bumpN s (Reg.CZ_FEC_UNCORR_CNT n) (16 - r % (min 15 (uncorrRecent s n).length + 1))

/-- The codewords that arrive on an ACTIVE link meanwhile (R173): how many symbols are corrected, at most five in each, and how many codewords are
uncorrectable, fewer than sixteen on a lane within 100 µs, is free. -/
def fecCount (s : State) (n rows : Nat) : State :=
  let w := (rowLanes s n).length
  let (a, s) := draw s 16
  let (b, s) := draw s 8
  let recent := uncorrRecent s n
  let bad := min (b % (w * rows + 1)) (15 * w - recent.length)
  let s := bumpN s (Reg.CZ_FEC_CORR_CNT n) (a % (5 * (w * rows - bad) + 1))
  (bumpN s (Reg.CZ_FEC_UNCORR_CNT n) bad).modLink n (fun l => { l with uncorr := recent ++ List.replicate bad s.time })

/-! ### The line over a tick -/

/-- A number of rows leave. -/
def lineRows : Nat → Nat → State → State
  | 0, _, s => s
  | k + 1, n, s => lineRows k n (if lineOn s n then lineRow s n else s)

/-- LD_TIMEOUT of a link in microseconds: 8 on the twin link (R187, R208). -/
def ldTimeout (s : State) (n : Nat) : Nat := if isTwinLink s n && mode s == 4 then 8 else getF s (Reg.CZ_TIMER n) Fld.CZ_TIMER_LD_TIMEOUT

/-- The effective timeout of a link (R187). -/
def downTimeout (s : State) (n : Nat) : Nat := max (us (ldTimeout s n)) (max (us (kaInterval s n)) (us (s.link n).partnerKa))

/-- A line over 20 ns: what has been sent on the link becomes blocks, codeword rows leave, codewords come in; an ACTIVE link on which no valid block has
arrived for the effective timeout goes down (R187). -/
def lineTick (fresh : List Out) (s : State) (n : Nat) : State :=
  if !tileClocked s (n / 4) true || !lineOn s n then
    if (s.link n).line.wait.isEmpty then s else s.modLink n (fun l => { l with line := { l.line with wait := [], phase := 0 } })
  else
    let l := s.link n
    let (scr, s) := if l.line.scr.isEmpty then (List.range 16).foldl (fun x _ => let (r, s) := draw x.2 58; (x.1 ++ [r], s)) ([], s) else (l.line.scr, s)
    let t := l.line.phase + 2000
    let c := codewordTime s n
    let s := s.modLink n (fun l => { l with line := { l.line with wait := l.line.wait ++ wireOf n false fresh, phase := t % c, scr := scr,
                                                                  count := if czState s n < 2 then 0 else l.line.count } })
    let s := lineRows (t / c) n s
    if czActive s n then
      let s := testSend (fecCount s n (t / c)) n
      if l.lastValid + downTimeout s n ≤ s.time then czDown s n Dn.timeout else s
    else s

/-- The lines of the Calez links over a tick. -/
def linesTick (s : State) : State :=
  forEach (calezLinks s) { s with lineAt := s.out.length } (lineTick (s.out.drop s.lineAt))

end Sys2Proof.Machine
end

