-- ==== Sys2Proof/Machine/HostCfg.lean ====
section
/-!
DEFINITION. Machine/HostCfg.lean: the configuration space of a vSwitch's functions, and configuration requests of its host
(R102–R111, R116–R119, R125, R127, R129, R284, R285, R296, R297, R299, R302, R303).
-/
namespace Sys2Proof.Machine

/-! ### The functions of a vSwitch (R102, R104–R106) -/

/-- FKIND of a function (R105): 0 management, 1 Mover PF, 2 upstream bridge, 3 direct, 4 composed downstream bridge. -/
def fkind (s : State) (v fn : Nat) : Nat := if fn < 3 then fn else if isDirect s v (fn - 8) then 3 else 4

/-- Port whose link the configuration registers of a function report (R284): that of its upstream bridge, of a direct bridge, or of the
lowest-numbered function bound to a composed bridge. -/
def fnPort (s : State) (v fn : Nat) : Option Nat :=
  match fkind s v fn with
  | 3 => some (bridgePort s v (fn - 8))
  | 4 => (boundAt s v (fn - 8)).foldl (fun (best : Option BindEnt) e =>
      match best with | some b => if e.hostDevfn < b.hostDevfn then some e else some b | none => some e) none |>.map (fun e => e.port)
  | _ => some (upPort s v)

/-- The physical port that a function's registers control: none for a composed bridge (R284). -/
def ctlPort (s : State) (v fn : Nat) : Option Nat := if fkind s v fn = 4 then none else fnPort s v fn

/-- The standard capabilities of a function (R104): offset and ID, in their order. -/
def stdCaps (kind : Nat) : List (Nat × Nat) := [(0x40, 0x01), (0x50, 0x10)] ++ (if kind < 2 then [(0x90, 0x11)] else [(0xA0, 0x0D)])

/-- The extended capabilities (R104): offset, ID and the FKINDs that have them, in the order of their offsets. -/
def extCapTable : List (Nat × Nat × List Nat) :=
  [(0x100, 0x0001, [0, 1, 2, 3, 4]), (0x160, 0x0003, [0]), (0x170, 0x000D, [0, 1, 3, 4]), (0x180, 0x0019, [2, 3]), (0x1B0, 0x0025, [2, 3]),
   (0x1C0, 0x0026, [2, 3]), (0x1F0, 0x002A, [2, 3]), (0x220, 0x0031, [2, 3]), (0x240, 0x0027, [2, 3]), (0x290, 0x001E, [2, 3])] ++
  [(0x2A0, 0x001D, [3, 4]), (0x2C0, 0x001F, [2, 3, 4]), (0x2D0, 0x002E, [0]), (0x2D0, 0x000F, [1]), (0x2E0, 0x0013, [1]),
   (0x300, 0x001B, [1]), (0x400, 0x000B, [0, 1, 2, 3, 4])]

/-- The extended capabilities of a function. -/
def extCaps (kind : Nat) : List (Nat × Nat) := (extCapTable.filter (fun c => c.2.2.contains kind)).map (fun c => (c.1, c.2.1))

/-- Offset of the capability that follows an offset in a list, 0 at its end. -/
def nextCap (l : List (Nat × Nat)) (ofs : Nat) : Nat := match l.find? (fun c => decide (ofs < c.1)) with | some c => c.1 | none => 0

/-- Low half of a standard capability's first double word, and an extended capability's header, where one starts at an offset. -/
def stdHeader (kind ofs : Nat) : Option Nat := ((stdCaps kind).find? (fun c => c.1 == ofs)).map (fun c => c.2 + 256 * nextCap (stdCaps kind) ofs)
def extHeader (kind ofs : Nat) : Option Nat :=
  ((extCaps kind).find? (fun c => c.1 == ofs)).map (fun c => c.2 + 65536 + 1048576 * nextCap (extCaps kind) ofs)

/-- Implemented BAR of a function at an even BAR number: log2 of its size. -/
def barSize (s : State) (v fn b : Nat) : Option Nat := ((barList s v).find? (fun x => x.1 == fn && x.2.1 == b)).map (fun x => x.2.2)

/-- A BAR double word as it reads (R109): the base written, with the type bits of a 64-bit BAR; BAR2 and BAR4 of the management
function are prefetchable. -/
def barRead (s : State) (v fn b : Nat) : Nat :=
  match barSize s v fn (b / 2 * 2) with
  | none => 0
  | some _ => agetD (s.func v fn).bars b 0 + (if b % 2 = 0 then 4 + (if fn = fnMgmt ∧ 2 ≤ b then 8 else 0) else 0)

/-- A BAR double word is written: bits below the size stay 0. -/
def barWrite (s : State) (v fn b w : Nat) : State :=
  match barSize s v fn (b / 2 * 2) with
  | none => s
  | some n =>
    let lo := if b % 2 = 0 then min n 32 else n - 32
    s.modFunc v fn (fun f => { f with bars := aput f.bars b (w / 2 ^ lo * 2 ^ lo) })

/-- Header double words of a bridge (R102, R106): bus numbers, windows and Bridge Control. -/
def bridgeHeader (f : Func) (reg : Nat) : Nat :=
  match reg with
  | 6 => f.priBus + f.secBus * 256 + f.subBus * 65536
  | 8 => f.memBase / 65536 % 65536 + f.memLimit / 65536 % 65536 / 16 * 16 * 65536
  | 9 => f.prefBase / 65536 % 65536 + 1 + (f.prefLimit / 65536 % 65536 / 16 * 16 + 1) * 65536
  | 10 => f.prefBase / 4294967296
  | 11 => f.prefLimit / 4294967296
  | 7 | 12 | 15 => agetD f.other reg 0
  | _ => 0

/-- Header double words of every function (R102, R106). -/
def headerRead (s : State) (v fn reg : Nat) : Nat :=
  let f := s.func v fn
  let kind := fkind s v fn
  let multi := if fn < 3 then 1 else if fn - 8 < 32 then b2n ((bridges s v).contains (fn - 8 + 32)) else 0
  match reg with
  | 0 => 0x1FA7 + 65536 * (if kind = 0 then 0x0256 else if kind = 1 then 0x0257 else if kind = 2 then 0x0258 else 0x0259)
  | 1 => f.command % 65536 + 0x100000
  | 2 => 0xB0 + 256 * (if kind < 2 then 0x088000 else 0x060400)
  | 3 => agetD f.other 3 0 % 256 + 65536 * (128 * multi + (if kind < 2 then 0 else 1))
  | 13 => 0x40
  | 14 => 0
  | _ =>
    if kind < 2 then
      (if 4 ≤ reg ∧ reg < 10 then barRead s v fn (reg - 4) else if reg = 11 then 0x00011FA7 else if reg = 15 then agetD f.other 15 0 % 256 else 0)
    else bridgeHeader f reg

/-- Slot Capabilities (R116, R302). -/
def slotCaps (s : State) (v fn : Nat) : Nat :=
  match fkind s v fn with
  | 3 =>
    let c := Reg.PORT_CFG (bridgePort s v (fn - 8))
    if isSet s c Fld.PORT_CFG_HP_CAPABLE then
      getF s c Fld.PORT_CFG_ATTN_PRESENT + 2 + 4 * getF s c Fld.PORT_CFG_MRL_PRESENT + 24 * getF s c Fld.PORT_CFG_INDICATORS +
        32 * getF s c Fld.PORT_CFG_HP_SURPRISE + 64 + 524288 * getF s c Fld.PORT_CFG_PSN
    else 0
  | 4 => 1 + 2 + 64
  | _ => 0

/-- A downstream bridge that reports a slot. -/
def reportsSlot (s : State) (v fn : Nat) : Bool := slotCaps s v fn != 0

/-- Slot Control and Slot Status (R116, R303, R304). -/
def slotRead (s : State) (v fn : Nat) : Nat :=
  if !reportsSlot s v fn then 0
  else
    let f := s.func v fn
    let present := if fkind s v fn = 3 then isSet s (Reg.PORT_STATUS (bridgePort s v (fn - 8))) Fld.PORT_STATUS_PRESENT else composedPresent s v (fn - 8)
    agetD f.other 26 0 &&& 0x103F ||| (f.attnInd * 64 + f.powerInd * 256 + b2n f.powerOff * 1024) ||| (f.slotStatus * 65536 + b2n present * 4194304)

/-- Link Capabilities (R285, R297, R302): ASPM L1 only, L1 exit latency of 2 µs to less than 4 µs. -/
def linkCaps (s : State) (v fn : Nat) : Nat :=
  let down := if 3 ≤ fkind s v fn then 0x180000 else 0
  match ctlPort s v fn with
  | some p => rateCap s p (isSet s (Reg.PORT_CFG p) Fld.PORT_CFG_FLIT_OFFER) + 1 + 16 * portWidth s p + 0x800 + 0x10000 + down + 16777216 * p
  | none => down

/-- Link Control and Link Status (R284): speed, width and, for a downstream bridge, Data Link Layer Link Active. -/
def linkRead (s : State) (v fn : Nat) : Nat :=
  let f := s.func v fn
  let ctl := agetD f.other 24 0 % 65536
  match fnPort s v fn with
  | none => ctl
  | some p =>
    let k := Reg.PORT_STATUS p
    let up := isSet s k Fld.PORT_STATUS_DL_ACTIVE
    let active := match fkind s v fn with | 3 => up | 4 => composedActive s v (fn - 8) | _ => false
    ctl + 65536 * ((if up then getF s k Fld.PORT_STATUS_RATE + 1 + 16 * getF s k Fld.PORT_STATUS_WIDTH else 0) + 8192 * b2n active)

/-- Double words 20 to 33: the PCI Express capability (R104, R108, R292). -/
def pcieRead (s : State) (v fn reg : Nat) : Nat :=
  let f := s.func v fn
  let kind := fkind s v fn
  match reg with
  | 20 => 0x20000 + 0x100000 * (if kind < 2 then 0 else if kind = 2 then 5 else 6) + 0x1000000 * b2n (reportsSlot s v fn)
  | 21 => 5 + 0x8000 + (if kind < 2 then 0x10000000 else 0)
  | 22 => agetD f.other 22 0 % 65536
  | 23 => linkCaps s v fn
  | 24 => linkRead s v fn
  | 25 => slotCaps s v fn
  | 26 => slotRead s v fn
  | 29 => if kind = 4 then 0x20 else 0
  | 30 => agetD f.other 30 0 % 65536
  | 31 => match ctlPort s v fn with | some p => (2 ^ (rateCap s p (isSet s (Reg.PORT_CFG p) Fld.PORT_CFG_FLIT_OFFER) + 1) - 1) * 2 | none => 0
  | 32 => agetD f.other 32 0 % 65536
  | _ => 0

/-- The vendor-specific extended capability (R105). -/
def vsecRead (s : State) (v fn reg : Nat) : Nat :=
  let kind := fkind s v fn
  let win := kind == 0 && isSet s (Reg.VSW_CTRL v) Fld.VSW_CTRL_MGR_DIRECT
  match reg with
  | 257 => 0x0A7E + 65536 * (24 * 16 + 1)
  | 258 => kind * 32 + v % 32 + 256 * (if fn < 8 then 0x3F else fn - 8) + 65536 * nodeId s
  | 259 => mode s + 256 * (b2n ((rd s Reg.ICP_MGR).getLsbD v) + 2 * b2n win)
  | 260 => if win then 0x10000000 else 0
  | _ => 0

/-- L1 PM Substates Capabilities (R297, R299). -/
def l1ssCaps (s : State) (v fn : Nat) : Nat :=
  let has := match fkind s v fn with | 2 => (sigBind s (upPort s v) Sig.clkreqIn).isSome | _ => true
  (if has then 15 else 0) + 16 + 10 * 256 + 65536 + 7 * 524288

/-- ACS Capability (R119): a downstream bridge has all seven controls and a 64-bit egress vector. -/
def acsCaps (kind : Nat) : Nat := if 3 ≤ kind then 0x407F else 0x001C

/-- A double word of the configuration space of a function (R104): what no rule gives reads as last written, 0 before (log entry 70). -/
def cfgRead (s : State) (v fn reg : Nat) : Nat :=
  let f := s.func v fn
  let kind := fkind s v fn
  let o := agetD f.other reg 0
  let has := fun (ofs : Nat) => (extCaps kind).any (fun c => c.1 == ofs)
  if reg < 16 then headerRead s v fn reg
  else if reg = 16 then (stdHeader kind 0x40).getD 0 + 0x30000
  else if reg = 17 then (if f.d3hot then 3 else 0) + (o &&& 0x100) + 0x8000 * b2n f.pme
  else if reg = 20 then (stdHeader kind 0x50).getD 0 + pcieRead s v fn 20
  else if reg < 34 then pcieRead s v fn reg
  else if reg = 36 ∧ kind < 2 then (stdHeader kind 0x90).getD 0 + 65536 * (if kind = 0 then 63 else 2) + (o &&& 0xC0000000)
  else if reg = 37 ∧ kind < 2 then (if kind = 0 then 0xF0000 else 0x8000)
  else if reg = 38 ∧ kind < 2 then (if kind = 0 then 0xF8000 else 0xC000)
  else if reg = 40 ∧ 2 ≤ kind then (stdHeader kind 0xA0).getD 0
  else if reg = 41 ∧ 2 ≤ kind then 0x00011FA7
  else if reg < 64 ∨ 262 ≤ reg then 0
  else
    match extHeader kind (reg * 4) with
    | some h => h
    | none =>
      if reg = 65 then f.aerUnc
      else if reg = 68 then f.aerCor
      else if reg = 89 ∧ kind = 0 then s.otp.serial % 4294967296
      else if reg = 90 ∧ kind = 0 then s.otp.serial / 4294967296 % 4294967296
      else if reg = 93 ∧ has 0x170 then acsCaps kind + f.acs * 65536
      else if (reg = 94 ∨ reg = 95) ∧ 3 ≤ kind then bitsAt f.acsVec (32 * (reg - 94)) 32
      else if reg = 165 ∧ has 0x290 then l1ssCaps s v fn
      else if reg = 169 ∧ has 0x2A0 then (o &&& 0xFFFF0000)
      else if reg = 170 ∧ has 0x2A0 then b2n f.dpcTrig + 2 * (if f.dpcTrig then f.dpcReason % 4 else 0)
      else if reg = 177 ∧ has 0x2C0 then (if kind = 2 then 1 else 2)
      else if reg = 181 ∧ kind = 1 then 0 + (o &&& 0x001F0000) + 0x80000000 * (f.ats % 2)
      else if reg = 185 ∧ kind = 1 then bitsAt f.ats 1 1 + 65536 * (b2n (s.mover.prgStopped.contains v) + 256 * b2n (s.mover.prg.all (fun e => e.1 / 512 != v)))
      else if reg = 186 ∧ kind = 1 then 512
      else if reg = 193 ∧ kind = 1 then 65536 * bitsAt f.ats 2 1
      else if 256 ≤ reg then vsecRead s v fn reg
      else o

/-! ### Effects of a host's configuration writes -/

/-- Bus Master Enable of a function is cleared (R125). -/
def bmeClear (s : State) (v fn : Nat) : State :=
  let s := s.modFunc v fn (fun f => { f with command := clearBit f.command 2 })
  if fn = fnMover then mvBmeClear s v else s

/-- Command as written: bits 0, 1, 2, 6, 8 and 10. -/
def commandWrite (s : State) (v fn w : Nat) : State :=
  let old := (s.func v fn).command
  let s := s.modFunc v fn (fun f => { f with command := w &&& 0x0547 })
  if old.testBit 2 && !w.testBit 2 then bmeClear s v fn else s

/-- The Mover PF enters D3hot (R254); any function enters or leaves it (R129). -/
def setD3 (s : State) (v fn : Nat) (on : Bool) : State :=
  let was := (s.func v fn).d3hot
  let s := s.modFunc v fn (fun f => { f with d3hot := on })
  if on && !was && fn == fnMover then mvBmeClear s v else s

/-- FLR of a function of the part (R125, R324): its configuration returns to reset values; the Mover PF loses its descriptors and its
tags, the management function its ring. -/
def flrOwn (s : State) (v fn : Nat) : State :=
  let s := if fn = fnMover then mvFlr { s with mover := { s.mover with prgStopped := s.mover.prgStopped.filter (fun w => w != v) } } v 0 else ringEnd s v
  s.modVsw v (fun x => { x with funcs := adel x.funcs fn, msixMask := x.msixMask.filter (fun k => k / 65536 != fn),
                                msixPend := x.msixPend.filter (fun k => k / 65536 != fn), msixTab := x.msixTab.filter (fun e => e.1 / 262144 != fn) })

/-- ACS Control and the egress vector of a function, with the changes to it that wait (R161). -/
def acsLatest (s : State) (v fn : Nat) : Nat × Nat :=
  s.fab.waiting.foldl (fun x c => match c with | .acs w k a e => if w = v ∧ k = fn then (a, e) else x | _ => x) ((s.func v fn).acs, (s.func v fn).acsVec)

/-- A host writes ACS Control or the egress vector of a function: one epoch (R119, R159). -/
def acsChange (s : State) (v fn acs vec : Nat) : State := ruleChange s (.acs v fn (acs &&& acsCaps (fkind s v fn) % 128) (if 3 ≤ fkind s v fn then vec else 0))

/-- ACS Control as written: a virtual bridge's is a rule of the part, a function's own is not (R159). -/
def acsCtlWrite (s : State) (v fn w : Nat) : State :=
  match fkind s v fn with
  | 2 => s
  | 0 | 1 => s.modFunc v fn (fun f => { f with acs := w &&& acsCaps 0 % 128 })
  | _ => acsChange s v fn w (acsLatest s v fn).2

/-- The egress vector of a bridge as written: no epoch (R159); ACS Control that waits for its slot keeps waiting. -/
def acsVecWrite (s : State) (v fn vec : Nat) : State :=
  let s := s.modFunc v fn (fun f => { f with acsVec := vec })
  { s with fab := { s.fab with waiting := s.fab.waiting.map (fun c => match c with | .acs w k a e => if w = v ∧ k = fn then .acs w k a vec else .acs w k a e | c => c) } }

/-- Power Controller Control of a slot (R116, R117, R303): on a composed bridge it controls no power; Off lets the
orderly unbinding that waits there take effect, at the end of the command (`unbindReady`). -/
def slotPower (s : State) (v k power : Nat) (ind : Option (Nat × Nat)) : State :=
  if isDirect s v k then slotControl s v k power ind
  else if isComposed s v k then
    let s := s.modFunc v (fnBridge k) (fun f =>
      { f with powerOff := (if power = 0 then f.powerOff else power == 2), slotStatus := setBit f.slotStatus Sl.cmdDone,
               attnInd := (match ind with | some (a, _) => if a = 0 then f.attnInd else a | none => f.attnInd),
               powerInd := (match ind with | some (_, b) => if b = 0 then f.powerInd else b | none => f.powerInd) })
    composedSlot s v k
  else s

/-- Slot Control and Slot Status as written: byte 1 of Slot Control carries the Power Controller Control. -/
def slotWrite (s : State) (v fn be w ones : Nat) : State :=
  if !reportsSlot s v fn then s
  else
    let s := s.modFunc v fn (fun f => { f with slotStatus := f.slotStatus &&& (0xFFFF ^^^ (ones / 65536 &&& 0x011F)), other := aput f.other 26 (w &&& 0x103F) })
    if be % 4 = 0 then s
    else
      let power := if be.testBit 1 then (if w.testBit 10 then 2 else 1) else 0
      slotPower s v (fn - 8) power (some (if be.testBit 0 then bitsAt w 6 2 else 0, if be.testBit 1 then bitsAt w 8 2 else 0))

/-- Target Link Speed (R285). -/
def targetSpeed (s : State) (v fn speed : Nat) : State :=
  s.modFunc v fn (fun f => { f with other := aput f.other 32 (agetD f.other 32 0 / 16 * 16 + speed % 16) })

/-- Retrain Link of the upstream bridge or a downstream bridge (R284, R285). -/
def retrainFn (s : State) (v fn : Nat) : State := match ctlPort s v fn with | some p => retrain s p | none => s

/-- Secondary Bus Reset (R125): of a downstream bridge; of the upstream bridge, of every bridge below it (log entry 71). -/
def busReset (s : State) (v fn : Nat) : State :=
  if fn = fnUp then forEach (bridges s v) s (fun s k => secondaryReset s v k) else secondaryReset s v (fn - 8)

/-- ATS, PRI and PASID enables of a Mover PF with one of them written. -/
def pfEnable (s : State) (v bit : Nat) (on : Bool) : State :=
  let e := (s.func v fnMover).ats
  pfEnables s v (if on then setBit e bit else clearBit e bit)

/-- A double word of `other` is written. -/
def keepCfg (s : State) (v fn reg w : Nat) : State := s.modFunc v fn (fun f => { f with other := aput f.other reg w })

/-- Header double words written. -/
def headerWrite (s : State) (v fn reg be w : Nat) : State :=
  let bridge := 2 ≤ fkind s v fn
  match reg with
  | 1 => if be % 4 = 0 then s else commandWrite s v fn (w % 65536)
  | 3 => keepCfg s v fn 3 (w % 256)
  | 15 =>
    let was := (agetD (s.func v fn).other 15 0).testBit 22
    let s := keepCfg s v fn 15 w
    if bridge && w.testBit 22 && !was then busReset s v fn else s
  | _ =>
    if !bridge then (if 4 ≤ reg ∧ reg < 10 then barWrite s v fn (reg - 4) w else s)
    else
      match reg with
      | 6 => s.modFunc v fn (fun f => { f with priBus := w % 256, secBus := w / 256 % 256, subBus := w / 65536 % 256 })
      | 8 => s.modFunc v fn (fun f => { f with memBase := w % 65536 / 16 * 16 * 65536, memLimit := w / 1048576 * 1048576 + 0xFFFFF })
      | 9 => s.modFunc v fn (fun f => { f with prefBase := f.prefBase / 4294967296 * 4294967296 + w % 65536 / 16 * 16 * 65536,
                                               prefLimit := f.prefLimit / 4294967296 * 4294967296 + w / 1048576 * 1048576 + 0xFFFFF })
      | 10 => s.modFunc v fn (fun f => { f with prefBase := w * 4294967296 + f.prefBase % 4294967296 })
      | 11 => s.modFunc v fn (fun f => { f with prefLimit := w * 4294967296 + f.prefLimit % 4294967296 })
      | 7 | 12 => keepCfg s v fn reg w
      | _ => s

/-- Link Control as written: Retrain Link reads 0. -/
def linkCtlWrite (s : State) (v fn w : Nat) : State :=
  let s := keepCfg s v fn 24 (w % 65536 &&& 0xFFDF)
  let s := if fkind s v fn = 3 ∧ w.testBit 4 != (s.func v fn).linkDisabled then linkDisable s v (fn - 8) (w.testBit 4) else s
  if w.testBit 5 then retrainFn s v fn else s

/-- Whether a double word takes what the host writes and nothing else. -/
def plainReg (kind reg : Nat) : Bool :=
  decide (reg = 36 ∨ reg = 30 ∨ reg = 32 ∨ reg = 66 ∨ reg = 67 ∨ reg = 69 ∨ reg = 70) ||
    (decide (96 ≤ reg ∧ reg < 168) && (extHeader kind (reg * 4)).isNone && decide (kind = 2 ∨ kind = 3)) ||
    (decide (reg = 178) && decide (2 ≤ kind)) || (decide (reg = 182 ∨ reg = 187) && decide (kind < 2))

/-- A double word of a function's configuration space is written, under byte enables (R104, R109, R119, R124, R125, R303). -/
def cfgWrite (s : State) (v fn reg be data : Nat) : State :=
  let byte := fun (old i : Nat) => (if be.testBit i then bitsAt data (8 * i) 8 else bitsAt old (8 * i) 8) * 256 ^ i
  let merge := fun (old : Nat) => byte old 0 + byte old 1 + byte old 2 + byte old 3
  let w := merge (cfgRead s v fn reg)
  let ones := merge 0
  let kind := fkind s v fn
  if reg < 16 then headerWrite s v fn reg be w
  else
    match reg with
    | 17 =>
      let s := s.modFunc v fn (fun f => { f with pme := f.pme && !ones.testBit 15 })
      let s := keepCfg s v fn 17 (w &&& 0x100)
      if w % 4 = 3 then setD3 s v fn true else if w % 4 = 0 then setD3 s v fn false else s
    | 22 =>
      let s := keepCfg s v fn 22 (if kind < 2 then w % 32768 else w % 65536)
      if kind < 2 ∧ ones.testBit 15 then flrOwn s v fn else s
    | 24 => if 2 ≤ kind then linkCtlWrite s v fn w else keepCfg s v fn 24 (w % 65536)
    | 26 => if 3 ≤ kind then slotWrite s v fn be w ones else s
    | 65 => s.modFunc v fn (fun f => { f with aerUnc := f.aerUnc &&& (0xFFFFFFFF ^^^ ones) })
    | 68 => s.modFunc v fn (fun f => { f with aerCor := f.aerCor &&& (0xFFFFFFFF ^^^ ones) })
    | 93 => if be / 4 = 0 then s else acsCtlWrite s v fn (w / 65536)
    | 94 => if kind < 3 then s else acsVecWrite s v fn (w + (acsLatest s v fn).2 / 4294967296 * 4294967296)
    | 95 => if kind < 3 then s else acsVecWrite s v fn ((acsLatest s v fn).2 % 4294967296 + w * 4294967296)
    | 169 => if kind < 3 then s else (keepCfg s v fn 169 (w &&& 0xFFFF0000)).modFunc v fn (fun f => { f with dpcEn := bitsAt w 16 2 })
    | 170 => if 3 ≤ kind ∧ ones.testBit 0 then dpcClear s v (fn - 8) else s
    | 181 => if kind = 1 then pfEnable (keepCfg s v fn 181 (w &&& 0x001F0000)) v 0 (w.testBit 31) else s
    | 185 => if kind = 1 then pfEnable s v 1 (w.testBit 0) else s
    | 193 => if kind = 1 then pfEnable s v 2 (w.testBit 16) else s
    | _ =>
      let s := if reg = 30 then s.modFunc v fn (fun f => { f with ariFwd := w.testBit 5 }) else s
      if plainReg kind reg then keepCfg s v fn reg w else s

/-! ### Configuration requests (R103, R107, R108, R111, R118, R127) -/

/-- The completion of a configuration request that the part answers itself. -/
def cfgAnswer (s : State) (v fn : Nat) (h : Held) (status : Nat) (data : List Byte) : State :=
  answerOwn s v h { cplTlp h.ridIn h.tagIn (hostId s v fn) status data with len := 4 }

/-- A request to a function of the part itself. -/
def cfgOwn (s : State) (v fn : Nat) (r : CfgReq) (h : Held) : State :=
  if r.write then
    let s := cfgWrite s v fn r.reg r.be r.data
    cfgAnswer s v fn h 0 []
  else cfgAnswer s v fn h 0 (natLe 4 (cfgRead s v fn r.reg))

/-- A configuration request that the part answers itself (R103, R118, R127): with Configuration Request Retry Status while the vSwitch is not ready, as a
function of the vSwitch, or, for a write to a shared PF that is held back, as its bridge without carrying it out. -/
def cfgRequest (s : State) (v : Nat) (r : CfgReq) (h : Held) : State :=
  if !vswReady s v then cfgAnswer s v fnUp h 2 []
  else if !r.type1 then cfgOwn s v r.fn r h
  else if r.bus = innerBus s v then
    match (bridges s v).find? (fun k => bridgeDevfn k == r.dev * 8 + r.fn) with
    | some k => cfgOwn s v (fnBridge k) r h
    | none => cfgAnswer s v fnUp h 1 []
  else
    match (bridges s v).find? (fun k => (s.func v (fnBridge k)).secBus == r.bus) with
    | some k => cfgAnswer (guardCount s) v (fnBridge k) h 0 []
    | none => cfgAnswer s v fnUp h 1 []

/-- The TLP that a configuration request of a host is (R103). -/
def cfgTlp (r : CfgReq) : Tlp :=
  { op := if r.write then .cfgWrite r.type1 else .cfgRead r.type1, route := .byId, tc := 0, ro := false, ido := false, translated := false,
    addr := r.reg % 1024 * 4, destId := r.bus % 256 * 256 + r.dev % 32 * 8 + r.fn % 8, reqId := r.reqId, tag := r.tag, cplId := 0, status := 0, len := 4,
    data := if r.write then natLe 4 r.data else [], poisoned := false, mctp := false, lossy := false, malformed := false, ide := false, be := r.be, hdr := [] }

/-- A configuration request arrives on the upstream port of a vSwitch: a TLP as any other (R52). -/
def hostConfig (s : State) (v : Nat) (r : CfgReq) : State :=
  let p := upPort s v
  if vswOn s v && portUp s p then ingress s p (cfgTlp r) .whole else s

/-- The answer to a request that comes before a configuration is applied (R127): Configuration Request Retry Status to a configuration request,
Unsupported Request to any other; the completer is device 0 of bus 0. -/
def earlyCpl (t : Tlp) : Tlp := { cplTlp t.reqId t.tag 0 (if isCfg t then 2 else 1) [] with len := 4 }

/-- A TLP that comes on a port before a configuration is applied (R127): a non-posted request is answered, anything else but a completion is dropped and
counted; no vSwitch has a Posted Failure Log yet (log entry 125). -/
def earlyTlp (s : State) (p : Nat) (t : Tlp) : State :=
  match t.cls with
  | .nonPosted => emit s (.tlp p (earlyCpl t))
  | .posted => bump s Reg.CORE_ACCESS_CNT
  | .completion => s

/-- FLR of the function that a host ID names below a composed bridge (R118, R125). -/
def flrHost (s : State) (v rid : Nat) : State :=
  match (bridges s v).find? (fun k => isComposed s v k && (s.func v (fnBridge k)).secBus == rid / 256 % 256 && rid / 256 % 256 != 0) with
  | some k => match devfnHit s v k (rid % 256) with | some e => flrBound s e | none => s
  | none => s

end Sys2Proof.Machine
end

