-- ==== Sys2Proof/Machine/TileRun.lean ====
section
/-!
DEFINITION. Machine/TileRun.lean: lane tiles at work: power states, PLLs, PRESS, margining, lane tests and the service diagnostics
(R77, R202, R260–R263, R273–R281, R298, R337, R383, R384, R401, R405).
-/
namespace Sys2Proof.Machine

/-! ### Power states (R77, R202, R298, R383) -/

/-- The deepest power state that an enabled slot allows its tile: 0 ACTIVE, 1 PARKED, 2 DARK (R129, R202, R298). -/
def slotAllows (s : State) (t i : Nat) : Nat :=
  let p := slotPort s t i
  if !slotOn s t i then 2
  else if slotCalez s t i then
    let n := 4 * t + i
    let st := czState s n
    if isTwinLink s n && mode s == 4 then 0 else if st == Cz.quiet || !czLive s n then 2 else 0
  else
    let lt := ltssm s p
    if (upVsw s p).isSome && lt != Lt.l1 then 0
    else
    let sub := getF s (Reg.PORT_STATUS p) Fld.PORT_STATUS_L1_SUB
    if lt = Lt.l1 then (if sub == 3 then 2 else 1)
    else if lt = Lt.l23 then 2
    else if isSet s (Reg.PORT_CFG p) Fld.PORT_CFG_HP_CAPABLE && !isSet s (Reg.PORT_STATUS p) Fld.PORT_STATUS_POWER_ON &&
            !isSet s (Reg.PORT_STATUS p) Fld.PORT_STATUS_DL_ACTIVE then 2
    else 0

/-- The deepest power state that a tile may enter by itself: that of its slots, within MAX_STATE of TILE_PM (R383, R384). -/
def tileMay (s : State) (t : Nat) : Nat :=
  if (tilePorts s t).isEmpty || !(tilePorts s t).all (portIdle s) then 0
  else
    let m := min 2 (getF s (Reg.TILE_PM t) Fld.TILE_PM_MAX_STATE)
    (List.range 4).foldl (fun m i => if slotOn s t i then min m (slotAllows s t i) else m) m

/-- PARK_IDLE has passed: the tile's clocks are gated (R383). -/
def tilePark (s : State) (t : Nat) : State :=
  if tilePower s t = 0 ∧ 1 ≤ tileMay s t then setF (avgClear (pressAbandon s t) t) (Reg.TILE_STATUS t) Fld.TILE_STATUS_POWER 1 else s

/-- DARK_IDLE has passed: the tile's PLLs stop, the ages of its lanes stand still (R274, R280, R383). -/
def tileDark (s : State) (t : Nat) : State :=
  if tilePower s t ≤ 1 ∧ 2 ≤ tileMay s t then setF (avgClear (holdAges (pllStop (pressAbandon s t) t) t) t) (Reg.TILE_STATUS t) Fld.TILE_STATUS_POWER 2 else s

/-- A squelch detector sees four beacon edges or line activity (R203, R281): the tile starts its PLLs, QUIET links of it wake. -/
def beacon (s : State) (t : Nat) : State :=
  forEach (List.range 4) (tileWake s t) (fun s i => if slotCalez s t i then quietWake s (4 * t + i) else s)

/-! ### PLLs (R261, R263) -/

/-- A PLL that runs is stable 2,048 reference cycles after lock (R261). -/
def pllStable (s : State) (t : Nat) (lc : Bool) : State :=
  let k := Reg.TILE_STATUS t
  if lc then (if isSet s k Fld.TILE_STATUS_LC_ON then setF s k Fld.TILE_STATUS_LC_STABLE 1 else s)
  else if isSet s k Fld.TILE_STATUS_RING_ON then setF s k Fld.TILE_STATUS_RING_STABLE 1 else s

/-- A link of a tile goes down with its clock or its lanes (R188: reason 0x09). -/
def slotDown (s : State) (t i : Nat) : State :=
  if slotCalez s t i then
    let n := 4 * t + i
    if czLive s n then czDown s n Dn.tile else if czState s n = Cz.reset then s else enterReset s n Dn.tile
  else
    let p := slotPort s t i
    let lt := ltssm s p
    if lt = Lt.off ∨ lt = Lt.disabled then s else trainFromDetect (pcieDown s p Lt.detect) p

/-- A tile PLL loses lock with a good reference (R263): every link that uses it goes down, a CONTAINED fault, and it starts again. -/
def pllLost (s : State) (t : Nat) (lc : Bool) : State :=
  let k := Reg.TILE_STATUS t
  if !isSet s k (if lc then Fld.TILE_STATUS_LC_ON else Fld.TILE_STATUS_RING_ON) then s
  else
    let s := setF (bump s (Reg.TILE_PLL_UNLOCK_CNT t)) k (if lc then Fld.TILE_STATUS_LC_STABLE else Fld.TILE_STATUS_RING_STABLE) 0
    let uses := fun (i : Nat) =>
      slotOn s t i && (if slotCalez s t i then lc
        else (getF s (Reg.PORT_STATUS (slotPort s t i)) Fld.PORT_STATUS_RATE == 5) == lc)
    let s := forEach ((List.range 4).filter uses) s (fun s i => slotDown s t i)
    detect s 0x0220 .contained Uk.tile t (b2n lc)

/-! ### Power-up calibration (R280) -/

/-- The power-up calibration ends: ages return to 0, training starts, TILE_CALIBRATE is answered (R274, R280, R337). -/
def calibrated (s : State) (t : Nat) : State :=
  let x := s.tile t
  if !x.calRunning || 1 ≤ tilePower s t then s
  else
    let s := setF s (Reg.TILE_STATUS t) Fld.TILE_STATUS_CAL_DONE 1
    let s := s.modTile t (fun x => { x with passAt := (List.range 16).map (fun l => (l, s.time)), ageHeld := [], calRunning := false, calFor := none })
    let s := forEach ((tilePorts s t).filter (isPcie s)) s (fun s p =>
      if !isSet s (Reg.PORT_STATUS p) Fld.PORT_STATUS_DL_ACTIVE then trainFromDetect s p else s)
    match x.calFor with
    | some r => reply s r St.ok ([BitVec.ofNat 8 t, 1#8] ++ zeros 6)
    | none => s

/-! ### PRESS (R273–R277, R400, R401, R405) -/

/-- PERIOD as in force, in ms. -/
def pressPeriod (s : State) (t : Nat) : Nat := max 10 (min 10000 (getF s (Reg.TILE_PRESS_CTRL t) Fld.TILE_PRESS_CTRL_PERIOD))

/-- Level of a lane under PRESS: 0 NORMAL, 1 URGENT, 2 CRITICAL. -/
def pressLevel (s : State) (t l : Nat) : Nat := getF s (Reg.PRESS_LEVEL t) (Fld.PRESS_LEVEL_LEVEL l)

/-- The step that a lane's state permits (R275): a live one, a quiet one, or none. -/
def pressStep (s : State) (t l : Nat) : Option Bool :=
  let sig := isSet s (Reg.LANE_STATUS t l) Fld.LANE_STATUS_LOCKED
  if 2 ≤ tilePower s t ∨ (s.tile t).margined.contains l ∨ (s.tile t).testLanes.testBit l then none
  else
    match (List.range 4).find? (fun i => slotOn s t i && (slotLanes s t i).contains l) with
    | none => none
    | some i =>
      if slotCalez s t i then
        let st := czState s (4 * t + i)
        if st ≤ Cz.eq then some sig
        else if st = Cz.quiet then (if liveCalEn s || tilePower s t == 1 then some false else none)
        else if st = Cz.waking then none
        else if liveCalEn s then some true else none
      else
        let lt := ltssm s (slotPort s t i)
        if lt = Lt.l1 then some false
        else if lt = Lt.l0 then (if liveCalEn s then some true else none)
        else if lt = 1 ∨ lt = 2 ∨ lt = 3 ∨ lt = Lt.disabled ∨ lt = Lt.hotReset then some sig
        else none

/-- The lane that the sequencer takes next (R274, R405): among the lanes due whose state permits a step, one that is URGENT or CRITICAL
first, then the oldest. -/
def pressNext (s : State) (t : Nat) : Option (Nat × Bool) :=
  let due := (lanesInUse s t).filter (fun l => decide (pressPeriod s t ≤ laneAge s t l) && (pressStep s t l).isSome)
  let key := fun (l : Nat) => pressLevel s t l * 65536 + laneAge s t l
  match due with
  | [] => none
  | l :: ls =>
    let best := ls.foldl (fun b x => if key b < key x then x else b) l
    (pressStep s t best).map (fun live => (best, live))

/-- The sequencer of a tile starts its next step. -/
def pressStart (s : State) (t : Nat) : State :=
  if (s.tile t).press.isSome then s
  else
    match pressNext s t with
    | none => s
    | some (l, live) =>
      let s := setF (setF s (Reg.TILE_STATUS t) Fld.TILE_STATUS_PRESS_LANE l) (Reg.LANE_STATUS t l) Fld.LANE_STATUS_PRESS_STATE (if live then 1 else 2)
      s.modTile t (fun x => { x with press := some (l, live) })

/-- The criterion of a lane at its rate, in 0.1 dB; none at 2.5 and 5 GT/s (R270). -/
def laneCrit (s : State) (t l : Nat) : Nat :=
  let k := Reg.TILE_EQ_CRIT t
  match getF s (Reg.LANE_STATUS t l) Fld.LANE_STATUS_RATE with
  | 0 | 1 => 0
  | 7 => getF s k Fld.TILE_EQ_CRIT_SNR_C128
  | 5 | 6 => getF s k Fld.TILE_EQ_CRIT_SNR_PAM4
  | _ => getF s k Fld.TILE_EQ_CRIT_SNR_NRZ

/-- A lane pass ends (R273, R277, R401): the age and level of the lane return to 0, SNR is updated, and a low one raises a CORRECTED
fault; the next step starts.  The spare slice moves on during a live step, so SLICE_OFF is free after one. -/
def pressDone (s : State) (t l snr : Nat) : State :=
  let x := s.tile t
  let mine := match x.press with | some (m, _) => m == l | none => true
  match pressStep s t l with
  | none => s
  | some live =>
    if !mine then s
    else
      let k := Reg.LANE_STATUS t l
      let s := s.modTile t (fun x => { x with press := none, passAt := aput x.passAt l s.time })
      let s := setF (setF (bump s (Reg.TILE_PRESS_PASS_CNT t)) k Fld.LANE_STATUS_SNR snr) k Fld.LANE_STATUS_PRESS_STATE 0
      let s := if live then let (r, s) := draw s 16; setF s k Fld.LANE_STATUS_SLICE_OFF (r % 33) else s
      let s := setF (setF s (Reg.TILE_STATUS t) Fld.TILE_STATUS_PRESS_LANE l) (Reg.PRESS_LEVEL t) (Fld.PRESS_LEVEL_LEVEL l) 0
      let s := if snr < laneCrit s t l then detect (setF s k Fld.LANE_STATUS_LOW_SNR 1) 0x0221 .corrected Uk.lane (16 * t + l) snr else s
      pressStart s t

/-- Every tile's sequencer starts the step that has fallen due, once time has moved on. -/
def pressTick (s : State) : State := forEach (List.range 16) s (fun s t => if (tilePorts s t).isEmpty then s else pressStart s t)

/-! ### Margining, lane tests (R279, R405) -/

/-- The values of the receiver margining capability (R278): M_VoltageSupported, M_IndUpDownVoltage, M_IndLeftRightTiming, M_SampleReportingMethod and
M_IndErrorSampler are the bits of the control capabilities, from bit 0 up; the lanes margined at once are all of the port's. -/
def marginValue (s : State) (t i : Nat) (c : MarginCmd) : Option Nat :=
  match c with
  | .capabilities => some 0x1F
  | .numVoltageSteps => some 64
  | .numTimingSteps => some 32
  | .maxTimingOffset => some 50
  | .maxVoltageOffset => some 20
  | .samplingRateVoltage => some 1
  | .samplingRateTiming => some 1
  | .maxLanes => some (slotWidth (tileSplit s t) i - 1)
  | _ => none

/-- A step is within M_NumTimingSteps or M_NumVoltageSteps. -/
def marginStepOk (c : MarginCmd) : Bool :=
  match c with
  | .stepTiming _ n => decide (n ≤ 32)
  | .stepVoltage _ n => decide (n ≤ 64)
  | _ => true

/-- A step of margining on the lane's spare slice, which then belongs to margining (R279); the symbols that the offset slice decides otherwise are
counted, how many is free. -/
def marginStep (s : State) (t l : Nat) : State :=
  let s := s.modTile t (fun x =>
    { x with margined := if x.margined.contains l then x.margined else x.margined ++ [l],
             press := match x.press with | some (m, b) => if m = l then none else some (m, b) | none => none })
  let (n, s) := draw s 6
  emit (setF s (Reg.LANE_STATUS t l) Fld.LANE_STATUS_PRESS_STATE 3) (.margin t l true n)

/-- A margin command for a lane (R278, R279): a report is answered; a step is carried out on the spare slice, or NAKed while the lane is URGENT or
CRITICAL, and PRESS takes the slice back; Go to Normal Settings ends margining. -/
def margin (s : State) (t l : Nat) (c : MarginCmd) : State :=
  match (List.range 4).find? (fun i => slotOn s t i && (slotLanes s t i).contains l) with
  | none => s
  | some i =>
    if slotCalez s t i || ltssm s (slotPort s t i) != Lt.l0 then s
    else
      match marginValue s t i c, c with
      | some v, _ => emit s (.marginReport t l v)
      | none, .normal => emit (marginEnd s t [l]) (.margin t l true 0)
      | none, .clearErrors => emit s (.margin t l true 0)
      | none, _ =>
        if 1 ≤ pressLevel s t l then emit (marginEnd s t [l]) (.margin t l false 0)
        else if marginStepOk c then marginStep s t l
        else emit s (.margin t l false 0)

/-- A lane test takes the lanes it tests out of service (R279): links that use one go down, and the lanes stay out until reset. -/
def laneTest (s : State) (t mask : Nat) : State :=
  let s := s.modTile t (fun x => { x with testLanes := x.testLanes ||| mask % 65536 })
  let s := pressAbandonLanes s t (bitsOf 16 mask)
  forEach (List.range 4) s (fun s i =>
    if slotOn s t i && (slotLanes s t i).any (fun l => mask.testBit l) then slotDown s t i else s)

/-! ### Service diagnostics (R337) -/

/-- EYE_SCAN: the 64 × 32 error counts of a lane, measured, so free (log entry 2). -/
def eyeScan (r : IcpReq) (s : State) : State :=
  let t := num r.payload 0 1
  let l := num r.payload 1 1
  if 16 ≤ t ∨ 16 ≤ l then refuse s r St.notPermitted
  else
    let head := [BitVec.ofNat 8 t, BitVec.ofNat 8 l]
    let s := sendReply s r St.accepted (head ++ zeros 2054)
    let (m, s) := draw s (8 * 2049)
    reply s r St.ok (head ++ natLe 1 m ++ zeros 5 ++ natLe 2048 (m / 256))

/-- TILE_CALIBRATE: the tile's links go down, its records are cleared, and its power-up calibration runs.  A tile that stays OFF answers
CAL_DONE 0. -/
def tileCalibrate (r : IcpReq) (s : State) : State :=
  let t := num r.payload 0 1
  if 16 ≤ t then refuse s r St.notPermitted
  else
    let s := sendReply s r St.accepted ([BitVec.ofNat 8 t] ++ zeros 7)
    let s := forEach ((List.range 4).filter (slotOn s t)) s (fun s i => slotDown s t i)
    let s := runAges s t
    let s := setF s (Reg.TILE_STATUS t) Fld.TILE_STATUS_CAL_DONE 0
    let s := s.modTile t (fun x => { x with coef := [] })
    if isFenced s ⟨Uk.tile, t⟩ || (tilePorts s t).isEmpty then reply s r St.ok ([BitVec.ofNat 8 t] ++ zeros 7)
    else
      let s := pllStart (setF s (Reg.TILE_STATUS t) Fld.TILE_STATUS_POWER 0) t
      let s := match (s.tile t).calFor with
        | some q => reply s q St.ok ([BitVec.ofNat 8 t] ++ zeros 7)
        | none => s
      s.modTile t (fun x => { x with calRunning := true, calFor := some r })

/-- The TLPs in the packet buffer are lost without outcomes, as BIST writes over it (R337). -/
def bufferLost (s : State) : State :=
  { s with core := { s.core with voqs := [], sharedUse := [], rsvUse := [], ctxWait := [], storing := [], leaving := [] },
           cong := { s.cong with frcs := s.cong.frcs.map (fun e => (e.1, { e.2 with queue := [] })) } }

/-- The table store is lost (R15, R337): the tables, contexts, meters, flow-rate contexts, ATC, Mover instances and shadow tables in it
hold nothing, and with the cell link lists every TLP is lost. -/
def tablesLost (s : State) : State :=
  let s := tablesClear (bufferLost s)
  let s := forEach (s.mover.insts.map (fun e => e.1)) s (fun s n => instClear s n Im.disabled)
  { s with fab := { s.fab with ctxs := [] }, cong := { s.cong with meters := [], frcs := [] }, mover := { s.mover with atc := [] },
           twin := { s.twin with shadowFam := [], shadowBind := [], shadowRoute := [] } }

/-- BIST_RUN: the contents tested are lost; what fails is measured, so free (log entry 2). -/
def bistRun (r : IcpReq) (s : State) : State :=
  let kind := num r.payload 0 1
  if 3 < kind ∨ (kind = 3 ∧ 16 ≤ num r.payload 1 1) then refuse s r St.notPermitted
  else
    let s := sendReply s r St.accepted (zeros 16)
    let s := match kind with
      | 0 => bufferLost s
      | 1 => tablesLost s
      | 2 => { s with mem := [], ddr := { s.ddr with bad := [] } }
      | _ => s
    let (m, s) := draw s 96
    reply s r St.ok (natLe 4 m ++ zeros 4 ++ natLe 8 (m / 2 ^ 32))

end Sys2Proof.Machine
end

