-- ==== Sys2Proof/Machine/IcpFront.lean ====
section
/-!
DEFINITION. Machine/IcpFront.lean: the ICP front end: the checks of a request, its channels, rings, MCTP, mailboxes, the twin link and
relaying (R311–R334, R253).
-/
namespace Sys2Proof.Machine

/-! ### Roles and lengths (R332, R334) -/

/-- Role of a channel (R311, R332): 0 where it carries none. -/
def roleOf (s : State) (c : Nat) : Nat :=
  if c < 64 then (if (managers s).contains (c % 32) then Role.manager else 0)
  else if c = Ch.bmc then (if isSet s Reg.ICP_CTRL Fld.ICP_CTRL_BMC_EN then Role.manager else 0)
  else if c = Ch.twin then Role.twin
  else if c = Ch.relay then Role.manager
  else if c = Ch.internal then Role.internal
  else Role.tenant

/-- PLEN equals the opcode's PLEN (R165, R214, R255, R334–R345). -/
def plenOk (o : Nat) (p : List Byte) : Bool :=
  let n := p.length
  let counted := fun (size top : Nat) =>
    let c := num p 0 2
    decide (8 ≤ n) && decide (1 ≤ c) && decide (c ≤ top) && n == 8 + size * c
  match o with
  | 0x0101 | 0x0320 => n == 0
  | 0x0102 | 0x0204 | 0x0502 | 0x0710 => n == 16
  | 0x0201 => counted 24 169
  | 0x0202 => counted 40 101
  | 0x0203 => counted 72 56
  | 0x0303 | 0x0401 => n == 32
  | 0x0321 => decide (n ≤ 48)
  | 0x0711 => decide (12 ≤ n)
  | 0x0713 => n == 4
  | 0x0714 => decide (8 ≤ n) && n == 8 + num p 4 2 * (4 + (match num p 0 1 with | 0 => 32 | 1 => 16 | _ => 64))
  | 0x0802 => n == 2432
  | 0x0901 | 0x0903 => decide (9 ≤ n)
  | 0x0904 => n == 20
  | 0x0905 => n == 24
  | 0x0A11 => decide (8 ≤ n) && (let c := num p 4 2; decide (1 ≤ c) && decide (c ≤ 1016) && n == 8 + 4 * c)
  | _ => n == 8

/-! ### The checks (R318–R320) -/

/-- Steps 1 to 3 on a packet that a transport delivered with a length: the step that fails, and its status. -/
def checkForm (c len : Nat) (p : List Byte) : Option (Nat × Nat) :=
  let plen := num p 6 2
  if len < 16 ∨ p.length < 16 + plen ∨ 16 + plen ≠ len ∨ (if 128 ≤ c then 48 else 4080) < plen then some (1, St.badLength)
  else if num p 12 4 ≠ crc32c (p.take 12 ++ (p.drop 16).take plen) then some (2, St.badCrc)
  else if bitAt p 1 7 || num p 3 1 != 1 || num p 11 1 != 0 || num p 2 1 / 8 != 0 || num p 10 1 / 16 != 0 then some (3, St.badOpcode)
  else none

/-- TARGET names this part (R315). -/
def targetHere (s : State) (c tgt : Nat) : Bool :=
  bitsAt tgt 12 2 == 0 && tgt.testBit 14 == (c == Ch.relay) && (tgt.testBit 15 || tgt % 4096 == nodeId s)

/-- A Manager packet whose TARGET names the partner is relayed (R327). -/
def relayed (s : State) (c tgt : Nat) : Bool :=
  mode s == 4 && tgt / 4096 == 0 && tgt % 4096 == partner s && c != Ch.relay && roleOf s c == Role.manager && isSet s Reg.ICP_CTRL Fld.ICP_CTRL_RELAY_EN

/-- Steps 5 to 10: the step that fails and its status, or the decoder. -/
def checkCommand (s : State) (c : Nat) (r : IcpReq) (tgt : Nat) : (Nat × Nat) ⊕ Decoder :=
  match opcodeRow r.opcode with
  | none => .inl (5, St.badOpcode)
  | some (d, roles, modes) =>
    if r.flags.testBit 2 != (d == .sp) then .inl (6, St.notPermitted)
    else if roles &&& roleOf s c == 0 then .inl (7, St.notPermitted)
    else if !targetHere s c tgt then .inl (8, St.notPermitted)
    else if !modes.testBit (mode s) then .inl (9, St.wrongMode)
    else if !plenOk r.opcode r.payload then .inl (10, St.badLength)
    else .inr d

/-- A check failure is counted by its step and answered with the check payload (R319). -/
def checkFailed (s : State) (r : IcpReq) (step status : Nat) : State :=
  let s := bump s (if step ≤ 3 then Reg.ICP_BAD_CRC_CNT else if step = 4 then Reg.ICP_ALIVE_ERR_CNT else Reg.ICP_REFUSED_CNT)
  sendReply s r status [BitVec.ofNat 8 step, BitVec.ofNat 8 (alive s r.chan).exp, 0#8, 0#8]

/-- A request is handed to its decoder (R312). -/
def handTo (s : State) (d : Decoder) (r : IcpReq) : State := setDecoderQ s (decoderQ s d ++ [r]) d

/-- A request goes over the twin link to the partner (R327). -/
def relayOut (s : State) (r : IcpReq) (tgt : Nat) : State :=
  if !twinLive s then sendReply s r St.twinDisagree (zeros (replyLen r.opcode))
  else
    let p := packet r.opcode r.flags r.seq (tgt + 16384) s.twin.relayTx r.payload
    { s with icp := { s.icp with twinTx := s.icp.twinTx ++ [p], relays := s.icp.relays ++ [⟨r, s.time + ms 100⟩] },
             twin := { s.twin with relayTx := (s.twin.relayTx + 1) % 16 } }

/-- The MCTP channel has 16 commands outstanding: BUSY, with the command's own reply payload of zeros (R326). -/
def icpBusy (s : State) (r : IcpReq) : State := sendReply (bump s Reg.ICP_REFUSED_CNT) r St.busy (zeros (replyLen r.opcode))

/-- A wrong ALIVE of a Twin-role packet: discarded unanswered (R213). -/
def twinBad (s : State) : State := detect (bump (cvTwinAlive s) Reg.TWIN_CHK_ERR_CNT) 0x0403 .contained Uk.twin 0 (rd s Reg.TWIN_TXN).toNat

/-- A request arrives on a channel (R318): `len` is the length that the transport delivered. -/
def icpArrive (s : State) (c tag len : Nat) (p : List Byte) : State :=
  let r : IcpReq := { chan := c, opcode := num p 0 2, seq := num p 4 2, flags := num p 2 1, payload := (p.drop 16).take (num p 6 2),
                      tag := tag, ses := agetD s.icp.sessions c 0, at_ := s.time, raw := p.take (16 + num p 6 2) }
  let tgt := num p 8 2
  match checkForm c len p with
  | some (step, st) => checkFailed s r step st
  | none =>
    let s := if c = Ch.twin ∧ r.opcode = 0x0710 ∧ !s.twin.helloSeen then
        { zeroAlive (zeroAlive s Ch.twin) Ch.relay with twin := { s.twin with helloSeen := true } } else s
    let a := alive s c
    if num p 10 1 % 16 ≠ a.exp then (if c = Ch.twin then twinBad s else checkFailed s r 4 St.aliveError)
    else
      let s := setAlive s c ⟨(a.exp + 1) % 16, a.rep⟩
      let s := if c = Ch.twin ∧ s.twin.applied.isSome then { s with twin := { s.twin with laterPacket := true } } else s
      let full := 32 ≤ c && c ≤ 64 && decide (16 ≤ outstanding s c)
      if relayed s c tgt then (if full then icpBusy s r else relayOut s r tgt)
      else
        match checkCommand s c r tgt with
        | .inl (step, st) => checkFailed s r step st
        | .inr d => let s := bump s Reg.ICP_RX_CNT; if full then icpBusy s r else handTo s d r

/-! ### Rings (R321–R324) -/

/-- Ring size from a LOG2 field, held in 2–8. -/
def ringSize (x : Nat) : Nat := 2 ^ max 2 (min 8 x)
def sqSize (s : State) (v : Nat) : Nat := ringSize (getF s (Reg.ICP_RING_CFG v) Fld.ICP_RING_CFG_SQ_LOG2)
def cqSize (s : State) (v : Nat) : Nat := ringSize (getF s (Reg.ICP_RING_CFG v) Fld.ICP_RING_CFG_CQ_LOG2)

def ringOn (s : State) (v : Nat) : Bool := isSet s (Reg.ICP_RING_CFG v) Fld.ICP_RING_CFG_EN

/-- (a − b) modulo 2^32. -/
def diff32 (a b : Nat) : Nat := (a + 2 ^ 32 - b) % 2 ^ 32

/-- The completion ring has no free slot (R323). -/
def cqFull (s : State) (v : Nat) : Bool := decide (cqSize s v ≤ diff32 (rd s (Reg.ICP_CQ_TAIL v)).toNat (rd s (Reg.ICP_CQ_HEAD v)).toNat)

/-- The ring agent reads the next slot where R322 lets it. -/
def ringFetch (s : State) (v : Nat) : State :=
  let head := (rd s (Reg.ICP_SQ_HEAD v)).toNat
  if ringOn s v && !isSet s (Reg.ICP_RING_STATUS v) Fld.ICP_RING_STATUS_FETCH_ERR && head != (rd s (Reg.ICP_SQ_TAIL v)).toNat &&
     decide (outstanding s v < 16) && (agetD s.icp.cplWait v []).isEmpty && (s.func v fnMgmt).command.testBit 2 && !s.icp.fetching.contains v then
    emit { s with icp := { s.icp with fetching := s.icp.fetching ++ [v] } } (.slotRead v (head % sqSize s v))
  else s

/-- EN is written 1 (R311, R324): a ring without the Manager role stays disabled; one already enabled is left as it is. -/
def ringEnable (s : State) (v sq cq : Nat) : State :=
  if ringOn s v || !(rd s Reg.ICP_MGR).getLsbD v then s
  else
    let clamp := fun (x : Nat) => max 2 (min 8 x)
    let s := wr s (Reg.ICP_RING_CFG v) (BitVec.ofNat 64 (2 ^ 31 + clamp cq * 256 + clamp sq))
    let s := forEach [Reg.ICP_RING_STATUS v, Reg.ICP_SQ_TAIL v, Reg.ICP_SQ_HEAD v, Reg.ICP_CQ_TAIL v, Reg.ICP_CQ_HEAD v] s (fun s k => wr s k 0)
    zeroAlive s v

/-- EN is written 0. -/
def ringDisable (s : State) (v : Nat) : State := if ringOn s v then ringEnd s v else s

/-- A submission doorbell (R322). -/
def sqTailWrite (s : State) (v count : Nat) : State :=
  if sqSize s v < diff32 count (rd s (Reg.ICP_SQ_HEAD v)).toNat then setF s (Reg.ICP_RING_STATUS v) Fld.ICP_RING_STATUS_DB_ERR 1
  else ringFetch (wr s (Reg.ICP_SQ_TAIL v) (BitVec.ofNat 64 count)) v

/-- A slot read ends (R322). -/
def slotFetched (s : State) (v : Nat) (ok : Bool) (slot : List Byte) : State :=
  if !s.icp.fetching.contains v then s
  else
    let s := { s with icp := { s.icp with fetching := s.icp.fetching.filter (fun x => x != v) } }
    if !ok then msix (bump (setF s (Reg.ICP_RING_STATUS v) Fld.ICP_RING_STATUS_FETCH_ERR 1) Reg.ICP_REFUSED_CNT) v 0 0
    else
      let s := wr s (Reg.ICP_SQ_HEAD v) (BitVec.ofNat 64 (((rd s (Reg.ICP_SQ_HEAD v)).toNat + 1) % 2 ^ 32))
      let slot := fit 4096 slot
      ringFetch (icpArrive s v 0 (16 + num slot 6 2) slot) v

/-- The host frees completion slots (R323). -/
def cqHeadWrite (s : State) (v count : Nat) : State := wr s (Reg.ICP_CQ_HEAD v) (BitVec.ofNat 64 count)

/-- A reply that waits is written into the completion ring (R321, R323). -/
def ringReply (s : State) (v : Nat) : State :=
  match agetD s.icp.cplWait v [] with
  | [] => s
  | p :: rest =>
    if !ringOn s v || cqFull s v || !(s.func v fnMgmt).command.testBit 2 then s
    else
      let tail := (rd s (Reg.ICP_CQ_TAIL v)).toNat
      let s := mgmtWrite s v ((rd s (Reg.ICP_CQ_BASE v)).toNat + 4096 * (tail % cqSize s v)) p
      let s := { s with icp := { s.icp with cplWait := if rest.isEmpty then adel s.icp.cplWait v else aput s.icp.cplWait v rest } }
      ringFetch (msix (wr s (Reg.ICP_CQ_TAIL v) (BitVec.ofNat 64 ((tail + 1) % 2 ^ 32))) v 0 0) v

/-! ### Mailboxes (R253) -/

/-- The device takes the packet of a mailbox, once fewer than 16 of its commands are outstanding. -/
def mbTake (s : State) (n : Nat) : State :=
  if 16 ≤ outstanding s (Ch.mailbox n) then s
  else
    let p := fit 64 (s.inst n).mbTo
    icpArrive (setF s (Reg.INST_STATUS n) Fld.INST_STATUS_MB_OUT_BUSY 0) (Ch.mailbox n) 0 (16 + num p 6 2) p

/-- SEND (R253). -/
def mbSend (s : State) (n : Nat) : State :=
  if isSet s (Reg.INST_STATUS n) Fld.INST_STATUS_MB_OUT_BUSY then s else mbTake (setF s (Reg.INST_STATUS n) Fld.INST_STATUS_MB_OUT_BUSY 1) n

/-- Mailboxes and rings that waited for room go on. -/
def icpResume (s : State) : State :=
  let s := forEach ((s.mover.insts.map (fun e => e.1)).filter (fun n => isSet s (Reg.INST_STATUS n) Fld.INST_STATUS_MB_OUT_BUSY)) s mbTake
  forEach (List.range 32) s ringFetch

/-! ### MCTP (R325, R326) -/

/-- The MCTP channel is there: a VDM channel while its upstream port has its link, the BMC's while the target is enabled and not fenced. -/
def mctpUp (s : State) (c : Nat) : Bool :=
  if 32 ≤ c ∧ c < 64 then vswOn s (c - 32) && isSet s (Reg.PORT_STATUS (upPort s (c - 32))) Fld.PORT_STATUS_DL_ACTIVE
  else c == Ch.bmc && isSet s Reg.SB_CTRL Fld.SB_CTRL_TGT_EN && !isFenced s ⟨Uk.bus, 4⟩

/-- A whole MCTP message: type 0x7E with the Vendor ID 0x1FA7, most significant byte first, carries an ICP packet; SPDM and control
messages are the commands of their own rows. -/
def mctpMessage (s : State) (c tag type : Nat) (bytes : List Byte) : State :=
  if type ≠ 0x7E ∨ num bytes 0 2 ≠ 0xA71F then s
  else if c < 64 && !(managers s).contains (c - 32) then bump s Reg.ICP_REFUSED_CNT
  else icpArrive s c tag (bytes.length - 2) (bytes.drop 2)

/-- An MCTP packet arrives; the one with EOM completes its message (R325). -/
def mctpRx (s : State) (c src tag : Nat) (som eom ic : Bool) (type : Nat) (bytes : List Byte) : State :=
  if !mctpUp s c then s
  else
    let mine := fun (p : McPart) => p.chan == c && p.src == src && p.tag == tag
    let old := s.icp.mctpParts.find? mine
    let s := { s with icp := { s.icp with mctpParts := s.icp.mctpParts.filter (fun p => !mine p) } }
    if som && ic then bump s Reg.ICP_REFUSED_CNT
    else
      let part : Option McPart :=
        if som then some ⟨c, src, tag, type, bytes, s.time⟩ else old.map (fun p => { p with bytes := p.bytes ++ bytes })
      match part with
      | none => s
      | some p =>
        if !eom then { s with icp := { s.icp with mctpParts := s.icp.mctpParts ++ [p] } }
        else if p.started + ms 100 < s.time then s
        else mctpMessage s c tag p.type p.bytes

/-- A message in reassembly is discarded (R325). -/
def mctpTimeout (s : State) (c src tag : Nat) : State :=
  { s with icp := { s.icp with mctpParts := s.icp.mctpParts.filter (fun p => !(p.chan == c && p.src == src && p.tag == tag)) } }

/-- A control message is answered: type 0, with a response to its command code (log entry 64). -/
def mctpAnswer (s : State) (c tag code : Nat) (body : List Byte) : State := emit s (.mctp c tag 0 ([0#8, BitVec.ofNat 8 code] ++ body))

/-- Set Endpoint ID (R311, R325): both ALIVE values of the channel are 0. -/
def setEid (s : State) (c tag eid : Nat) : State :=
  if !mctpUp s c then s
  else if eid % 256 = 0 ∨ eid % 256 = 255 then mctpAnswer s c tag 1 [2#8]
  else mctpAnswer (zeroAlive { s with icp := { s.icp with mctpEid := aput s.icp.mctpEid c (eid % 256) } } c) c tag 1 [0#8, 0#8, BitVec.ofNat 8 eid, 0#8]

/-- Get Endpoint ID. -/
def getEid (s : State) (c tag : Nat) : State :=
  if !mctpUp s c then s else mctpAnswer s c tag 2 [0#8, BitVec.ofNat 8 (agetD s.icp.mctpEid c 0), 0#8, 0#8]

/-- Get MCTP Version Support: the version numbers are stated nowhere, so free (log entry 2). -/
def mctpVersions (s : State) (c tag : Nat) : State :=
  if !mctpUp s c then s else let (v, s) := draw s 32; mctpAnswer s c tag 4 ([0#8, 1#8] ++ natLe 4 v)

/-- Get Message Type Support: types 0x00, 0x05 and 0x7E (R325). -/
def mctpTypes (s : State) (c tag : Nat) : State :=
  if !mctpUp s c then s else mctpAnswer s c tag 5 [0#8, 3#8, 0x00#8, 0x05#8, 0x7E#8]

/-! ### The twin link as a channel (R213, R214, R327) -/

/-- A reply arrives over the twin link: one to a packet relayed by its opcode and SEQ, else one to a Twin-role packet, whose ALIVE is checked. -/
def twinReplyIn (s : State) (p : List Byte) : State :=
  let op := num p 0 2 % 0x8000
  let r : TwinReply := ⟨op, num p 4 2, num p 8 2, (p.drop 16).take (num p 6 2),
    decide (op < 0x0710 ∨ 0x0715 < op) && s.icp.relays.any (fun x => x.req.opcode == op && x.req.seq == num p 4 2)⟩
  if r.relayed then { s with icp := { s.icp with twinReplies := s.icp.twinReplies ++ [r] } }
  else if num p 10 1 % 16 ≠ s.twin.rxRep then twinBad s
  else
    { s with icp := { s.icp with twinReplies := s.icp.twinReplies ++ [r] },
             twin := { s.twin with rxRep := (s.twin.rxRep + 1) % 16, laterPacket := s.twin.laterPacket || s.twin.applied.isSome } }

/-- An ICP packet on the twin link is taken whole (R327). -/
def icpFrameRx (s : State) (n : Nat) : State :=
  match takeFrame s n (fun f => match f.body with | .icp p => some p | _ => none) with
  | none => s
  | some (_, p, s) =>
    if mode s ≠ 4 ∨ !isTwinLink s n then s
    else if bitAt p 1 7 then twinReplyIn s p
    else icpArrive s (if bitAt p 9 6 then Ch.relay else Ch.twin) 0 p.length p

/-- The reply to a relayed packet leaves on the original channel; a final one ends the relay (R327). -/
def relayReply (s : State) : State :=
  match s.icp.twinReplies.find? (fun r => r.relayed) with
  | none => s
  | some v =>
    let s := { s with icp := { s.icp with twinReplies := s.icp.twinReplies.erase v } }
    match s.icp.relays.find? (fun x => x.req.opcode == v.opcode && x.req.seq == v.seq) with
    | none => s
    | some x =>
      let s := if v.status = St.accepted then s else { s with icp := { s.icp with relays := s.icp.relays.erase x } }
      sendReply s x.req v.status v.payload

/-- The oldest relayed packet gets no reply (R327). -/
def relayTimeout (s : State) : State :=
  match s.icp.relays with
  | [] => s
  | x :: rest => sendReply { s with icp := { s.icp with relays := rest } } x.req St.timeout (zeros (replyLen x.req.opcode))

end Sys2Proof.Machine
end

