-- ==== Sys2Proof/Machine/FenceOps.lean ====
section
/-!
DEFINITION. Machine/FenceOps.lean: what a fence does to a unit, and how a released unit returns to service (R18, R352, R353, R361, R373).
-/
namespace Sys2Proof.Machine

/-- A PCIe port is fenced: its link goes to Disabled and stays there (R306, R307, R352). -/
def fencePort (s : State) (p : Nat) : State :=
  if !isPcie s p then s
  else
    let s := portEvent (setPs s p Fld.PORT_STATUS_FENCED 1) p Ev.fenced
    if servesComposed s p && !(composedOfPort s p).isEmpty then setLtssm (composedLost s p) p Lt.disabled
    else
      let s := portDisabled s p 0x06 false
      match upVsw s p with | some v => vswReset s v | none => s

/-- A Calez link is fenced: an ACTIVE link goes down with reason 0x0D, any other returns to RESET; it is held there (R188, R352). -/
def fenceCalez (s : State) (n : Nat) : State :=
  if (linkPort s n).isNone then s
  else if czLive s n then czDown s n Dn.fenced
  else if czState s n = Cz.reset then s
  else setCz (enterReset s n Dn.fenced) n Fld.CZ_STATUS_PASS 0

/-- The LPDDR4X controller is fenced: its contents are not kept, and the dirty copies in them are lost (R252, R352). -/
def fenceDdr (s : State) : State :=
  let s := { s with mem := [], ddr := ⟨[], [], 0, false⟩ }
  forEach (s.mover.insts.map (fun e => e.1)) (wr s Reg.DDR_STATUS 0) dirtyLost

/-- The SP fences a unit (R352). -/
def fenceApply (s : State) (u : UnitId) : State :=
  let i := u.index
  if u.kind = Uk.tile then
    let s := forEach ((List.range 4).filter (slotOn s i)) s (fun s k => slotDown s i k)
    tileGoOff s i
  else if u.kind = Uk.port then fencePort s i
  else if u.kind = Uk.calez then fenceCalez s i
  else if u.kind = Uk.engine then engGo s i
  else if u.kind = Uk.mgmt then { s with pwr := { s.pwr with coresHeld := true, reloading := false } }
  else if u.kind = Uk.ddr then fenceDdr s
  else s

/-- A unit that is no longer fenced returns to service (R352, R459). -/
def fenceRelease (s : State) (u : UnitId) : State :=
  let i := u.index
  if u.kind = Uk.tile then tileWake s i
  else if u.kind = Uk.port then trainFromDetect (setPs s i Fld.PORT_STATUS_FENCED 0) i
  else if u.kind = Uk.calez then (if (linkPort s i).isSome then tileWake s (i / 4) else s)
  else if u.kind = Uk.engine then forEach (s.mover.insts.map (fun e => e.1)) s fetchNext
  else if u.kind = Uk.mgmt then { s with pwr := { s.pwr with reloading := !isSet s Reg.BOOT_STATUS Fld.BOOT_STATUS_RECOVERY } }
  else if u.kind = Uk.ddr then wr { s with ddr := { s.ddr with kept := true } } Reg.DDR_STATUS 0x80000000
  else s

/-- The reloaded firmware runs (R352): commands that the firmware before it held are gone without a reply (R18). -/
def firmwareReloaded (s : State) : State :=
  if !s.pwr.reloading || isFenced s ⟨Uk.mgmt, 0⟩ then s
  else
    { s with pwr := { s.pwr with coresHeld := false, reloading := false },
             icp := { s.icp with fwQ := [], quiesces := [], running := s.icp.running.filter (fun r => !byFirmware r.opcode) },
             mover := { s.mover with quiesces := [], insts := s.mover.insts.map (fun e =>
               (e.1, { e.2 with relay := none, dirty := e.2.dirty.map (fun d => { d with harvest := none }) })) }, fab := { s.fab with syncs := [] } }

end Sys2Proof.Machine
end

