-- ==== Sys2Proof/Machine/JnlOps.lean ====
section
/-!
DEFINITION. Machine/JnlOps.lean: DARN and the journal in flash (R406–R412).
-/
namespace Sys2Proof.Machine

/-- Sectors of the journal. -/
abbrev jnlSectors : Nat := 16384

/-- A sector as it leaves manufacture: erased, never used. -/
def JSector.blank : JSector := { erased := true, eraseCnt := 0, headed := false, retired := false, recs := [], torn := 0 }

/-- One sector, and a sector changed. -/
def jSector (s : State) (k : Nat) : JSector := agetD s.flash.journal (k % jnlSectors) JSector.blank
def modSector (s : State) (k : Nat) (f : JSector → JSector) : State :=
  { s with flash := { s.flash with journal := aput s.flash.journal (k % jnlSectors) (f (jSector s k)) } }

/-- The head sector. -/
def jnlHead (s : State) : Nat := getF s Reg.JNL_STATUS Fld.JNL_STATUS_HEAD

/-- Every one of the fifteen record slots of a sector is used. -/
def JSector.full (x : JSector) : Bool := decide (15 ≤ x.recs.length + x.torn)

/-- The first sector from `k` on, in ring order, that a test picks; retired sectors are skipped. -/
def jnlFind (s : State) (p : JSector → Bool) : Nat → Nat → Option Nat
  | 0, _ => none
  | fuel + 1, k =>
    let x := jSector s k
    if !x.retired && p x then some (k % jnlSectors) else jnlFind s p fuel (k + 1)

/-- Erased sectors from `k` on before the next that is not, retired ones skipped, held at 63. -/
def jnlAhead (s : State) : Nat → Nat → Nat → Nat
  | 0, _, n => n
  | fuel + 1, k, n =>
    let x := jSector s k
    if x.retired then jnlAhead s fuel (k + 1) n
    else if !x.erased then n
    else if n = 62 then 63
    else jnlAhead s fuel (k + 1) (n + 1)

/-- The reserve: erased sectors ahead of the head (R409). -/
def jnlReserve (s : State) : Nat := jnlAhead s (jnlSectors - 1) (jnlHead s + 1) 0

/-- The age of DARN begins when the reserve falls below 4 sectors; it ends, and the level is NORMAL, once it has them again (R400). -/
def darnReserve (s : State) : State :=
  if jnlReserve s < 4 then
    (match aget s.bg.since 16 with
     | some _ => s
     | none => { s with bg := { s.bg with since := aput s.bg.since 16 s.time } })
  else setF { s with bg := { s.bg with since := adel s.bg.since 16 } } Reg.JNL_STATUS Fld.JNL_STATUS_LEVEL 0

/-- A sector is retired (R409): WHY 0 an erase failed, 1 a program failed, 2 worn; a type 0x05 record says so. -/
def sectorRetire (s : State) (k why : Nat) : State :=
  let s := bump (modSector s k (fun x => { x with retired := true })) Reg.JNL_RETIRED
  journalAdd s 5 (natLe 4 (k % jnlSectors) ++ natLe 1 why) []

/-- The head stands on a sector with a free slot: it moves to the next erased one when its own is full or retired (R409). -/
def headReady (s : State) : Option State :=
  let x := jSector s (jnlHead s)
  if !x.retired && !x.full && (x.headed || x.erased) then some s
  else
    match jnlFind s (fun y => y.erased) (jnlSectors - 1) (jnlHead s + 1) with
    | some k => some (darnReserve (setF s Reg.JNL_STATUS Fld.JNL_STATUS_HEAD k))
    | none => none

/-- At its first use after an erase a sector gets its header, with ERASE_CNT increased by one (R409). -/
def sectorHeader (s : State) (k : Nat) : State :=
  let x := jSector s k
  if x.headed then s else modSector s k (fun x => { x with headed := true, erased := false, eraseCnt := x.eraseCnt + 1 })

/-- A record has been programmed into the next slot of the head sector: it is committed, and the CORRECTED faults that it journals clear
themselves (R407, R363). -/
def recordCommit (s : State) (r : JRec) : State :=
  let s := modSector s (jnlHead s) (fun x => { x with recs := x.recs ++ [r] })
  let s := wr s Reg.JNL_SEQ (BitVec.ofNat 64 (r.seq + 1))
  let s := bump { s with bg := { s.bg with jbuf := s.bg.jbuf.drop 1 } } Reg.JNL_WRITE_CNT
  forEach r.clears s (fun s c => selfClear s c.1 c.2)

/-- The page program of the oldest buffered record ends (R407–R410).  One that fails retires its sector, and the record is written again in
the next one; a sector whose ERASE_CNT reaches 100,000 is retired. -/
def journalCommit (s : State) (ok : Bool) : State :=
  match s.bg.jbuf with
  | [] => s
  | r :: _ =>
    match headReady s with
    | none => s
    | some s =>
      let k := jnlHead s
      if !ok then sectorRetire s k 1
      else
        let fresh := !(jSector s k).headed
        let s := recordCommit (sectorHeader s k) r
        if fresh && decide (100000 ≤ (jSector s k).eraseCnt) then sectorRetire s k 2 else s

/-- Every buffered record is committed, `n` at most; the count of those that were. -/
def journalFlush : Nat → State → Nat × State
  | 0, s => (0, s)
  | n + 1, s =>
    if s.bg.jbuf.isEmpty ∨ (headReady s).isNone then (0, s)
    else let (k, s) := journalFlush n (journalCommit s true); (k + 1, s)

/-- The reserve has fallen below 4 sectors: DARN begins to erase the next sector ahead that is not erased (R409). -/
def darnErase (s : State) : State :=
  match s.bg.erasing with
  | some _ => s
  | none =>
    if jnlReserve s < 4 then
      match jnlFind s (fun x => !x.erased) (jnlSectors - 1) (jnlHead s + 1) with
      | some k => modSector { s with bg := { s.bg with erasing := some k } } k (fun x => { x with recs := [], torn := 0 })
      | none => s
    else s

/-- The sector erase in progress ends; it is suspended while a record waits (R408, R409). -/
def eraseDone (s : State) (ok : Bool) : State :=
  match s.bg.erasing with
  | none => s
  | some k =>
    if !s.bg.jbuf.isEmpty then s
    else
      let s := { s with bg := { s.bg with erasing := none } }
      if ok then darnReserve (modSector s k (fun x => { x with erased := true, headed := false, recs := [], torn := 0 }))
      else sectorRetire s k 0

/-- At a loss of supply the record being written may be torn (R396). -/
def journalTear (s : State) : State :=
  match s.bg.jbuf, headReady s with
  | _ :: _, some s =>
    let (r, s) := draw s 1
    let k := jnlHead s
    if r = 1 then modSector (sectorHeader s k) k (fun x => { x with torn := x.torn + 1 }) else s
  | _, _ => s

/-- The sector with the highest SEQ, and that SEQ (R412). -/
def jnlNewest (s : State) : Option (Nat × Nat) :=
  s.flash.journal.foldl (fun b e =>
    let top := (e.2.recs.map (fun r => r.seq)).foldl max 0
    if e.2.recs.isEmpty then b
    else match b with
      | some (k, q) => if q < top then some (e.1, top) else some (k, q)
      | none => some (e.1, top)) none

/-- The scan of the journal at a boot (R412): the head is the sector with the highest SEQ, JNL_SEQ goes on after it, torn records of that
sector are counted, retired sectors too. -/
def journalScan (s : State) : State :=
  let n := jnlNewest s
  let head := match n with | some (k, _) => k | none => (jnlFind s (fun _ => true) jnlSectors 0).getD 0
  let seq := max s.bg.seqFloor (match n with | some (_, q) => q + 1 | none => 0)
  let s := wr s Reg.JNL_STATUS (Fld.JNL_STATUS_HEAD.set 0 head)
  let s := wr s Reg.JNL_SEQ (BitVec.ofNat 64 seq)
  let s := bumpN s Reg.JNL_TORN_CNT (jSector s head).torn
  let s := wr s Reg.JNL_RETIRED (BitVec.ofNat 64 ((s.flash.journal.filter (fun e => e.2.retired)).length))
  darnReserve { s with bg := { s.bg with erasing := none } }

end Sys2Proof.Machine
end

