-- ==== Sys2Proof/Machine/FwOps.lean ====
section
/-!
DEFINITION. Machine/FwOps.lean: firmware images, their staging and activation, configuration storage, keys (R429–R445).
-/
namespace Sys2Proof.Machine

/-! ### The firmware image (R435, R436) -/

/-- Fields of a manifest. -/
def fwSvn (b : List Byte) : Nat := num b 5 1 % 64
def fwCount (b : List Byte) : Nat := num b 6 1
def fwVer (b : List Byte) : Nat := num b 8 4
def fwFloor (b : List Byte) : Nat := num b 12 4
def fwMlen (b : List Byte) : Nat := num b 16 4
def fwTotal (b : List Byte) : Nat := num b 20 4

/-- The section table: TYPE, OFS, LEN, LOAD and the place of DIGEST. -/
def fwSections (b : List Byte) : List (Nat × Nat × Nat × Nat × Nat) :=
  (List.range (fwCount b)).map (fun i =>
    let o := 32 + 48 * i
    (num b o 1, num b (o + 4) 4, num b (o + 8) 4, num b (o + 12) 4, o + 16))

/-- The sections do not lie as R435 and R436 ask. -/
def sectionsBad (b : List Byte) : Bool :=
  let l := fwSections b
  l.any (fun (ty, ofs, len, load, _) => (ty != 1 && ty != 2) || ofs % 4096 != 0 || decide (ofs < fwMlen b + sigLen) || len == 0 ||
      decide (fwTotal b < ofs + len) || decide (2097152 < load + len)) ||
    (List.range l.length).any (fun i => (List.range i).any (fun j =>
      match l[i]?, l[j]? with
      | some (_, _, n, a, _), some (_, _, m, c, _) => decide (a < c + m) && decide (c < a + n)
      | _, _ => false))

/-- ERR of an image at offset 0 of a firmware area (R436, BOOT_STATUS); 0: it is valid. -/
def fwErr (s : State) (b : List Byte) : Nat :=
  let blk := (b.drop (fwMlen b)).take sigLen
  if num b 0 4 ≠ 0x4D462560 ∨ num b 4 1 ≠ 1 ∨ fwCount b = 0 ∨ 16 < fwCount b ∨ fwMlen b ≠ 32 + 48 * fwCount b ∨ 4194304 < fwTotal b then 0x02
  else if !keyOk s blk then 0x03
  else if !sigOk (b.take (fwMlen b)) blk then 0x04
  else if fwSvn b < s.otp.fwArb then 0x05
  else if sectionsBad b then 0x06
  else if (fwSections b).any (fun (_, ofs, len, _, d) => Config.sha3 ((b.drop ofs).take len) != num b d 32) then 0x07
  else 0

/-- FW_MEASURE of an image. -/
def fwMeasure (b : List Byte) : Nat := Config.sha3 (b.take (fwMlen b))

/-! ### Staging (R344, R442) -/

/-- Bytes written at an offset of a flash area that is written in order: each 64 KiB block is erased when writing reaches it. -/
def areaWrite (old : List Byte) (ofs : Nat) (data : List Byte) : List Byte :=
  let end_ := ofs + data.length
  let blockEnd := (end_ + 65535) / 65536 * 65536
  old.take ofs ++ data ++ List.replicate (blockEnd - end_) 0xFF#8 ++ old.drop blockEnd

/-- STAGE_STATUS. -/
def setStaged (s : State) (staged total : Nat) : State := wr s Reg.STAGE_STATUS (BitVec.ofNat 64 (staged * 2 ^ 32 + total))
def staged (s : State) : Nat := getF s Reg.STAGE_STATUS Fld.STAGE_STATUS_STAGED
def stageTotal (s : State) : Nat := getF s Reg.STAGE_STATUS Fld.STAGE_STATUS_TOTAL

/-- A staging stream has begun and has not reached its TOTAL. -/
def stagingBusy (s : State) : Bool := s.pwr.staging.active && decide (staged s < stageTotal s)

/-- FW_STAGE. -/
def fwStage (r : IcpReq) (s : State) : State :=
  let ofs := num r.payload 0 4
  let total := num r.payload 4 4
  let data := r.payload.drop 8
  let st := s.pwr.staging
  if total < ofs + data.length ∨ 4194304 < total ∨ (ofs ≠ 0 ∧ (!st.active ∨ ofs ≠ staged s ∨ total ≠ stageTotal s)) then refuse s r St.notPermitted
  else
    let s := modBank s (1 - curBank s) (fun b => { b with fw := areaWrite b.fw ofs data })
    let s := { s with pwr := { s.pwr with staging := { st with active := true } } }
    reply (setStaged s (ofs + data.length) total) r St.ok []

/-! ### FW_ACTIVATE (R232, R443) -/

/-- The image staged in the inactive bank. -/
def stagedImage (s : State) : List Byte := (bankOf s (1 - curBank s)).fw

/-- A named configuration of the stored primary selection would fail a CFG_FLOOR. -/
def floorFails (s : State) (floor : Nat) : Bool :=
  match selNow s with
  | none => false
  | some r =>
    (match findImage s 0 r.pConfig with | some b => decide (imgSeq b < floor) | none => false) ||
      (r.pOverlay != 0 && (match findImage s 1 r.pOverlay with | some b => decide (imgSeq b < floor) | none => false))

/-- The status with which FW_ACTIVATE fails its checks, or OK. -/
def activateCheck (s : State) : Nat :=
  if !s.pwr.staging.active || stagingBusy s then St.noResource
  else if fwErr s (stagedImage s) ≠ 0 then St.authFail
  else if floorFails s (fwFloor (stagedImage s)) then St.authFail
  else St.ok

/-- A new version of the bank record. -/
def bankWrite (s : State) (active prev trial version : Nat) : State :=
  let g := (match s.flash.bankRec.newest bankRead (fun r => r.gen) with | some r => r.gen + 1 | none => 1)
  { s with flash := { s.flash with bankRec := s.flash.bankRec.push bankGen (BankRec.bytes ⟨active, prev, trial, g, version⟩) } }

/-- FW_ACTIVATE goes ahead: ACCEPTED, the configuration area copied, the bank record written, a warm reset with cause 0x0A. -/
def activateGo (s : State) (r : IcpReq) : State :=
  let s := sendReply s r St.accepted []
  let cur := curBank s
  let src := bankOf s cur
  let keep := src.slots.filter (fun e => imageBad s 0 e.2 == 0 || imageBad s 1 e.2 == 0)
  let s := modBank s (1 - cur) (fun b => { b with slots := keep, sel := ⟨match selNow s with | some x => [x.bytes] | none => [], []⟩ })
  let s := bankWrite s (1 - cur) cur 1 (fwVer (stagedImage s))
  { s with pwr := { s.pwr with warmReq := some (s.pwr.warmReq.getD (0x0A, 0, 0)) } }

/-- FW_ACTIVATE. -/
def fwActivate (r : IcpReq) (s : State) : State :=
  let dry := bitAt r.payload 0 0
  let st := twinState s
  let busy := modeBusy s
  if mode s = 4 ∧ st = 4 then refuse s r St.twinDisagree
  else if mode s = 4 ∧ (st ≠ 2 ∨ busy) then refuse s r St.busy
  else
    let c := activateCheck s
    if c ≠ St.ok then refuse s r c
    else if dry then reply s r St.ok []
    else if mode s = 4 then
      if !(vswitches s).all (vswQuiesced s) then refuse s r St.busy
      else startHandover { s with twin := { s.twin with fwAfter := true } } 0 (some r)
    else activateGo s r

/-! ### Configuration storage (R344, R441) -/

/-- The bytes of an image slot that a CONFIG_STORE stream has written so far. -/
def slotBytes (s : State) (slot : Nat) : List Byte := agetD (bankOf s (curBank s)).slots slot []

/-- The lowest free image slot. -/
def freeSlot (s : State) : Option Nat := (List.range 12).find? (fun k => (aget (bankOf s (curBank s)).slots k).isNone)

def putSlot (s : State) (slot : Nat) (b : List Byte) : State := modBank s (curBank s) (fun x => { x with slots := aput x.slots slot b })
def eraseSlot (s : State) (slot : Nat) : State := modBank s (curBank s) (fun x => { x with slots := adel x.slots slot })

/-- A slot that is complete is verified (R441). -/
def storeDone (s : State) (r : IcpReq) (slot : Nat) : State :=
  let s := { s with pwr := { s.pwr with staging := { s.pwr.staging with cfg := none } } }
  let b := slotBytes s slot
  let k := imgKind b
  if 1 < k ∨ imageBad s k b ≠ 0 then refuse (eraseSlot s slot) r St.authFail
  else
    let s := modBank (keepKey s (imgBlk b)) (curBank s) (fun x => { x with slots := x.slots.filter (fun e => e.1 == slot || imgId e.2 != imgId b) })
    reply s r St.ok []

/-- CONFIG_STORE. -/
def configStore (r : IcpReq) (s : State) : State :=
  let ofs := num r.payload 0 4
  let total := num r.payload 4 4
  let data := r.payload.drop 8
  if total < ofs + data.length then refuse s r St.notPermitted
  else
    let go := fun (s : State) (slot : Nat) =>
      let s := putSlot s slot (slotBytes s slot ++ data)
      let s := { s with pwr := { s.pwr with staging := { s.pwr.staging with cfg := some (slot, total) } } }
      if ofs + data.length = total then storeDone s r slot else reply s r St.ok []
    if ofs = 0 then
      let s := match s.pwr.staging.cfg with | some (k, _) => eraseSlot s k | none => s
      match freeSlot s with
      | none => refuse { s with pwr := { s.pwr with staging := { s.pwr.staging with cfg := none } } } r St.noResource
      | some slot => if 327680 < total then refuse s r St.noResource else go s slot
    else
      match s.pwr.staging.cfg with
      | some (slot, t) => if t = total ∧ (slotBytes s slot).length = ofs then go s slot else refuse s r St.notPermitted
      | none => refuse s r St.notPermitted

/-! ### The stored selection (R33, R344) -/

/-- The status with which the images named for a mode fail the checks of R33. -/
def selCheck (s : State) (m config overlay : Nat) : Nat :=
  match findImage s 0 config with
  | none => St.noResource
  | some b =>
    if imageBad s 0 b ≠ 0 then St.authFail
    else if imgMode b ≠ m then St.wrongMode
    else if overlay = 0 then St.ok
    else
      match findImage s 1 overlay with
      | none => St.noResource
      | some o => if imageBad s 1 o ≠ 0 then St.authFail else if imgMode o ≠ m then St.wrongMode else St.ok

/-- SELECTION_WRITE. -/
def selectionWrite (r : IcpReq) (s : State) : State :=
  let p := r.payload
  let once := bitAt p 1 0
  let a := selCheck s (num p 0 1) (num p 4 4) (num p 8 4)
  let b := if once then selCheck s (num p 12 1) (num p 16 4) (num p 20 4) else St.ok
  if a ≠ St.ok then refuse s r a
  else if b ≠ St.ok then refuse s r b
  else reply (selWrite s ⟨num p 0 1, once, num p 4 4, num p 8 4, num p 12 1, num p 16 4, num p 20 4, 0⟩) r St.ok []

/-! ### FLASH_MAINT (R344, R412, R442) -/

/-- The journal region is erased: retired sectors stay out of use, SEQ goes on (R412). -/
def journalErase (s : State) : State :=
  let j := s.flash.journal.map (fun e => (e.1, { e.2 with erased := true, headed := false, recs := [], torn := 0 }))
  darnReserve { s with flash := { s.flash with journal := j }, bg := { s.bg with erasing := none, seqFloor := (rd s Reg.JNL_SEQ).toNat } }

/-- The inactive bank is erased, and staging ends. -/
def bankErase (s : State) : State :=
  setStaged (modBank { s with pwr := { s.pwr with staging := { s.pwr.staging with active := false } } } (1 - curBank s) (fun _ => ⟨[], ⟨[], []⟩, []⟩)) 0 0

/-- FLASH_MAINT: OP 1 rewrites every header as it stands, for every header of the model is readable. -/
def flashMaint (r : IcpReq) (s : State) : State :=
  let op := num r.payload 0 1
  if 2 < op then refuse s r St.notPermitted
  else if stagingBusy s then refuse s r St.busy
  else
    let s := sendReply s r St.accepted []
    reply (if op = 0 then journalErase s else if op = 2 then bankErase s else s) r St.ok []

/-! ### Keys (R343, R433, R434, R444, R445) -/

/-- Seeds of the identity and alias keys. -/
def identitySeed (s : State) : Nat := Config.sha3 ([0x47#8, 0x56#8, 0x32#8, 0x35#8, 0x36#8, 0x2D#8, 0x49#8, 0x44#8] ++ natLe 32 s.otp.uds)
def aliasSeed (s : State) : Nat := Config.sha3 (natLe 32 (identitySeed s) ++ getData s Reg.FW_MEASURE 4)

/-- GET_IDENTITY. -/
def getIdentity (r : IcpReq) (s : State) : State :=
  let k := num r.payload 0 1
  if 1 < k then refuse s r St.notPermitted
  else
    let pub := fit 1312 (Config.mldsaPublic (if k = 0 then identitySeed s else aliasSeed s))
    reply s r St.ok (natLe 1 k ++ [0#8] ++ natLe 2 1312 ++ zeros 4 ++ pub ++ natLe 32 (Config.sha3 pub))

/-- OTP_REVOKE. -/
def otpRevoke (r : IcpReq) (s : State) : State :=
  let slot := num r.payload 0 1
  let signer := num r.payload 1 1
  if 3 < slot ∨ setBit s.otp.keyRevoked slot % 16 = 15 then refuse s r St.notPermitted
  else
    match aget s.pwr.keptKeys signer with
    | none => refuse s r St.authFail
    | some pub =>
      if num r.payload 4 8 = s.otp.serial ∧ !s.otp.keyRevoked.testBit signer ∧
          Config.mldsaVerify (Config.sha3 pub) (r.payload.take 12) ((r.payload.drop 12).take 2420) then
        let s := { s with otp := { s.otp with keyRevoked := setBit s.otp.keyRevoked slot } }
        reply (setF s Reg.OTP_STATE Fld.OTP_STATE_KEY_REVOKED s.otp.keyRevoked) r St.ok []
      else refuse s r St.authFail

end Sys2Proof.Machine
end

