-- ==== Sys2Proof/Machine/IcpCmds.lean ====
section
/-!
DEFINITION. Machine/IcpCmds.lean: the ICP commands of the firmware and the SP decoder (R165, R230, R309, R335–R345, R361, R364, R366).
-/
namespace Sys2Proof.Machine

/-- An ICP command that a MODE_ACTIVATE or FW_ACTIVATE may refuse with BUSY (R329). -/
def icpRun (s : State) (d : Decoder) (opcode : Nat) (f : IcpReq → State → State) : State :=
  icpCommand s d opcode (fun r s => if actBusy s opcode then refuse s r St.busy else f r s)

/-! ### Device and ports (R309, R335, R336) -/

/-- DEVICE_INFO. -/
def deviceInfo (r : IcpReq) (s : State) : State :=
  reply s r St.ok ([0xB0#8] ++ natLe 1 (mode s) ++ natLe 1 (twinState s) ++ [0#8] ++ natLe 2 (nodeId s) ++ zeros 2 ++
    regBytes s Reg.GLB_CONFIG_ID 4 ++ regBytes s Reg.GLB_OVERLAY_ID 4 ++ natLe 4 (fwVersion s) ++ natLe 1 (curBank s) ++ zeros 3 ++ natLe 8 s.time)

/-- The enabled vSwitches that a mask names. -/
def namedVsws (s : State) (mask : Nat) : List Nat := (vswitches s).filter mask.testBit

/-- VSW_QUIESCE: the reply waits for VSW_QUIESCED, but for the one that lifts. -/
def vswQuiesce (r : IcpReq) (s : State) : State :=
  let p := r.payload
  let mask := num p 0 4
  let op := num p 4 1
  let vs := namedVsws s mask
  if 1 < op then refuse s r St.notPermitted
  else if op = 1 then reply (forEach vs s (fun s v => s.modVsw v (fun x => { x with refusing := false }))) r St.ok (zeros 8)
  else
    let s := forEach vs s (fun s v => s.modVsw v (fun x => { x with refusing := true }))
    let s := if bitAt p 5 0 then
        forEach vs s (fun s v => forEach ((instsOf s v).filter (fun n => instState s n == Im.enabled)) s (fun s n => instQuiesce s n false false))
      else s
    { s with icp := { s.icp with quiesces := s.icp.quiesces ++ [⟨r, mask⟩] } }

/-- Every vSwitch that a VSW_QUIESCE names is quiesced, or WAIT passes: one whose vSwitches are all quiesced is answered OK, else the oldest
that waits TIMEOUT. -/
def quiesceReply (s : State) : State :=
  let left := fun (w : QuiesceWait) => vswMask ((namedVsws s w.mask).filter (fun v => !vswQuiesced s v))
  let go := fun (w : QuiesceWait) (st : Nat) =>
    reply { s with icp := { s.icp with quiesces := s.icp.quiesces.erase w } } w.req st (natLe 4 (left w) ++ zeros 4)
  match s.icp.quiesces.find? (fun w => left w == 0), s.icp.quiesces with
  | some w, _ => go w St.ok
  | none, w :: _ => go w St.timeout
  | none, [] => s

/-- PORT_CONTROL. -/
def portControl (r : IcpReq) (s : State) : State :=
  let p := num r.payload 0 1
  let op := num r.payload 1 1
  if 5 < op ∨ 64 ≤ p ∨ !isPcie s p then refuse s r St.notPermitted
  else if isFenced s ⟨Uk.port, p⟩ then refuse s r St.fenced
  else if 4 ≤ op ∧ (sigBind s p Sig.perst).isNone then refuse s r St.notSupported
  else if (s.port p).slotCmd.isSome then refuse s r St.busy
  else
    let s := match op with
      | 0 => portRelease s p
      | 1 => setDisable s p true
      | 2 => setDisable s p false
      | 3 => retrain s p
      | 4 => perstForce s p true
      | _ => perstForce s p false
    reply s r St.ok []

/-! ### Table commands (R165, R210, R211, R338, R339) -/

/-- In mode 4 a table command is not begun while a transaction runs, for they are applied one at a time (R329). -/
def tableWaits (s : State) : Bool :=
  mode s == 4 && ((match s.twin.coord with | some c => c.step != .settling | none => false) || s.twin.staged.isSome)

/-- FAM_WRITE (kind 0), ROUTE_WRITE (1) and BIND_WRITE (2): outside mode 4 applied here; in mode 4 a transaction of the pair, or, from the
partner, the mirrored write (R165). -/
def tableWrite (kind : Nat) (r : IcpReq) (s : State) : State :=
  let p := r.payload
  let refused := fun (s : State) (st i : Nat) => reply s r st (tablePayload s r.opcode i)
  if mode s ≠ 4 then
    match tableRefused s kind true p with
    | some i => refused s St.notPermitted i
    | none => tableStore s kind true (some r) p
  else if s.twin.resync.isSome then refused s St.busy 0
  else if twinState s ≠ 2 then refused s St.twinDisagree 0
  else if r.chan = Ch.twin then
    match tableRefused s kind false p with
    | some i => refused s St.notPermitted i
    | none => tableStore s kind false (some r) p
  else if s.twin.coord.isSome then refused s St.busy 0
  else if isFenced s ⟨Uk.cvu, 6⟩ || isFenced s ⟨Uk.cvu, 7⟩ then refused s St.twinDisagree 0
  else
    match tableRefused s kind true p with
    | some i => refused s St.notPermitted i
    | none => txnStart s kind p (some r)

/-- The row of a table command. -/
def tableCommand (s : State) (opcode kind : Nat) : State := if tableWaits s then s else icpRun s .fw opcode (tableWrite kind)

/-- EPOCH_SYNC: its reply is EPOCH_SYNC_COMPLETE's; with BOTH in mode 4 the partner is asked too. -/
def epochSync (r : IcpReq) (s : State) : State :=
  let target := num r.payload 0 4
  let both := mode s == 4 && bitAt r.payload 4 0
  if mode s = 4 ∧ s.twin.resync.isSome then refuse s r St.busy
  else if epoch s < target then refuse s r St.notPermitted
  else if both && !(twinState s == 2 && twinLive s) then refuse s r St.twinDisagree
  else
    let w : EpochWait := ⟨r, if target = 0 then epoch s else target, s.fab.flagged, both, false, 0⟩
    let s := { s with fab := { s.fab with syncs := s.fab.syncs ++ [w] } }
    if both then twinSend s 0x0208 (zeros 8) else s

/-- Entries, most entries of a reply and the bytes of an entry of a table (R339). -/
def tableShape (t : Nat) : Nat × Nat :=
  match t with
  | 0 => (131072, 127) | 1 => (16384, 254) | 2 => (4096, 63) | 3 => (16384, 63) | 4 => (65536, 127) | _ => (262144, 169)

def tableEntry (s : State) (t : Nat) (shadow : Bool) (i : Nat) : List Byte :=
  match t, shadow with
  | 0, false => famBytes s i
  | 0, true => shadowFamBytes s i
  | 1, false => bindBytes s i
  | 1, true => shadowBindBytes s i
  | 2, false => routeBytes s i
  | 2, true => shadowRouteBytes s i
  | 3, _ => meterBytes s i
  | 4, _ => frcBytes s i
  | _, _ => ctxBytesAt s i

/-- TABLE_READ. -/
def tableRead (r : IcpReq) (s : State) : State :=
  let p := r.payload
  let t := num p 0 1
  let shadow := bitAt p 1 0
  let first := num p 4 4
  let (size, most) := tableShape t
  if 5 < t ∨ size ≤ first ∨ (shadow ∧ (2 < t ∨ mode s ≠ 4)) then refuse s r St.notPermitted
  else
    let n := min (num p 8 2) (min most (size - first))
    reply s r St.ok (natLe 2 n ++ zeros 6 ++ (List.range n).flatMap (fun i => tableEntry s t shadow (first + i)))

/-! ### ORBIT (R340) -/

/-- ORBIT_CONFIG: the report numbers and the ring begin anew. -/
def orbitConfig (r : IcpReq) (s : State) : State :=
  let p := r.payload
  let period := num p 0 4
  let dest := num p 4 1
  let v := num p 5 1
  let addr := num p 8 8
  let lg := num p 16 1
  let bad := decide (1 < dest) || (period != 0 && (decide (period < 10) || decide (10000 < period) ||
    (dest == 0 && (decide (31 < v) || addr % 4096 != 0 || decide (lg < 12) || decide (30 < lg)))))
  if bad then refuse s r St.notPermitted
  else
    let s := wr s Reg.ORBIT_CFG (BitVec.ofNat 64 (period * 2 ^ 32 + dest * 2 ^ 29 + v % 32 * 2 ^ 24 + lg % 32))
    let s := wr (wr s Reg.ORBIT_ADDR (BitVec.ofNat 64 (addr / 4096 * 4096))) Reg.ORBIT_SETS (BitVec.ofNat 64 (num p 24 8))
    reply { s with bg := { s.bg with orbitSeq := 0, orbitOfs := 0, since := if period = 0 then adel s.bg.since 17 else aput s.bg.since 17 (s.time + ms period) } } r St.ok []

/-! ### Energy (R341) -/

/-- The port of a slot belongs to its host (R341). -/
def hostOwned (s : State) (n : Nat) : Bool :=
  decide (mode s ≤ 4) && (match egvHpPort s n with | some p => (directBridge s p).isSome | none => false)

/-- SLOT_POWER. -/
def slotPowerCmd (r : IcpReq) (s : State) : State :=
  let n := num r.payload 0 1
  let op := num r.payload 1 1
  let answer := fun (s : State) (st : Nat) => reply s r st (natLe 1 (egvState s n) ++ zeros 7)
  if 31 < n ∨ 1 < op then refuse s r St.notPermitted
  else if hostOwned s n then answer s St.notPermitted
  else if egvState s n = 1 ∨ s.egv.queue.any (fun q => q.slot == n) then answer s St.busy
  else if op = 1 then answer (egvOff s n) St.ok
  else if egvState s n = 2 then answer s St.ok
  else if egvState s n = 3 then answer s St.notPermitted
  else
    match egvStatic s n, egvDynamic s n with
    | some x, _ => answer (egvRefuse s n x) St.noResource
    | none, some x => answer (egvRefuse s n x) St.noResource
    | none, none => answer (egvAdmit s n) St.ok

/-- ENERGY_SET. -/
def energySet (r : IcpReq) (s : State) : State :=
  let p := r.payload
  let n := num p 0 1
  let ramps := num p 1 1
  let inr := num p 2 2
  let stored := num p 4 4
  let window := num p 8 4
  if n = 0xFF then
    if ramps < 1 ∨ 8 < ramps ∨ inr ≠ 0 ∨ stored ≠ 0 ∨ window < 1000 ∨ 4000000 < window then refuse s r St.notPermitted
    else reply (wr (setF s Reg.EGV_CTRL Fld.EGV_CTRL_MAX_RAMPS ramps) Reg.EGV_WINDOW (BitVec.ofNat 64 window)) r St.ok (zeros 8)
  else if 31 < n ∨ ramps ≠ 0 ∨ window ≠ 0 ∨ inr < 500 ∨ 20000 < inr ∨ 1000000 < stored then refuse s r St.notPermitted
  else
    let k := Reg.EGV_SLOT_LIM n
    reply (setF (setF s k Fld.EGV_SLOT_LIM_STORED stored) k Fld.EGV_SLOT_LIM_INRUSH inr) r St.ok (zeros 8)

/-- ENERGY_STATUS. -/
def energyStatus (r : IcpReq) (s : State) : State :=
  let n := num r.payload 0 1
  if 31 < n then refuse s r St.notPermitted
  else
    let k := Reg.EGV_SLOT_STATUS n
    reply s r St.ok (natLe 1 (egvState s n) ++ [0#8] ++ natLe 2 (getF s k Fld.EGV_SLOT_STATUS_LAST_INRUSH) ++ natLe 4 (declared s n) ++
      natLe 4 (windowUsed s) ++ natLe 1 s.egv.ramps.length ++ zeros 3)

/-! ### Faults and fences (R342, R361, R363, R364, R366, R367) -/

/-- A safety command enters the journal (R411). -/
def journalSafety (s : State) (r : IcpReq) (cls unit : Nat) : State :=
  journalAdd s 9 (natLe 2 r.opcode ++ natLe 1 r.chan ++ natLe 1 cls ++ natLe 4 unit) []

/-- FAULT_READ. -/
def faultRead (r : IcpReq) (s : State) : State :=
  let c := num r.payload 0 1
  if 4 < c ∧ c ≠ 0xFF then refuse s r St.notPermitted
  else
    let rs := s.fcu.recs.filter (fun e => c == 0xFF || e.1 == c)
    reply s r St.ok (natLe 1 rs.length ++ zeros 7 ++ rs.flatMap (fun e => e.2.bytes))

/-- FAULT_CLEAR: a unit that is then fenced no longer returns to service. -/
def faultClear (r : IcpReq) (s : State) : State :=
  let c := num r.payload 0 1
  let code := num r.payload 4 4
  let u := UnitId.ofCode code
  if 4 ≤ c ∨ u.code ≠ code ∨ !(unitState s u).classes.testBit c then refuse s r St.notPermitted
  else
    let was := isFenced s u
    let s := journalSafety (clearFaults s u c) r c code
    let s := if was && !isFenced s u then fenceRelease s u else s
    reply s r St.ok (zeros 8)

/-- FENCE. -/
def fenceCmd (r : IcpReq) (s : State) : State :=
  let op := num r.payload 0 1
  let code := num r.payload 4 4
  let u := UnitId.ofCode code
  if 1 < op then refuse s r St.notPermitted
  else if u.code ≠ code ∨ !fencible u then reply s r St.ok (zeros 8)
  else
    let was := isFenced s u
    let s := journalSafety (setUnit s { (unitState s u) with cmdFenced := decide (op = 0) }) r 0 code
    if op = 0 then
      reply (if was then s else { s with fcu := { s.fcu with fenceDue := s.fcu.fenceDue ++ [u] } }) r St.ok (zeros 8)
    else if isFenced s u then reply s r St.fenced (zeros 8)
    else reply (if was then fenceRelease s u else s) r St.ok (zeros 8)

/-- RESET: a warm reset begins 1 ms after the reply, a tile reset at once. -/
def resetCmd (r : IcpReq) (s : State) : State :=
  let kind := num r.payload 0 1
  let t := num r.payload 1 1
  if 1 < kind ∨ (kind = 1 ∧ 15 < t) then refuse s r St.notPermitted
  else if kind = 0 then
    if mode s = 4 ∧ !bitAt r.payload 2 0 ∧ (twinState s = 2 ∨ twinState s = 3) then refuse s r St.twinDisagree
    else
      let s := reply (journalSafety s r 0 0) r St.ok (zeros 8)
      match s.pwr.warmReq with
      | some _ => s
      | none => { s with pwr := { s.pwr with warmReq := some (0x09, 0, 0) } }
  else
    let s := reply (journalSafety s r 0 (UnitId.code ⟨Uk.tile, t⟩)) r St.ok (zeros 8)
    let s := forEach ((List.range 4).filter (slotOn s t)) s (fun s i => slotDown s t i)
    tileOn (tileOff s t) t

/-- A unit has a site of a KIND (R366): SRAM in the SP, the packet buffer, the table store and the management complex; a link CRC in ports
and Calez links; a result in a CVU; a comparator in the SP and the FCU. -/
def hasSite (u : UnitId) (kind : Nat) : Bool :=
  match kind with
  | 0 | 1 => (u.kind == Uk.sp || u.kind == Uk.core || u.kind == Uk.table || u.kind == Uk.mgmt) && u.index == 0
  | 2 => (u.kind == Uk.port && u.index < 64) || (u.kind == Uk.calez && u.index < 32)
  | 3 => u.kind == Uk.cvu && u.index < 8
  | 4 => u.kind == Uk.sp && u.index == 0
  | 5 => u.kind == Uk.fcu && u.index == 0
  | _ => false

/-- FAULT_INJECT: a comparator self-test flags its inverted input at once (R367). -/
def faultInject (r : IcpReq) (s : State) : State :=
  let code := num r.payload 0 4
  let u := UnitId.ofCode code
  let site := num r.payload 4 2
  let kind := site / 4096
  if u.code ≠ code ∨ !hasSite u kind then refuse s r St.notPermitted
  else
    let s := match kind with
      | 4 => detectBy s true 0x0001 .corrected Uk.sp 0 (site % 4096)
      | 5 => detectBy s true 0x0004 .corrected Uk.fcu 0 0
      | _ => { s with fcu := { s.fcu with injections := s.fcu.injections ++ [⟨u, kind, site % 4096, max 1 (num r.payload 6 1)⟩] } }
    reply s r St.ok (zeros 8)

/-! ### The pair (R225, R229–R231) -/

/-- TWIN_ROLE. -/
def twinRole (r : IcpReq) (s : State) : State :=
  let op := num r.payload 0 1
  let st := twinState s
  let busy := s.twin.coord.isSome || s.twin.staged.isSome || s.twin.resync.isSome || s.twin.handover.isSome || s.twin.handbackDue.isSome
  match op with
  | 0 =>
    if st ≠ 2 ∨ busy then refuse s r St.busy
    else if !(vswitches s).all (vswQuiesced s) then refuse s r St.notQuiesced
    else startHandover s 0 (some r)
  | 1 => if st ≠ 3 ∨ busy ∨ !resyncEnded s then refuse s r St.busy else startHandover s 1 (some r)
  | 2 => if st = 4 ∧ !twinLive s ∧ hbLost s then reply (takeover s 5) r St.ok [] else refuse s r St.twinDisagree
  | 3 =>
    let set := fun (f : Field) (i : Nat) (s : State) => setF s Reg.TWIN_CTRL f (b2n (bitAt r.payload 1 i))
    reply (set Fld.TWIN_CTRL_AUTO_TAKEOVER 0 (set Fld.TWIN_CTRL_AUTO_HANDBACK 1 s)) r St.ok []
  | _ => refuse s r St.notPermitted

/-! ### ECLIPSE (R345, R417, R420) -/

/-- ECLIPSE_TRIGGER. -/
def eclipseCmd (r : IcpReq) (s : State) : State :=
  let b := num r.payload 0 1
  let paired := bitAt r.payload 1 0
  if 1 < b then refuse s r St.notPermitted
  else if paired && !(mode s == 4 && twinState s == 2) then refuse s r St.twinDisagree
  else reply (eclLatch s b 1 paired true) r St.ok (natLe 8 s.time)

/-- A trigger between a latch edge and its AON latch waits for that latch. -/
def eclipseCommand (s : State) : State := if s.bg.eclBusy.isSome then s else icpRun s .fw 0x0A01 eclipseCmd

end Sys2Proof.Machine
end

