-- ==== Sys2Proof/Machine/BgOps.lean ====
section
/-!
DEFINITION. Machine/BgOps.lean: background work: ages, levels, LAUNDER, the scrub of the SP SRAM (R400–R405).
-/
namespace Sys2Proof.Machine

/-- The SP runs: it has left reset and nothing holds it (R380, R387). -/
def spUp (s : State) : Bool := powered s && !dormant s && s.pwr.phase != .waitXo

/-! ### Ages and levels (R400, R401) -/

/-- The unit of a background activity (R401): 1 LAUNDER, 2 DARN, 3 ORBIT. -/
def bgIndex (key : Nat) : Nat := if key < 6 then 1 else if key = 16 then 2 else 3

/-- PERIOD of ORBIT in ms, 0 while it is stopped. -/
def orbitPeriod (s : State) : Nat := getF s Reg.ORBIT_CFG Fld.ORBIT_CFG_PERIOD

/-- Deadline of an instance in ms: keys 0–5 the LAUNDER regions, 16 DARN, 17 ORBIT. -/
def bgDeadline (s : State) (key : Nat) : Nat :=
  if key < 5 then 1000 * max 10 (min 600 (getF s Reg.LD_PERIOD Fld.LD_PERIOD_SRAM_S))
  else if key = 5 then 3600000 * max 1 (min 168 (getF s Reg.LD_PERIOD Fld.LD_PERIOD_DDR_H))
  else if key = 16 then 1000
  else orbitPeriod s

/-- Age of an instance; a LAUNDER region that has ended no pass counts from the start of the reset, DARN has an age only while its reserve
is short, ORBIT only while it runs. -/
def bgAge (s : State) (key : Nat) : Nat :=
  if key < 6 then s.time - agetD s.bg.since key 0
  else if key = 17 ∧ orbitPeriod s = 0 then 0
  else match aget s.bg.since key with | some t => s.time - t | none => 0

/-- CRIT_MULT as in force. -/
def critMult (s : State) : Nat := max 2 (getF s Reg.BG_CTRL Fld.BG_CTRL_CRIT_MULT)

/-- The level that an age gives: 0 NORMAL, 1 URGENT, 2 CRITICAL. -/
def levelOf (s : State) (age deadline : Nat) : Nat :=
  if critMult s * deadline < age then 2 else if deadline < age then 1 else 0

/-- Where the level of an instance is read. -/
def bgField (key : Nat) : Nat × Field :=
  if key < 6 then (Reg.LD_REGION key, Fld.LD_REGION_LEVEL)
  else if key = 16 then (Reg.JNL_STATUS, Fld.JNL_STATUS_LEVEL)
  else (Reg.ORBIT_CFG, Fld.ORBIT_CFG_LEVEL)

def bgLevel (s : State) (key : Nat) : Nat := getF s (bgField key).1 (bgField key).2
def setBgLevel (s : State) (key n : Nat) : State := setF s (bgField key).1 (bgField key).2 n

/-- A lane's PRESS level follows its age (R401, R405): at URGENT margining yields the spare slice, each entry to CRITICAL raises 0x0300
against the lane. -/
def pressLevelChange (s : State) (t l : Nat) : State :=
  if !(lanesInUse s t).contains l then s
  else
    let old := pressLevel s t l
    let n := levelOf s (laneAge s t l) (pressPeriod s t)
    let s := setF s (Reg.PRESS_LEVEL t) (Fld.PRESS_LEVEL_LEVEL l) n
    let s := if 1 ≤ n then marginEnd s t [l] else s
    if n = 2 ∧ old < 2 then detect s 0x0300 .contained Uk.lane (16 * t + l) (laneAge s t l) else s

/-- The level of an instance follows its age (R401); each entry to CRITICAL raises one CONTAINED fault.  Keys from 256 are the lanes:
256 + 16 × tile + lane. -/
def backgroundLevel (s : State) (key : Nat) : State :=
  if 256 ≤ key then (if key < 512 then pressLevelChange s ((key - 256) / 16) (key % 16) else s)
  else if 6 ≤ key ∧ key ≠ 16 ∧ key ≠ 17 then s
  else
    let old := bgLevel s key
    let n := levelOf s (bgAge s key) (ms (bgDeadline s key))
    let s := setBgLevel s key n
    if n = 2 ∧ old < 2 then
      detect s 0x0301 .contained Uk.background (bgIndex key) ((if key < 6 then key else 0) * 2 ^ 56 + bgAge s key / ms 1 % 2 ^ 56)
    else s

/-! ### LAUNDER (R403, R404) -/

/-- Accesses of one pass of a region: 64-bit words of SRAM, 64-byte bursts of LPDDR4X. -/
def launderWords (r : Nat) : Nat :=
  if r = 0 then 8388608 else if r = 1 then 3145728 else if r = 2 then 655360 else if r = 3 then 262144
  else if r = 4 then Config.otherSram + 1 else 234881024

/-- The unit that owns a word of a region. -/
def launderOwner (r pos : Nat) : UnitId :=
  if r = 0 then ⟨Uk.core, 0⟩ else if r = 1 then ⟨Uk.table, 0⟩ else if r = 3 then ⟨Uk.mgmt, 0⟩
  else UnitId.ofCode (Config.sramOwner r pos)

/-- Source of an uncorrectable word of a region (R354). -/
def launderSource (r : Nat) : Nat := if r = 0 then 0x0101 else if r = 1 then 0x0103 else if r = 3 then 0x0104 else 0x0105

/-- Whether a word lies in a cell on the free list or in a table entry not in use: which cells are free is decided by a free value
while some are and some are not. -/
def launderFree (s : State) (r : Nat) : Bool × State :=
  if r = 0 then
    if freeCells s = 262144 then (true, s) else if freeCells s = 0 then (false, s) else (let (d, s) := draw s 1; (d == 1, s))
  else if r = 1 then (let (d, s) := draw s 1; (d == 1, s))
  else (false, s)

/-- An uncorrectable word in a cell in use: a TLP in a VOQ meets it at its read (R59); which one is a free value. -/
def spoilHeld (s : State) : State :=
  let ids := (s.core.voqs.flatMap (fun e => e.2)).map (fun h => h.id)
  let (d, s) := draw s 16
  let (part, s) := draw s 1
  match ids[d % max 1 ids.length]? with
  | none => s
  | some i =>
    let hit := fun (h : Held) => if h.id = i then { h with bad := if h.tlp.data.isEmpty then 1 else 1 + part, badInj := false } else h
    { s with core := { s.core with voqs := s.core.voqs.map (fun e => (e.1, e.2.map hit)) } }

/-- A fault of a unit's SRAM carries INJECTED when a FAULT_INJECT of that kind was in force there (R366). -/
def launderInjected (s : State) (u : UnitId) (kind : Nat) : Bool × State :=
  if u.kind = Uk.core then (false, s) else takeInjection s u kind

/-- The access of a LAUNDER pass finds a word as `e` says (R404). -/
def launderWord (s : State) (r pos : Nat) (e : EccResult) : State :=
  let u := launderOwner r pos
  match e with
  | .clean => s
  | .corrected =>
    let (inj, s) := launderInjected s u 0
    correctableBy (bump s Reg.LD_CORR_CNT) inj u 2 1 0x0100
  | .uncorrectable =>
    let (inj, s) := launderInjected s u 1
    let (free, s) := launderFree s r
    if free then bump s Reg.LD_FREE_UE_CNT
    else
      let s := detectBy (bump s Reg.LD_UE_CNT) inj (launderSource r) .contained u.kind u.index (if r = 0 then pos / 32 else pos * 8)
      if r = 0 then spoilHeld s else s

/-- The class of an uncorrectable word: FATAL in the table store and in management SRAM (R354). -/
def launderFatal (s : State) (r pos : Nat) (e : EccResult) : State :=
  let u := launderOwner r pos
  match e with
  | .uncorrectable =>
    let (inj, s) := launderInjected s u 1
    let (free, s) := launderFree s r
    if free then bump s Reg.LD_FREE_UE_CNT
    else detectBy (bump s Reg.LD_UE_CNT) inj (launderSource r) .fatal u.kind u.index (pos * 8)
  | _ => launderWord s r pos e

/-- The access as master 8 of privilege 1 passes the MPU that guards the region: the large one for the table store and LPDDR4X, MPU 22 for
management SRAM (R451, R452). -/
def launderCheck (s : State) (r pos : Nat) : Bool × State :=
  let small := fun (m a : Nat) => if mpuAllows s m a .read 8 1 then (true, s) else (false, mpuDeny s m a .read 8 1 false)
  if r = 5 then ddrAccess s (64 * pos) .read 8 1
  else if r = 1 then small 0 (0x8000000000 + 8 * pos)
  else if r = 3 then small 22 (8 * pos)
  else (true, s)

/-- One burst of LPDDR4X. -/
def launderBurst (s : State) (pos : Nat) (e : EccResult) : State :=
    let bad := s.ddr.bad.contains pos
    match (if bad then EccResult.uncorrectable else e) with
    | .clean => s
    | .corrected =>
      let (inj, s) := takeInjection s ⟨Uk.ddr, 0⟩ 0
      correctableBy (bump (bump s Reg.LD_CORR_CNT) Reg.DDR_CORR_CNT) inj ⟨Uk.ddr, 0⟩ 3 1 0x0107
    | .uncorrectable =>
      let s := if bad then s else { s with ddr := { s.ddr with bad := s.ddr.bad ++ [pos] } }
      ddrUncorrectable (bump s Reg.LD_UE_CNT) (64 * pos) 8

/-- A granted access of LAUNDER to the next word of a region (R402–R404), skipped and counted where its MPU denies it (R454); after the last word the pass ends, the age of the region is 0 and
its level NORMAL (R401). -/
def launder (s : State) (r : Nat) (e : EccResult) : State :=
  if !isSet s Reg.BG_CTRL Fld.BG_CTRL_LD_EN then s
  else if r = 5 ∧ !ddrOk s then s
  else
    let pos := agetD s.bg.ldPos r 0
    let s := match launderCheck s r pos with
      | (false, s) => bump s Reg.LD_UE_CNT
      | (true, s) =>
        if r = 5 then launderBurst s pos e else if r = 1 ∨ r = 3 then launderFatal s r pos e else launderWord s r pos e
    if launderWords r ≤ pos + 1 then
      setBgLevel { s with bg := { s.bg with ldPos := adel s.bg.ldPos r, since := aput s.bg.since r s.time } } r 0
    else { s with bg := { s.bg with ldPos := aput s.bg.ldPos r (pos + 1) } }

/-- LD_REGION as read: LEVEL, PROGRESS of the pass in percent, AGE in seconds. -/
def ldRegionWord (s : State) (r : Nat) : Nat :=
  bgLevel s r * 2 ^ 62 + 100 * agetD s.bg.ldPos r 0 / launderWords r % 256 * 2 ^ 32 + min 0xFFFFFFFF (bgAge s r / ms 1000)

/-- A word of the SP SRAM scrubbed (R403): a correction counts towards 0x0005, an uncorrectable word is the TERMINAL fault 0x0002; where
in the SRAM it stands is a free value. -/
def spScrub (s : State) (e : EccResult) : State :=
  match e with
  | .clean => s
  | .corrected =>
    let (inj, s) := takeInjection s ⟨Uk.sp, 0⟩ 0
    correctableBy (bump s Reg.SP_SRAM_CORR_CNT) inj ⟨Uk.sp, 0⟩ 2 1 0x0005
  | .uncorrectable =>
    let (inj, s) := takeInjection s ⟨Uk.sp, 0⟩ 1
    let (ofs, s) := draw s 20
    detectBy s inj 0x0002 .terminal Uk.sp 0 ofs

/-! ### Record sector pairs (R431) -/

/-- A pair with a full sector erased while the other holds the newest version. -/
def RecPair.tidy (r : RecPair) (gen : List Byte → Nat) : RecPair :=
  let top (l : List (List Byte)) : Nat := (l.map gen).foldl max 0
  if 128 ≤ r.sec0.length ∧ top r.sec0 < top r.sec1 then { r with sec0 := [] }
  else if 128 ≤ r.sec1.length ∧ top r.sec1 < top r.sec0 then { r with sec1 := [] }
  else r

/-- The erase of a full record sector after READY: pair 0 is the bank record, 1 and 2 the stored selections of banks 0 and 1. -/
def recordErase (s : State) (pair : Nat) : State :=
  if !isSet s Reg.BOOT_STATUS Fld.BOOT_STATUS_READY then s
  else if pair = 0 then { s with flash := { s.flash with bankRec := s.flash.bankRec.tidy bankGen } }
  else modBank s (pair - 1) (fun b => { b with sel := b.sel.tidy selGen })

end Sys2Proof.Machine
end

