-- ==== Sys2Proof/Machine/RegRead.lean ====
section
/-!
DEFINITION. Machine/RegRead.lean: the value that a register shows (R9): what a read returns where the value follows from other state.
-/
namespace Sys2Proof.Machine

/-- Several fields of a register value set. -/
def setFields (w : Word) (l : List (Field × Nat)) : Word := l.foldl (fun w x => x.1.set w x.2) w

/-- Family number, first and second instance number of a register's key. -/
def famNo (k : Nat) : Nat := k % 512
def inst1 (k : Nat) : Nat := k / 512 % 4096
def inst2 (k : Nat) : Nat := k / 512 / 4096

/-- Units with an uncleared fault or a fence, oldest first (R355). -/
def faultUnits (s : State) : List UnitState := s.fcu.units.filter (fun u => u.classes != 0 || u.faultFenced || u.cmdFenced)

/-- Chapters 3 to 6: core, congestion, time, hosts, fabric. -/
def viewCore (s : State) (k : Nat) (w : Word) : Word :=
  let f := famNo k
  let i := inst1 k
  let j := inst2 k
  if f = Reg.CORE_STATUS then Fld.CORE_STATUS_FREE_CELLS.set w (freeCells s)
  else if f = Reg.CC_STATUS then Fld.CC_STATUS_FRC_USED.set w s.cong.frcs.length
  else if f = Reg.COMET_STATUS then Fld.COMET_STATUS_SINK_DOWN.set w (b2n (!ddrOk s || isFenced s ⟨Uk.comet, 0⟩))
  else if f = Reg.TIME_NOW then BitVec.ofNat 64 s.time
  else if f = Reg.TIME_STATUS then Fld.TIME_STATUS_GM_NODE.set w (grandmaster s)
  else if f = Reg.VSW_CTRL 0 then
    setFields w [(Fld.VSW_CTRL_READY, b2n (vswReady s i)), (Fld.VSW_CTRL_QUIESCED, b2n (vswOn s i && vswQuiesced s i)),
                 (Fld.VSW_CTRL_RESETTING, b2n (vswResetting s i))]
  else if f = Reg.VBR_MAP 0 0 then
    let x := s.func i (fnBridge j)
    setFields w [(Fld.VBR_MAP_DPC_HELD, b2n x.dpcHeld), (Fld.VBR_MAP_SUB_BUS, x.subBus), (Fld.VBR_MAP_SEC_BUS, x.secBus)]
  else if f = Reg.BIND_STATUS then Fld.BIND_STATUS_USED.set w ((s.hosts.bind.filter (fun e => e.2.valid)).length)
  else if f = Reg.FAM_STATUS then Fld.FAM_STATUS_USED.set w ((s.fab.fam.filter (fun e => e.2.valid)).length)
  else if f = Reg.ROUTE_STATUS then Fld.ROUTE_STATUS_UNREACH.set w ((s.fab.routes.filter (fun e => e.2.valid && e.2.ecs.isEmpty)).length)
  else if f = Reg.FAB_ID then setFields w [(Fld.FAB_ID_NODE, nodeId s), (Fld.FAB_ID_PAIR, nodeId s / 2)]
  else if f = Reg.EPOCH_INFLIGHT then
    setFields w ((List.range 4).map (fun x => (Fld.EPOCH_INFLIGHT_SLOT x, min 0xFFFF (epochCount s x))))
  else if f = Reg.CTX_STATUS then Fld.CTX_STATUS_USED.set w s.fab.ctxs.length
  else w

/-- Chapters 7 to 10: Calez links, the pair, the Mover, tiles. -/
def viewLinks (s : State) (k : Nat) (w : Word) : Word :=
  let f := famNo k
  let i := inst1 k
  let j := inst2 k
  if f = Reg.CZ_CREDIT 0 0 then
    setFields w [(Fld.CZ_CREDIT_CPL, czCredits s i j 2), (Fld.CZ_CREDIT_NP, czCredits s i j 1), (Fld.CZ_CREDIT_P, czCredits s i j 0)]
  else if f = Reg.CZ_REPLAY 0 then
    setFields w [(Fld.CZ_REPLAY_UNACKED, (s.link i).unacked.length), (Fld.CZ_REPLAY_STORE_USED, storeUsed (s.link i) / 32)]
  else if f = Reg.CZ_TIMER 0 then
    if isTwinLink s i then setFields w [(Fld.CZ_TIMER_KA_INTERVAL, 4), (Fld.CZ_TIMER_LD_TIMEOUT, 8)] else w
  else if f = Reg.TWIN_STATUS then twinStatusWord s
  else if f = Reg.TWIN_SHADOW_USED then
    setFields w [(Fld.TWIN_SHADOW_USED_FAM, (s.twin.shadowFam.filter (fun e => e.2.valid)).length),
                 (Fld.TWIN_SHADOW_USED_BIND, (s.twin.shadowBind.filter (fun e => e.2.valid)).length),
                 (Fld.TWIN_SHADOW_USED_ROUTE, (s.twin.shadowRoute.filter (fun e => e.2.valid)).length)]
  else if f = Reg.MV_STATUS then
    let ds := s.mover.insts.flatMap (fun e => e.2.descs)
    setFields w [(Fld.MV_STATUS_ENG_BUSY, ((List.range 16).filter (fun e => (engDesc s e).isSome)).foldl setBit 0),
                 (Fld.MV_STATUS_PARKED, (ds.filter (fun d => match d.phase with | .parked _ => true | _ => false)).length)]
  else if f = Reg.MV_ENG_STATE 0 then
    (match engDesc s i with
     | some (n, d) => setFields 0 [(Fld.MV_ENG_STATE_VALID, 1), (Fld.MV_ENG_STATE_STATE, max 1 d.stopping), (Fld.MV_ENG_STATE_INSTANCE, n),
                                   (Fld.MV_ENG_STATE_PRIORITY, d.prio (s.inst n)), (Fld.MV_ENG_STATE_OFFSET, d.offset)]
     | none => 0)
  else if f = Reg.MV_INST_BIND 0 then
    (match instVsw s i with
     | some v => setFields 0 [(Fld.MV_INST_BIND_VALID, 1), (Fld.MV_INST_BIND_VSWITCH, v)]
     | none => Fld.MV_INST_BIND_VALID.set w 0)
  else if f = Reg.INST_STATUS 0 then Fld.INST_STATUS_STATE.set w (instState s i)
  else if f = Reg.MVPF_INST_SEL 0 then
    Fld.MVPF_INST_SEL_BOUND.set w (b2n (instVsw s (Fld.MVPF_INST_SEL_INSTANCE.get w) == some i))
  else if f = Reg.TILE_STATUS 0 then Fld.TILE_STATUS_REF_OK.set w (b2n (refWatched s (i / 4)))
  else if f = Reg.LANE_STATUS 0 0 then
    if (lanesInUse s i).contains j then setFields w [(Fld.LANE_STATUS_AGE, laneAge s i j), (Fld.LANE_STATUS_IN_USE, 1)] else w
  else w

/-- Chapters 12 to 17: ICP, faults, power, background work, memory protection, sideband. -/
def viewSystem (s : State) (k : Nat) (w : Word) : Word :=
  let f := famNo k
  let i := inst1 k
  let j := inst2 k
  if f = Reg.ICP_CHAN 0 then
    let role := roleOf s i
    let on := if i < 32 then ringOn s i else if i < 64 then decide (role = 1) && mctpUp s i else if i = 64 then decide (role = 1) && mctpUp s i
      else mode s == 4 && twinLive s
    setFields 0 [(Fld.ICP_CHAN_ACTIVE, b2n on), (Fld.ICP_CHAN_ROLE, role), (Fld.ICP_CHAN_EXP_ALIVE, (alive s i).exp),
                 (Fld.ICP_CHAN_REPLY_ALIVE, (alive s i).rep), (Fld.ICP_CHAN_OUTSTANDING, outstanding s i)]
  else if f = Reg.ICP_RING_STATUS 0 then
    setFields w [(Fld.ICP_RING_STATUS_MANAGER, b2n (roleOf s i == 1)), (Fld.ICP_RING_STATUS_EXP_ALIVE, (alive s i).exp),
                 (Fld.ICP_RING_STATUS_REPLY_ALIVE, (alive s i).rep), (Fld.ICP_RING_STATUS_OUTSTANDING, outstanding s i),
                 (Fld.ICP_RING_STATUS_CQ_FULL, b2n (ringOn s i && cqFull s i && !(agetD s.icp.cplWait i []).isEmpty))]
  else if f = Reg.SP_STATUS then Fld.SP_STATUS_TERMINAL.set w (b2n s.pwr.terminal)
  else if f = Reg.FCU_STATUS then
    setFields w [(Fld.FCU_STATUS_FAULT_N_LOW, b2n s.pwr.faultNLow), (Fld.FCU_STATUS_TERMINAL, b2n s.pwr.terminal),
                 (Fld.FCU_STATUS_LIST_OVF, b2n (64 < (faultUnits s).length)),
                 (Fld.FCU_STATUS_PENDING, (s.fcu.recs.map (fun e => e.1)).foldl setBit 0), (Fld.FCU_STATUS_UNITS, (faultUnits s).length)]
  else if f = Reg.FCU_REC 0 0 then
    (match aget s.fcu.recs i with | some r => BitVec.ofNat 64 (num r.bytes (8 * j) 8) | none => 0)
  else if f = Reg.FCU_UNCLEARED 0 then
    (match (faultUnits s)[i]? with
     | some u => setFields 0 [(Fld.FCU_UNCLEARED_VALID, 1), (Fld.FCU_UNCLEARED_FAULT_FENCED, b2n u.faultFenced),
                              (Fld.FCU_UNCLEARED_CMD_FENCED, b2n u.cmdFenced), (Fld.FCU_UNCLEARED_CLASSES, u.classes),
                              (Fld.FCU_UNCLEARED_UNIT, u.unit.code)]
     | none => 0)
  else if f = Reg.EGV_STATUS then
    setFields w [(Fld.EGV_STATUS_RAMPS, s.egv.ramps.length), (Fld.EGV_STATUS_QUEUED, s.egv.queue.length), (Fld.EGV_STATUS_WINDOW_USED, windowUsed s)]
  else if f = Reg.EGV_SLOT_STATUS 0 then Fld.EGV_SLOT_STATUS_DECLARED.set w (declared s i)
  else if f = Reg.CLK_STATUS then
    Fld.CLK_STATUS_DOM_RUN.set w (Fld.CLK_STATUS_DOM_RUN.get w &&& (if ddrOk s then 0x7F else 0x75) &&& (if isFenced s ⟨Uk.mgmt, 0⟩ then 0x6F else 0x7F))
  else if f = Reg.LD_REGION 0 then BitVec.ofNat 64 (ldRegionWord s i)
  else if f = Reg.JNL_STATUS then
    setFields w [(Fld.JNL_STATUS_BUFFERED, min 8 s.bg.jbuf.length), (Fld.JNL_STATUS_RESERVE, jnlReserve s)]
  else if f = Reg.JNL_AON_T then BitVec.ofNat 64 (aonTime s)
  else if f = Reg.SMP_STATUS then
    setFields w [(Fld.SMP_STATUS_SINK_DOWN, b2n (!ddrOk s)), (Fld.SMP_STATUS_USED, s.cong.smpEntries.length)]
  else if f = Reg.GLB_SERIAL then BitVec.ofNat 64 s.otp.serial
  else if f = Reg.MPU_DRAIN 0 then BitVec.ofNat 64 (getF s (Reg.MPU_STATUS i) Fld.MPU_STATUS_GEN)
  else if f = Reg.MPU_STATUS 0 then Fld.MPU_STATUS_PENDING.set w (b2n (mpuPending s i))
  else if f = Reg.DDR_STATUS then
    setFields w [(Fld.DDR_STATUS_FILL_DONE, b2n (isSet s Reg.DDR_STATUS Fld.DDR_STATUS_READY && decide (1792 ≤ s.ddr.fillNext))),
                 (Fld.DDR_STATUS_FILL_BLOCK, s.ddr.fillNext)]
  else if f = Reg.SB_STATUS then
    setFields w ((List.range 4).map (fun b => (⟨7 * b, 7⟩, min 127 (busLoad s b 256 0))))
  else w

/-- Fields that read as 0 whatever was written to them (WO). -/
def woMask (k : Nat) : Word := match famOf k with | some f => f.maskOf (fun a => a == .wo) | none => 0

/-- A register of a port that shows its reset value: one of the PCIe port block of a port that is not an enabled PCIe port, or a per-port one of the
core for a port that the configuration does not create. -/
def absentPort (s : State) (k : Nat) : Bool :=
  match famOf k with
  | some f =>
    f.space == .crs && f.dim1.1 == 64 &&
      ((decide (0x02000000 ≤ f.base ∧ f.base < 0x02400000) && !isPcie s (inst1 k)) ||
       (decide (0x03000000 ≤ f.base ∧ f.base < 0x03006000) && (portSlot s (inst1 k)).isNone))
  | none => false

/-- The value that a register shows. -/
def regView (s : State) (k : Nat) : Word :=
  let w := if absentPort s k then resetOf k else rd s k
  viewSystem s k (viewLinks s k (viewCore s k w)) &&& ~~~ woMask k

/-- The RC fields of a register read as 0 from now on (R9, R10); clearing VALID of a log clears its SECOND with it. -/
def clearOnRead (s : State) (k : Nat) : State :=
  match famOf k with
  | none => s
  | some f => wr s k (rd s k &&& ~~~ f.maskOf (fun a => a == .rc))

end Sys2Proof.Machine
end

