-- ==== Sys2Proof/Machine/OrbitOps.lean ====
section
/-!
DEFINITION. Machine/OrbitOps.lean: ORBIT's telemetry reports (R413–R415).
-/
namespace Sys2Proof.Machine

/-- The CRS offset of a register. -/
def crsOffset (k : Nat) : Nat :=
  match famOf k with
  | some f => f.base + inst1 k * f.dim1.2 + inst2 k * f.dim2.2
  | none => 0

/-- The 32-bit words of a register, its low word first. -/
def regWords (s : State) (k : Nat) : List Nat :=
  let v := (regView s k).toNat
  match famOf k with
  | some f => if f.width = 64 then [v % 4294967296, v / 4294967296] else [v % 4294967296]
  | none => []

/-- The register at a CRS offset, for the runs of counters that a set names by their offsets. -/
def keysAt (base lo hi : Nat) : List Nat :=
  (List.range ((hi - lo) / 4 + 1)).filterMap (fun i =>
    match crsAt (base + lo + 4 * i) with | some h => if h.high then none else some h.key | none => none)

/-- The registers of a telemetry set, in order (R413). -/
def orbitSet (n : Nat) : List Nat :=
  match n with
  | 0 => [Reg.GLB_MODE_STATUS, Reg.GLB_CONFIG_ID, Reg.GLB_OVERLAY_ID, Reg.CLK_STATUS, Reg.PWR_STATUS, Reg.RST_REASON, Reg.FCU_STATUS, Reg.TWIN_STATUS]
  | 1 => (List.range 64).flatMap (fun p => Reg.PORT_STATUS p :: keysAt (0x02000000 + 0x10000 * p) 0x20 0x3C)
  | 2 => (List.range 32).flatMap (fun n => [Reg.CZ_STATUS n, Reg.CZ_DOWN n, Reg.CZ_REPLAY n] ++ keysAt (0x07000000 + 0x10000 * n) 0x20 0x4C)
  | 3 => [Reg.CORE_STATUS, Reg.BUF_SHARED, Reg.CORE_NULLIFY_CNT, Reg.CORE_CTFB_CNT, Reg.CORE_DROP_CNT, Reg.CORE_ACCESS_CNT, Reg.CC_STATUS,
          Reg.CC_MARK_CNT, Reg.CC_DROP_CNT, Reg.CC_FB_TX_CNT, Reg.CC_FB_RX_CNT, Reg.CC_NOFRC_CNT, Reg.CC_FENCE_TO_CNT]
  | 4 => [Reg.CTX_STATUS, Reg.LATE_CPL_CNT, Reg.CTO_CNT, Reg.ORPHAN_CNT, Reg.CTX_WAIT_CNT, Reg.FER_STALE_CNT, Reg.FAM_STATUS, Reg.BIND_STATUS,
          Reg.ROUTE_STATUS, Reg.EPOCH_CUR]
  | 5 => [Reg.MV_STATUS, Reg.MV_DESC_CNT, Reg.MV_PARK_CNT, Reg.MV_PREEMPT_CNT, Reg.MV_XLAT_FAULT_CNT, Reg.MV_DISCARD_CNT, Reg.MV_PRG_STALE_CNT,
          Reg.MV_ATC_MISS_CNT, Reg.MV_INV_CNT]
  | 6 => Reg.EGV_STATUS :: (List.range 32).map (fun n => Reg.EGV_SLOT_STATUS n)
  | 7 => (List.range 256).map (fun l => Reg.LANE_STATUS (l / 16) (l % 16))
  | 8 => [Reg.COMET_STATUS, Reg.COMET_LOST_CNT, Reg.COMET_WR_PTR, Reg.SMP_STATUS, Reg.SMP_LOST_CNT, Reg.SMP_MISS_CNT, Reg.SMP_RING_WR, Reg.ECL_STATUS]
  | _ => []

/-- One section of a report (R414). -/
def orbitSection (s : State) (n : Nat) : List Byte :=
  let ws := (orbitSet n).flatMap (regWords s)
  natLe 1 n ++ [0#8] ++ natLe 2 ws.length ++ zeros 4 ++ ws.flatMap (natLe 4)

/-- The report (R414): its header, with RCRC taken over the whole, and a section for each set present. -/
def orbitBytes (s : State) (seq : Nat) (sets : List Nat) : List Byte :=
  let body := sets.flatMap (orbitSection s)
  let late := b2n (1 ≤ bgLevel s 17) + 2 * b2n (isSet s Reg.TIME_STATUS Fld.TIME_STATUS_COARSE)
  let head1 := natLe 2 0x0B17 ++ [1#8, 0#8] ++ natLe 4 (64 + body.length) ++ natLe 4 seq ++ natLe 2 (nodeId s) ++ natLe 1 (mode s) ++
    natLe 1 late ++ natLe 8 s.time ++ natLe 8 s.time ++ natLe 8 (sets.foldl setBit 0)
  let crc := crc32c (head1 ++ zeros 24 ++ body)
  head1 ++ natLe 4 crc ++ zeros 20 ++ body

/-- The first register of a list that its MPU does not let master 10 read (R452, R454): the MPU and the offset. -/
def orbitDenied (s : State) (ks : List Nat) : Option (Nat × Nat) :=
  ks.findSome? (fun k =>
    let o := crsOffset k
    match mpuOf o with
    | some m => if mpuAllows s m o .read 10 1 then none else some (m, o)
    | none => none)

/-- Bytes cut at multiples of 128 of their address: the payloads of the posted writes that carry them. -/
def orbitPieces : Nat → Nat → List Byte → List (Nat × List Byte)
  | 0, _, _ => []
  | fuel + 1, a, b =>
    if b.isEmpty then [] else let n := 128 - a % 128; (a, b.take n) :: orbitPieces fuel (a + n) (b.drop n)

/-- A telemetry write of a management function (R64, R81, R415): droppable traffic on CAP_VC; whether it was stored. -/
def orbitWrite (s : State) (v a : Nat) (b : List Byte) : Bool × State :=
  let p := upPort s v
  let n := (voqsOf s p).length
  let s := sendOwn s { mvTlp s v .memWrite a b.length b false false 0 with reqId := hostId s v fnMgmt, lossy := true } p v (getF s Reg.CC_CTRL Fld.CC_CTRL_CAP_VC)
  (decide (n < (voqsOf s p).length), s)

/-- DEST 0: the report goes into the ring in host memory, at its start where it would not fit before the end. -/
def orbitToHost (s : State) (seq : Nat) (b : List Byte) : State :=
  let v := getF s Reg.ORBIT_CFG Fld.ORBIT_CFG_VSWITCH
  let size := 2 ^ getF s Reg.ORBIT_CFG Fld.ORBIT_CFG_SIZE_LOG2
  if size < b.length then setF s Reg.ORBIT_STATUS Fld.ORBIT_STATUS_TOO_BIG 1
  else if !vswOn s v || !(s.func v fnMgmt).command.testBit 2 then bump s Reg.ORBIT_DROP_CNT
  else
    let ofs := if size < s.bg.orbitOfs + b.length then 0 else s.bg.orbitOfs
    let (lost, s) := forEach (orbitPieces 64 ((rd s Reg.ORBIT_ADDR).toNat + ofs) b) (false, s) (fun (x : Bool × State) p =>
      let (ok, s) := orbitWrite x.2 v p.1 p.2
      (x.1 || !ok, s))
    let s := { s with bg := { s.bg with orbitOfs := ofs + b.length } }
    let s := wr s (Reg.ORBIT_WR v) (BitVec.ofNat 64 (ofs + b.length))
    if lost then bump s Reg.ORBIT_DROP_CNT else setF s Reg.ORBIT_STATUS Fld.ORBIT_STATUS_SEQ seq

/-- DEST 1: the report goes into the export slot that does not hold the newest one. -/
def orbitToSlot (s : State) (seq : Nat) (b : List Byte) : State :=
  if 8192 < b.length then setF s Reg.ORBIT_STATUS Fld.ORBIT_STATUS_TOO_BIG 1
  else
    let k := 1 - getF s Reg.ORBIT_STATUS Fld.ORBIT_STATUS_SLOT
    let s := { s with bg := { s.bg with exportSlots := aput s.bg.exportSlots k (patch (agetD s.bg.exportSlots k []) 0 b) } }
    setF (setF s Reg.ORBIT_STATUS Fld.ORBIT_STATUS_SLOT k) Reg.ORBIT_STATUS Fld.ORBIT_STATUS_SEQ seq

/-- A report falls due (R413–R415): the sets are read, the report is built and delivered, and the age of ORBIT begins anew at the next due
time (R400, R401).  A set that an MPU keeps master 10 from reading leaves the report undelivered (R454); while the management cores are held ORBIT
stops (R18). -/
def orbitReport (s : State) : State :=
  if orbitPeriod s = 0 || s.pwr.coresHeld then s
  else
    let sets := bitsOf 9 (rd s Reg.ORBIT_SETS).toNat
    let seq := s.bg.orbitSeq + 1
    let s1 := { s with bg := { s.bg with orbitSeq := seq } }
    let s2 := match orbitDenied s (sets.flatMap orbitSet) with
      | some (m, o) => bump (mpuDeny s1 m o .read 10 1 false) Reg.ORBIT_DROP_CNT
      | none =>
        let b := orbitBytes s seq sets
        if isSet s Reg.ORBIT_CFG Fld.ORBIT_CFG_DEST then orbitToSlot s1 seq b else orbitToHost s1 seq b
    let due := agetD s.bg.since 17 s.time + ms (orbitPeriod s)
    setBgLevel { s2 with bg := { s2.bg with since := aput s2.bg.since 17 (max s.time due) } } 17 0

end Sys2Proof.Machine
end

