-- ==== Sys2Proof/Machine/BootOps.lean ====
section
/-!
DEFINITION. Machine/BootOps.lean: the boot that every reset ends in: the firmware bank, the journal, the FCU's rebuild, the selection
(R359, R365, R380, R412, R434–R439).
-/
namespace Sys2Proof.Machine

/-! ### The firmware bank (R436, R438, R439) -/

/-- The bank record in force: ACTIVE, PREV and TRIAL; a flash with none boots bank 0 with TRIAL 0 (R431). -/
def bankNow (s : State) : Nat × Nat × Nat :=
  match s.flash.bankRec.newest bankRead (fun r => r.gen) with
  | some r => (r.active % 2, r.prev % 2, r.trial)
  | none => (0, 0, 0)

/-- ERR of the image in a bank; 0: it is valid. -/
def bankErr (s : State) (b : Nat) : Nat := fwErr s (bankOf s b).fw

/-- The fields of OTP_STATE (R434, R440). -/
def otpShow (s : State) (floor : Nat) : State :=
  wr s Reg.OTP_STATE (BitVec.ofNat 64 (floor % 2 ^ 32 * 2 ^ 32 + b2n s.otp.udsSet * 2 ^ 16 + s.otp.fwArb % 128 * 2 ^ 8 +
    s.otp.keyRevoked % 16 * 16 + s.otp.keyProg % 16))

/-- A valid image boots (R436, R437): its bank, key slot, SVN, CFG_FLOOR and measurement are shown, and its key is kept (R433). -/
def bankBoot (s : State) (b err : Nat) (reverted alt : Bool) : State :=
  let img := (bankOf s b).fw
  let blk := (img.drop (fwMlen img)).take sigLen
  let w := b2n reverted * 2 ^ 29 + b2n alt * 2 ^ 28 + b % 2 * 2 ^ 27 + sigSlot blk % 4 * 2 ^ 22 + fwSvn img % 64 * 2 ^ 16 + err % 256
  let s := keepKey (otpShow (wr s Reg.BOOT_STATUS (BitVec.ofNat 64 w)) (fwFloor img)) blk
  putData s (fun i => Reg.FW_MEASURE i) (natLe 32 (fwMeasure img))

/-- Neither bank holds a valid image: recovery (R439). -/
def bankRecovery (s : State) (b err : Nat) (reverted : Bool) : State :=
  otpShow (wr s Reg.BOOT_STATUS (BitVec.ofNat 64 (2 ^ 30 + b2n reverted * 2 ^ 29 + b % 2 * 2 ^ 27 + err % 256))) 0

/-- TRIAL 0: ACTIVE boots, else the other bank if it is valid, with a record that says so. -/
def bankCommitted (s : State) (active err : Nat) (reverted : Bool) : State :=
  let e := bankErr s active
  if e = 0 then bankBoot s active err reverted false
  else
    let o := 1 - active
    let e2 := bankErr s o
    if e2 = 0 then bankBoot (bankWrite s o active 0 (fwVer (bankOf s o).fw)) o e reverted true else bankRecovery s active e2 reverted

/-- A revert: a record with ACTIVE = PREV and TRIAL 0, and PREV boots. -/
def bankRevert (s : State) (active prev err : Nat) : State :=
  bankCommitted (bankWrite s prev active 0 (fwVer (bankOf s prev).fw)) prev err true

/-- The SP chooses the bank by TRIAL (R438). -/
def bankSelect (s : State) : State :=
  let (active, prev, trial) := bankNow s
  if trial = 1 then
    let s := bankWrite s active prev 2 (fwVer (bankOf s active).fw)
    let e := bankErr s active
    if e = 0 then bankBoot s active 0 false false else bankRevert s active prev e
  else if trial = 2 then bankRevert s active prev 0
  else bankCommitted s active 0 false

/-! ### The FCU after a warm reset (R365, R410) -/

/-- A pending record has a journal record of its own. -/
def journalled (s : State) (r : FaultRec) : Bool :=
  (s.bg.jbuf ++ s.flash.journal.flatMap (fun e => e.2.recs)).any (fun j => j.type == 2 && j.body.take 32 == r.bytes.take 32 ||
    (j.type == 2 && num j.body 20 4 == r.seq && num j.body 8 4 == r.unit.code))

/-- The FCU rebuilt from the SP's copy and the journal: fences by command are not.  Device time starts again at 0, and the times of the
copy with it (log entry 38). -/
def fcuRebuilt (s : State) : Fcu :=
  { Fcu.reset with
    units := (s.fcu.units.map (fun u => { u with cmdFenced := false, lastContained := u.lastContained.map (fun t => t - s.time) })).filter UnitState.live,
    recs := s.fcu.recs.filter (fun e => journalled s e.2) }

/-! ### The boot's steps (R437) -/

/-- LPDDR4X after a reset (R459): contents that were kept stay, otherwise the fill begins at the lowest address. -/
def ddrStart (s : State) : State :=
  if s.ddr.kept then wr s Reg.DDR_STATUS 0xC0000000
  else wr { s with mem := [], ddr := ⟨[], [], 0, true⟩ } Reg.DDR_STATUS 0x80000000

/-- FATAL resets within the last 60 s (R359), in AON cycles of 320 ns. -/
def fatalRecent (s : State) : Nat := (s.pwr.fatalTimes.filter (fun t => aonTime s ≤ t + 187500000)).length

/-- The selection of a boot (R30, R34, R359, R439): the ROM Service configuration in recovery and after the third FATAL reset in 60 s. -/
def bootChoose (s : State) : State :=
  let (sel, s') := bootSelect s
  if isSet s Reg.BOOT_STATUS Fld.BOOT_STATUS_RECOVERY || decide (3 ≤ fatalRecent s) then
    { s with pwr := { s.pwr with sel := selFailed sel.src (0, 0) false } }
  else { s' with pwr := { s'.pwr with sel := sel } }

/-- The boot from a stable root PLL to the selection (R437 rows 1 to 7): the OTP is read and UDS burnt where it is not, the bank is
chosen, the journal scanned, the boot's reset record created, and the selection read and verified. -/
def romBoot (s : State) : State :=
  let s := wr (wr s Reg.CLK_STATUS 0xF800007F) Reg.SP_STATUS (BitVec.ofNat 64 (2 ^ 31 + 15 * 2 ^ 24))
  let s := ddrStart s
  let s := if s.otp.udsSet then s else (let (u, s) := draw s 256; { s with otp := { s.otp with uds := u, udsSet := true } })
  let s := journalScan (bankSelect s)
  let seq := journalSeq s
  let s := { s with fab := { s.fab with bootId := seq % 4294967296 } }
  let s := journalAdd s 3 (regBytes s Reg.RST_REASON 4 ++ regBytes s Reg.RST_DETAIL 8 ++ natLe 1 (curBank s)) []
  let s := setF (bootChoose s) Reg.BOOT_STATUS Fld.BOOT_STATUS_STAGE 7
  { s with pwr := { s.pwr with phase := .booting, coresHeld := true } }

/-- The configuration selected is applied and the management cores are released (R437 row 8, R34, R365). -/
def bootConfig (s : State) : State :=
  if s.pwr.phase != .booting || !fastUp s then s
  else
    let sel := s.pwr.sel
    let held := isSet s Reg.BOOT_STATUS Fld.BOOT_STATUS_RECOVERY || isFenced s ⟨Uk.mgmt, 0⟩
    let s := bootApply { s with pwr := { s.pwr with phase := .configured, coresHeld := held } } sel
    let s := setF s Reg.BOOT_STATUS Fld.BOOT_STATUS_STAGE 8
    let s := if sel.fallback then detect s 0x0011 .contained Uk.global 0 (rd s Reg.GLB_MODE_ERR).toNat else s
    forEach (s.fcu.units.filter (fun u => u.faultFenced)) s (fun s u => fenceApply s u.unit)

/-- The firmware has initialised: READY (R127, R437); a trial boot is committed and the FW_ARB fuses are burnt up to its SVN (R438). -/
def firmwareReady (s : State) : State :=
  if s.pwr.phase != .configured || !up s || s.pwr.coresHeld then s
  else
    let s := setF (setF s Reg.BOOT_STATUS Fld.BOOT_STATUS_READY 1) Reg.BOOT_STATUS Fld.BOOT_STATUS_STAGE 9
    let s := wr { s with pwr := { s.pwr with phase := .ready } } Reg.BOOT_TIME (BitVec.ofNat 64 ((s.edge - s.pwr.bootStart) / 50 % 2 ^ 32))
    let (active, prev, trial) := bankNow s
    if trial = 2 then
      let s := bankWrite s active prev 0 (fwVersion s)
      let s := { s with otp := { s.otp with fwArb := max s.otp.fwArb (fwSvn (bankOf s (curBank s)).fw) } }
      setF s Reg.OTP_STATE Fld.OTP_STATE_FW_ARB s.otp.fwArb
    else s

/-! ### Warm reset (R359, R365, R381) -/

/-- The bits of a register that outlast a warm reset: RWS fields, the retained registers, PF_LAST and PF_RECORDS, VALID of the snapshot
banks (R13, R418). -/
def stickyBits (k : Nat) : Word :=
  if k = Reg.PWR_STATUS then 0x80FF#64
  else if k = Reg.ECL_STATUS then 0xC0000000#64
  else match famOf k with
    | some f => if f.retained then BitVec.allOnes 64 else f.maskOf (fun a => a == .rws || a == .rwsRo)
    | none => 0

/-- The register file after a warm reset. -/
def stickyRegs (s : State) : Assoc Word :=
  s.regs.foldl (fun t e => aset (resetOf e.1) t e.1 ((e.2 &&& stickyBits e.1) ||| (resetOf e.1 &&& ~~~ stickyBits e.1))) []

/-- The machine as a warm reset leaves it: what AON, the SP's copies, the flash, the OTP and the LPDDR4X hold stays. -/
def warmState (s : State) : State :=
  { State.reset with
    regs := stickyRegs s, mem := s.mem, edge := s.edge, free := s.free, out := s.out, lineAt := s.out.length,
    pwr := { Power.reset with phase := .booting, strap := s.pwr.strap, porLow := false, pwrfailLow := s.pwr.pwrfailLow, faultNLow := s.pwr.faultNLow,
                              faultNSince := s.pwr.faultNSince, bootStart := s.edge, fatalTimes := s.pwr.fatalTimes, keptKeys := s.pwr.keptKeys,
                              efuses := s.pwr.efuses },
    hosts := pinsKept s, flash := s.flash, otp := s.otp, ddr := s.ddr, fcu := fcuRebuilt s,
    bg := { Background.reset with jbuf := s.bg.jbuf, summary := s.bg.summary, summClears := s.bg.summClears, seqFloor := s.bg.seqFloor,
                                  eclSeq := s.bg.eclSeq, eclSeen := s.bg.eclSeq },
    pending := s.pending }

/-- A warm reset that has been asked for (R359, R381): cause, for FATAL with SOURCE and UNIT. -/
def warmReset (s : State) : State :=
  match s.pwr.warmReq with
  | none => s
  | some (cause, source, unit) =>
    if !fastUp s then s
    else
      let seq := rd s Reg.FCU_SEQ
      let s := resetReason (heartbeatStop s) cause source unit
      let s := if cause = 0x08 then { s with pwr := { s.pwr with fatalTimes := s.pwr.fatalTimes ++ [aonTime s] } } else s
      let s := wr (warmState s) Reg.FCU_SEQ seq
      let s := setF s Reg.PWR_STATUS Fld.PWR_STATUS_PF_LAST 0
      romBoot (wr s Reg.FCU_FATAL_HIST (BitVec.ofNat 64 (min 255 (fatalRecent s))))

end Sys2Proof.Machine
end

