-- ==== Sys2Proof/Machine/PowerOps.lean ====
section
/-!
DEFINITION. Machine/PowerOps.lean: resets, clock failures, power failure, Dormant (R351, R378–R397, R474–R480).
-/
namespace Sys2Proof.Machine

/-! ### Cold reset (R378–R382, R476) -/

/-- Every domain but AON goes into cold reset, with a cause that a boot has not recorded yet (R382). -/
def coldHold (s : State) (cause : Nat) (phase : Phase) : State :=
  let s := holdDomains (heartbeatStop s)
  let s := if s.pwr.faultNLow && !s.pwr.terminal then emit { s with pwr := { s.pwr with faultNLow := false } } (.faultN false) else s
  { s with pwr := { s.pwr with phase := phase, cause := some cause } }

/-- POR_N has been low for 1 µs: cold reset; a cause that is already pending stays (R382, R476).  The TERMINAL latch stays (R351). -/
def porAssert (s : State) : State :=
  if s.pwr.terminal || s.pwr.porLow then { s with pwr := { s.pwr with porLow := true } }
  else coldHold { s with pwr := { s.pwr with porLow := true } } (s.pwr.cause.getD 0x01) .held

/-- POR_N deasserts: the strap is sampled and the boot begins, unless the TERMINAL latch or PWRFAIL_N holds the device (R30, R380, R476). -/
def porDeassert (s : State) (strap : Nat) : State :=
  if !s.pwr.porLow then s
  else
    let p := { s.pwr with porLow := false, strap := strap, railsOk := true, bootStart := s.edge }
    if p.terminal then { s with pwr := p }
    else if p.pwrfailLow then { s with pwr := { p with phase := .held, pfDone := true, cause := some (p.cause.getD 0x0B) } }
    else { s with pwr := { p with phase := .waitXo, pfDone := false } }

/-- The XO is stable (R378, R380): the reset reason is updated, which after a VDD_AON power-up stays 0 (R382), and the SP ROM runs at
25 MHz. -/
def xoStable (s : State) : State :=
  if s.pwr.phase != .waitXo || s.pwr.terminal then s
  else
    let old := s.pwr.cause
    let s := { s with pwr := { s.pwr with phase := .romSlow, cause := none } }
    let s := match old with
      | some c => setF (resetReason s c 0 0) Reg.PWR_STATUS Fld.PWR_STATUS_PF_LAST (b2n (c == 0x0B || c == 0x0D))
      | none => s
    wr s Reg.CLK_STATUS 0xC0000000

/-- The device wakes from Dormant: the root PLL is stable again (R388, R99, R101, R387). -/
def dormantEnd (s : State) : State :=
  let code := getF s Reg.PWR_STATUS Fld.PWR_STATUS_LAST_WAKE
  let s := wr (setF s Reg.PWR_STATUS Fld.PWR_STATUS_STATE 0) Reg.CLK_STATUS 0xF800007F
  let s := setF s Reg.DDR_STATUS Fld.DDR_STATUS_SELF_REFRESH 0
  let s := if mode s = 3 then setF s Reg.TIME_STATUS Fld.TIME_STATUS_COARSE 1 else s
  let s := { s with cong := { s.cong with meters := s.cong.meters.map (fun e => (e.1, { e.2 with tc := e.2.cbs * 16000, tp := e.2.pbs * 16000, at_ := s.time })) } }
  if code = 6 ∧ isSet s Reg.ECL_ARM Fld.ECL_ARM_IN_EN then eclTrigger s 1 else s

/-- The root PLL is stable (R378, R380, R388): the fast domains start on one common edge. -/
def rootStable (s : State) : State :=
  if s.pwr.phase = .romSlow ∧ powered s then romBoot s
  else if powered s ∧ getF s Reg.PWR_STATUS Fld.PWR_STATUS_STATE = 3 then dormantEnd s
  else s

/-! ### Clock monitors (R379) -/

/-- A clock source is watched: the XO always, the root PLL while it is on, REFCLKg while a PLL of its tiles runs. -/
def watched (s : State) (c : ClockSrc) : Bool :=
  match c with
  | .xo => true
  | .rootPll => isSet s Reg.CLK_STATUS Fld.CLK_STATUS_ROOT_ON
  | .refclk g => refWatched s g.val

/-- The cause code of a clock failure (RST_REASON). -/
def clockCause (c : ClockSrc) : Nat :=
  match c with
  | .xo => 0x02 | .rootPll => 0x03 | .refclk g => 4 + g.val

/-- A watched clock fails: cold reset (R379). -/
def clockFail (s : State) (c : ClockSrc) : State :=
  if s.pwr.terminal || s.pwr.flushing || s.pwr.phase == .held || !watched s c then s
  else coldHold s (clockCause c) .waitXo

/-! ### Power failure (R394–R397) -/

/-- STATE of PWR_STATUS set, with the records written. -/
def powerFailed (s : State) (records : Nat) : State :=
  setF (setF s Reg.PWR_STATUS Fld.PWR_STATUS_STATE 4) Reg.PWR_STATUS Fld.PWR_STATUS_PF_RECORDS records

/-- The shed (R394, R396): everything but AON, the SP, PERI and the flash path stops; the journal's buffer stays for the flush. -/
def shed (s : State) : State :=
  let jnl := rd s Reg.JNL_STATUS
  let seq := rd s Reg.JNL_SEQ
  let bg := s.bg
  let s := coldHold s 0x0B .held
  let s := wr (wr s Reg.JNL_STATUS jnl) Reg.JNL_SEQ seq
  { s with pwr := { s.pwr with flushing := true },
           bg := { s.bg with jbuf := bg.jbuf, summary := bg.summary, summClears := bg.summClears } }

/-- PWRFAIL_N is recognised (R394, R397). -/
def pwrfail (s : State) : State :=
  let s := { s with pwr := { s.pwr with pwrfailLow := true } }
  if s.pwr.terminal || s.pwr.flushing || s.pwr.phase == .held then s
  else if dormant s || s.pwr.phase == .waitXo || s.pwr.phase == .romSlow then
    let s := powerFailed (coldHold s 0x0B .held) 0
    { s with pwr := { s.pwr with pfDone := true } }
  else shed s

/-- The boot after a power failure whose supplies held: cold reset with cause 0x0B (R397, R476). -/
def pwrfailBoot (s : State) : State :=
  if s.pwr.pfDone && s.pwr.railsOk && !s.pwr.porLow && !s.pwr.terminal && !s.pwr.pwrfailLow && s.pwr.phase == .held then
    setF { s with pwr := { s.pwr with phase := .waitXo, pfDone := false, bootStart := s.edge } } Reg.PWR_STATUS Fld.PWR_STATUS_STATE 0
  else s

/-- The flush ends (R394): the buffered records and one power-fail record are in flash, and the device holds itself in reset. -/
def flushDone (s : State) : State :=
  if !s.pwr.flushing || s.pwr.terminal then s
  else
    let (n, s) := journalFlush s.bg.jbuf.length s
    let s := setF s Reg.PWR_STATUS Fld.PWR_STATUS_PF_RECORDS (min 255 (n + 1))
    let s := journalAdd s 4 (regBytes s Reg.PWR_STATUS 4 ++ natLe 1 n) []
    let (_, s) := journalFlush s.bg.jbuf.length s
    let s := holdDomains s
    pwrfailBoot { powerFailed s (min 255 (n + 1)) with pwr := { s.pwr with pfDone := true } }

/-- PWRFAIL_N is high again (R397, R476). -/
def pwrfailRise (s : State) : State := pwrfailBoot { s with pwr := { s.pwr with pwrfailLow := false } }

/-- VDD_AON falls below its operating minimum (R351, R382, R459, R480): everything but the flash, the OTP and the inputs is lost. -/
def aonLoss (s : State) : State :=
  let s := journalTear s
  { State.reset with flash := s.flash, otp := s.otp, out := s.out, lineAt := s.out.length, free := s.free, pending := s.pending, hosts := pinsKept s,
                     bg := { Background.reset with seqFloor := s.bg.seqFloor } }

/-- A supply other than VDD_AON is lost (R396, R476, R479): all that it and the domains around it held goes, LPDDR4X contents with VDD2 or
VDDQ_LP; the AON domain goes on, and with it the heartbeat unless its pins lose VDDIO_SB. -/
def supplyLoss (s : State) (r : Rail) : State :=
  let s := journalTear s
  let failing := s.pwr.flushing || s.pwr.pfDone
  let run := s.pwr.hbRun && r != .vddioSb
  let out := s.pwr.hbOut && r != .vddioSb
  let s := if s.pwr.hbOut && r == .vddioSb then emit s (.heartbeat false) else s
  let s := holdDomains s
  let s := if r = .vdd2 ∨ r = .vddqLp then { s with mem := [], ddr := ⟨[], [], 0, false⟩ } else s
  { s with pwr := { s.pwr with railsOk := false, pfDone := failing, hbRun := run, hbOut := out,
                               cause := if failing then some 0x0D else s.pwr.cause } }

/-- The SP's watchdog in the AON domain expires (R350, R479): TERMINAL.  It does not run while the SP is held in reset. -/
def spWatchdog (s : State) : State :=
  if s.pwr.terminal || s.pwr.porLow || s.pwr.pfDone || dormant s || (s.pwr.phase == .held && s.pwr.railsOk) || s.pwr.phase == .waitXo then s
  else terminalHold s 0x0003 ⟨Uk.sp, 0⟩

/-- AON_READ (R484): 32 bits of RST_REASON, 64 of RST_DETAIL, the TERMINAL latch and FAULT_N_LOW, as bytes of the 128-bit register. -/
def aonRead (s : State) : State :=
  let w := (rd s Reg.RST_REASON).toNat % 2 ^ 32 + (rd s Reg.RST_DETAIL).toNat * 2 ^ 32 + b2n s.pwr.terminal * 2 ^ 96 + b2n s.pwr.faultNLow * 2 ^ 97
  emit s (.jtag ((natLe 16 w).map (fun b => b.toNat)))

/-! ### Dormant (R385–R388) -/

/-- The conditions of R385. -/
def dormantMay (s : State) : Bool :=
  s.pwr.phase == .ready && up s && isSet s Reg.PWR_CTRL Fld.PWR_CTRL_DORMANT_EN && decide (mode s ≤ 3) &&
    (List.range 16).all (fun t => decide (2 ≤ tilePower s t)) && freeCells s == 262144 && s.fab.ctxs.isEmpty &&
    s.mover.insts.all (fun e => e.2.descs.isEmpty && e.2.recs.isEmpty && !e.2.fetching) &&
    (s.icp.spQ ++ s.icp.fwQ ++ s.icp.tmaQ ++ s.icp.running).isEmpty && s.icp.relays.isEmpty && s.bg.jbuf.isEmpty && s.pwr.warmReq.isNone

/-- The earliest moment at which LAUNDER, DARN or ORBIT would turn URGENT (R386, R428). -/
def dormantDue (s : State) : Option Nat :=
  let ld := if isSet s Reg.BG_CTRL Fld.BG_CTRL_LD_EN then (List.range 6).map (fun r => agetD s.bg.since r 0 + ms (bgDeadline s r)) else []
  let rest := [16, 17].filterMap (fun k =>
    if k = 17 ∧ orbitPeriod s = 0 then none else (aget s.bg.since k).map (fun t => t + ms (bgDeadline s k)))
  (ld ++ rest).foldl (fun b t => match b with | some x => some (min x t) | none => some t) none

/-- Entry to Dormant (R386); a deadline that has already come abandons it, and the device goes on (R388). -/
def dormantEnter (s : State) : State :=
  if !dormantMay s then s
  else
    let due := dormantDue s
    let s := wr s Reg.WAKE_TIMER (BitVec.ofNat 64 (due.getD 0))
    if (match due with | some t => decide (t ≤ s.time) | none => false) then
      setF (bump s Reg.PWR_DORMANT_ABORT_CNT) Reg.PWR_STATUS Fld.PWR_STATUS_LAST_WAKE 5
    else
      let s := setF (wr s Reg.CLK_STATUS 0x80000000) Reg.DDR_STATUS Fld.DDR_STATUS_SELF_REFRESH 1
      setF (bump { s with cong := { s.cong with voqAvg := [], staging := [] } } Reg.PWR_DORMANT_CNT) Reg.PWR_STATUS Fld.PWR_STATUS_STATE 2

/-- A wake cause in Dormant (R387, R388): the root PLL and the PLLs of a tile that the cause names start. -/
def dormantWake (s : State) (c : WakeCause) : State :=
  if getF s Reg.PWR_STATUS Fld.PWR_STATUS_STATE ≠ 2 ∨ !powered s then s
  else
    let s := setF (setF s Reg.PWR_STATUS Fld.PWR_STATUS_STATE 3) Reg.PWR_STATUS Fld.PWR_STATUS_LAST_WAKE c.code
    let s := wr s Reg.CLK_STATUS 0xC0000000
    match c with
    | .line t => tileWake s t.val
    | .pollChange p => portWake s p.val
    | .bmc => emit s .bmcNack
    | _ => s

/-- Device time reaches WAKE_TIMER (R387): in Dormant it goes on in AON cycles of 320 ns (R99), and nothing else happens until then. -/
def wakeTimer (s : State) : State :=
  if getF s Reg.PWR_STATUS Fld.PWR_STATUS_STATE ≠ 2 ∨ !powered s ∨ rd s Reg.WAKE_TIMER = 0 then s
  else
    let n := ((rd s Reg.WAKE_TIMER).toNat - s.time + 5119) / 5120
    dormantWake { s with time := s.time + 5120 * n, edge := s.edge + 16 * n } .timer

end Sys2Proof.Machine
end

