-- ==== Sys2Proof/Machine/RingOps.lean ====
section
/-!
DEFINITION. Machine/RingOps.lean: the rings that COMET and the sampler write in LPDDR4X, and the read pointers of rings and logs (R93–R96, R158,
R427, R464).
-/
namespace Sys2Proof.Machine

/-- The registers of a ring writer: COMET or the sampler. -/
structure RingRegs where
  ctrl : Nat
  base : Nat
  size : Nat
  wrPtr : Nat
  rdPtr : Nat
  thresh : Nat
  status : Nat
  lost : Nat
  master : Nat
  vector : Nat
  deriving DecidableEq, Repr

def cometRing : RingRegs :=
  { ctrl := Reg.COMET_CTRL, base := Reg.COMET_RING_BASE, size := Reg.COMET_RING_SIZE, wrPtr := Reg.COMET_WR_PTR, rdPtr := Reg.COMET_RD_PTR,
    thresh := Reg.COMET_THRESH, status := Reg.COMET_STATUS, lost := Reg.COMET_LOST_CNT, master := 6, vector := 6 }

def smpRing : RingRegs :=
  { ctrl := Reg.SMP_CTRL, base := Reg.SMP_RING_BASE, size := Reg.SMP_RING_SIZE, wrPtr := Reg.SMP_RING_WR, rdPtr := Reg.SMP_RING_RD,
    thresh := Reg.SMP_THRESH, status := Reg.SMP_STATUS, lost := Reg.SMP_LOST_CNT, master := 7, vector := 7 }

/-- Records that the ring counts, a power of two (R94). -/
def RingRegs.cap (r : RingRegs) (s : State) : Nat := 2 ^ (getF s r.size Fld.COMET_RING_SIZE_SIZE_LOG2 - 6)

/-- Unread records (R94). -/
def RingRegs.unread (r : RingRegs) (s : State) : Nat :=
  ((rd s r.wrPtr).toNat + r.cap s - (rd s r.rdPtr).toNat % r.cap s) % r.cap s

/-- The ring is full, at one record less than its capacity (R94). -/
def RingRegs.full (r : RingRegs) (s : State) : Bool := r.unread s == r.cap s - 1

/-- LPDDR4X address of the next record; base bits below the ring's size are taken as 0 (R450). -/
def RingRegs.addr (r : RingRegs) (s : State) : Nat :=
  let z := 2 ^ getF s r.size Fld.COMET_RING_SIZE_SIZE_LOG2
  (rd s r.base).toNat / z * z + 64 * (rd s r.wrPtr).toNat

/-- The interrupt of the ring when its unread count rises to THRESH (R96). -/
def ringThresh (s : State) (r : RingRegs) (before : Nat) : Bool × State :=
  let t := (rd s r.thresh).toNat
  if t ≠ 0 ∧ before < t ∧ t ≤ r.unread s then (true, msixManagers s r.vector) else (false, s)

/-- A record goes to the ring (R93, R94): written and WR_PTR advanced, or lost; a ring that it fills, with WRAP at 0, is STOPPED.  Answers whether it was
written and whether the vector was raised. -/
def ringPut (s : State) (r : RingRegs) (b : List Byte) : Bool × Bool × State :=
  let wrap := isSet s r.ctrl Fld.COMET_CTRL_WRAP
  if !ddrOk s then (false, false, bump s r.lost)
  else if r.full s && !wrap then (false, false, setF (bump s r.lost) r.status Fld.COMET_STATUS_STOPPED 1)
  else
    match ddrAccess s (r.addr s) .write r.master 1 with
    | (false, s) => (false, false, bump s r.lost)
    | (true, s) =>
      let before := r.unread s
      let s := if r.full s then
          setF (wr s r.rdPtr (BitVec.ofNat 64 (((rd s r.rdPtr).toNat + 1) % r.cap s))) r.status Fld.COMET_STATUS_OVERRUN 1 else s
      let s := { s with mem := memWrite s.mem (r.addr s) b }
      let s := wr s r.wrPtr (BitVec.ofNat 64 (((rd s r.wrPtr).toNat + 1) % r.cap s))
      let s := if r.full s && !wrap then setF s r.status Fld.COMET_STATUS_STOPPED 1 else s
      let (told, s) := ringThresh s r before
      (true, told, s)

/-- Bytes of a staged COMET record, with the count of records lost just before it (R92). -/
def CometRec.bytes (c : CometRec) (loss : Nat) : List Byte :=
  c.head ++ natLe 1 (min 255 loss) ++ natLe 1 c.hdrLen ++ natLe 4 c.seq ++ c.tail

/-- COMET writes the oldest staged record, and gives its cell back (R93). -/
def cometWrite (s : State) : State :=
  match s.cong.staging with
  | [] => s
  | c :: rest =>
    if isFenced s ⟨Uk.comet, 0⟩ then s else
    let s := subShared { s with cong := { s.cong with staging := rest } } c.port 3 1
    let loss := (c.seq + 4294967296 - s.cong.cometNext) % 4294967296
    match ringPut s cometRing (c.bytes loss) with
    | (true, told, s) =>
      { s with cong := { s.cong with cometNext := (c.seq + 1) % 4294967296, cometLast := s.time, cometTold := told } }
    | (false, _, s) => s

/-- Spill is droppable traffic (R64, R81): it needs a cell of the droppable share of the ingress port, and meets the profile (CAP_VC, green) at the
queue of completed entries.  Whether it passes. -/
def smpAdmit (s : State) (port : Nat) : Bool × State :=
  if !admits s port 3 1 then (false, countDrop s)
  else
    let vc := getF s Reg.CC_CTRL Fld.CC_CTRL_CAP_VC
    let (a, s) := updateAvg s 2001 vc 0 s.cong.smpDone.length
    let (hit, s) := redDraw s vc 0 a
    if hit then (false, countDrop (bump s Reg.CC_DROP_CNT)) else (true, s)

/-- The sampler spills the oldest completed record and frees its entry (R426, R427); one that is not admitted is lost. -/
def smpSpill (s : State) : State :=
  match s.cong.smpDone with
  | [] => s
  | i :: rest =>
    match aget s.cong.smpEntries i with
    | none => { s with cong := { s.cong with smpDone := rest } }
    | some e =>
      if isFenced s ⟨Uk.sampler, 0⟩ then s
      else if !ddrOk s || (smpRing.full s && !isSet s Reg.SMP_CTRL Fld.COMET_CTRL_WRAP) then
        if ddrOk s then setF s Reg.SMP_STATUS Fld.SMP_STATUS_STOPPED 1 else s
      else
        let (ok, s) := smpAdmit s e.inPort
        let s := { s with cong := { s.cong with smpDone := rest, smpEntries := adel s.cong.smpEntries i } }
        if !ok then bump s Reg.SMP_LOST_CNT
        else
        match ringPut s smpRing e.bytes with
        | (true, told, s) => { s with cong := { s.cong with smpLast := s.time, smpTold := told } }
        | (false, _, s) => s

/-- HOLDOFF has passed with records unread and the vector not raised since the last record (R96). -/
def ringHoldoff (s : State) (r : RingRegs) (last : Nat) (told : Bool) : Bool :=
  let h := getF s r.ctrl Fld.COMET_CTRL_HOLDOFF
  decide (0 < h) && decide (last + us h ≤ s.time) && decide (0 < r.unread s) && !told

def cometHoldoff (s : State) : State :=
  if ringHoldoff s cometRing s.cong.cometLast s.cong.cometTold then
    msixManagers { s with cong := { s.cong with cometTold := true } } 6 else s

def smpHoldoff (s : State) : State :=
  if ringHoldoff s smpRing s.cong.smpLast s.cong.smpTold then
    msixManagers { s with cong := { s.cong with smpTold := true } } 7 else s

/-- A write of a ring writer's control register: EN from 0 to 1 zeroes the pointers (R95); `plain` is the state with the fields stored. -/
def ringCtrl (s : State) (r : RingRegs) (plain : State) : State :=
  if isSet plain r.ctrl Fld.COMET_CTRL_EN && !isSet s r.ctrl Fld.COMET_CTRL_EN then
    setF (wr (wr plain r.wrPtr 0) r.rdPtr 0) r.status Fld.COMET_STATUS_STOPPED 0
  else plain

/-- A write of RING_BASE or RING_SIZE while EN is 1 is discarded and sets CFG_ERR (R95). -/
def ringPlace (s : State) (r : RingRegs) (plain : State) : State :=
  if isSet s r.ctrl Fld.COMET_CTRL_EN then setF s r.status Fld.COMET_STATUS_CFG_ERR 1 else plain

/-- A write of RD_PTR frees records, or is discarded with CFG_ERR outside RD_PTR to WR_PTR (R95). -/
def ringRead (s : State) (r : RingRegs) (v : Nat) : State :=
  let c := r.cap s
  let old := (rd s r.rdPtr).toNat
  if v < c ∧ (v + c - old % c) % c ≤ r.unread s then
    let s := wr s r.rdPtr (BitVec.ofNat 64 v)
    if r.full s then s else setF s r.status Fld.COMET_STATUS_STOPPED 0
  else setF s r.status Fld.COMET_STATUS_CFG_ERR 1

/-- A write of RD of a log frees entries, or is discarded outside RD to WR (R158, R464): `n` is what the pointers count modulo. -/
def logRead (s : State) (k : Nat) (wrF rdF : Field) (n v : Nat) : State :=
  let old := getF s k rdF
  if (v + n - old) % n ≤ (getF s k wrF + n - old) % n then setF s k rdF v else s

def pflRead (s : State) (v x : Nat) : State := logRead s (Reg.PFL_PTR v) Fld.PFL_PTR_WR Fld.PFL_PTR_RD 64 (x % 64)
def sbErrRead (s : State) (x : Nat) : State := logRead s Reg.SB_ERR_PTR Fld.SB_ERR_PTR_WR Fld.SB_ERR_PTR_RD 32 (x % 32)

end Sys2Proof.Machine
end

