-- ==== Sys2Proof/Machine/RegWrite.lean ====
section
/-!
DEFINITION. Machine/RegWrite.lean: what a write does to a register (R9–R12), and the registers whose writes do more than store their fields.
-/
namespace Sys2Proof.Machine

/-- The value of a register after a write of the bits in `mask` by a master: RW and RWS fields take what is written, RW1C bits clear where 1 is
written, SPW fields are the SP's (master 0) alone. -/
def storedBits (f : Family) (m : Nat) (old w mask : Word) : Word :=
  let rw := f.maskOf (fun a => a == .rw || a == .rws || (a == .spw && m == 0)) &&& mask
  let w1c := f.maskOf (fun a => a == .rw1c) &&& mask &&& w
  ((old &&& ~~~rw) ||| (w &&& rw)) &&& ~~~w1c

/-- The logs whose SECOND clears with VALID: both at the top of 64 bits. -/
def isLog (k : Nat) : Bool :=
  let f := famNo k
  f == Reg.CORE_ERR_LOG || f == Reg.LATE_LOG || f == Reg.MPU_DENY_LOG 0 || f == Reg.DDR_ERR_LOG

/-- A write stored field by field, with no further effect. -/
def regPlain (s : State) (m k : Nat) (w mask : Word) : State :=
  match famOf k with
  | none => s
  | some f =>
    let v := storedBits f m (rd s k) w mask
    let v := if isLog k && !v.getLsbD 63 then v &&& ~~~(0x4000000000000000#64) else v
    wr s k (stored k v)

/-- A write attempts to change an SPW field (R11): a bit written into one differs from what the field holds. -/
def spwAttempt (s : State) (m k : Nat) (w mask : Word) : Bool :=
  m != 0 && (match famOf k with
             | some f => ((regView s k ^^^ w) &&& mask &&& f.maskOf (fun a => a == .spw)) != 0
             | none => false)

/-- An attempt on what only the SP may write is logged, counted and raises source 0x0010 against the master (R349). -/
def spwRecord (s : State) (m off : Nat) : State :=
  let k := Reg.SP_SPW_LOG
  let s := if isSet s k Fld.SP_SPW_LOG_VALID then setF s k Fld.SP_SPW_LOG_SECOND 1
    else setF (setF (setF s k Fld.SP_SPW_LOG_MASTER m) k Fld.SP_SPW_LOG_OFFSET off) k Fld.SP_SPW_LOG_VALID 1
  detect (bump s Reg.SP_SPW_CNT) 0x0010 .corrected Uk.master m (m % 16 * 2 ^ 32 + off % 2 ^ 32)

/-- CZ_CTRL (R189, R200): the offers, TRAIN_EN and RESET_REQ act after the other fields are stored. -/
def czCtrlWrite (s : State) (n m : Nat) (w mask : Word) : State :=
  let k := Reg.CZ_CTRL n
  let held := Fld.CZ_CTRL_TRAIN_EN.mask ||| Fld.CZ_CTRL_OFFER_W.mask ||| Fld.CZ_CTRL_OFFER_R.mask
  let ow := Fld.CZ_CTRL_OFFER_W.get w
  let or_ := Fld.CZ_CTRL_OFFER_R.get w
  let on := Fld.CZ_CTRL_TRAIN_EN.get w = 1
  let offer := mask &&& (Fld.CZ_CTRL_OFFER_W.mask ||| Fld.CZ_CTRL_OFFER_R.mask) != 0
  let was := isSet s k Fld.CZ_CTRL_TRAIN_EN
  let s := regPlain s m k w (mask &&& ~~~held)
  let s := if offer then offerWrite s n ow or_ else s
  let s := if on && !was then trainEnSet s n else if !on && was then trainEnClear s n else s
  if Fld.CZ_CTRL_RESET_REQ.get w = 1 then czResetReq s n else s

/-- PORT_CFG: a port whose LINK_EN is set begins to train; one whose LINK_EN is cleared trains no more, and a link that is up stays. -/
def portCfgWrite (s : State) (p m : Nat) (w mask : Word) : State :=
  let k := Reg.PORT_CFG p
  let was := isSet s k Fld.PORT_CFG_LINK_EN
  let s := regPlain s m k w mask
  let on := isSet s k Fld.PORT_CFG_LINK_EN
  let lt := getF s (Reg.PORT_STATUS p) Fld.PORT_STATUS_LTSSM
  if on && !was then (if isPcie s p && lt == 0 then portBegin s p else s)
  else if was && !on && decide (lt ≤ 3) then setLtssm s p 0
  else s

/-- PORT_CTRL (R305, R307, R308, R309). -/
def portCtrlWrite (s : State) (p : Nat) (w : Word) : State :=
  let k := Reg.PORT_CTRL p
  let force := Fld.PORT_CTRL_PERST_FORCE.get w
  let dis := Fld.PORT_CTRL_DISABLE.get w
  let s := if getF s k Fld.PORT_CTRL_PERST_FORCE = force then s else perstForce s p (force == 1)
  let s := if getF s k Fld.PORT_CTRL_DISABLE = dis then s else setDisable s p (dis == 1)
  let s := if Fld.PORT_CTRL_RELEASE.get w = 1 then portRelease s p else s
  if Fld.PORT_CTRL_RETRAIN.get w = 1 then retrain s p else s

/-- ATC_FLUSH empties the ATC; entries in use finish (R245). -/
def atcFlush (s : State) : State := { s with mover := { s.mover with atc := [] } }

/-- Clearing an engine's ENG_EN bit: it ends its chunk and takes no more work (R353). -/
def engineDisable (s : State) (e : Nat) : State :=
  engGo (setF s Reg.MV_CTRL Fld.MV_CTRL_ENG_EN (clearBit (getF s Reg.MV_CTRL Fld.MV_CTRL_ENG_EN) e)) e

/-- MV_CTRL (R245, R353): an engine enabled again lets the instances fetch. -/
def mvCtrlWrite (s : State) (w : Word) : State :=
  let old := getF s Reg.MV_CTRL Fld.MV_CTRL_ENG_EN
  let new := Fld.MV_CTRL_ENG_EN.get w
  let s := forEach ((bitsOf 16 old).filter (fun e => !new.testBit e)) s engineDisable
  let s := setF s Reg.MV_CTRL Fld.MV_CTRL_ENG_EN new
  let s := if (bitsOf 16 new).all (fun e => old.testBit e) then s else forEach (s.mover.insts.map (fun e => e.1)) s fetchNext
  if Fld.MV_CTRL_ATC_FLUSH.get w = 1 then atcFlush s else s

/-- PC_CTRL of a counter bank (R423). -/
def pcCtrlWrite (s : State) (bank m : Nat) (w mask : Word) : State :=
  let s := regPlain s m (Reg.PC_CTRL bank) w mask
  let s := pcFreeze s bank (Fld.PC_CTRL_FREEZE.get w == 1)
  if Fld.PC_CTRL_CLEAR.get w = 1 then pcClear s bank else s

/-- ICP_RING_CFG (R324): the sizes are held while EN is 1; EN starts or ends the channel, and stays 0 while the ICP_MGR bit is 0. -/
def ringCfgWrite (s : State) (v : Nat) (w : Word) : State :=
  let sq := Fld.ICP_RING_CFG_SQ_LOG2.get w
  let cq := Fld.ICP_RING_CFG_CQ_LOG2.get w
  if Fld.ICP_RING_CFG_EN.get w = 1 then
    if (rd s Reg.ICP_MGR).getLsbD v then ringEnable s v sq cq
    else regPlain s 15 (Reg.ICP_RING_CFG v) (Fld.ICP_RING_CFG_EN.set w 0) 0xFFFFFFFF#64
  else if ringOn s v then ringDisable s v
  else regPlain s 15 (Reg.ICP_RING_CFG v) w 0xFFFFFFFF#64

/-- INST_CTRL of a Mover PF acts on the instance that MVPF_INST_SEL selects, where it is bound to the vSwitch (R235). -/
def instSelected (s : State) (v : Nat) : Option Nat :=
  let n := getF s (Reg.MVPF_INST_SEL v) Fld.MVPF_INST_SEL_INSTANCE
  if instVsw s n = some v then some n else none

def instCtrlWrite (s : State) (v : Nat) (w : Word) : State :=
  match instSelected s v with
  | none => s
  | some n =>
    let s := if Fld.INST_CTRL_ENABLE.get w = 1 then instEnable s n else s
    let s := if Fld.INST_CTRL_DISABLE.get w = 1 then instDisable s n else s
    if Fld.INST_CTRL_QUIESCE.get w = 1 then instQuiesce s n (Fld.INST_CTRL_ABORT.get w == 1) true else s

/-- INST_MB_CTRL of an instance (R253). -/
def mbCtrlWrite (s : State) (n : Nat) (w : Word) : State :=
  let s := if Fld.INST_MB_CTRL_ACK.get w = 1 then mbAck s n else s
  if Fld.INST_MB_CTRL_SEND.get w = 1 then mbSend s n else s

/-- The table access registers (R79, R113, R132, R137, R148, R209, R271). -/
def accWrite (s : State) (m k : Nat) (w : Word) : Option State :=
  let f := famNo k
  if f = Reg.FAM_ACC then some (famAcc s m false w)
  else if f = Reg.BIND_ACC then some (bindAcc s m false w)
  else if f = Reg.ROUTE_ACC then some (routeAcc s m false w)
  else if f = Reg.TBL_ACC then some (tblAcc s m false w)
  else if f = Reg.CTX_ACC then some (ctxAcc s m w)
  else if f = Reg.TWIN_SHADOW_ACC then some (shadowAcc s m w)
  else if f = Reg.TILE_COEF_ACC 0 then some (coefAcc s (inst1 k) w)
  else none

/-- The registers of the rings in LPDDR4X and of the logs (R95, R158, R427, R464). -/
def ringWrite (s : State) (m k : Nat) (w mask : Word) : Option State :=
  let f := famNo k
  let plain := regPlain s m k w mask
  if f = Reg.COMET_CTRL then some (ringCtrl s cometRing plain)
  else if f = Reg.SMP_CTRL then some (ringCtrl s smpRing plain)
  else if f = Reg.COMET_RING_BASE ∨ f = Reg.COMET_RING_SIZE then some (ringPlace s cometRing plain)
  else if f = Reg.SMP_RING_BASE ∨ f = Reg.SMP_RING_SIZE then some (ringPlace s smpRing plain)
  else if f = Reg.COMET_RD_PTR then some (ringRead s cometRing (w.toNat % 2 ^ 32))
  else if f = Reg.SMP_RING_RD then some (ringRead s smpRing (w.toNat % 2 ^ 32))
  else if f = Reg.PFL_PTR 0 then some (pflRead s (inst1 k) w.toNat)
  else if f = Reg.SB_ERR_PTR then some (sbErrRead s w.toNat)
  else none

/-- The registers of BARs (R235, R243, R253, R322–R324). -/
def barRegWrite (s : State) (k : Nat) (w mask : Word) : Option State :=
  let f := famNo k
  let i := inst1 k
  if f = Reg.ICP_RING_CFG 0 then some (ringCfgWrite s i w)
  else if f = Reg.ICP_SQ_TAIL 0 then some (if ringOn s i then sqTailWrite s i (w.toNat % 2 ^ 32) else s)
  else if f = Reg.ICP_CQ_HEAD 0 then some (if ringOn s i then cqHeadWrite s i (w.toNat % 2 ^ 32) else s)
  else if f = Reg.ICP_SQ_BASE 0 ∨ f = Reg.ICP_CQ_BASE 0 then some (if ringOn s i then s else regPlain s 15 k w mask)
  else if f = Reg.INST_TAIL 0 then some (tailWrite s i (w.toNat % 2 ^ 32))
  else if f = Reg.INST_MB_CTRL 0 then some (mbCtrlWrite s i w)
  else if f = Reg.INST_CTRL 0 then some (instCtrlWrite s i w)
  else none

/-- The registers of links, ports, engines, counters and memory protection whose writes act at once. -/
def unitWrite (s : State) (m k : Nat) (w mask : Word) : Option State :=
  let f := famNo k
  let i := inst1 k
  if f = Reg.CZ_CTRL 0 then some (czCtrlWrite s i m w mask)
  else if f = Reg.CZ_TIMER 0 then
    some (regPlain s m k w (if isTwinLink s i then mask &&& ~~~(Fld.CZ_TIMER_KA_INTERVAL.mask ||| Fld.CZ_TIMER_LD_TIMEOUT.mask) else mask))
  else if f = Reg.CZ_STORED 0 then some (if Fld.CZ_STORED_CLEAR.get w = 1 then storedClear s i else s)
  else if f = Reg.PORT_CFG 0 then some (portCfgWrite s i m w mask)
  else if f = Reg.PORT_CTRL 0 then some (portCtrlWrite s i w)
  else if f = Reg.MV_CTRL then some (mvCtrlWrite s w)
  else if f = Reg.PC_CTRL 0 then some (pcCtrlWrite s i m w mask)
  else if f = Reg.MPU_COMMIT 0 then some (mpuCommit s i)
  else if f = Reg.SB_POLL 0 then some (pollWrite s i ((rd s k &&& ~~~mask) ||| (w &&& mask)))
  else none

/-- A write of the bits in `mask` of a register by a master, at CRS offset `off`: the attempt on an SPW field and the write of a locked MPU
region are recorded (R349, R456); every other field acts as its code and its rule say. -/
def regCommit (s : State) (m k : Nat) (w mask : Word) (off : Nat) : State :=
  if mpuLocked s k && m != 0 then spwRecord s m off
  else
    let s := if spwAttempt s m k w mask then spwRecord s m off else s
    match cvuOf k with
    | some n => cvWrite s n m k w (regPlain s m k w mask)
    | none =>
      match accWrite s m k w with
      | some s => s
      | none =>
        match ringWrite s m k w mask with
        | some s => s
        | none =>
          match barRegWrite s k w mask with
          | some s => s
          | none =>
            match unitWrite s m k w mask with
            | some s => s
            | none => regPlain s m k w mask

end Sys2Proof.Machine
end

