-- ==== Sys2Proof/Machine/RegPort.lean ====
section
/-!
DEFINITION. Machine/RegPort.lean: accesses to registers: through the interconnect, and through the BARs of the part's own functions (R109, R236,
R348, R449–R454, R462).
-/
namespace Sys2Proof.Machine

/-! ### Halves of 64-bit registers (R449) -/

/-- What a master holds (`w`: a held write) or has captured of a register. -/
def halfGet (s : State) (m k : Nat) (w : Bool) : Option Nat :=
  (s.half.find? (fun x => x.master == m && x.key == k && x.isWrite == w)).map (fun x => x.value)

/-- The master drops what it holds or has captured of one kind. -/
def halfDrop (s : State) (m : Nat) (w : Bool) : State := { s with half := s.half.filter (fun x => x.master != m || x.isWrite != w) }

/-- The master holds or has captured a value of a register. -/
def halfPut (s : State) (m k : Nat) (w : Bool) (v : Nat) : State :=
  let s := halfDrop s m w
  { s with half := s.half ++ [⟨m, k, w, v⟩] }

/-- An access of a master to a register discards what it holds or has captured of any other. -/
def halfOther (s : State) (m k : Nat) : State := { s with half := s.half.filter (fun x => x.master != m || x.key == k) }

/-- An RC field that lies in the bits of a mask is read: it is 0 from now on (R9). -/
def clearRead (s : State) (k : Nat) (mask : Word) : State :=
  match famOf k with
  | none => s
  | some f => wr s k (rd s k &&& ~~~(f.maskOf (fun a => a == .rc) &&& mask))

/-- A read of a register that reaches it: the value returned, and the state after it. -/
def regGet (s : State) (m : Nat) (h : RegHit) (bytes : Nat) : Nat × State :=
  let k := h.key
  let s := halfOther s m k
  let v := (regView s k).toNat
  if h.fam.width = 32 ∨ bytes = 8 then (v, clearOnRead s k)
  else if h.high then
    match halfGet s m k false with
    | some x => (x, halfDrop s m false)
    | none => (v / 2 ^ 32, clearRead s k 0xFFFFFFFF00000000#64)
  else (v % 2 ^ 32, halfPut (clearOnRead s k) m k false (v / 2 ^ 32))

/-- A write of a register that reaches it. -/
def regPut (s : State) (m : Nat) (h : RegHit) (bytes v off : Nat) : State :=
  let k := h.key
  let s := halfOther s m k
  if h.fam.width = 32 then regCommit s m k (BitVec.ofNat 64 (v % 2 ^ 32)) 0xFFFFFFFF#64 off
  else if bytes = 8 then regCommit s m k (BitVec.ofNat 64 v) (BitVec.allOnes 64) off
  else if h.high then
    match halfGet s m k true with
    | some x => regCommit (halfDrop s m true) m k (BitVec.ofNat 64 (v % 2 ^ 32 * 2 ^ 32 + x)) (BitVec.allOnes 64) (off - 4)
    | none => regCommit s m k (BitVec.ofNat 64 (v % 2 ^ 32 * 2 ^ 32)) 0xFFFFFFFF00000000#64 off
  else halfPut s m k true (v % 2 ^ 32)

/-- An access of these bytes at this offset reaches the register found there (R449). -/
def reaches (h : RegHit) (off bytes : Nat) : Bool :=
  let f := h.key % 512
  match bytes with
  | 4 => off % 4 == 0
  | 8 => off % 8 == 0 && !h.high && h.fam.width == 64
  | 1 | 2 => (f == Reg.CV_DATA8 0 || f == Reg.CV_DATA16 0) && off % bytes == 0
  | _ => false

/-! ### CRS -/

/-- The ring registers of a vSwitch, mirrored read-only at CRS 0x0E00_1000 + v × 0x40 (chapter 12, Registers). -/
def ringMirror (off : Nat) : Option RegHit :=
  if 0x0E001000 ≤ off ∧ off < 0x0E001800 then
    let v := (off - 0x0E001000) / 0x40
    (famSearch .mgmtBar0 ((off - 0x0E001000) % 0x40) 0 famTable).map (fun h => { h with key := h.key + 512 * v })
  else none

/-- The bytes of an export slot (R415), where an offset lies in one. -/
def exportRead (s : State) (off n : Nat) : Option (List Byte) :=
  if 0x0800A000 ≤ off ∧ off < 0x0800E000 then
    some (fit n ((fit 8192 (agetD s.bg.exportSlots ((off - 0x0800A000) / 8192) [])).drop ((off - 0x0800A000) % 8192)))
  else none

/-- The offset lies in the transfer window of the sideband bridge (R462), or among the bridge's registers. -/
def inWindow (off : Nat) : Bool := decide (0x0B100000 ≤ off) && decide (off < 0x0B200000)
def inBridge (off : Nat) : Bool := decide (0x0B000000 ≤ off) && decide (off < 0x0B200000)

/-- Whether an access is let through to its target, and the state after the checks (R348, R352, R451–R454): 0 it reaches its target, 1 it is
discarded and a read returns 0, 2 the same with an error response. -/
def crsCheck (s : State) (m : Master) (off : Nat) (k : Rwx) : Nat × State :=
  let id := m.id.val
  if 0x00108000 ≤ off ∧ off < 0x00200000 ∧ id ≠ 0 then (1, spwRecord s id off)
  else if 1 ≤ id ∧ id ≤ 4 && isFenced s ⟨Uk.mgmt, 0⟩ then (2, s)
  else if id = 12 && mode s != 5 then (2, s)
  else
    match mpuOf off with
    | none => (0, s)
    | some u =>
      if mpuAllows s u off k id m.priv.val then (0, s)
      else (if (1 ≤ id ∧ id ≤ 4) ∨ id = 12 ∨ id = 13 then 2 else 1, mpuDeny s u off k id m.priv.val false)

/-- A read at a CRS offset: value, error response, state.  The transfer window is not read here. -/
def crsGet (s : State) (m : Master) (off bytes : Nat) : Nat × Bool × State :=
  match crsCheck s m off .read with
  | (0, s) =>
    match exportRead s off bytes with
    | some b => (if off % bytes = 0 then leNat b else 0, false, s)
    | none =>
      match crsAt off with
      | some h => if reaches h off bytes then (let (v, s) := regGet s m.id.val h bytes; (v % 2 ^ (8 * bytes), false, s)) else (0, false, s)
      | none =>
        match ringMirror off with
        | some h => if reaches h off bytes then (let v := (regView s h.key).toNat
                                                 (if h.high then v / 2 ^ 32 else v % 2 ^ (8 * bytes), false, s)) else (0, false, s)
        | none => (0, false, s)
  | (c, s) => (0, c == 2, s)

/-- A locked or exclusive access to the bridge (R463): NOT_SUPPORTED, and a log entry with reason 0x06. -/
def sbLocked (s : State) (a : Access) : State :=
  let bus := if inWindow a.offset then (windowParts a.offset).1 else 0
  emit (sbLog s a.offset a.by_.id.val 0x06 bus a.by_.vsw.val) (.writeErr a.by_)

/-- A write at a CRS offset: error response, state. -/
def crsPut (s : State) (a : Access) (v : Nat) : Bool × State :=
  let m := a.by_
  match crsCheck s m a.offset .write with
  | (0, s) =>
    if inBridge a.offset && a.locked then (false, sbLocked s a)
    else if inWindow a.offset then (false, if a.bytes = 4 ∧ a.offset % 4 = 0 then windowWrite s a v else s)
    else
      match crsAt a.offset with
      | some h => (false, if reaches h a.offset a.bytes then regPut s m.id.val h a.bytes (v % 2 ^ (8 * a.bytes)) a.offset else s)
      | none => (false, s)
  | (c, s) => (c == 2, s)

/-- Bytes of the next access of a request for `all` bytes of which `n` are left: a request for 8 bytes at a register is one access
(R449); a longer one goes on register by register. -/
def accWidth (all off n : Nat) (hit : Option RegHit) (both : Bool) : Nat :=
  if hit.isSome ∧ all = 8 then 8
  else if both then 8 else if off % 4 = 0 ∧ 4 ≤ n then 4 else if off % 2 = 0 ∧ 2 ≤ n then 2 else 1

/-- Bytes read from CRS by one request, register by register in address order: a 64-bit register whose two halves lie in the request is read in
one access (R345). -/
def crsSpan (m : Master) (all : Nat) : Nat → Nat → Nat → State → List Byte × Bool × State
  | 0, _, _, s => ([], false, s)
  | fuel + 1, off, n, s =>
    if n = 0 then ([], false, s)
    else
      let both := off % 8 == 0 && decide (8 ≤ n) && (match crsAt off with | some h => reaches h off 8 | none => false)
      let z := accWidth all off n (crsAt off) both
      let (v, e, s) := crsGet s m off z
      let (bs, e', s) := crsSpan m all fuel (off + z) (n - z) s
      (natLe z v ++ bs, e || e', s)

/-- Bytes written to CRS by one request, as `crsSpan` reads them. -/
def crsWriteSpan (m : Master) (all : Nat) : Nat → Nat → List Byte → State → Bool × State
  | 0, _, _, s => (false, s)
  | fuel + 1, off, b, s =>
    let n := b.length
    if n = 0 then (false, s)
    else
      let both := off % 8 == 0 && decide (8 ≤ n) && (match crsAt off with | some h => reaches h off 8 | none => false)
      let z := accWidth all off n (crsAt off) both
      let (e, s) := crsPut s ⟨m, .crs, off, z, false⟩ (leNat (b.take z))
      let (e', s) := crsWriteSpan m all fuel (off + z) (b.drop z) s
      (e || e', s)

/-! ### Areas of the BARs -/

/-- The register of a BAR that an offset names (R109, R158, R236). -/
def barReg (s : State) (sp : Space) (off : Nat) : Option RegHit :=
  match sp with
  | .crs => none
  | .mgmtBar0 v =>
    if off = 0x80400 then (famOf (Reg.PFL_PTR v.val)).map (fun f => ⟨Reg.PFL_PTR v.val, f, false⟩)
    else if off = 0x80404 then (famOf (Reg.PFL_OVF v.val)).map (fun f => ⟨Reg.PFL_OVF v.val, f, false⟩)
    else (famSearch .mgmtBar0 off 0 famTable).map (fun h => { h with key := h.key + 512 * v.val })
  | .moverBar0 v => (famSearch .moverBar0 off 0 famTable).map (fun h => { h with key := h.key + 512 * v.val })
  | .moverBar2 v => if instVsw s (off / 4096) = some v.val then famSearch .moverBar2 off 0 famTable else none

/-- MSI-X vectors of a function of the part, and where its table and its pending bits lie in BAR0 (chapters 5 and 9). -/
def msixArea (fn : Nat) : Nat × Nat × Nat := if fn = fnMgmt then (64, 0xF0000, 0xF8000) else (3, 0x8000, 0xC000)

/-- The 16 bytes of an MSI-X table entry. -/
def msixEntry (s : State) (v fn i : Nat) : List Byte :=
  let x := s.vsw v
  let k := fn * 65536 + i
  natLe 4 (agetD x.msixTab (k * 4) 0) ++ natLe 4 (agetD x.msixTab (k * 4 + 1) 0) ++ natLe 4 (agetD x.msixTab (k * 4 + 2) 0) ++
    natLe 4 (b2n (x.msixMask.contains k))

/-- Bytes of an MSI-X table or of its pending bits, where an offset lies in one. -/
def msixRead (s : State) (v fn off n : Nat) : Option (List Byte) :=
  let (c, tab, pba) := msixArea fn
  if tab ≤ off ∧ off < tab + 16 * c then
    some (fit n (((List.range c).flatMap (msixEntry s v fn)).drop (off - tab)))
  else if pba ≤ off ∧ off < pba + 8 then
    let x := s.vsw v
    some (fit n ((natLe 8 ((bitsOf c (((List.range c).filter (fun i => x.msixPend.contains (fn * 65536 + i))).foldl setBit 0)).foldl setBit 0)).drop (off - pba)))
  else none

/-- A double word of an MSI-X table is written: clearing a mask sends the vector that it held back (R125). -/
def msixWrite (s : State) (v fn off w : Nat) : State :=
  let (c, tab, _) := msixArea fn
  if tab ≤ off ∧ off < tab + 16 * c ∧ off % 4 = 0 then
    let i := (off - tab) / 16
    let d := (off - tab) % 16 / 4
    let k := fn * 65536 + i
    if d < 3 then s.modVsw v (fun x => { x with msixTab := aset 0 x.msixTab (k * 4 + d) (if d = 0 then w / 4 * 4 else w) })
    else if w % 2 = 1 then s.modVsw v (fun x => { x with msixMask := if x.msixMask.contains k then x.msixMask else x.msixMask ++ [k] })
    else
      let held := (s.vsw v).msixPend.contains k
      let s := s.modVsw v (fun x => { x with msixMask := x.msixMask.filter (fun y => y != k), msixPend := x.msixPend.filter (fun y => y != k) })
      if held then msix s v fn i else s
  else s

/-- The Posted Failure Log of a vSwitch as its BAR0 shows it (R158). -/
def pflArea (s : State) (v : Nat) : List Byte :=
  (List.range 32).flatMap (fun i => match aget s.fab.pfl (v * 32 + i) with | some e => fit 32 e.bytes | none => zeros 32)

/-- RELAY_PEND of a Mover PF: the instances bound to its vSwitch with a relay waiting. -/
def relayPend (s : State) (v : Nat) : List Byte :=
  let m := (s.mover.relayPend.filter (fun n => instVsw s n == some v)).foldl setBit 0
  natLe 512 m

/-- Bytes of an area of a BAR that holds no register (R109, R158, R236, R237, R253). -/
def barBytes (s : State) (sp : Space) (off n : Nat) : Option (List Byte) :=
  let part (base size : Nat) (b : List Byte) : Option (List Byte) :=
    if base ≤ off ∧ off < base + size then some (fit n ((fit size b).drop (off - base))) else none
  match sp with
  | .crs => none
  | .mgmtBar0 v => (part 0x80000 0x400 (pflArea s v.val)).orElse (fun _ => msixRead s v.val fnMgmt off n)
  | .moverBar0 v =>
    let i : Inst := match instSelected s v.val with | some k => s.inst k | none => Inst.init
    (((part 0x100 64 i.setup).orElse (fun _ => part 0x180 64 i.relayIn)).orElse (fun _ => part 0x1C0 64 i.relayOut)).orElse
      (fun _ => (part 0x400 512 (relayPend s v.val)).orElse (fun _ => msixRead s v.val fnMover off n))
  | .moverBar2 v =>
    let k := off / 4096
    if instVsw s k = some v.val then
      let b := k * 4096
      ((part (b + 0x40) 64 (s.inst k).mbTo).orElse (fun _ => part (b + 0x80) 64 (s.inst k).mbFrom)).orElse (fun _ => part (b + 0x100) 64 (s.inst k).setup)
    else none

/-- Bytes written to an area of a BAR that holds no register. -/
def barArea (s : State) (sp : Space) (off : Nat) (b : List Byte) : State :=
  let within (base size : Nat) : Bool := decide (base ≤ off) && decide (off < base + size)
  match sp with
  | .crs => s
  | .mgmtBar0 v => if b.length = 4 then msixWrite s v.val fnMgmt off (leNat b) else s
  | .moverBar0 v =>
    match instSelected s v.val with
    | some k =>
      if within 0x100 64 then setupWrite s k (off - 0x100) (b.take (0x140 - off))
      else if within 0x1C0 64 then
        s.modInst k (fun i => { i with relayOut := patch (fit 64 i.relayOut) (off - 0x1C0) (b.take (0x200 - off)) })
      else if off = 0x200 ∧ b.length = 4 then mbReply s k (leNat b % 64) (decide (2 ^ 31 ≤ leNat b))
      else rest v.val s
    | none => rest v.val s
  | .moverBar2 v =>
    let k := off / 4096
    let o := off % 4096
    if instVsw s k = some v.val ∧ 0x40 ≤ o ∧ o < 0x80 ∧ ¬isSet s (Reg.INST_STATUS k) Fld.INST_STATUS_MB_OUT_BUSY then
      s.modInst k (fun i => { i with mbTo := patch (fit 64 i.mbTo) (o - 0x40) (b.take (0x80 - o)) })
    else s
where
  /-- RELAY_PEND and the MSI-X table of a Mover PF. -/
  rest (v : Nat) (s : State) : State :=
    if 0x400 ≤ off ∧ off < 0x600 then
      let clear := fun (n : Nat) => decide (off - 0x400 ≤ n / 8) && bitAt b (n / 8 - (off - 0x400)) (n % 8) && instVsw s n == some v
      { s with mover := { s.mover with relayPend := s.mover.relayPend.filter (fun n => !clear n) } }
    else if b.length = 4 then msixWrite s v fnMover off (leNat b) else s

/-- One access of a host to a BAR, of 4 or 8 bytes at a register, of any bytes at an area: value and state. -/
def barGet (s : State) (sp : Space) (off bytes : Nat) : Nat × State :=
  match barReg s sp off with
  | some h => if reaches h off bytes then regGet s 13 h bytes else (0, s)
  | none => (match barBytes s sp off bytes with | some b => leNat b | none => 0, s)

def barPut (s : State) (sp : Space) (off bytes v : Nat) : State :=
  match barReg s sp off with
  | some h => if reaches h off bytes then regPut s 13 h bytes v off else s
  | none => barArea s sp off (natLe bytes v)

/-- Bytes read from a BAR by one request. -/
def barSpan (sp : Space) (all : Nat) : Nat → Nat → Nat → State → List Byte × State
  | 0, _, _, s => ([], s)
  | fuel + 1, off, n, s =>
    if n = 0 then ([], s)
    else
      let both := off % 8 == 0 && decide (8 ≤ n) && (match barReg s sp off with | some h => reaches h off 8 | none => false)
      let z := accWidth all off n (barReg s sp off) both
      let (v, s) := barGet s sp off z
      let (bs, s) := barSpan sp all fuel (off + z) (n - z) s
      (natLe z v ++ bs, s)

/-- Bytes written to a BAR by one request. -/
def barWriteSpan (sp : Space) (all : Nat) : Nat → Nat → List Byte → State → State
  | 0, _, _, s => s
  | fuel + 1, off, b, s =>
    let n := b.length
    if n = 0 then s
    else
      let both := off % 8 == 0 && decide (8 ≤ n) && (match barReg s sp off with | some h => reaches h off 8 | none => false)
      let z := accWidth all off n (barReg s sp off) both
      barWriteSpan sp all fuel (off + z) (b.drop z) (barPut s sp off z (leNat (b.take z)))

/-! ### The LPDDR4X window (R109, R454, R458) -/

/-- Bytes stored in LPDDR4X: a burst written whole holds no error any more (R457). -/
def ddrStore (s : State) (a : Nat) (b : List Byte) : State :=
  { s with mem := memWrite s.mem a b, ddr := { s.ddr with bad := s.ddr.bad.filter (fun x => !(decide (a ≤ 64 * x) && decide (64 * x + 64 ≤ a + b.length))) } }

/-- A host's read of its LPDDR4X window: completion status, data and whether it is poisoned. -/
def lpRead (s : State) (v ofs n : Nat) : Nat × List Byte × Bool × State :=
  let a := lpBase s v + ofs
  match ddrAccess s a .read 13 2 with
  | (false, s) => (4, [], false, s)
  | (true, s) =>
    let d := memRead s.mem a n
    if ddrBad s a n then (0, d, true, ddrUncorrectable s a 13) else (0, d, false, s)
where
  lpBase (s : State) (v : Nat) : Nat :=
    let z := 2 ^ getF s (Reg.MGMT_LP_WIN v) Fld.MGMT_LP_WIN_SIZE_LOG2
    getF s (Reg.MGMT_LP_WIN v) Fld.MGMT_LP_WIN_BASE * 4096 / z * z

/-- A host's write of its LPDDR4X window; a denied one is dropped. -/
def lpWrite (s : State) (v ofs : Nat) (b : List Byte) : State :=
  let a := lpRead.lpBase s v + ofs
  match ddrAccess s a .write 13 2 with
  | (false, s) => s
  | (true, s) => ddrStore s a b

/-! ### Requests delivered to the part's own functions (R109) -/

/-- The answer of a function to a read. -/
def memAnswer (s : State) (v fn : Nat) (h : Held) (status : Nat) (data : List Byte) (poisoned : Bool) : State :=
  let t := cplTlp h.ridIn h.tagIn (hostId s v fn) status data
  answerOwn s v h { t with poisoned := poisoned, addr := h.addrIn % 128, len := h.tlp.len }

/-- The space of a BAR. -/
def spaceOf (v : Fin 32) (fn bar : Nat) : Space :=
  if fn = fnMgmt then .mgmtBar0 v else if bar = 0 then .moverBar0 v else .moverBar2 v

/-- A host's read of a BAR. -/
def memRd (s : State) (v : Fin 32) (fn bar ofs : Nat) (h : Held) : State :=
  let n := h.tlp.len
  if fn = fnMgmt ∧ bar = 2 then
    let (st, d, p, s) := lpRead s v.val ofs n
    memAnswer s v.val fn h st d p
  else if fn = fnMgmt ∧ 0x10000000 ≤ ofs then
    let m : Master := ⟨13, 2, v⟩
    let off := ofs - 0x10000000
    if inWindow off then
      match crsCheck s m off .read with
      | (0, s) => if n = 4 ∧ off % 4 = 0 then windowRead s ⟨m, .crs, off, 4, false⟩ (some h) else memAnswer s v.val fn h 0 (zeros n) false
      | (c, s) => if c = 2 then memAnswer s v.val fn h 4 [] false else memAnswer s v.val fn h 0 (zeros n) false
    else
      let (d, e, s) := crsSpan m n (n + 1) off n s
      if e then memAnswer s v.val fn h 4 [] false else memAnswer s v.val fn h 0 d false
  else
    let (d, s) := barSpan (spaceOf v fn bar) n (n + 1) ofs n s
    memAnswer s v.val fn h 0 d false

/-- A host's write of a BAR. -/
def memWr (s : State) (v : Fin 32) (fn bar ofs : Nat) (b : List Byte) : State :=
  if fn = fnMgmt ∧ bar = 2 then lpWrite s v.val ofs b
  else if fn = fnMgmt ∧ 0x10000000 ≤ ofs then (crsWriteSpan ⟨13, 2, v⟩ b.length (b.length + 1) (ofs - 0x10000000) b s).2
  else barWriteSpan (spaceOf v fn bar) b.length (b.length + 1) ofs b s

/-- A request delivered to a function of the part is carried out (R103, R109): memory reads and writes of its BARs, configuration requests;
any other request that wants a completion ends with Unsupported Request. -/
def localDo (s : State) (d : LocalDue) : State :=
  match d with
  | .cfg v r h => cfgRequest s v r h
  | .answer v (some b) h => memAnswer s v fnMgmt h 0 b false
  | .answer v none h => memAnswer s v fnMgmt h 4 [] false
  | .mem v fn bar ofs h =>
    if hv : v < 32 then
      match h.tlp.op with
      | .memRead => if bar = 6 then notHere v fn h else memRd s ⟨v, hv⟩ fn bar ofs h
      | .memWrite => if bar = 6 ∨ h.tlp.poisoned then s else memWr s ⟨v, hv⟩ fn bar ofs h.tlp.data
      | _ => if h.tlp.cls = .nonPosted then notHere v fn h else s
    else s
where
  /-- Unsupported Request, logged at the function's AER. -/
  notHere (v fn : Nat) (h : Held) : State := memAnswer (aerError s v fn Aer.unsupported false) v fn h 1 [] false

/-- An access to a register (R9–R12, R348, R449–R454): a read. -/
def accessRead (s : State) (a : Access) : State :=
  let m := a.by_
  match a.space with
  | .crs =>
    if inBridge a.offset && a.locked then (match crsCheck s m a.offset .read with | (0, s) => sbLocked s a | (c, s) => emit s (.readData m 0 (c == 2)))
    else if inWindow a.offset then
      (match crsCheck s m a.offset .read with
       | (0, s) => if a.bytes = 4 ∧ a.offset % 4 = 0 then windowRead s a none else emit s (.readData m 0 false)
       | (c, s) => emit s (.readData m 0 (c == 2)))
    else
      let (v, e, s) := crsGet s m a.offset a.bytes
      emit s (.readData m (BitVec.ofNat 64 v) e)
  | sp =>
    let (v, s) := barGet s sp a.offset a.bytes
    emit s (.readData m (BitVec.ofNat 64 v) false)

/-- An access to a register: a write. -/
def accessWrite (s : State) (a : Access) (v : Word) : State :=
  match a.space with
  | .crs => (match crsPut s a v.toNat with | (true, s) => emit s (.writeErr a.by_) | (false, s) => s)
  | sp => barPut s sp a.offset a.bytes v.toNat

/-! ### REG_READ and REG_WRITE (R345) -/

/-- The master that carries REG_READ and REG_WRITE out: a management core at P1. -/
def regMaster : Master := ⟨1, 1, 0⟩

/-- REG_READ: the words before the transfer window at once, those in it by transfers. -/
def regReadCmd (r : IcpReq) (s : State) : State :=
  let off := num r.payload 0 4
  let n := num r.payload 4 2
  if off % 4 ≠ 0 ∨ n = 0 ∨ 1016 < n then refuse s r St.notPermitted
  else if off < 0x0B200000 ∧ 0x0B100000 < off + 4 * n then
    let k := 0x0B100000 - off
    let (d, _, s) := crsSpan regMaster 0 (k + 1) off k s
    regReadNext s r d
  else
    let (d, _, s) := crsSpan regMaster 0 (4 * n + 1) off (4 * n) s
    reply s r St.ok (fit 8 r.payload ++ d)

/-- Words that REG_WRITE never writes (R345). -/
def regForbidden (off : Nat) : Bool :=
  let low := decide (off < 0x500000) && !(decide (0x100 ≤ off) && decide (off < 0x108)) &&
    !([0x0000F000, 0x00107000, 0x0020F000, 0x0030F000, 0x0040F000].any (fun b => decide (b ≤ off) && decide (off < b + 0x200)))
  let span (a b n : Nat) : Bool := decide (crsOffset a ≤ off) && decide (off < crsOffset b + 8 * n)
  low || span Reg.FAM_ACC (Reg.FAM_DATA 0) 4 || span Reg.ROUTE_ACC (Reg.ROUTE_DATA 0) 8 || span Reg.BIND_ACC (Reg.BIND_DATA 0) 2 ||
    (decide (0x0D000000 ≤ off) && decide (off < 0x0F000000))

/-- REG_WRITE: nothing is written where a word is forbidden. -/
def regWriteCmd (r : IcpReq) (s : State) : State :=
  let off := num r.payload 0 4
  let n := num r.payload 4 2
  if off % 4 ≠ 0 ∨ (List.range n).any (fun i => regForbidden (off + 4 * i)) then refuse s r St.notPermitted
  else reply (crsWriteSpan regMaster 0 (n + 1) off (fit (4 * n) (r.payload.drop 8)) s).2 r St.ok (fit 6 r.payload ++ zeros 2)

end Sys2Proof.Machine
end

