-- ==== Sys2Proof/Machine/Finish.lean ====
section
/-!
DEFINITION. Machine/Finish.lean: what every command ends with, and the tick of the common edge: deliveries inside the part, faults and fences,
level conditions of the counters, the lines of the Calez links.
-/
namespace Sys2Proof.Machine

/-! ### The end of a command -/

/-- A packet for the twin link leaves as ICP frames, segmented at 256 bytes (R178, R327). -/
def icpSegments : Nat → Bool → List Byte → List Frame
  | 0, _, _ => []
  | fuel + 1, first, b =>
    let last := decide (b.length ≤ 256)
    let f := { vc7Frame 5 (min 256 b.length) (.icp (b.take 256)) with first := first, last := last }
    if last then [f] else f :: icpSegments fuel false (b.drop 256)

/-- ICP packets for the partner are handed to the twin link; there is nowhere else for them to go. -/
def flushTwin (s : State) : State :=
  let ps := s.icp.twinTx
  let s := { s with icp := { s.icp with twinTx := [] } }
  match twinLink s with
  | some n => if twinLive s then forEach (ps.flatMap (fun p => icpSegments (p.length / 256 + 1) true p)) s (fun s f => czPut s n f) else s
  | none => s

/-- Requests delivered to the part's own functions are carried out. -/
def flushLocal (s : State) : State :=
  forEach s.core.localDue { s with core := { s.core with localDue := [] } } localDo

/-- The counter bank of a fault's unit (R352, R424). -/
def unitBank (u : UnitId) : Option Nat :=
  let i := u.index
  if u.kind = Uk.global then some 0
  else if u.kind = Uk.sp then some 1
  else if u.kind = Uk.fcu then some 2
  else if u.kind = Uk.egv then some 3
  else if u.kind = Uk.core then some Bank.core
  else if u.kind = Uk.comet then some 7
  else if u.kind = Uk.engine then some Bank.mover
  else if u.kind = Uk.sampler then some 11
  else if u.kind = Uk.cvu then some 12
  else if u.kind = Uk.mpu then some 13
  else if u.kind = Uk.bus then some 14
  else if u.kind = Uk.ddr then some 15
  else if u.kind = Uk.twin then some 16
  else if u.kind = Uk.mgmt ∨ u.kind = Uk.icp then some 17
  else if u.kind = Uk.tile then some (Bank.tile i)
  else if u.kind = Uk.lane then some (Bank.tile (i / 16))
  else if u.kind = Uk.port then some (Bank.port i)
  else if u.kind = Uk.calez then some (Bank.link i)
  else none

/-- The FCU takes a fault (R355); the fault counts in its block's bank, and triggers ECLIPSE where FAULT_MASK holds its class after escalation
(R416). -/
def faultIn (s : State) (f : FaultReq) : State :=
  if s.pwr.terminal then s
  else
    let c := faultCls s f
    let m := faultMuted s f
    let s := takeFault s f
    if s.pwr.terminal then s
    else
      let s := match unitBank f.unit with | some b => pcEvent s b 0x003 none 1 | none => s
      if !m && (getF s Reg.ECL_ARM Fld.ECL_ARM_FAULT_MASK).testBit c.code then eclTrigger s 2 else s

/-- The faults detected are taken in the order of R356, and the fences decided take effect (R360). -/
def flushFaults (s : State) : State :=
  let s := forEach (sortFaults s.fcu.due) { s with fcu := { s.fcu with due := [] } } faultIn
  forEach s.fcu.fenceDue { s with fcu := { s.fcu with fenceDue := [] } } fenceApply

/-- A latch edge counts as an event in every bank that latched on it (R424). -/
def countLatch (s : State) : State :=
  if s.bg.eclSeen = s.bg.eclSeq then s
  else forEach allBanks { s with bg := { s.bg with eclSeen := s.bg.eclSeq } } (fun s b => pcEvent s b 0x002 none 1)

/-- Nothing is left to deliver or to decide. -/
def settled (s : State) : Bool := s.core.localDue.isEmpty && s.mover.due.isEmpty && s.mover.irqs.isEmpty && s.icp.twinTx.isEmpty && s.fcu.due.isEmpty && s.fcu.fenceDue.isEmpty

/-- What a command has set off inside the part runs to its end. -/
def settleLoop : Nat → State → State
  | 0, s => s
  | fuel + 1, s =>
    let s := unbindReady (slotHeld (sbSweep s))
    let s := if up s then retryCtx (icpResume s) else s
    let s := countLatch (flushFaults (flushTwin (moverIrqs (moverDue (flushLocal s)))))
    if settled s then s else settleLoop fuel s

/-- In a part that something holds in reset nothing goes on (R351, R394, R476). -/
def settle (s : State) : State := if powered s then slotInts (tilesOff (settleLoop 16 s)) else s

/-- What the AON domain sees to whatever else happens (R351, R362): while the TERMINAL latch is set, every other domain is held and FAULT_N is
low; while a fault is uncleared or recorded, FAULT_N is low. -/
def conclude (s : State) : State :=
  if s.pwr.terminal then
    let t := holdDomains s
    { t with pwr := { t.pwr with faultNLow := true } }
  else faultNDrive s

/-- The outcome of a command: the part goes on in the state that its effect and what follows from it leave. -/
def finish (s : State) : Host.Outcome State Fault Refusal := .next (conclude (settle s))

/-- A configuration is in force, Dormant or not: ports, links and vSwitches stand as it says (R437). -/
def configured (s : State) : Bool := powered s && (s.pwr.phase == .configured || s.pwr.phase == .ready)

/-- A command of what runs from the configuration of the boot on; before that, in reset and in Dormant nothing answers it (R377, R437). -/
def whenUp (s : State) (f : State → State) : Host.Outcome State Fault Refusal := finish (if up s then f s else s)

/-- A command of what runs as soon as the fast domains do (R377, R380). -/
def whenFast (s : State) (f : State → State) : Host.Outcome State Fault Refusal := finish (if fastUp s then f s else s)

/-- A command of what the SP or the AON domain does while nothing holds the part in reset (R351, R377). -/
def whenSp (s : State) (f : State → State) : Host.Outcome State Fault Refusal := finish (if spUp s then f s else s)

/-- A command of a part that keeps its configuration in Dormant (R385, R387). -/
def whenConfigured (s : State) (f : State → State) : Host.Outcome State Fault Refusal := finish (if configured s then f s else s)

/-! ### The tick of the common edge (R97, R376, R421, R424) -/

/-- A head of a VOQ of a port that could leave but for its link (R424): eligible apart from credits and store. -/
def waitsCredit (s : State) (p : Nat) (vcs : List Nat) : Bool :=
  vcs.any (fun vc => [0, 1, 2].any (fun c =>
    match (voq s p vc c).head? with
    | some h => !linkReady s p h && !tagMissing s p h && fenceMet s p h && !sprayHeld s h && decide (h.moveHold ≤ s.time)
    | none => false))

/-- The condition of a level event of a bank holds (R424). -/
def pcLevel (s : State) (bank ev q : Nat) : Bool :=
  if ev = 0x001 then true
  else if bank = Bank.core then
    (match ev with | 0x104 => !voqsEmpty s q | 0x105 => portUp s q && waitsCredit s q (List.range 8) | _ => false)
  else if bank = Bank.mover then
    (match ev with
     | 0x100 => (engDesc s q).isSome
     | 0x105 => (match engDesc s q with | some (_, d) => (match d.wait with | .xlat _ _ => true | _ => false) | none => false)
     | _ => false)
  else if 128 ≤ bank then
    let n := bank - 128
    (match ev with
     | 0x105 => czState s n == Cz.active
     | 0x106 => czState s n == Cz.quiet
     | 0x107 => (match linkPort s n with | some p => czState s n == Cz.active && waitsCredit s p [q] | none => false)
     | _ => false)
  else if 64 ≤ bank then
    let p := bank - 64
    (match ev with
     | 0x103 => ltssm s p == Lt.l0
     | 0x104 => ltssm s p == Lt.l1
     | 0x105 => isPcie s p && portUp s p && waitsCredit s p (List.range 8)
     | _ => false)
  else if 32 ≤ bank then
    let t := bank - 32
    (match ev with
     | 0x100 => (match (s.tile t).press with | some (l, _) => l == q | none => false)
     | 0x102 => tilePower s t == 0
     | 0x103 => tilePower s t == 1
     | _ => false)
  else false

/-- Cycles of a bank's domain in the common edge period that a tick passes; an AON bank counts on every sixteenth common edge. -/
def tickCycles (s : State) (b : Nat) : Nat :=
  if aonBank b then (if s.edge % 16 = 0 then 1 else 0) else if bankClocked s b then bankCycles b else 0

/-- One counter of a bank over a tick: level counting counts each cycle in which the condition holds, edge counting its rise (R421). -/
def pcTickOne (s : State) (b i n : Nat) : State :=
  let k := Reg.PC_SEL b i
  if isSet s k Fld.PC_SEL_EN then
    let on := pcLevel s b (getF s k Fld.PC_SEL_EVENT) (getF s k Fld.PC_SEL_QUAL)
    let key := b * 8 + i
    let was := s.bg.pcPrev.contains key
    let s := { s with bg := { s.bg with pcPrev := if on then (if was then s.bg.pcPrev else s.bg.pcPrev ++ [key]) else s.bg.pcPrev.filter (fun x => x != key) } }
    if !on then s
    else if isSet s k Fld.PC_SEL_LEVEL then pcAdd s b i n
    else if was then s else if getF s k Fld.PC_SEL_EVENT = 0x001 then s else pcAdd s b i 1
  else s

/-- A counter bank over a tick: PC_CYCLE counts the cycles, unless FREEZE stops it (R421, R423). -/
def pcTick (s : State) (b : Nat) : State :=
  let n := tickCycles s b
  if n = 0 || isSet s (Reg.PC_CTRL b) Fld.PC_CTRL_FREEZE then s
  else
    let s := wr s (Reg.PC_CYCLE b) (rd s (Reg.PC_CYCLE b) + BitVec.ofNat 64 n)
    forEach (List.range 8) s (fun s i => pcTickOne s b i n)

/-- What device time gains over one more common edge of 20 ns: 320 sixteenths of a nanosecond, with the slew in force spread over the edges
(R97, R98); in Dormant 5,120 at each AON edge (R99); nothing while no core clock runs. -/
def timeStep (s : State) : Nat :=
  let part (e : Nat) : Int := (e : Int) * 320 * s.cong.slew / 1000000
  if dormant s then (if (s.edge + 1) % 16 = 0 then 5120 else 0)
  else if fastUp s then (320 + (part (s.edge + 1) - part s.edge)).toNat
  else 0

/-- One period of the common edge passes: device time and the edge count advance, the counters count, the tile sequencers start the PRESS steps that
fall due (R274), slot power-offs go to the EGV (R303), and the links send and receive (R172, R173, R306). -/
def tick (s : State) : State :=
  let s := { s with time := s.time + timeStep s, edge := s.edge + 1 }
  if powered s then
    let s := forEach allBanks s pcTick
    conclude (settle (if up s then linesTick (portsTick (slotOffs (pressTick s))) else s))
  else conclude s

end Sys2Proof.Machine
end

