-- ==== Sys2Proof/Machine/CalezFam.lean ====
section
/-!
DEFINITION. Machine/CalezFam.lean: the commands of the Calez links: control blocks, training, QUIET, frames, settlement, time exchange
(R98, R142, R154–R157, R172–R205, R269, R327).
-/
namespace Sys2Proof.Machine

/-- KA_INTERVAL has passed (R187). -/
def execKeepaliveSend (n : Fin 32) (s : State) : Host.Outcome State Fault Refusal := whenUp s (fun s => keepaliveSend s n.val)

/-- No valid block for the effective timeout (R187, R188): down with reason 0x01. -/
def execLinkDownTimeout (n : Fin 32) (s : State) : Host.Outcome State Fault Refusal :=
  whenUp s (fun s => if czActive s n.val then czDown s n.val Dn.timeout else s)

/-- Three codeword rows in a row disagree (R172): down with reason 0x02. -/
def execAlignmentLost (n : Fin 32) (s : State) : Host.Outcome State Fault Refusal :=
  whenUp s (fun s => if czActive s n.val then czDown s n.val Dn.align else s)

/-- A lane counts 16 uncorrectable codewords within 100 µs (R173): they are counted, and the link goes down with reason 0x08. -/
def execUncorrectableLimit (n : Fin 32) (s : State) : Host.Outcome State Fault Refusal :=
  whenUp s (fun s => if czActive s n.val then czDown (uncorrLimit s n.val) n.val Dn.uncorr else s)

/-- An accepted frame has gone unreported for 0.2 µs (R184): an ACK block. -/
def execAckSendTimer (n : Fin 32) (s : State) : Host.Outcome State Fault Refusal :=
  whenUp s (fun s => if czActive s n.val && (s.link n.val).unreported != 0 then sendAck s n.val false else s)

/-- The ACK has not advanced for 2 µs (R185): replay. -/
def execReplayTimeout (n : Fin 32) (s : State) : Host.Outcome State Fault Refusal :=
  whenUp s (fun s => if czActive s n.val then czReplay s n.val else s)

/-- Every LIMIT is sent again (R181). -/
def execCreditRefresh (n : Fin 32) (s : State) : Host.Outcome State Fault Refusal := whenUp s (fun s => creditRefresh s n.val)

/-- A KEEPALIVE block arrives (R187). -/
def execKeepaliveRx (n : Fin 32) (node session ack : Nat) (s : State) : Host.Outcome State Fault Refusal :=
  whenUp s (fun s => keepaliveRx s n.val node session ack)

/-- An ACK block arrives (R185). -/
def execAckBlockRx (n : Fin 32) (ack : Nat) (nak : Bool) (s : State) : Host.Outcome State Fault Refusal := whenUp s (fun s => ackBlock s n.val ack nak)

/-- A CREDIT block arrives (R181). -/
def execCreditRx (n : Fin 32) (vc pool limit : Nat) (s : State) : Host.Outcome State Fault Refusal :=
  whenUp s (fun s => creditRx (czControl s n.val) n.val vc pool limit)

/-- A REPLAY block arrives (R183, R185): data blocks that follow it count again; the frames it announces are told by their SEQ. -/
def execReplayBlockRx (n : Fin 32) (_first : Nat) (s : State) : Host.Outcome State Fault Refusal := whenUp s (fun s => czControl s n.val)

/-- A RESET block arrives (R200). -/
def execResetBlockRx (n : Fin 32) (_node _reason : Nat) (s : State) : Host.Outcome State Fault Refusal := whenUp s (fun s => resetBlock s n.val)

/-- QUIET REQ arrives (R201). -/
def execQuietReqRx (n : Fin 32) (s : State) : Host.Outcome State Fault Refusal := whenUp s (fun s => quietReq s n.val)

/-- QUIET ACK arrives (R201). -/
def execQuietAckRx (n : Fin 32) (s : State) : Host.Outcome State Fault Refusal := whenUp s (fun s => quietAck s n.val)

/-- QUIET REJECT arrives (R201). -/
def execQuietRejectRx (n : Fin 32) (s : State) : Host.Outcome State Fault Refusal := whenUp s (fun s => quietOff (czControl s n.val) n.val)

/-- The link has been idle for QUIET_IDLE (R201). -/
def execQuietIdleExpiry (n : Fin 32) (s : State) : Host.Outcome State Fault Refusal := whenUp s (fun s => quietExpiry s n.val)

/-- No answer to QUIET REQ within 1 µs (R201). -/
def execQuietHandshakeTimeout (n : Fin 32) (s : State) : Host.Outcome State Fault Refusal := whenUp s (fun s => quietOff s n.val)

/-- Something wakes a QUIET link (R203). -/
def execQuietWake (n : Fin 32) (s : State) : Host.Outcome State Fault Refusal := whenUp s (fun s => quietWake s n.val)

/-- A RESUME block arrives (R203). -/
def execResumeRx (n : Fin 32) (ack session : Nat) (s : State) : Host.Outcome State Fault Refusal := whenUp s (fun s => resumeRx s n.val ack session)

/-- Not back in ACTIVE 100 µs after the wake (R203): down with reason 0x07. -/
def execWakeTimeout (n : Fin 32) (s : State) : Host.Outcome State Fault Refusal :=
  whenUp s (fun s => if czState s n.val = Cz.waking then czDown s n.val Dn.wake else s)

/-- TRAIN SET arrives (R269). -/
def execTrainSetRx (n : Fin 32) (lane arg : Nat) (s : State) : Host.Outcome State Fault Refusal := whenUp s (fun s => trainSet s n.val lane arg)

/-- TRAIN HOLD arrives (R269), with the SNR measured at the setting it reports. -/
def execTrainHoldRx (n : Fin 32) (lane arg snr : Nat) (s : State) : Host.Outcome State Fault Refusal :=
  whenUp s (fun s => trainHold s n.val lane arg snr)

/-- TRAIN FOM arrives (R269). -/
def execTrainFomRx (n : Fin 32) (lane arg : Nat) (s : State) : Host.Outcome State Fault Refusal := whenUp s (fun s => trainFom s n.val lane arg)

/-- TRAIN DONE arrives (R269). -/
def execTrainDoneRx (n : Fin 32) (lane arg snr : Nat) (s : State) : Host.Outcome State Fault Refusal :=
  whenUp s (fun s => trainDone s n.val lane arg snr)

/-- PARAM blocks arrive (R196). -/
def execParamRx (n : Fin 32) (p : Param) (s : State) : Host.Outcome State Fault Refusal := whenUp s (fun s => paramRx s n.val p)

/-- A training state reaches its exit (R193). -/
def execCzTrainStateExit (n : Fin 32) (x : TrainExit) (s : State) : Host.Outcome State Fault Refusal :=
  whenUp s (fun s => trainExit s n.val x.lanes x.peerNode x.peerPort)

/-- A training state times out (R193). -/
def execCzTrainStateTimeout (n : Fin 32) (s : State) : Host.Outcome State Fault Refusal := whenUp s (fun s => trainTimeout s n.val)

/-- DETECT is tried again (R193). -/
def execCzDetectRetry (n : Fin 32) (lanes : Nat) (s : State) : Host.Outcome State Fault Refusal := whenUp s (fun s => detectRetry s n.val lanes)

/-- Signal is lost on every lane during training (R193). -/
def execCzSignalLoss (n : Fin 32) (s : State) : Host.Outcome State Fault Refusal := whenUp s (fun s => signalLoss s n.val)

/-- A control block of an unlisted type: ignored and counted (R175). -/
def execControlBlockUnknown (n : Fin 32) (_type : Nat) (s : State) : Host.Outcome State Fault Refusal :=
  whenUp s (fun s => if czLive s n.val then bump (czControl s n.val) (Reg.CZ_UNKNOWN_CNT n.val) else s)

/-- A frame arrives (R183). -/
def execFrameRx (n : Fin 32) (f : Frame) (intact : Bool) (s : State) : Host.Outcome State Fault Refusal := whenUp s (fun s => frameRx s n.val f intact)

/-- An accepted TLP frame is handed to the core (R179). -/
def execTlpFrameRx (n : Fin 32) (s : State) : Host.Outcome State Fault Refusal := whenUp s (fun s => tlpFrameRx s n.val)

/-- An accepted abort frame (R178). -/
def execAbortFrameRx (n : Fin 32) (s : State) : Host.Outcome State Fault Refusal := whenUp s (fun s => abortFrameRx s n.val)

/-- An accepted TEST frame (R205). -/
def execTestFrameRx (n : Fin 32) (s : State) : Host.Outcome State Fault Refusal := whenUp s (fun s => testFrameRx s n.val)

/-- An accepted feedback frame (R90). -/
def execFeedbackRx (n : Fin 32) (s : State) : Host.Outcome State Fault Refusal := whenUp s (fun s => feedbackRx s n.val)

/-- An accepted route advertisement (R142). -/
def execRouteAdvRx (n : Fin 32) (s : State) : Host.Outcome State Fault Refusal := whenUp s (fun s => routeAdvRx s n.val)

/-- An accepted Fabric Error Report (R157). -/
def execFerRx (n : Fin 32) (s : State) : Host.Outcome State Fault Refusal := whenUp s (fun s => ferRx s n.val)

/-- An accepted ACK of a Fabric Error Report (R156). -/
def execFerAckRx (n : Fin 32) (s : State) : Host.Outcome State Fault Refusal := whenUp s (fun s => ferAckRx s n.val)

/-- An accepted ICP packet on the twin link (R327). -/
def execIcpFrameRx (n : Fin 32) (s : State) : Host.Outcome State Fault Refusal := whenUp s (fun s => icpFrameRx s n.val)

/-- An accepted RESOLVE (R190). -/
def execResolveRx (n : Fin 32) (s : State) : Host.Outcome State Fault Refusal := whenUp s (fun s => resolveRx s n.val)

/-- A RESOLVE is due at the receiver side of a link that went down (R191). -/
def execResolveSend (n : Fin 32) (s : State) : Host.Outcome State Fault Refusal := whenUp s (fun s => resolveSend s n.val)

/-- RESOLVE_TO passes (R190). -/
def execResolveTimeout (n : Fin 32) (s : State) : Host.Outcome State Fault Refusal := whenUp s (fun s => resolveTimeout s n.val)

/-- EXCH_PERIOD passes (R98). -/
def execTimeExchangeDue (s : State) : Host.Outcome State Fault Refusal := whenUp s timeDue

/-- TIME_REQ arrives (R174). -/
def execTimeReqRx (n : Fin 32) (id : Nat) (s : State) : Host.Outcome State Fault Refusal := whenUp s (fun s => timeReqRx s n.val id)

/-- TIME_T2 arrives (R174). -/
def execTimeT2Rx (n : Fin 32) (id t2 : Nat) (s : State) : Host.Outcome State Fault Refusal := whenUp s (fun s => timeT2 s n.val id t2)

/-- TIME_HI arrives (R174). -/
def execTimeHiRx (n : Fin 32) (id hi : Nat) (s : State) : Host.Outcome State Fault Refusal := whenUp s (fun s => timeHi s n.val id hi)

/-- TIME_T3 arrives and completes the exchange (R98). -/
def execTimeT3Rx (n : Fin 32) (id t3 : Nat) (s : State) : Host.Outcome State Fault Refusal := whenUp s (fun s => timeT3 s n.val id t3)

end Sys2Proof.Machine
end

