-- ==== Sys2Proof/Machine/CmdFam.lean ====
section
/-!
DEFINITION. Machine/CmdFam.lean: the ICP commands, each begun by its decoder when it is the next in its queue, and the ends of those that wait
(R47–R50, R165, R211–R214, R227, R228, R230, R231, R251, R253, R255, R309, R326–R346, R361, R364, R366, R441–R443).
-/
namespace Sys2Proof.Machine

/-- DEVICE_INFO (R335). -/
def execDeviceInfo (s : State) : Host.Outcome State Fault Refusal := whenUp s (fun s => icpRun s .fw 0x0101 deviceInfo)

/-- VSW_QUIESCE (R336). -/
def execVswQuiesce (s : State) : Host.Outcome State Fault Refusal := whenUp s (fun s => icpRun s .fw 0x0102 vswQuiesce)

/-- Every named vSwitch is quiesced, or WAIT has passed (R336). -/
def execVswQuiesced (s : State) : Host.Outcome State Fault Refusal := whenUp s quiesceReply

/-- PORT_CONTROL (R309). -/
def execPortControl (s : State) : Host.Outcome State Fault Refusal := whenUp s (fun s => icpRun s .fw 0x0110 portControl)

/-- EYE_SCAN (R337). -/
def execEyeScan (s : State) : Host.Outcome State Fault Refusal := whenUp s (fun s => icpRun s .fw 0x0120 eyeScan)

/-- TILE_CALIBRATE (R337). -/
def execTileCalibrate (s : State) : Host.Outcome State Fault Refusal := whenUp s (fun s => icpRun s .fw 0x0121 tileCalibrate)

/-- BIST_RUN (R337). -/
def execBistRun (s : State) : Host.Outcome State Fault Refusal := whenUp s (fun s => icpRun s .fw 0x0122 bistRun)

/-- BIND_WRITE (R338). -/
def execBindWrite (s : State) : Host.Outcome State Fault Refusal := whenUp s (fun s => tableCommand s 0x0201 2)

/-- FAM_WRITE (R165). -/
def execFamWrite (s : State) : Host.Outcome State Fault Refusal := whenUp s (fun s => tableCommand s 0x0202 0)

/-- ROUTE_WRITE (R165). -/
def execRouteWrite (s : State) : Host.Outcome State Fault Refusal := whenUp s (fun s => tableCommand s 0x0203 1)

/-- TABLE_READ (R339). -/
def execTableRead (s : State) : Host.Outcome State Fault Refusal := whenUp s (fun s => icpRun s .fw 0x0204 tableRead)

/-- EPOCH_SYNC (R164). -/
def execEpochSync (s : State) : Host.Outcome State Fault Refusal := whenUp s (fun s => icpRun s .fw 0x0208 epochSync)

/-- MOVER_BIND (R255). -/
def execMoverBind (s : State) : Host.Outcome State Fault Refusal := whenUp s (fun s => icpRun s .fw 0x0301 moverBind)

/-- MOVER_QUIESCE (R255). -/
def execMoverQuiesce (s : State) : Host.Outcome State Fault Refusal := whenUp s (fun s => icpRun s .fw 0x0302 moverQuiesce)

/-- MOVER_DIRTY (R251). -/
def execMoverDirty (s : State) : Host.Outcome State Fault Refusal := whenUp s (fun s => icpRun s .fw 0x0303 moverDirty)

/-- MOVER_T_STATUS (R253). -/
def execMoverTStatus (s : State) : Host.Outcome State Fault Refusal := whenUp s (fun s => icpRun s .fw 0x0320 moverTStatus)

/-- MOVER_T_RELAY (R253). -/
def execMoverTRelay (s : State) : Host.Outcome State Fault Refusal := whenUp s (fun s => icpRun s .fw 0x0321 moverTRelay)

/-- ORBIT_CONFIG (R340). -/
def execOrbitConfig (s : State) : Host.Outcome State Fault Refusal := whenUp s (fun s => icpRun s .fw 0x0401 orbitConfig)

/-- SLOT_POWER (R341). -/
def execSlotPower (s : State) : Host.Outcome State Fault Refusal := whenUp s (fun s => icpRun s .sp 0x0501 slotPowerCmd)

/-- ENERGY_SET (R341). -/
def execEnergySet (s : State) : Host.Outcome State Fault Refusal := whenUp s (fun s => icpRun s .sp 0x0502 energySet)

/-- ENERGY_STATUS (R341). -/
def execEnergyStatus (s : State) : Host.Outcome State Fault Refusal := whenUp s (fun s => icpRun s .sp 0x0503 energyStatus)

/-- FAULT_READ (R342). -/
def execFaultRead (s : State) : Host.Outcome State Fault Refusal := whenUp s (fun s => icpRun s .sp 0x0601 faultRead)

/-- FAULT_CLEAR (R364). -/
def execFaultClear (s : State) : Host.Outcome State Fault Refusal := whenUp s (fun s => icpRun s .sp 0x0602 faultClear)

/-- FENCE (R361). -/
def execFence (s : State) : Host.Outcome State Fault Refusal := whenUp s (fun s => icpRun s .sp 0x0603 fenceCmd)

/-- RESET (R342). -/
def execReset (s : State) : Host.Outcome State Fault Refusal := whenUp s (fun s => icpRun s .sp 0x0604 resetCmd)

/-- FAULT_INJECT (R366). -/
def execFaultInject (s : State) : Host.Outcome State Fault Refusal := whenUp s (fun s => icpRun s .sp 0x0605 faultInject)

/-- TWIN_ROLE (R230). -/
def execTwinRole (s : State) : Host.Outcome State Fault Refusal := whenUp s (fun s => icpRun s .sp 0x0701 twinRole)

/-- T_HELLO (R227). -/
def execTHello (s : State) : Host.Outcome State Fault Refusal :=
  whenUp s (fun s => icpCommand s .tma 0x0710 (fun r s => reply s r St.ok (helloPayload s)))

/-- T_PREPARE (R211). -/
def execTPrepare (s : State) : Host.Outcome State Fault Refusal := whenUp s (fun s => icpCommand s .tma 0x0711 (fun r s => tPrepare s r))

/-- T_COMMIT (R211). -/
def execTCommit (s : State) : Host.Outcome State Fault Refusal := whenUp s (fun s => icpCommand s .tma 0x0712 (fun r s => tCommit s r))

/-- T_QUERY (R212). -/
def execTQuery (s : State) : Host.Outcome State Fault Refusal := whenUp s (fun s => icpCommand s .tma 0x0713 (fun r s => tQuery s r))

/-- T_SYNC (R228). -/
def execTSync (s : State) : Host.Outcome State Fault Refusal := whenUp s (fun s => icpCommand s .tma 0x0714 (fun r s => tSync s r))

/-- T_HANDOVER (R231). -/
def execTHandover (s : State) : Host.Outcome State Fault Refusal := whenUp s (fun s => icpCommand s .sp 0x0715 (fun r s => tHandover s r))

/-- GET_IDENTITY (R343). -/
def execGetIdentity (s : State) : Host.Outcome State Fault Refusal := whenUp s (fun s => icpRun s .fw 0x0801 getIdentity)

/-- OTP_REVOKE (R343). -/
def execOtpRevoke (s : State) : Host.Outcome State Fault Refusal := whenUp s (fun s => icpRun s .sp 0x0802 otpRevoke)

/-- FW_STAGE (R442). -/
def execFwStage (s : State) : Host.Outcome State Fault Refusal := whenUp s (fun s => icpRun s .fw 0x0901 fwStage)

/-- FW_ACTIVATE (R443). -/
def execFwActivate (s : State) : Host.Outcome State Fault Refusal := whenUp s (fun s => icpRun s .sp 0x0902 fwActivate)

/-- CONFIG_STORE (R441). -/
def execConfigStore (s : State) : Host.Outcome State Fault Refusal := whenUp s (fun s => icpRun s .fw 0x0903 configStore)

/-- MODE_ACTIVATE (R49): its checks begin once the firmware commands that came before it have ended, or their bound has passed (R329). -/
def execModeActivate (s : State) : Host.Outcome State Fault Refusal :=
  whenUp s (fun s =>
    match nextReq (served s .sp) with
    | some r => if modeWaits s r then s else icpCommand s .sp 0x0904 modeActivate
    | none => s)

/-- The records of a MODE_ACTIVATE are applied (R49). -/
def execModeActivateApplied (s : State) : Host.Outcome State Fault Refusal := whenUp s modeApply

/-- SELECTION_WRITE (R344). -/
def execSelectionWrite (s : State) : Host.Outcome State Fault Refusal := whenUp s (fun s => icpRun s .sp 0x0905 selectionWrite)

/-- FLASH_MAINT (R344). -/
def execFlashMaint (s : State) : Host.Outcome State Fault Refusal := whenUp s (fun s => icpRun s .fw 0x0906 flashMaint)

/-- ECLIPSE_TRIGGER (R345). -/
def execEclipseTrigger (s : State) : Host.Outcome State Fault Refusal := whenUp s eclipseCommand

/-- REG_READ (R345). -/
def execRegRead (s : State) : Host.Outcome State Fault Refusal := whenUp s (fun s => icpRun s .fw 0x0A10 regReadCmd)

/-- REG_WRITE (R345). -/
def execRegWrite (s : State) : Host.Outcome State Fault Refusal := whenUp s (fun s => icpRun s .fw 0x0A11 regWriteCmd)

end Sys2Proof.Machine
end

