-- ==== Sys2Proof/Machine/CoreFam.lean ====
section
/-!
DEFINITION. Machine/CoreFam.lean: the commands of the switch core: TLPs, scheduling, congestion, contexts, epochs, Fabric Error Reports
(R52, R65, R84–R88, R144, R149, R150, R155, R156, R161, R162, R164).
-/
namespace Sys2Proof.Machine

/-- A TLP arrives on a PCIe port (R52): whole, its first part, or what becomes of the rest; before a configuration is applied it is answered as R127 says. -/
def execTlpIngress (p : Fin 64) (t : Tlp) (arriving : Arrival) (s : State) : Host.Outcome State Fault Refusal :=
  finish (if up s then (if isPcie s p.val && portUp s p.val then ingress s p.val t arriving else s)
    else if powered s && !configured s && arriving == .whole then earlyTlp s p.val t else s)

/-- The egress scheduler of a port picks its next TLP (R65). -/
def execEgressSchedule (p : Fin 64) (s : State) : Host.Outcome State Fault Refusal := whenUp s (fun s => egress s p.val)

/-- The tokens of a flow-rate context reach 0 or more (R85). -/
def execPacingRelease (frc : Nat) (s : State) : Host.Outcome State Fault Refusal := whenUp s (fun s => pacingRelease s frc)

/-- The move fence towards a node expires (R144). -/
def execMoveFenceExpiry (node : Fin 4096) (s : State) : Host.Outcome State Fault Refusal := whenUp s (fun s => moveEnd s node.val)

/-- A spray counter is cleared by time (R87). -/
def execSprayCounterTimeout (frc path : Nat) (s : State) : Host.Outcome State Fault Refusal := whenUp s (fun s => sprayClear s frc path)

/-- A feedback frame is due (R88). -/
def execFeedbackHoldExpiry (s : State) : Host.Outcome State Fault Refusal := whenUp s feedbackHold

/-- An INC_PERIOD of a flow-rate context ends (R86). -/
def execIncPeriodEnd (frc : Nat) (s : State) : Host.Outcome State Fault Refusal := whenUp s (fun s => incPeriod s frc)

/-- A flow-rate context has been idle for FRC_IDLE (R84). -/
def execFrcRetire (frc : Nat) (s : State) : Host.Outcome State Fault Refusal := whenUp s (fun s => frcRetire s frc)

/-- The sweep visits a context (R149). -/
def execContextSweep (ctx : Nat) (s : State) : Host.Outcome State Fault Refusal := whenUp s (fun s => sweep s ctx)

/-- The quarantine of a remapped tag ends (R150). -/
def execQuarantineExpiry (p : Fin 64) (tag : Nat) (s : State) : Host.Outcome State Fault Refusal := whenUp s (fun s => quarantineEnd s p.val tag)

/-- An epoch advance that waited for its slot proceeds (R161). -/
def execEpochSlotDrained (s : State) : Host.Outcome State Fault Refusal := whenUp s slotDrained

/-- An ended epoch passes SYNC_LIMIT (R162). -/
def execSyncLimitExpiry (s : State) : Host.Outcome State Fault Refusal := whenUp s syncExpiry

/-- Every request stamped before the target epoch has left or been flagged (R164). -/
def execEpochSyncComplete (s : State) : Host.Outcome State Fault Refusal := whenUp s syncDone

/-- FER_HOLD passes for a node (R155). -/
def execFerHoldExpiry (node : Fin 4096) (s : State) : Host.Outcome State Fault Refusal := whenUp s (fun s => ferSend s node.val)

/-- A Fabric Error Report stays unacknowledged (R156). -/
def execFerRetryExpiry (node : Fin 4096) (s : State) : Host.Outcome State Fault Refusal := whenUp s (fun s => ferRetry s node.val)

end Sys2Proof.Machine
end

