-- ==== Sys2Proof/Machine/HostFam.lean ====
section
/-!
DEFINITION. Machine/HostFam.lean: the commands of host hierarchies: configuration, ACS, bus mastering, function resets, slots as the host writes
them (R103, R119, R124, R125, R159, R244, R254, R285, R303, R307, R324).
-/
namespace Sys2Proof.Machine

/-- A host writes a function of its vSwitch: the vSwitch is enabled, its link is up and the function is there (R103). -/
def hostReaches (s : State) (v fn : Nat) : Bool := vswOn s v && portUp s (upPort s v) && fnExists s v fn

/-- A configuration request (R103); until a configuration is applied it is answered with Configuration Request Retry Status (R127). -/
def execConfigRequest (v : Fin 32) (r : CfgReq) (s : State) : Host.Outcome State Fault Refusal :=
  finish (if up s then hostConfig s v.val r else if powered s && !configured s then emit s (.hostTlp v.val (earlyCpl (cfgTlp r))) else s)

/-- ACS Control and the egress vector of a bridge are written (R119, R159): one epoch. -/
def execAcsControlWrite (v : Fin 32) (bridge acs vec : Nat) (s : State) : Host.Outcome State Fault Refusal :=
  whenUp s (fun s => if hostReaches s v.val (fnBridge bridge) then acsChange s v.val (fnBridge bridge) acs vec else s)

/-- Bus Master Enable of a function is cleared (R125). -/
def execBmeClear (v : Fin 32) (fn : Nat) (s : State) : Host.Outcome State Fault Refusal :=
  whenUp s (fun s => if hostReaches s v.val fn && (s.func v.val fn).command.testBit 2 then bmeClear s v.val fn else s)

/-- The Mover PF enters D3hot (R254). -/
def execMoverPfD3hot (v : Fin 32) (s : State) : Host.Outcome State Fault Refusal :=
  whenUp s (fun s => if hostReaches s v.val fnMover then setD3 s v.val fnMover true else s)

/-- An FLR of a bound endpoint function (R118, R125). -/
def execFlrEndpoint (v : Fin 32) (hostRid : Nat) (s : State) : Host.Outcome State Fault Refusal :=
  whenUp s (fun s => if hostReaches s v.val fnUp then flrHost s v.val hostRid else s)

/-- An FLR of the Mover PF (R125). -/
def execFlrMoverPf (v : Fin 32) (s : State) : Host.Outcome State Fault Refusal :=
  whenUp s (fun s => if hostReaches s v.val fnMover then flrOwn s v.val fnMover else s)

/-- An FLR of the management function (R324). -/
def execFlrMgmtFunction (v : Fin 32) (s : State) : Host.Outcome State Fault Refusal :=
  whenUp s (fun s => if hostReaches s v.val fnMgmt then flrOwn s v.val fnMgmt else s)

/-- Secondary Bus Reset of a bridge (R125). -/
def execSecondaryBusReset (v : Fin 32) (bridge : Nat) (s : State) : Host.Outcome State Fault Refusal :=
  whenUp s (fun s => if hostReaches s v.val (fnBridge bridge) then busReset s v.val (fnBridge bridge) else s)

/-- DPC Trigger Status of a bridge is cleared (R124). -/
def execDpcTriggerStatusClear (v : Fin 32) (bridge : Nat) (s : State) : Host.Outcome State Fault Refusal :=
  whenUp s (fun s => if hostReaches s v.val (fnBridge bridge) then dpcClear s v.val bridge else s)

/-- Link Disable of a bridge is written (R307). -/
def execLinkDisableWrite (v : Fin 32) (bridge : Nat) (set : Bool) (s : State) : Host.Outcome State Fault Refusal :=
  whenUp s (fun s => if hostReaches s v.val (fnBridge bridge) then linkDisable s v.val bridge set else s)

/-- Target Link Speed and Retrain Link of a bridge are written (R284, R285); a bridge number above 62 stands for the upstream bridge. -/
def execRetrainLinkWrite (v : Fin 32) (bridge speed : Nat) (s : State) : Host.Outcome State Fault Refusal :=
  whenUp s (fun s =>
    let fn := if bridge < 63 then fnBridge bridge else fnUp
    if hostReaches s v.val fn then retrainFn (targetSpeed s v.val fn speed) v.val fn else s)

/-- Power Controller Control is written On (R303). -/
def execSlotPowerOnRequest (v : Fin 32) (bridge : Nat) (s : State) : Host.Outcome State Fault Refusal :=
  whenUp s (fun s => if hostReaches s v.val (fnBridge bridge) then slotPower s v.val bridge 1 none else s)

/-- Power Controller Control is written Off (R116, R303). -/
def execSlotPowerOffRequest (v : Fin 32) (bridge : Nat) (s : State) : Host.Outcome State Fault Refusal :=
  whenUp s (fun s => if hostReaches s v.val (fnBridge bridge) then slotPower s v.val bridge 2 none else s)

/-- The indicator controls of a slot are written (R303). -/
def execSlotIndicatorWrite (v : Fin 32) (bridge : Nat) (attn power : Fin 4) (s : State) : Host.Outcome State Fault Refusal :=
  whenUp s (fun s => if hostReaches s v.val (fnBridge bridge) then slotPower s v.val bridge 0 (some (attn.val, power.val)) else s)

/-- The ATS, PRI and PASID enables of the Mover PF are written (R244). -/
def execPriAtsDisable (v : Fin 32) (enables : Nat) (s : State) : Host.Outcome State Fault Refusal :=
  whenUp s (fun s => if hostReaches s v.val fnMover then pfEnables s v.val enables else s)

end Sys2Proof.Machine
end

