-- ==== Sys2Proof/Machine/Spdm.lean ====
section
/-!
DEFINITION. Machine/Spdm.lean: attestation over SPDM and DOE (R445–R447).

The manual names the requests, the capabilities, the algorithms and the measurements; the layout of the messages is DMTF's (PRESUMED, log
entry 65).
-/
namespace Sys2Proof.Machine

/-- The key of a requester's connection state: MCTP channel and source endpoint ID, or DOE instance (R446). -/
def spdmKey : SpdmVia → Nat
  | .mctp c src _ => c.val * 256 + src % 256
  | .doe v => 32768 + v.val

/-- The firmware answers on this transport: from READY on, with the cores running and the channel up (R446). -/
def spdmUp (s : State) (via : SpdmVia) : Bool :=
  up s && isSet s Reg.BOOT_STATUS Fld.BOOT_STATUS_READY && !s.pwr.coresHeld &&
    (match via with | .mctp c _ _ => mctpUp s c.val | .doe v => vswOn s v.val)

/-- A response leaves on the request's transport: MCTP type 5, or DOE type 1. -/
def spdmSend (s : State) (via : SpdmVia) (b : List Byte) : State :=
  match via with
  | .mctp c _ tag => emit s (.mctp c.val tag 5 b)
  | .doe v => emit s (.doe v.val 1 b)

/-- A response: version 1.4, code, two parameters, body. -/
def spdmMsg (code p1 p2 : Nat) (body : List Byte) : List Byte := [0x14#8] ++ natLe 1 code ++ natLe 1 p1 ++ natLe 1 p2 ++ body

/-- ERROR (PRESUMED codes): 0x01 InvalidRequest, 0x04 UnexpectedRequest, 0x07 UnsupportedRequest. -/
def spdmError (s : State) (via : SpdmVia) (code data : Nat) : State := spdmSend s via (spdmMsg 0x7F code data [])

/-- A request answered at a point of the connection at least as far on as `need`, else UnexpectedRequest (PRESUMED). -/
def spdmAt (s : State) (via : SpdmVia) (need : Nat) (f : State → State) : State :=
  if !spdmUp s via then s
  else if agetD s.icp.spdmConn (spdmKey via) 0 < need then spdmError s via 0x04 0
  else f s

/-- The connection has reached a point. -/
def spdmReach (s : State) (via : SpdmVia) (n : Nat) : State := { s with icp := { s.icp with spdmConn := aput s.icp.spdmConn (spdmKey via) n } }

/-- GET_VERSION: version 1.4 only. -/
def spdmVersion (s : State) (via : SpdmVia) : State :=
  spdmAt s via 0 (fun s => spdmSend (spdmReach s via 1) via ([0x10#8, 0x04#8, 0#8, 0#8, 0#8, 1#8, 0x00#8, 0x14#8]))

/-- GET_CAPABILITIES: CERT_CAP, CHAL_CAP, MEAS_CAP with signature; both sizes 4,096.  CTExponent is stated nowhere: free. -/
def spdmCaps (s : State) (via : SpdmVia) : State :=
  spdmAt s via 1 (fun s =>
    let (ct, s) := draw (spdmReach s via 2) 8
    spdmSend s via (spdmMsg 0x61 0 0 ([0#8] ++ natLe 1 ct ++ zeros 2 ++ natLe 4 0x16 ++ natLe 4 4096 ++ natLe 4 4096)))

/-- NEGOTIATE_ALGORITHMS: DMTF measurements, SHA3-256, ML-DSA-44 only. -/
def spdmAlgs (s : State) (via : SpdmVia) : State :=
  spdmAt s via 2 (fun s =>
    spdmSend (spdmReach s via 3) via (spdmMsg 0x63 0 0 (natLe 2 36 ++ [1#8, 0#8] ++ natLe 4 0x10 ++ zeros 4 ++ natLe 4 0x08 ++ natLe 4 1 ++ zeros 12)))

/-- Slot 0 is provisioned: the identity area holds an identity certificate for the derived identity key (R445). -/
def slot0 (s : State) : Bool := Config.certFor s.flash.identity (Config.mldsaPublic (identitySeed s))

/-- The certificate chain of slot 0 (R445). -/
def certChain (s : State) : List Byte :=
  let c := natLe 32 (Config.sha3 (Config.rootCert s.flash.identity)) ++ s.flash.identity ++
    Config.aliasCert (identitySeed s) (aliasSeed s) s.otp.serial (getF s Reg.BOOT_STATUS Fld.BOOT_STATUS_SVN)
  natLe 2 (c.length + 4) ++ zeros 2 ++ c

/-- GET_DIGESTS. -/
def spdmDigests (s : State) (via : SpdmVia) : State :=
  spdmAt s via 3 (fun s =>
    if slot0 s then spdmSend s via (spdmMsg 0x01 1 1 (natLe 32 (Config.sha3 (certChain s)))) else spdmSend s via (spdmMsg 0x01 1 0 []))

/-- GET_CERTIFICATE: a portion of the chain of slot 0, of what one message of 4,096 bytes holds. -/
def spdmCert (s : State) (via : SpdmVia) (slot ofs len : Nat) : State :=
  spdmAt s via 3 (fun s =>
    let c := certChain s
    if slot ≠ 0 ∨ !slot0 s ∨ c.length ≤ ofs then spdmError s via 0x01 0
    else
      let d := (c.drop ofs).take (min len 4088)
      spdmSend s via (spdmMsg 0x02 slot 0 (natLe 2 d.length ++ natLe 2 (c.length - ofs - d.length) ++ d)))

/-- A signature of the alias key (R446): over the transcript, which is not modelled, so a free value stands for it. -/
def spdmSign (s : State) : List Byte × State :=
  let (m, s) := draw s 256
  (fit 2420 (Config.mldsaSign (aliasSeed s) (natLe 32 m)), s)

/-- CHALLENGE. -/
def spdmChallenge (s : State) (via : SpdmVia) (slot : Nat) (nonce : List Byte) : State :=
  spdmAt s via 3 (fun s =>
    if slot ≠ 0 ∨ !slot0 s ∨ nonce.length ≠ 32 then spdmError s via 0x01 0
    else
      let (n, s) := draw s 256
      let (c, s) := draw s 64
      let (g, s) := spdmSign s
      spdmSend s via (spdmMsg 0x03 slot 1 (natLe 32 (Config.sha3 (certChain s)) ++ natLe 32 n ++ zeros 2 ++ natLe 8 c ++ g)))

/-- The value of a measurement (R447). -/
def measurement (s : State) (i : Nat) : List Byte :=
  match i with
  | 1 => natLe 32 Config.romDigest
  | 2 => getData s Reg.FW_MEASURE 4
  | 3 => (match s.pwr.sel.base with | some b => natLe 32 (Config.sha3 (imgObj b)) | none => zeros 32)
  | 4 => (match s.pwr.sel.overlay with | some b => natLe 32 (Config.sha3 (imgObj b)) | none => zeros 32)
  | 5 =>
    let k := Reg.OTP_STATE
    natLe 1 (getF s k Fld.OTP_STATE_KEY_PROG) ++ natLe 1 (getF s k Fld.OTP_STATE_KEY_REVOKED) ++ natLe 1 (getF s k Fld.OTP_STATE_FW_ARB) ++ [0#8] ++
      natLe 4 (getF s k Fld.OTP_STATE_CFG_FLOOR) ++ zeros 8
  | _ => natLe 4 (regView s Reg.GLB_MODE_STATUS).toNat

/-- DMTF type of a measurement, with bit 7 for a raw value (PRESUMED). -/
def measureType (i : Nat) : Nat := match i with | 1 => 0x00 | 2 => 0x01 | 3 => 0x03 | 4 => 0x03 | 5 => 0x85 | _ => 0x85

/-- A measurement block. -/
def measureBlock (s : State) (i : Nat) : List Byte :=
  let v := measurement s i
  natLe 1 i ++ [1#8] ++ natLe 2 (v.length + 3) ++ natLe 1 (measureType i) ++ natLe 2 v.length ++ v

/-- GET_MEASUREMENTS: the number of blocks (0), one block, or all (0xFF); values as they are at this moment (R447). -/
def spdmMeasure (s : State) (via : SpdmVia) (op : Nat) (signed : Bool) (nonce : List Byte) : State :=
  spdmAt s via 3 (fun s =>
    let ids := if op = 0 then [] else if op = 0xFF then [1, 2, 3, 4, 5, 6] else [op]
    if (7 ≤ op ∧ op ≠ 0xFF) ∨ (signed ∧ nonce.length ≠ 32) then spdmError s via 0x01 0
    else
      let r := ids.flatMap (measureBlock s)
      let head := natLe 1 ids.length ++ natLe 3 r.length ++ r
      let (n, s) := draw s 256
      if signed then
        let (g, s) := spdmSign s
        spdmSend s via (spdmMsg 0x60 (if op = 0 then 6 else 0) 0 (head ++ natLe 32 n ++ zeros 2 ++ g))
      else spdmSend s via (spdmMsg 0x60 (if op = 0 then 6 else 0) 0 (head ++ natLe 32 n ++ zeros 2)))

/-- A request that is not supported (R446). -/
def spdmUnsupported (s : State) (via : SpdmVia) (code : Nat) : State := spdmAt s via 0 (fun s => spdmError s via 0x07 (code % 256))

/-- DOE Discovery (R446): index 0 itself, index 1 SPDM; further indices name no protocol. -/
def doeDiscover (s : State) (v : Fin 32) (index : Nat) : State :=
  if !spdmUp s (.doe v) then s
  else
    emit s (.doe v.val 0 (match index with
      | 0 => natLe 2 0x0001 ++ [0#8, 1#8]
      | 1 => natLe 2 0x0001 ++ [1#8, 0#8]
      | _ => natLe 2 0xFFFF ++ [0xFF#8, 0#8]))

end Sys2Proof.Machine
end

