-- ==== Sys2Proof/Machine/IcpFam.lean ====
section
/-!
DEFINITION. Machine/IcpFam.lean: the commands of the command transports: rings, MCTP, SPDM and DOE (R322–R325, R445–R447).
-/
namespace Sys2Proof.Machine

/-- EN of a ring is set (R324); it stays 0 while the ICP_MGR bit of the vSwitch is 0. -/
def execIcpRingEnable (v : Fin 32) (sqLog2 cqLog2 : Nat) (s : State) : Host.Outcome State Fault Refusal :=
  whenUp s (fun s => if vswOn s v.val && (rd s Reg.ICP_MGR).getLsbD v.val && !ringOn s v.val then ringEnable s v.val sqLog2 cqLog2 else s)

/-- EN of a ring is cleared (R324). -/
def execIcpRingDisable (v : Fin 32) (s : State) : Host.Outcome State Fault Refusal :=
  whenUp s (fun s => if ringOn s v.val then ringDisable s v.val else s)

/-- The doorbell of a submission queue (R322). -/
def execIcpSqTailWrite (v : Fin 32) (count : BitVec 32) (s : State) : Host.Outcome State Fault Refusal :=
  whenUp s (fun s => if ringOn s v.val then sqTailWrite s v.val count.toNat else s)

/-- A read of a submission slot ends (R322). -/
def execIcpSlotFetchDone (v : Fin 32) (ok : Bool) (slot : List Byte) (s : State) : Host.Outcome State Fault Refusal :=
  whenUp s (fun s => slotFetched s v.val ok slot)

/-- The host has taken completions (R323). -/
def execIcpCqHeadWrite (v : Fin 32) (count : BitVec 32) (s : State) : Host.Outcome State Fault Refusal :=
  whenUp s (fun s => if ringOn s v.val then cqHeadWrite s v.val count.toNat else s)

/-- A reply is written to a completion slot (R323). -/
def execIcpReply (v : Fin 32) (s : State) : Host.Outcome State Fault Refusal := whenUp s (fun s => ringReply s v.val)

/-- A packet of an MCTP message arrives (R325). -/
def execMctpMessageRx (ch : Fin 67) (src tag : Nat) (som eom ic : Bool) (type : Nat) (bytes : List Byte) (s : State) :
    Host.Outcome State Fault Refusal :=
  whenUp s (fun s => mctpRx s ch.val src tag som eom ic type bytes)

/-- A message is not complete 100 ms after its first packet (R325). -/
def execMctpReassemblyTimeout (ch : Fin 67) (src tag : Nat) (s : State) : Host.Outcome State Fault Refusal :=
  whenUp s (fun s => mctpTimeout s ch.val src tag)

/-- Set Endpoint ID (R325). -/
def execSetEndpointId (ch : Fin 67) (tag eid : Nat) (s : State) : Host.Outcome State Fault Refusal := whenUp s (fun s => setEid s ch.val tag eid)

/-- Get Endpoint ID (R325). -/
def execGetEndpointId (ch : Fin 67) (tag : Nat) (s : State) : Host.Outcome State Fault Refusal := whenUp s (fun s => getEid s ch.val tag)

/-- Get MCTP Version Support (R325). -/
def execGetMctpVersionSupport (ch : Fin 67) (tag : Nat) (s : State) : Host.Outcome State Fault Refusal := whenUp s (fun s => mctpVersions s ch.val tag)

/-- Get Message Type Support (R325). -/
def execGetMessageTypeSupport (ch : Fin 67) (tag : Nat) (s : State) : Host.Outcome State Fault Refusal := whenUp s (fun s => mctpTypes s ch.val tag)

/-- DOE Discovery (R446). -/
def execDoeDiscovery (v : Fin 32) (index : Nat) (s : State) : Host.Outcome State Fault Refusal := whenUp s (fun s => doeDiscover s v index)

/-- SPDM GET_VERSION (R446). -/
def execSpdmGetVersion (via : SpdmVia) (s : State) : Host.Outcome State Fault Refusal := whenUp s (fun s => spdmVersion s via)

/-- SPDM GET_CAPABILITIES (R446). -/
def execSpdmGetCapabilities (via : SpdmVia) (s : State) : Host.Outcome State Fault Refusal := whenUp s (fun s => spdmCaps s via)

/-- SPDM NEGOTIATE_ALGORITHMS (R446). -/
def execSpdmNegotiateAlgorithms (via : SpdmVia) (s : State) : Host.Outcome State Fault Refusal := whenUp s (fun s => spdmAlgs s via)

/-- SPDM GET_DIGESTS (R445). -/
def execSpdmGetDigests (via : SpdmVia) (s : State) : Host.Outcome State Fault Refusal := whenUp s (fun s => spdmDigests s via)

/-- SPDM GET_CERTIFICATE (R445). -/
def execSpdmGetCertificate (via : SpdmVia) (slot offset len : Nat) (s : State) : Host.Outcome State Fault Refusal :=
  whenUp s (fun s => spdmCert s via slot offset len)

/-- SPDM CHALLENGE (R446). -/
def execSpdmChallenge (via : SpdmVia) (slot : Nat) (nonce : List Byte) (s : State) : Host.Outcome State Fault Refusal :=
  whenUp s (fun s => spdmChallenge s via slot nonce)

/-- SPDM GET_MEASUREMENTS (R447). -/
def execSpdmGetMeasurements (via : SpdmVia) (op : Nat) (signed : Bool) (nonce : List Byte) (s : State) : Host.Outcome State Fault Refusal :=
  whenUp s (fun s => spdmMeasure s via op signed nonce)

/-- Any other SPDM request (R446). -/
def execSpdmUnsupportedRequest (via : SpdmVia) (code : Nat) (s : State) : Host.Outcome State Fault Refusal :=
  whenUp s (fun s => spdmUnsupported s via code)

end Sys2Proof.Machine
end

