-- ==== Sys2Proof/Machine/MoverFam.lean ====
section
/-!
DEFINITION. Machine/MoverFam.lean: the commands of the Mover: doorbells, descriptors, engines, translation, instances, mailboxes
(R235, R237, R241–R255, R353).
-/
namespace Sys2Proof.Machine

/-- Host software of an enabled vSwitch reaches the pages of an instance bound to it (R236). -/
def pageOf (s : State) (v n : Nat) : Bool := vswOn s v && instVsw s n == some v

/-- The instance that a Mover PF's set-up registers select acts (R235, R237, R253). -/
def onSelected (s : State) (v : Nat) (f : State → Nat → State) : State :=
  match instSelected s v with
  | some n => if vswOn s v then f s n else s
  | none => s

/-- A doorbell write (R243). -/
def execInstTailWrite (v : Fin 32) (n : Fin 4096) (count : BitVec 32) (s : State) : Host.Outcome State Fault Refusal :=
  whenUp s (fun s => if pageOf s v.val n.val then tailWrite s n.val count.toNat else s)

/-- A descriptor read ends (R241). -/
def execDescriptorFetchDone (n : Fin 4096) (ok : Bool) (desc : List Byte) (s : State) : Host.Outcome State Fault Refusal :=
  whenUp s (fun s => fetchDone (mvCtxEnd s (16 + n.val)) n.val ok desc)

/-- A free engine takes a descriptor (R246). -/
def execEngineDispatch (e : Fin 16) (s : State) : Host.Outcome State Fault Refusal := whenUp s (fun s => dispatch s e.val)

/-- A source read completes (R248). -/
def execMoverReadCompletion (e : Fin 16) (ok : Bool) (data : List Byte) (s : State) : Host.Outcome State Fault Refusal :=
  whenUp s (fun s => readDone (mvCtxEnd s e.val) e.val ok data)

/-- A translation completes (R244). -/
def execAtsTranslationCompletion (q : XlatFor) (r : AtsResult) (s : State) : Host.Outcome State Fault Refusal :=
  whenUp s (fun s => match q with | .engine e => xlatDone s e.val r | .ring n => ringXlatDone s n.val r)

/-- A PRG Response arrives (R244). -/
def execPrgResponseRx (v : Fin 32) (index code : Nat) (s : State) : Host.Outcome State Fault Refusal :=
  whenUp s (fun s => if vswOn s v.val then prgResponse s v.val index code else s)

/-- An Invalidate Request arrives (R245). -/
def execInvalidateRequestRx (v : Fin 32) (pasid iova size itag : Nat) (s : State) : Host.Outcome State Fault Refusal :=
  whenUp s (fun s => if vswOn s v.val then invalidate s v.val pasid iova size itag else s)

/-- No read under the dropped translations is left (R245). -/
def execInvalidateComplete (v : Fin 32) (itag : Nat) (s : State) : Host.Outcome State Fault Refusal := whenUp s (fun s => invalDone s v.val itag)

/-- ENABLE of the selected instance (R235). -/
def execInstEnable (v : Fin 32) (s : State) : Host.Outcome State Fault Refusal := whenUp s (fun s => onSelected s v.val instEnable)

/-- DISABLE of the selected instance (R235). -/
def execInstDisable (v : Fin 32) (s : State) : Host.Outcome State Fault Refusal := whenUp s (fun s => onSelected s v.val instDisable)

/-- QUIESCE of the selected instance (R254). -/
def execInstQuiesce (v : Fin 32) (abort : Bool) (s : State) : Host.Outcome State Fault Refusal :=
  whenUp s (fun s => onSelected s v.val (fun s n => instQuiesce s n abort true))

/-- A quiescing instance has nothing left to end (R254). -/
def execInstanceQuiesced (n : Fin 4096) (s : State) : Host.Outcome State Fault Refusal := whenUp s (fun s => instQuiesced s n.val)

/-- The set-up of the selected instance is written (R237). -/
def execInstSetupWrite (v : Fin 32) (offset : Nat) (bytes : List Byte) (s : State) : Host.Outcome State Fault Refusal :=
  whenUp s (fun s => onSelected s v.val (fun s n => setupWrite s n offset bytes))

/-- SEND of an instance's mailbox (R253). -/
def execMbSend (v : Fin 32) (n : Fin 4096) (s : State) : Host.Outcome State Fault Refusal :=
  whenUp s (fun s => if pageOf s v.val n.val then mbSend s n.val else s)

/-- ACK of an instance's mailbox (R253). -/
def execMbAck (v : Fin 32) (n : Fin 4096) (s : State) : Host.Outcome State Fault Refusal :=
  whenUp s (fun s => if pageOf s v.val n.val then mbAck s n.val else s)

/-- MB_REPLY of the selected instance (R253). -/
def execMbReplyWrite (v : Fin 32) (len : Nat) (send : Bool) (s : State) : Host.Outcome State Fault Refusal :=
  whenUp s (fun s => onSelected s v.val (fun s n => mbReply s n len send))

/-- ATC_FLUSH is written (R245). -/
def execAtcFlush (s : State) : Host.Outcome State Fault Refusal := whenUp s atcFlush

/-- The ENG_EN bit of an engine is cleared (R353). -/
def execEngineDisable (e : Fin 16) (s : State) : Host.Outcome State Fault Refusal := whenUp s (fun s => engineDisable s e.val)

/-- The last dirty word of a HARVEST is written (R251). -/
def execHarvestDone (n : Fin 4096) (s : State) : Host.Outcome State Fault Refusal := whenUp s (fun s => harvestDone s n.val)

/-- WAIT of MOVER_QUIESCE passes (R255). -/
def execMoverQuiesceWaitExpiry (s : State) : Host.Outcome State Fault Refusal := whenUp s moverQuiesceTimeout

end Sys2Proof.Machine
end

