-- ==== Sys2Proof/Machine/SafetyFam.lean ====
section
/-!
DEFINITION. Machine/SafetyFam.lean: the commands of faults, Check Value Units, memory protection, LPDDR4X, the background activities and the
journal (R354, R355, R362, R369–R371, R403, R404, R407–R409, R431, R455, R459).
-/
namespace Sys2Proof.Machine

/-- A register access of a master: the SP's reach their target whenever the SP runs, any other master's once the fast domains do (R377). -/
def accessUp (s : State) (m : Master) : Bool := if m.id = 0 then spUp s else fastUp s

/-- A master's write of one of the registers that have rows of their own: an access to the whole register like any other (R449–R454). -/
def ownWrite (s : State) (m : Master) (k : Nat) (w : Word) : State :=
  if accessUp s m then
    accessWrite s ⟨m, .crs, crsOffset k, (match famOf k with | some f => f.width / 8 | none => 4), false⟩ w
  else s

/-- A source reports a fault (R355). -/
def execFaultRaised (f : FaultReq) (s : State) : Host.Outcome State Fault Refusal :=
  whenSp s (fun s => { s with fcu := { s.fcu with due := s.fcu.due ++ [f] } })

/-- A window of correctable events runs out (R354). -/
def execCorrectableWindowExpiry (u : UnitId) (group : Nat) (s : State) : Host.Outcome State Fault Refusal :=
  whenSp s (fun s => { s with fcu := { s.fcu with windows := s.fcu.windows.filter (fun w => !(w.unit == u && w.group == group)) } })

/-- FAULT_N is released once nothing holds it, 10 µs after it went low at the earliest (R362). -/
def execFaultNRelease (s : State) : Host.Outcome State Fault Refusal :=
  finish (if s.pwr.faultNLow && !faultNHeld s && decide (s.pwr.faultNSince + 500 ≤ s.edge) then
            emit { s with pwr := { s.pwr with faultNLow := false } } (.faultN false) else s)

/-- A write of CV_DATA8, CV_DATA16 or CV_DATA32 (R369). -/
def execCvDataWrite (n : Fin 8) (m : Master) (reg : Fin 3) (value : Word) (s : State) : Host.Outcome State Fault Refusal :=
  finish (ownWrite s m (match reg with | 0 => Reg.CV_DATA8 n.val | 1 => Reg.CV_DATA16 n.val | 2 => Reg.CV_DATA32 n.val) value)

/-- INIT is written to CV_CTRL, its other fields as they stand (R369). -/
def execCvInit (n : Fin 8) (m : Master) (s : State) : Host.Outcome State Fault Refusal :=
  finish (ownWrite s m (Reg.CV_CTRL n.val) (Fld.CV_CTRL_INIT.set (rd s (Reg.CV_CTRL n.val)) 1))

/-- CV_END is written (R370). -/
def execCvEndWrite (n : Fin 8) (m : Master) (value : Word) (s : State) : Host.Outcome State Fault Refusal :=
  finish (ownWrite s m (Reg.CV_END n.val) value)

/-- CV_STATE is written (R371). -/
def execCvStateWrite (n : Fin 8) (m : Master) (value : Word) (s : State) : Host.Outcome State Fault Refusal :=
  finish (ownWrite s m (Reg.CV_STATE n.val) value)

/-- MPU_COMMIT is written (R455). -/
def execMpuCommitWrite (u : Fin 23) (m : Master) (s : State) : Host.Outcome State Fault Refusal :=
  finish (ownWrite s m (Reg.MPU_COMMIT u.val) 1)

/-- MPU_DRAIN is read (R455): no access checked under an older generation is left between two commands. -/
def execMpuDrainRead (u : Fin 23) (m : Master) (s : State) : Host.Outcome State Fault Refusal :=
  finish (if accessUp s m then accessRead s ⟨m, .crs, crsOffset (Reg.MPU_DRAIN u.val), 4, false⟩ else s)

/-- The next block of LPDDR4X is filled with zeros (R459): contents that nothing has written read 0 already. -/
def execDdrFillBlock (s : State) : Host.Outcome State Fault Refusal :=
  whenFast s (fun s =>
    if isSet s Reg.DDR_STATUS Fld.DDR_STATUS_READY && decide (s.ddr.fillNext < 1792) then
      { s with ddr := { s.ddr with fillNext := s.ddr.fillNext + 1, filled := s.ddr.filled.filter (fun b => b != s.ddr.fillNext) } }
    else s)

/-- LAUNDER reads a word (R404). -/
def execLaunderAccess (r : Fin 6) (e : EccResult) (s : State) : Host.Outcome State Fault Refusal := whenUp s (fun s => launder s r.val e)

/-- The SP scrubs its SRAM (R403). -/
def execSpSramScrub (e : EccResult) (s : State) : Host.Outcome State Fault Refusal := whenSp s (fun s => spScrub s e)

/-- DARN erases the next sector ahead (R409). -/
def execDarnSectorErase (s : State) : Host.Outcome State Fault Refusal := whenUp s darnErase

/-- An erase of the flash completes, or a sector fails (R408). -/
def execFlashOpDone (ok : Bool) (s : State) : Host.Outcome State Fault Refusal := whenSp s (fun s => eraseDone s ok)

/-- The page program of a journal record completes (R407). -/
def execJournalRecordCommit (ok : Bool) (s : State) : Host.Outcome State Fault Refusal := whenSp s (fun s => journalCommit s ok)

/-- A full record sector is erased (R431). -/
def execRecordSectorErase (pair : Fin 3) (s : State) : Host.Outcome State Fault Refusal := whenUp s (fun s => recordErase s pair.val)

end Sys2Proof.Machine
end

