-- ==== Sys2Proof/Machine/ObserveFam.lean ====
section
/-!
DEFINITION. Machine/ObserveFam.lean: the commands of observability and of registers: ORBIT, ECLIPSE, counters, COMET, the sampler, logs, table
access, the control registers with rows of their own, and every other register (R9, R78, R79, R93–R96, R113, R114, R132, R135, R137, R148, R158,
R194, R200, R209, R271, R305, R307–R309, R413, R416, R417, R422, R423, R427, R464).
-/
namespace Sys2Proof.Machine

/-- ORBIT's report is due (R413). -/
def execOrbitReport (s : State) : Host.Outcome State Fault Refusal := whenUp s orbitReport

/-- ECLIPSE_IN rises (R416); in Dormant it wakes the device, and the snapshot follows the wake (R387). -/
def execEclipseInRise (s : State) : Host.Outcome State Fault Refusal :=
  whenConfigured s (fun s =>
    if dormant s then dormantWake s .eclipseIn
    else if isSet s Reg.ECL_ARM Fld.ECL_ARM_IN_EN && decide (s.bg.eclDeaf ≤ s.time) then eclTrigger s 1 else s)

/-- A counter carries out of bit 47 (R422). -/
def execCounterCarry (bank : Nat) (i : Fin 8) (s : State) : Host.Outcome State Fault Refusal :=
  whenFast s (fun s => if allBanks.contains bank then pcCarry s bank i.val 0 else s)

/-- The AON banks latch (R417). -/
def execEclipseAonLatch (s : State) : Host.Outcome State Fault Refusal := whenFast s eclAonLatch

/-- VALID bits are written to ECL_STATUS (R417): bit 0 of the mask bank A, bit 1 bank B. -/
def execEclBankRelease (m : Master) (mask : Fin 4) (s : State) : Host.Outcome State Fault Refusal :=
  finish (ownWrite s m Reg.ECL_STATUS (Fld.ECL_STATUS_VALID_B.set (Fld.ECL_STATUS_VALID_A.set 0 (mask.val % 2)) (mask.val / 2)))

/-- A write of PC_CTRL of a bank. -/
def pcWrite (s : State) (m : Master) (bank : Nat) (w : Word) : State :=
  if allBanks.contains bank && accessUp s m then accessWrite s ⟨m, .crs, bankBase bank, 4, false⟩ w else s

/-- FREEZE of a bank is set or cleared (R423). -/
def execPcFreeze (m : Master) (bank : Nat) (on : Bool) (s : State) : Host.Outcome State Fault Refusal :=
  finish (pcWrite s m bank (Fld.PC_CTRL_FREEZE.set 0 (b2n on)))

/-- CLEAR of a bank is written, FREEZE as it stands (R423). -/
def execPcClear (m : Master) (bank : Nat) (s : State) : Host.Outcome State Fault Refusal :=
  finish (pcWrite s m bank (Fld.PC_CTRL_CLEAR.set (Fld.PC_CTRL_FREEZE.set 0 (getF s (Reg.PC_CTRL bank) Fld.PC_CTRL_FREEZE)) 1))

/-- A staged COMET record is written (R93). -/
def execCometRecordWrite (s : State) : Host.Outcome State Fault Refusal := whenUp s cometWrite

/-- HOLDOFF passes after COMET's last record (R96). -/
def execCometHoldoffExpiry (s : State) : Host.Outcome State Fault Refusal := whenUp s cometHoldoff

/-- COMET_CTRL is written with EN 1 (R95). -/
def execCometEnSet (m : Master) (value : Word) (s : State) : Host.Outcome State Fault Refusal :=
  finish (ownWrite s m Reg.COMET_CTRL (Fld.COMET_CTRL_EN.set value 1))

/-- COMET_CTRL is written with EN 0 (R95). -/
def execCometEnClear (m : Master) (value : Word) (s : State) : Host.Outcome State Fault Refusal :=
  finish (ownWrite s m Reg.COMET_CTRL (Fld.COMET_CTRL_EN.set value 0))

/-- COMET_RD_PTR is written (R95). -/
def execCometRdPtrWrite (m : Master) (value : Word) (s : State) : Host.Outcome State Fault Refusal := finish (ownWrite s m Reg.COMET_RD_PTR value)

/-- A completed sampler entry is spilled (R427). -/
def execSamplerSpill (s : State) : Host.Outcome State Fault Refusal := whenUp s smpSpill

/-- SMP_CTRL is written with EN 1 (R427). -/
def execSmpEnSet (m : Master) (value : Word) (s : State) : Host.Outcome State Fault Refusal :=
  finish (ownWrite s m Reg.SMP_CTRL (Fld.SMP_CTRL_EN.set value 1))

/-- SMP_RING_RD is written (R427). -/
def execSmpRdWrite (m : Master) (value : Word) (s : State) : Host.Outcome State Fault Refusal := finish (ownWrite s m Reg.SMP_RING_RD value)

/-- HOLDOFF passes after the sampler's last record (R427). -/
def execSmpHoldoffExpiry (s : State) : Host.Outcome State Fault Refusal := whenUp s smpHoldoff

/-- RD of a Posted Failure Log is written (R158). -/
def execPflRdWrite (m : Master) (v : Fin 32) (value : Word) (s : State) : Host.Outcome State Fault Refusal :=
  finish (ownWrite s m (Reg.PFL_PTR v.val) value)

/-- RD of the bridge error log is written (R464). -/
def execSbErrRdWrite (m : Master) (value : Word) (s : State) : Host.Outcome State Fault Refusal := finish (ownWrite s m Reg.SB_ERR_PTR value)

/-- A poll entry is written (R465). -/
def execSbPollWrite (m : Master) (i : Fin 256) (value : Word) (s : State) : Host.Outcome State Fault Refusal :=
  finish (ownWrite s m (Reg.SB_POLL i.val) value)

/-- TBL_ACC is written with OP read (R79). -/
def execTblAccRead (m : Master) (value : Word) (s : State) : Host.Outcome State Fault Refusal :=
  finish (ownWrite s m Reg.TBL_ACC (Fld.TBL_ACC_OP.set value 0))

/-- TBL_ACC is written with OP write (R79). -/
def execTblAccWrite (m : Master) (value : Word) (s : State) : Host.Outcome State Fault Refusal :=
  finish (ownWrite s m Reg.TBL_ACC (Fld.TBL_ACC_OP.set value 1))

/-- METER_MAP of a port is written (R78). -/
def execMeterMapWrite (m : Master) (p : Fin 64) (value : Word) (s : State) : Host.Outcome State Fault Refusal :=
  finish (ownWrite s m (Reg.METER_MAP p.val) value)

/-- FAM_ACC is written with OP read (R132). -/
def execFamAccRead (m : Master) (value : Word) (s : State) : Host.Outcome State Fault Refusal :=
  finish (ownWrite s m Reg.FAM_ACC (Fld.FAM_ACC_OP.set value 0))

/-- FAM_ACC is written with OP write (R135). -/
def execFamAccWrite (m : Master) (value : Word) (s : State) : Host.Outcome State Fault Refusal :=
  finish (ownWrite s m Reg.FAM_ACC (Fld.FAM_ACC_OP.set value 1))

/-- BIND_ACC is written with OP read (R113). -/
def execBindAccRead (m : Master) (value : Word) (s : State) : Host.Outcome State Fault Refusal :=
  finish (ownWrite s m Reg.BIND_ACC (Fld.BIND_ACC_OP.set value 0))

/-- BIND_ACC is written with OP write (R114). -/
def execBindAccWrite (m : Master) (value : Word) (s : State) : Host.Outcome State Fault Refusal :=
  finish (ownWrite s m Reg.BIND_ACC (Fld.BIND_ACC_OP.set value 1))

/-- ROUTE_ACC is written with OP read (R137). -/
def execRouteAccRead (m : Master) (value : Word) (s : State) : Host.Outcome State Fault Refusal :=
  finish (ownWrite s m Reg.ROUTE_ACC (Fld.ROUTE_ACC_OP.set value 0))

/-- ROUTE_ACC is written with OP write (R137). -/
def execRouteAccWrite (m : Master) (value : Word) (s : State) : Host.Outcome State Fault Refusal :=
  finish (ownWrite s m Reg.ROUTE_ACC (Fld.ROUTE_ACC_OP.set value 1))

/-- CTX_ACC is written (R148): any OP but read is refused. -/
def execCtxAccRead (m : Master) (value : Word) (s : State) : Host.Outcome State Fault Refusal := finish (ownWrite s m Reg.CTX_ACC value)

/-- TWIN_SHADOW_ACC is written (R209): any OP but read is refused. -/
def execTwinShadowRead (m : Master) (value : Word) (s : State) : Host.Outcome State Fault Refusal := finish (ownWrite s m Reg.TWIN_SHADOW_ACC value)

/-- TILE_COEF_ACC is written with CLR 0 (R271). -/
def execTileCoefRead (m : Master) (t : Fin 16) (value : Word) (s : State) : Host.Outcome State Fault Refusal :=
  finish (ownWrite s m (Reg.TILE_COEF_ACC t.val) (Fld.TILE_COEF_ACC_CLR.set value 0))

/-- TILE_COEF_ACC is written with CLR 1 (R271). -/
def execTileCoefClear (m : Master) (t : Fin 16) (value : Word) (s : State) : Host.Outcome State Fault Refusal :=
  finish (ownWrite s m (Reg.TILE_COEF_ACC t.val) (Fld.TILE_COEF_ACC_CLR.set value 1))

/-- CZ_CTRL is written with RESET_REQ 1 (R200). -/
def execCzResetReq (m : Master) (n : Fin 32) (value : Word) (s : State) : Host.Outcome State Fault Refusal :=
  finish (ownWrite s m (Reg.CZ_CTRL n.val) (Fld.CZ_CTRL_RESET_REQ.set value 1))

/-- CZ_CTRL is written with TRAIN_EN 0 (R200). -/
def execCzTrainEnClear (m : Master) (n : Fin 32) (value : Word) (s : State) : Host.Outcome State Fault Refusal :=
  finish (ownWrite s m (Reg.CZ_CTRL n.val) (Fld.CZ_CTRL_TRAIN_EN.set value 0))

/-- CZ_CTRL is written with TRAIN_EN 1 (R200). -/
def execCzTrainEnSet (m : Master) (n : Fin 32) (value : Word) (s : State) : Host.Outcome State Fault Refusal :=
  finish (ownWrite s m (Reg.CZ_CTRL n.val) (Fld.CZ_CTRL_TRAIN_EN.set value 1))

/-- CZ_CTRL is written with an offer (R200). -/
def execCzOfferWrite (m : Master) (n : Fin 32) (value : Word) (s : State) : Host.Outcome State Fault Refusal :=
  finish (ownWrite s m (Reg.CZ_CTRL n.val) value)

/-- CZ_STORED is written with CLEAR 1 (R194). -/
def execCzStoredClear (m : Master) (n : Fin 32) (value : Word) (s : State) : Host.Outcome State Fault Refusal :=
  finish (ownWrite s m (Reg.CZ_STORED n.val) (Fld.CZ_STORED_CLEAR.set value 1))

/-- PORT_CTRL is written with RETRAIN 1 (R309). -/
def execPortRetrain (m : Master) (p : Fin 64) (value : Word) (s : State) : Host.Outcome State Fault Refusal :=
  finish (ownWrite s m (Reg.PORT_CTRL p.val) (Fld.PORT_CTRL_RETRAIN.set value 1))

/-- PORT_CTRL is written with RELEASE 1 (R308). -/
def execPortRelease (m : Master) (p : Fin 64) (value : Word) (s : State) : Host.Outcome State Fault Refusal :=
  finish (ownWrite s m (Reg.PORT_CTRL p.val) (Fld.PORT_CTRL_RELEASE.set value 1))

/-- PORT_CTRL is written with PERST_FORCE as the value says (R305), RETRAIN and RELEASE 0. -/
def execPortPerstForce (m : Master) (p : Fin 64) (value : Word) (s : State) : Host.Outcome State Fault Refusal :=
  finish (ownWrite s m (Reg.PORT_CTRL p.val) (Fld.PORT_CTRL_RELEASE.set (Fld.PORT_CTRL_RETRAIN.set value 0) 0))

/-- PORT_CTRL is written with DISABLE as the value says (R307). -/
def execPortDisable (m : Master) (p : Fin 64) (value : Word) (s : State) : Host.Outcome State Fault Refusal :=
  finish (ownWrite s m (Reg.PORT_CTRL p.val) value)

/-- An access of a host to a BAR of the part's own functions needs the vSwitch that has it. -/
def spaceUp (s : State) (sp : Space) : Bool :=
  match sp with
  | .crs => true
  | .mgmtBar0 v => up s && vswOn s v.val
  | .moverBar0 v => up s && vswOn s v.val && mode s != 5
  | .moverBar2 v => up s && vswOn s v.val && mode s != 5

/-- A register is read (R9): fields that a read clears are 0 after it. -/
def execReadClearField (a : Access) (s : State) : Host.Outcome State Fault Refusal :=
  finish (if accessUp s a.by_ && spaceUp s a.space then accessRead s a else s)

/-- A register is written (R9–R12). -/
def execRegisterWrite (a : Access) (value : Word) (s : State) : Host.Outcome State Fault Refusal :=
  finish (if accessUp s a.by_ && spaceUp s a.space then accessWrite s a value else s)

end Sys2Proof.Machine
end

