-- ==== Sys2Proof/Machine/PcieFam.lean ====
section
/-!
DEFINITION. Machine/PcieFam.lean: the commands of the PCIe ports: link, data link packets, power management, PTM, messages
(R100, R121, R265, R283, R286–R288, R295–R301, R305, R306).
-/
namespace Sys2Proof.Machine

/-- A PCIe link reaches DL_Active (R305). -/
def execPcieDlUp (p : Fin 64) (rate : Fin 6) (width : Nat) (flit reversed : Bool) (partnerRate : Fin 6) (s : State) : Host.Outcome State Fault Refusal :=
  whenUp s (fun s => pcieUp s p.val rate.val width flit reversed partnerRate.val)

/-- A PCIe link leaves L0 (R287) for the LTSSM state given. -/
def execPcieLinkDown (p : Fin 64) (ltssm : Fin 11) (s : State) : Host.Outcome State Fault Refusal := whenUp s (fun s => pcieDown s p.val ltssm.val)

/-- Surprise Down (R306). -/
def execSurpriseDown (p : Fin 64) (s : State) : Host.Outcome State Fault Refusal := whenUp s (fun s => surpriseDown s p.val)

/-- An error that takes the link down (R306). -/
def execLinkFatalError (p : Fin 64) (e : LinkError) (s : State) : Host.Outcome State Fault Refusal := whenUp s (fun s => fatalError s p.val e)

/-- A rate or width change completes (R286). -/
def execPcieRateChange (p : Fin 64) (rate : Fin 6) (width : Nat) (s : State) : Host.Outcome State Fault Refusal :=
  whenUp s (fun s => rateChange s p.val rate.val width)

/-- An idle upstream port requests ASPM L1 (R299). -/
def execPcieL1Request (p : Fin 64) (s : State) : Host.Outcome State Fault Refusal := whenUp s (fun s => l1Request s p.val)

/-- A link leaves L1 (R297). -/
def execPcieL1Exit (p : Fin 64) (s : State) : Host.Outcome State Fault Refusal := whenUp s (fun s => exitL1 s p.val)

/-- CLKREQ# is sampled in L1.1 or L1.2 (R299). -/
def execClkreqSample (p : Fin 64) (asserted : Bool) (s : State) : Host.Outcome State Fault Refusal := whenUp s (fun s => clkreq s p.val asserted)

/-- A PTM dialogue of an upstream port ends with the offset of the host's time (R296). -/
def execPtmDialogue (p : Fin 64) (offset : Word) (s : State) : Host.Outcome State Fault Refusal := whenUp s (fun s => ptmDialogue s p.val offset)

/-- A PTM Request arrives at a downstream port (R100). -/
def execPtmRequestRx (x : PtmReq) (s : State) : Host.Outcome State Fault Refusal := whenUp s (fun s => ptmRequest s x.port.val x.rid)

/-- PME_Turn_Off arrives from the host of a vSwitch (R300). -/
def execPmeTurnOffRx (v : Fin 32) (s : State) : Host.Outcome State Fault Refusal := whenUp s (fun s => pmeTurnOff s v.val)

/-- PME_TO_Ack arrives from below (R300). -/
def execPmeToAckRx (p : Fin 64) (s : State) : Host.Outcome State Fault Refusal := whenUp s (fun s => pmeAck s p.val)

/-- A link has not answered PME_Turn_Off within 10 ms (R300). -/
def execPmeToAckTimeout (p : Fin 64) (s : State) : Host.Outcome State Fault Refusal := whenUp s (fun s => pmeTimeout s p.val)

/-- LTR arrives from below (R301). -/
def execLtrRx (p : Fin 64) (snoop nosnoop : Nat) (s : State) : Host.Outcome State Fault Refusal := whenUp s (fun s => ltr s p.val snoop nosnoop)

/-- Assert_INTx or Deassert_INTx arrives from below (R295). -/
def execIntxMessageRx (p : Fin 64) (rid pin : Nat) (on : Bool) (s : State) : Host.Outcome State Fault Refusal := whenUp s (fun s => intx s p.val rid pin on)

/-- An error message arrives from below (R121). -/
def execErrorMessageRx (p : Fin 64) (rid severity : Nat) (s : State) : Host.Outcome State Fault Refusal :=
  whenUp s (fun s => errorMessage s p.val rid severity)

/-- A data link layer packet arrives (R283, R290, R299, R306). -/
def execDllpRx (p : Fin 64) (d : Dllp) (s : State) : Host.Outcome State Fault Refusal := whenUp s (fun s => dllp s p.val d)

/-- The replay timer of a link expires (R306). -/
def execReplayTimerTimeout (p : Fin 64) (s : State) : Host.Outcome State Fault Refusal := whenUp s (fun s => replayTimer s p.val)

/-- The LTSSM moves without reaching DL_Active, leaving L0 for good or changing rate (R265). -/
def execLtssmStateChange (p : Fin 64) (ltssm : Fin 11) (s : State) : Host.Outcome State Fault Refusal := whenUp s (fun s => ltssmMove s p.val ltssm.val)

end Sys2Proof.Machine
end

