-- ==== Sys2Proof/Machine/PowerFam.lean ====
section
/-!
DEFINITION. Machine/PowerFam.lean: the commands of power, clocks, resets, boot and Dormant (R126, R350–R352, R377–R382, R386–R388, R394–R397, R437,
R476–R480, R484).
-/
namespace Sys2Proof.Machine

/-- POR_N has been low for 1 µs (R476): cold reset; a flush in progress is cut short. -/
def execPorNAssert (s : State) : Host.Outcome State Fault Refusal := finish (porAssert s)

/-- POR_N deasserts (R380): the strap is sampled and the boot begins. -/
def execPorNDeassert (strap : Fin 8) (s : State) : Host.Outcome State Fault Refusal := finish (porDeassert s strap.val)

/-- The XO counts as stable (R378). -/
def execXoStable (s : State) : Host.Outcome State Fault Refusal := finish (xoStable s)

/-- The root PLL is stable (R378, R388). -/
def execRootPllStable (s : State) : Host.Outcome State Fault Refusal := finish (rootStable s)

/-- A watched clock fails (R379): cold reset. -/
def execClockMonitorFail (src : ClockSrc) (s : State) : Host.Outcome State Fault Refusal := finish (clockFail s src)

/-- Firmware has initialised (R437): READY. -/
def execFirmwareReady (s : State) : Host.Outcome State Fault Refusal := finish (firmwareReady s)

/-- The warm reset that was asked for takes place (R381). -/
def execWarmReset (s : State) : Host.Outcome State Fault Refusal := finish (warmReset s)

/-- PWRFAIL_N has been low for two AON cycles (R394). -/
def execPwrfailNRecognised (s : State) : Host.Outcome State Fault Refusal := finish (pwrfail s)

/-- The journal flush of a power failure ends (R394). -/
def execPowerFailFlushDone (s : State) : Host.Outcome State Fault Refusal := finish (flushDone s)

/-- PWRFAIL_N rises again (R397). -/
def execPwrfailNRise (s : State) : Host.Outcome State Fault Refusal := finish (pwrfailRise s)

/-- VDD_AON is lost (R480). -/
def execVddAonLoss (s : State) : Host.Outcome State Fault Refusal := finish (aonLoss s)

/-- Another supply is lost without warning (R479). -/
def execSupplyLoss (rail : Rail) (s : State) : Host.Outcome State Fault Refusal := finish (supplyLoss s rail)

/-- The SP's watchdog expires (R350): TERMINAL. -/
def execSpWatchdogExpired (s : State) : Host.Outcome State Fault Refusal := finish (spWatchdog s)

/-- The firmware's watchdog expires (R354): CONTAINED against the management complex; which core it was is a free value (log entry 2). -/
def execFirmwareWatchdogExpired (s : State) : Host.Outcome State Fault Refusal :=
  whenUp s (fun s =>
    if s.pwr.coresHeld || isFenced s ⟨Uk.mgmt, 0⟩ then s
    else (let (core, s) := draw s 2; detect s 0x0500 .contained Uk.mgmt 0 core))

/-- A HOST_PERST_N input, by its number, is asserted (R126); in Dormant a change of it wakes the device (R387).  In reset only the level counts. -/
def execHostPerstNAssert (v : Fin 32) (s : State) : Host.Outcome State Fault Refusal :=
  finish (if configured s then perstAssert (dormantWake s .hostPerst) v.val
          else perstPin s v.val true)

/-- A HOST_PERST_N input is deasserted (R126): the 20 ms hold of its vSwitches begins. -/
def execHostPerstNDeassert (v : Fin 32) (s : State) : Host.Outcome State Fault Refusal :=
  finish (if configured s then perstDeassert (dormantWake s .hostPerst) v.val
          else perstPin s v.val false)

/-- The hold of a vSwitch ends (R126): it leaves reset. -/
def execHostPerstHoldEnd (v : Fin 32) (s : State) : Host.Outcome State Fault Refusal := whenConfigured s (fun s => perstHoldEnd s v.val)

/-- AON_READ shifts the reset registers out and changes nothing (R484). -/
def execAonRead (s : State) : Host.Outcome State Fault Refusal := finish (aonRead s)

/-- The Dormant conditions have held for DORMANT_IDLE (R386). -/
def execDormantEntry (s : State) : Host.Outcome State Fault Refusal := whenUp s dormantEnter

/-- A wake cause is recognised in Dormant (R388). -/
def execDormantWake (c : WakeCause) (s : State) : Host.Outcome State Fault Refusal := finish (dormantWake s c)

/-- Device time reaches WAKE_TIMER in Dormant (R387). -/
def execWakeTimerExpiry (s : State) : Host.Outcome State Fault Refusal := finish (wakeTimer s)

/-- The boot configuration is verified and applied (R437). -/
def execBootConfigApplied (s : State) : Host.Outcome State Fault Refusal := finish (bootConfig s)

/-- The firmware of a released management complex is loaded again (R352). -/
def execFirmwareReloadDone (s : State) : Host.Outcome State Fault Refusal := whenUp s firmwareReloaded

end Sys2Proof.Machine
end

