-- ==== Sys2Proof/Machine/SlotFam.lean ====
section
/-!
DEFINITION. Machine/SlotFam.lean: the commands of slots, the Energy Governor and the sideband bridge (R304, R305, R387, R391, R392, R460–R466, R472).
-/
namespace Sys2Proof.Machine

/-- Presence of a slot changes (R304). -/
def execPresenceChange (p : Fin 64) (present : Bool) (s : State) : Host.Outcome State Fault Refusal := whenUp s (fun s => presenceChange s p.val present)

/-- The MRL of a slot opens (R304). -/
def execMrlOpen (p : Fin 64) (s : State) : Host.Outcome State Fault Refusal := whenUp s (fun s => mrlOpens s p.val)

/-- A power fault of a slot is polled (R304). -/
def execPowerFaultAssert (p : Fin 64) (s : State) : Host.Outcome State Fault Refusal := whenUp s (fun s => powerFaults s p.val)

/-- Power good of a slot is polled (R392). -/
def execPowerGood (p : Fin 64) (s : State) : Host.Outcome State Fault Refusal := whenUp s (fun s => powerGoods s p.val)

/-- The attention button of a slot is pressed (R304). -/
def execAttentionButtonPress (p : Fin 64) (s : State) : Host.Outcome State Fault Refusal := whenUp s (fun s => sigChange s p.val Sig.attn true)

/-- WAKE# of a slot is asserted (R304). -/
def execWakeAssert (p : Fin 64) (s : State) : Host.Outcome State Fault Refusal := whenUp s (fun s => sigChange s p.val Sig.wake true)

/-- PERST_DELAY has passed since power good (R305). -/
def execPerstDelayExpiry (p : Fin 64) (s : State) : Host.Outcome State Fault Refusal :=
  whenUp s (fun s => if (s.port p.val).perstDue.isSome then perstRelease (s.modPort p.val (fun x => { x with perstDue := none })) p.val else s)

/-- A poll entry's sample (R466); in Dormant a change of it wakes the device and the tiles of the ports that it names (R387, R388). -/
def execPollSample (i : Fin 256) (value : Option (BitVec 16)) (s : State) : Host.Outcome State Fault Refusal :=
  whenConfigured s (fun s =>
    let changes := match value with | some v => if pollServed s i.val then pollChanges s i.val v.toNat else [] | none => []
    let woken := forEach changes s (fun s x =>
      if h : x.1 < 64 then (if dormant s then portWake (dormantWake s (.pollChange ⟨x.1, h⟩)) x.1 else s) else s)
    pollSample woken i.val (value.map (fun v => v.toNat)))

/-- Admission is re-evaluated (R391). -/
def execEgvAdmission (s : State) : Host.Outcome State Fault Refusal := whenUp s egvReview

/-- A window charge ages out (R391). -/
def execEgvWindowExpiry (s : State) : Host.Outcome State Fault Refusal := whenUp s egvWindowExpiry

/-- The accumulator of a ramping slot is read (R392). -/
def execEgvAccumulatorRead (n : Fin 32) (mj : Nat) (s : State) : Host.Outcome State Fault Refusal := whenUp s (fun s => egvReading s n.val mj)

/-- RAMP_TO passes without power good (R392). -/
def execEgvRampTimeout (n : Fin 32) (s : State) : Host.Outcome State Fault Refusal := whenUp s (fun s => egvRampTimeout s n.val)

/-- A write through the transfer window (R462). -/
def execSbWindowWrite (a : Access) (value : Byte) (s : State) : Host.Outcome State Fault Refusal :=
  whenFast s (fun s => if inWindow a.offset && a.space == .crs then accessWrite s a (value.setWidth 64) else s)

/-- A read through the transfer window (R462). -/
def execSbWindowRead (a : Access) (s : State) : Host.Outcome State Fault Refusal :=
  whenFast s (fun s => if inWindow a.offset && a.space == .crs then accessRead s a else s)

/-- A sideband transfer ends (R462, R464). -/
def execSbTransferDone (bus : Fin 4) (r : SbResult) (s : State) : Host.Outcome State Fault Refusal := whenConfigured s (fun s => sbFinish s bus.val r)

/-- A locked or exclusive access to the bridge (R463). -/
def execSbLockedAccess (a : Access) (s : State) : Host.Outcome State Fault Refusal :=
  whenFast s (fun s => if inBridge a.offset && a.space == .crs then accessRead s { a with locked := true } else s)

/-- A bus is enabled, its idle SCL level measured (R460, R472). -/
def execSbBusEnable (bus : Fin 4) (sclHigh : Bool) (s : State) : Host.Outcome State Fault Refusal := whenUp s (fun s => busEnable s bus.val sclHigh)

/-- A line of a bus stays low for 10 ms (R460). -/
def execSbBusStuck (bus : Fin 4) (sda : Bool) (s : State) : Host.Outcome State Fault Refusal :=
  whenUp s (fun s => if busOn s bus.val && !busFenced s bus.val then busStuck s bus.val sda else s)

/-- A legacy target holds SCL low for 10 ms (R460). -/
def execSbSclStretchTimeout (bus : Fin 4) (s : State) : Host.Outcome State Fault Refusal := whenUp s (fun s => sclTimeout s bus.val)

/-- The BMC addresses the I3C target (R461): MCTP follows by its own rows; in Dormant the transaction is NACKed and wakes the device (R387). -/
def execBmcTargetAccess (s : State) : Host.Outcome State Fault Refusal := finish (dormantWake s .bmc)

/-- An in-band interrupt or hot-join request on a controller bus is NACKed (R460). -/
def execInBandInterruptRequest (bus : Fin 4) (s : State) : Host.Outcome State Fault Refusal :=
  whenUp s (fun s => if busOn s bus.val && !busFenced s bus.val then emit s (.ibiNack bus.val) else s)

end Sys2Proof.Machine
end

