-- ==== Sys2Proof/Machine/TileFam.lean ====
section
/-!
DEFINITION. Machine/TileFam.lean: the commands of the lane tiles (R261, R263, R271, R273, R279–R281, R383, R384, R400, R401).
-/
namespace Sys2Proof.Machine

/-- PARK_IDLE expires (R383). -/
def execTilePark (t : Fin 16) (s : State) : Host.Outcome State Fault Refusal := whenUp s (fun s => tilePark s t.val)

/-- DARK_IDLE expires (R383). -/
def execTileDark (t : Fin 16) (s : State) : Host.Outcome State Fault Refusal := whenUp s (fun s => tileDark s t.val)

/-- A wake cause of a tile (R384). -/
def execTileWakeCause (t : Fin 16) (s : State) : Host.Outcome State Fault Refusal := whenUp s (fun s => tileWake s t.val)

/-- Beacon or line activity on a tile (R281); on a DARK tile it wakes the device from Dormant (R387). -/
def execBeaconDetected (t : Fin 16) (s : State) : Host.Outcome State Fault Refusal :=
  whenConfigured s (fun s => beacon (if tilePower s t.val = 2 then dormantWake s (.line t) else s) t.val)

/-- A tile PLL is stable (R261). -/
def execTilePllStable (t : Fin 16) (lc : Bool) (s : State) : Host.Outcome State Fault Refusal := whenConfigured s (fun s => pllStable s t.val lc)

/-- A tile PLL loses lock (R263). -/
def execTilePllLockLost (t : Fin 16) (lc : Bool) (s : State) : Host.Outcome State Fault Refusal := whenUp s (fun s => pllLost s t.val lc)

/-- The power-up calibration of a tile completes (R280). -/
def execPowerUpCalibrationDone (t : Fin 16) (s : State) : Host.Outcome State Fault Refusal := whenUp s (fun s => calibrated s t.val)

/-- A PRESS step completes a lane pass (R273). -/
def execPressStepDone (t lane : Fin 16) (snr : Byte) (s : State) : Host.Outcome State Fault Refusal :=
  whenUp s (fun s => pressDone s t.val lane.val snr.toNat)

/-- A lane margining command (R279). -/
def execMarginCommand (t : Fin 16) (x : LaneMargin) (s : State) : Host.Outcome State Fault Refusal := whenUp s (fun s => margin s t.val x.lane.val x.cmd)

/-- A lane test takes lanes out of service (R279). -/
def execLaneTest (t : Fin 16) (lanes : Nat) (s : State) : Host.Outcome State Fault Refusal := whenUp s (fun s => laneTest s t.val lanes)

/-- The age of a background activity passes a bound of its level (R401). -/
def execBackgroundLevelChange (key : Nat) (s : State) : Host.Outcome State Fault Refusal := whenUp s (fun s => backgroundLevel s key)

end Sys2Proof.Machine
end

