-- ==== Sys2Proof/Machine/TwinFam.lean ====
section
/-!
DEFINITION. Machine/TwinFam.lean: the commands of twin pairing: heartbeat, pair state, transactions, resynchronisation, handover, relays
(R165, R211, R212, R215, R216, R218, R227–R231, R327).
-/
namespace Sys2Proof.Machine

/-- TWIN_HB_OUT toggles (R215). -/
def execTwinHbToggle (s : State) : Host.Outcome State Fault Refusal := finish (heartbeatToggle s)

/-- The partner's heartbeat is lost (R216). -/
def execTwinHbLost (s : State) : Host.Outcome State Fault Refusal := whenUp s heartbeatLost

/-- The partner's heartbeat is alive (R216). -/
def execTwinHbAlive (s : State) : Host.Outcome State Fault Refusal := whenUp s heartbeatAlive

/-- The heartbeat has been lost for 16 µs on a live link (R216). -/
def execHbFaultSet (s : State) : Host.Outcome State Fault Refusal := whenUp s heartbeatFault

/-- The twin link has gone down (R218). -/
def execTwinLinkDown (s : State) : Host.Outcome State Fault Refusal := whenUp s twinDown

/-- The twin link has reached ACTIVE (R227). -/
def execTwinLinkActive (s : State) : Host.Outcome State Fault Refusal := whenUp s twinUp

/-- JOIN_WAIT passes (R218). -/
def execJoinWaitExpiry (s : State) : Host.Outcome State Fault Refusal := whenUp s joinExpiry

/-- Both resynchronisation directions have ended (R228). -/
def execResyncEnd (s : State) : Host.Outcome State Fault Refusal := whenUp s resyncEnd

/-- The grace period of a handback ends (R229). -/
def execHandbackGraceEnd (s : State) : Host.Outcome State Fault Refusal := whenUp s handbackEnd

/-- A LEFT twin has drained (R231). -/
def execHandoverDrainEnd (s : State) : Host.Outcome State Fault Refusal := whenUp s handoverDrained

/-- An answer of the partner has not come in time (R211). -/
def execTwinReplyTimeout (s : State) : Host.Outcome State Fault Refusal := whenUp s twinTimeout

/-- A staged transaction got no T_COMMIT (R211). -/
def execTwinStagedDiscard (s : State) : Host.Outcome State Fault Refusal := whenUp s stagedDiscard

/-- T_QUERY is due (R212). -/
def execTQueryTimer (s : State) : Host.Outcome State Fault Refusal := whenUp s querySend

/-- The partner's vote (R211). -/
def execTPrepareReply (s : State) : Host.Outcome State Fault Refusal := whenUp s tPrepareReply

/-- The partner's commit reply (R211). -/
def execTCommitReply (s : State) : Host.Outcome State Fault Refusal := whenUp s tCommitReply

/-- The partner's answer to T_QUERY (R212). -/
def execTQueryReply (s : State) : Host.Outcome State Fault Refusal := whenUp s tQueryReply

/-- The partner's answer to T_HELLO (R228). -/
def execTHelloReply (s : State) : Host.Outcome State Fault Refusal := whenUp s tHelloReply

/-- The partner's answer to T_HANDOVER (R229). -/
def execTHandoverReply (s : State) : Host.Outcome State Fault Refusal := whenUp s (tHandoverReply activateGo)

/-- The partner's answer to a T_SYNC (R228). -/
def execTSyncReply (s : State) : Host.Outcome State Fault Refusal := whenUp s tSyncReply

/-- The partner's answer to EPOCH_SYNC with BOTH (R165). -/
def execEpochSyncTwinReply (s : State) : Host.Outcome State Fault Refusal := whenUp s syncTwinReply

/-- The reply of a relayed packet comes back (R327). -/
def execRelayReplyRx (s : State) : Host.Outcome State Fault Refusal := whenUp s relayReply

/-- A relayed packet got no reply (R327). -/
def execRelayTimeout (s : State) : Host.Outcome State Fault Refusal := whenUp s relayTimeout

end Sys2Proof.Machine
end

