-- ==== Sys2Proof/Machine/Dispatch.lean ====
section
/-!
DEFINITION. Machine/Dispatch.lean: one arm for each command, calling the command's meaning.
-/
namespace Sys2Proof.Machine

def exec (i : Instr) (s : State) : Host.Outcome State Fault Refusal :=
  match i with
  | .porNAssert => Sys2Proof.Machine.execPorNAssert s
  | .porNDeassert strap => Sys2Proof.Machine.execPorNDeassert strap s
  | .xoStable => Sys2Proof.Machine.execXoStable s
  | .rootPllStable => Sys2Proof.Machine.execRootPllStable s
  | .clockMonitorFail src => Sys2Proof.Machine.execClockMonitorFail src s
  | .firmwareReady => Sys2Proof.Machine.execFirmwareReady s
  | .warmReset => Sys2Proof.Machine.execWarmReset s
  | .pwrfailNRecognised => Sys2Proof.Machine.execPwrfailNRecognised s
  | .powerFailFlushDone => Sys2Proof.Machine.execPowerFailFlushDone s
  | .pwrfailNRise => Sys2Proof.Machine.execPwrfailNRise s
  | .vddAonLoss => Sys2Proof.Machine.execVddAonLoss s
  | .supplyLoss rail => Sys2Proof.Machine.execSupplyLoss rail s
  | .spWatchdogExpired => Sys2Proof.Machine.execSpWatchdogExpired s
  | .firmwareWatchdogExpired => Sys2Proof.Machine.execFirmwareWatchdogExpired s
  | .hostPerstNAssert v => Sys2Proof.Machine.execHostPerstNAssert v s
  | .hostPerstNDeassert v => Sys2Proof.Machine.execHostPerstNDeassert v s
  | .hostPerstHoldEnd v => Sys2Proof.Machine.execHostPerstHoldEnd v s
  | .aonRead => Sys2Proof.Machine.execAonRead s
  | .tilePark t => Sys2Proof.Machine.execTilePark t s
  | .tileDark t => Sys2Proof.Machine.execTileDark t s
  | .tileWakeCause t => Sys2Proof.Machine.execTileWakeCause t s
  | .beaconDetected t => Sys2Proof.Machine.execBeaconDetected t s
  | .tilePllStable t lc => Sys2Proof.Machine.execTilePllStable t lc s
  | .tilePllLockLost t lc => Sys2Proof.Machine.execTilePllLockLost t lc s
  | .powerUpCalibrationDone t => Sys2Proof.Machine.execPowerUpCalibrationDone t s
  | .dormantEntry => Sys2Proof.Machine.execDormantEntry s
  | .dormantWake c => Sys2Proof.Machine.execDormantWake c s
  | .wakeTimerExpiry => Sys2Proof.Machine.execWakeTimerExpiry s
  | .pressStepDone t lane snr => Sys2Proof.Machine.execPressStepDone t lane snr s
  | .backgroundLevelChange key => Sys2Proof.Machine.execBackgroundLevelChange key s
  | .marginCommand t x => Sys2Proof.Machine.execMarginCommand t x s
  | .keepaliveSend n => Sys2Proof.Machine.execKeepaliveSend n s
  | .linkDownTimeout n => Sys2Proof.Machine.execLinkDownTimeout n s
  | .alignmentLost n => Sys2Proof.Machine.execAlignmentLost n s
  | .uncorrectableLimit n => Sys2Proof.Machine.execUncorrectableLimit n s
  | .ackSendTimer n => Sys2Proof.Machine.execAckSendTimer n s
  | .replayTimeout n => Sys2Proof.Machine.execReplayTimeout n s
  | .creditRefresh n => Sys2Proof.Machine.execCreditRefresh n s
  | .keepaliveRx n node session ack => Sys2Proof.Machine.execKeepaliveRx n node session ack s
  | .ackBlockRx n ack nak => Sys2Proof.Machine.execAckBlockRx n ack nak s
  | .creditRx n vc pool limit => Sys2Proof.Machine.execCreditRx n vc pool limit s
  | .replayBlockRx n first => Sys2Proof.Machine.execReplayBlockRx n first s
  | .resetBlockRx n node reason => Sys2Proof.Machine.execResetBlockRx n node reason s
  | .quietReqRx n => Sys2Proof.Machine.execQuietReqRx n s
  | .quietAckRx n => Sys2Proof.Machine.execQuietAckRx n s
  | .quietRejectRx n => Sys2Proof.Machine.execQuietRejectRx n s
  | .quietIdleExpiry n => Sys2Proof.Machine.execQuietIdleExpiry n s
  | .quietHandshakeTimeout n => Sys2Proof.Machine.execQuietHandshakeTimeout n s
  | .quietWake n => Sys2Proof.Machine.execQuietWake n s
  | .resumeRx n ack session => Sys2Proof.Machine.execResumeRx n ack session s
  | .wakeTimeout n => Sys2Proof.Machine.execWakeTimeout n s
  | .trainSetRx n lane arg => Sys2Proof.Machine.execTrainSetRx n lane arg s
  | .trainHoldRx n lane arg snr => Sys2Proof.Machine.execTrainHoldRx n lane arg snr s
  | .trainFomRx n lane arg => Sys2Proof.Machine.execTrainFomRx n lane arg s
  | .trainDoneRx n lane arg snr => Sys2Proof.Machine.execTrainDoneRx n lane arg snr s
  | .paramRx n p => Sys2Proof.Machine.execParamRx n p s
  | .czTrainStateExit n x => Sys2Proof.Machine.execCzTrainStateExit n x s
  | .czTrainStateTimeout n => Sys2Proof.Machine.execCzTrainStateTimeout n s
  | .czDetectRetry n lanes => Sys2Proof.Machine.execCzDetectRetry n lanes s
  | .czSignalLoss n => Sys2Proof.Machine.execCzSignalLoss n s
  | .controlBlockUnknown n type => Sys2Proof.Machine.execControlBlockUnknown n type s
  | .frameRx n f intact => Sys2Proof.Machine.execFrameRx n f intact s
  | .tlpFrameRx n => Sys2Proof.Machine.execTlpFrameRx n s
  | .abortFrameRx n => Sys2Proof.Machine.execAbortFrameRx n s
  | .testFrameRx n => Sys2Proof.Machine.execTestFrameRx n s
  | .feedbackRx n => Sys2Proof.Machine.execFeedbackRx n s
  | .routeAdvRx n => Sys2Proof.Machine.execRouteAdvRx n s
  | .ferRx n => Sys2Proof.Machine.execFerRx n s
  | .ferAckRx n => Sys2Proof.Machine.execFerAckRx n s
  | .icpFrameRx n => Sys2Proof.Machine.execIcpFrameRx n s
  | .resolveRx n => Sys2Proof.Machine.execResolveRx n s
  | .resolveSend n => Sys2Proof.Machine.execResolveSend n s
  | .resolveTimeout n => Sys2Proof.Machine.execResolveTimeout n s
  | .timeExchangeDue => Sys2Proof.Machine.execTimeExchangeDue s
  | .timeReqRx n id => Sys2Proof.Machine.execTimeReqRx n id s
  | .timeT2Rx n id t2 => Sys2Proof.Machine.execTimeT2Rx n id t2 s
  | .timeHiRx n id hi => Sys2Proof.Machine.execTimeHiRx n id hi s
  | .timeT3Rx n id t3 => Sys2Proof.Machine.execTimeT3Rx n id t3 s
  | .tlpIngress p t arriving => Sys2Proof.Machine.execTlpIngress p t arriving s
  | .egressSchedule p => Sys2Proof.Machine.execEgressSchedule p s
  | .pacingRelease frc => Sys2Proof.Machine.execPacingRelease frc s
  | .moveFenceExpiry node => Sys2Proof.Machine.execMoveFenceExpiry node s
  | .sprayCounterTimeout frc path => Sys2Proof.Machine.execSprayCounterTimeout frc path s
  | .feedbackHoldExpiry => Sys2Proof.Machine.execFeedbackHoldExpiry s
  | .incPeriodEnd frc => Sys2Proof.Machine.execIncPeriodEnd frc s
  | .frcRetire frc => Sys2Proof.Machine.execFrcRetire frc s
  | .contextSweep ctx => Sys2Proof.Machine.execContextSweep ctx s
  | .quarantineExpiry p tag => Sys2Proof.Machine.execQuarantineExpiry p tag s
  | .epochSlotDrained => Sys2Proof.Machine.execEpochSlotDrained s
  | .syncLimitExpiry => Sys2Proof.Machine.execSyncLimitExpiry s
  | .epochSyncComplete => Sys2Proof.Machine.execEpochSyncComplete s
  | .ferHoldExpiry node => Sys2Proof.Machine.execFerHoldExpiry node s
  | .ferRetryExpiry node => Sys2Proof.Machine.execFerRetryExpiry node s
  | .pcieDlUp p rate width flit reversed partnerRate => Sys2Proof.Machine.execPcieDlUp p rate width flit reversed partnerRate s
  | .pcieLinkDown p ltssm => Sys2Proof.Machine.execPcieLinkDown p ltssm s
  | .surpriseDown p => Sys2Proof.Machine.execSurpriseDown p s
  | .linkFatalError p e => Sys2Proof.Machine.execLinkFatalError p e s
  | .pcieRateChange p rate width => Sys2Proof.Machine.execPcieRateChange p rate width s
  | .pcieL1Request p => Sys2Proof.Machine.execPcieL1Request p s
  | .pcieL1Exit p => Sys2Proof.Machine.execPcieL1Exit p s
  | .clkreqSample p asserted => Sys2Proof.Machine.execClkreqSample p asserted s
  | .ptmDialogue p offset => Sys2Proof.Machine.execPtmDialogue p offset s
  | .ptmRequestRx x => Sys2Proof.Machine.execPtmRequestRx x s
  | .pmeTurnOffRx v => Sys2Proof.Machine.execPmeTurnOffRx v s
  | .pmeToAckRx p => Sys2Proof.Machine.execPmeToAckRx p s
  | .pmeToAckTimeout p => Sys2Proof.Machine.execPmeToAckTimeout p s
  | .ltrRx p snoop nosnoop => Sys2Proof.Machine.execLtrRx p snoop nosnoop s
  | .intxMessageRx p rid pin on => Sys2Proof.Machine.execIntxMessageRx p rid pin on s
  | .errorMessageRx p rid severity => Sys2Proof.Machine.execErrorMessageRx p rid severity s
  | .configRequest v r => Sys2Proof.Machine.execConfigRequest v r s
  | .acsControlWrite v bridge acs vec => Sys2Proof.Machine.execAcsControlWrite v bridge acs vec s
  | .bmeClear v fn => Sys2Proof.Machine.execBmeClear v fn s
  | .moverPfD3hot v => Sys2Proof.Machine.execMoverPfD3hot v s
  | .flrEndpoint v hostRid => Sys2Proof.Machine.execFlrEndpoint v hostRid s
  | .flrMoverPf v => Sys2Proof.Machine.execFlrMoverPf v s
  | .flrMgmtFunction v => Sys2Proof.Machine.execFlrMgmtFunction v s
  | .secondaryBusReset v bridge => Sys2Proof.Machine.execSecondaryBusReset v bridge s
  | .dpcTriggerStatusClear v bridge => Sys2Proof.Machine.execDpcTriggerStatusClear v bridge s
  | .linkDisableWrite v bridge set => Sys2Proof.Machine.execLinkDisableWrite v bridge set s
  | .retrainLinkWrite v bridge speed => Sys2Proof.Machine.execRetrainLinkWrite v bridge speed s
  | .slotPowerOnRequest v bridge => Sys2Proof.Machine.execSlotPowerOnRequest v bridge s
  | .slotPowerOffRequest v bridge => Sys2Proof.Machine.execSlotPowerOffRequest v bridge s
  | .slotIndicatorWrite v bridge attn power => Sys2Proof.Machine.execSlotIndicatorWrite v bridge attn power s
  | .priAtsDisable v enables => Sys2Proof.Machine.execPriAtsDisable v enables s
  | .presenceChange p present => Sys2Proof.Machine.execPresenceChange p present s
  | .mrlOpen p => Sys2Proof.Machine.execMrlOpen p s
  | .powerFaultAssert p => Sys2Proof.Machine.execPowerFaultAssert p s
  | .powerGood p => Sys2Proof.Machine.execPowerGood p s
  | .attentionButtonPress p => Sys2Proof.Machine.execAttentionButtonPress p s
  | .wakeAssert p => Sys2Proof.Machine.execWakeAssert p s
  | .perstDelayExpiry p => Sys2Proof.Machine.execPerstDelayExpiry p s
  | .pollSample entry value => Sys2Proof.Machine.execPollSample entry value s
  | .egvAdmission => Sys2Proof.Machine.execEgvAdmission s
  | .egvWindowExpiry => Sys2Proof.Machine.execEgvWindowExpiry s
  | .egvAccumulatorRead slot mj => Sys2Proof.Machine.execEgvAccumulatorRead slot mj s
  | .egvRampTimeout slot => Sys2Proof.Machine.execEgvRampTimeout slot s
  | .sbWindowWrite a value => Sys2Proof.Machine.execSbWindowWrite a value s
  | .sbWindowRead a => Sys2Proof.Machine.execSbWindowRead a s
  | .sbTransferDone bus r => Sys2Proof.Machine.execSbTransferDone bus r s
  | .sbLockedAccess a => Sys2Proof.Machine.execSbLockedAccess a s
  | .sbBusEnable bus sclHigh => Sys2Proof.Machine.execSbBusEnable bus sclHigh s
  | .sbBusStuck bus sda => Sys2Proof.Machine.execSbBusStuck bus sda s
  | .sbSclStretchTimeout bus => Sys2Proof.Machine.execSbSclStretchTimeout bus s
  | .sbPollWrite m entry value => Sys2Proof.Machine.execSbPollWrite m entry value s
  | .bmcTargetAccess => Sys2Proof.Machine.execBmcTargetAccess s
  | .twinHbToggle => Sys2Proof.Machine.execTwinHbToggle s
  | .twinHbLost => Sys2Proof.Machine.execTwinHbLost s
  | .twinHbAlive => Sys2Proof.Machine.execTwinHbAlive s
  | .hbFaultSet => Sys2Proof.Machine.execHbFaultSet s
  | .twinLinkDown => Sys2Proof.Machine.execTwinLinkDown s
  | .twinLinkActive => Sys2Proof.Machine.execTwinLinkActive s
  | .joinWaitExpiry => Sys2Proof.Machine.execJoinWaitExpiry s
  | .resyncEnd => Sys2Proof.Machine.execResyncEnd s
  | .handbackGraceEnd => Sys2Proof.Machine.execHandbackGraceEnd s
  | .handoverDrainEnd => Sys2Proof.Machine.execHandoverDrainEnd s
  | .twinReplyTimeout => Sys2Proof.Machine.execTwinReplyTimeout s
  | .twinStagedDiscard => Sys2Proof.Machine.execTwinStagedDiscard s
  | .tQueryTimer => Sys2Proof.Machine.execTQueryTimer s
  | .tPrepareReply => Sys2Proof.Machine.execTPrepareReply s
  | .tCommitReply => Sys2Proof.Machine.execTCommitReply s
  | .tQueryReply => Sys2Proof.Machine.execTQueryReply s
  | .tHelloReply => Sys2Proof.Machine.execTHelloReply s
  | .tHandoverReply => Sys2Proof.Machine.execTHandoverReply s
  | .relayReplyRx => Sys2Proof.Machine.execRelayReplyRx s
  | .relayTimeout => Sys2Proof.Machine.execRelayTimeout s
  | .instTailWrite v n count => Sys2Proof.Machine.execInstTailWrite v n count s
  | .descriptorFetchDone n ok desc => Sys2Proof.Machine.execDescriptorFetchDone n ok desc s
  | .engineDispatch e => Sys2Proof.Machine.execEngineDispatch e s
  | .moverReadCompletion e ok data => Sys2Proof.Machine.execMoverReadCompletion e ok data s
  | .atsTranslationCompletion q r => Sys2Proof.Machine.execAtsTranslationCompletion q r s
  | .prgResponseRx v index code => Sys2Proof.Machine.execPrgResponseRx v index code s
  | .invalidateRequestRx v pasid iova size itag => Sys2Proof.Machine.execInvalidateRequestRx v pasid iova size itag s
  | .invalidateComplete v itag => Sys2Proof.Machine.execInvalidateComplete v itag s
  | .instEnable v => Sys2Proof.Machine.execInstEnable v s
  | .instDisable v => Sys2Proof.Machine.execInstDisable v s
  | .instQuiesce v abort => Sys2Proof.Machine.execInstQuiesce v abort s
  | .instanceQuiesced n => Sys2Proof.Machine.execInstanceQuiesced n s
  | .instSetupWrite v offset bytes => Sys2Proof.Machine.execInstSetupWrite v offset bytes s
  | .mbSend v n => Sys2Proof.Machine.execMbSend v n s
  | .mbAck v n => Sys2Proof.Machine.execMbAck v n s
  | .mbReplyWrite v len send => Sys2Proof.Machine.execMbReplyWrite v len send s
  | .atcFlush => Sys2Proof.Machine.execAtcFlush s
  | .engineDisable e => Sys2Proof.Machine.execEngineDisable e s
  | .harvestDone n => Sys2Proof.Machine.execHarvestDone n s
  | .icpRingEnable v sqLog2 cqLog2 => Sys2Proof.Machine.execIcpRingEnable v sqLog2 cqLog2 s
  | .icpRingDisable v => Sys2Proof.Machine.execIcpRingDisable v s
  | .icpSqTailWrite v count => Sys2Proof.Machine.execIcpSqTailWrite v count s
  | .icpSlotFetchDone v ok slot => Sys2Proof.Machine.execIcpSlotFetchDone v ok slot s
  | .icpCqHeadWrite v count => Sys2Proof.Machine.execIcpCqHeadWrite v count s
  | .icpReply v => Sys2Proof.Machine.execIcpReply v s
  | .mctpMessageRx ch src tag som eom ic type bytes => Sys2Proof.Machine.execMctpMessageRx ch src tag som eom ic type bytes s
  | .mctpReassemblyTimeout ch src tag => Sys2Proof.Machine.execMctpReassemblyTimeout ch src tag s
  | .setEndpointId ch tag eid => Sys2Proof.Machine.execSetEndpointId ch tag eid s
  | .getEndpointId ch tag => Sys2Proof.Machine.execGetEndpointId ch tag s
  | .getMctpVersionSupport ch tag => Sys2Proof.Machine.execGetMctpVersionSupport ch tag s
  | .getMessageTypeSupport ch tag => Sys2Proof.Machine.execGetMessageTypeSupport ch tag s
  | .doeDiscovery v index => Sys2Proof.Machine.execDoeDiscovery v index s
  | .spdmGetVersion via => Sys2Proof.Machine.execSpdmGetVersion via s
  | .spdmGetCapabilities via => Sys2Proof.Machine.execSpdmGetCapabilities via s
  | .spdmNegotiateAlgorithms via => Sys2Proof.Machine.execSpdmNegotiateAlgorithms via s
  | .spdmGetDigests via => Sys2Proof.Machine.execSpdmGetDigests via s
  | .spdmGetCertificate via slot offset len => Sys2Proof.Machine.execSpdmGetCertificate via slot offset len s
  | .spdmChallenge via slot nonce => Sys2Proof.Machine.execSpdmChallenge via slot nonce s
  | .spdmGetMeasurements via op signed nonce => Sys2Proof.Machine.execSpdmGetMeasurements via op signed nonce s
  | .spdmUnsupportedRequest via code => Sys2Proof.Machine.execSpdmUnsupportedRequest via code s
  | .deviceInfo => Sys2Proof.Machine.execDeviceInfo s
  | .vswQuiesce => Sys2Proof.Machine.execVswQuiesce s
  | .vswQuiesced => Sys2Proof.Machine.execVswQuiesced s
  | .portControl => Sys2Proof.Machine.execPortControl s
  | .eyeScan => Sys2Proof.Machine.execEyeScan s
  | .tileCalibrate => Sys2Proof.Machine.execTileCalibrate s
  | .bistRun => Sys2Proof.Machine.execBistRun s
  | .bindWrite => Sys2Proof.Machine.execBindWrite s
  | .famWrite => Sys2Proof.Machine.execFamWrite s
  | .routeWrite => Sys2Proof.Machine.execRouteWrite s
  | .tableRead => Sys2Proof.Machine.execTableRead s
  | .epochSync => Sys2Proof.Machine.execEpochSync s
  | .moverBind => Sys2Proof.Machine.execMoverBind s
  | .moverQuiesce => Sys2Proof.Machine.execMoverQuiesce s
  | .moverDirty => Sys2Proof.Machine.execMoverDirty s
  | .moverTStatus => Sys2Proof.Machine.execMoverTStatus s
  | .moverTRelay => Sys2Proof.Machine.execMoverTRelay s
  | .orbitConfig => Sys2Proof.Machine.execOrbitConfig s
  | .slotPower => Sys2Proof.Machine.execSlotPower s
  | .energySet => Sys2Proof.Machine.execEnergySet s
  | .energyStatus => Sys2Proof.Machine.execEnergyStatus s
  | .faultRead => Sys2Proof.Machine.execFaultRead s
  | .faultClear => Sys2Proof.Machine.execFaultClear s
  | .fence => Sys2Proof.Machine.execFence s
  | .reset => Sys2Proof.Machine.execReset s
  | .faultInject => Sys2Proof.Machine.execFaultInject s
  | .twinRole => Sys2Proof.Machine.execTwinRole s
  | .tHello => Sys2Proof.Machine.execTHello s
  | .tPrepare => Sys2Proof.Machine.execTPrepare s
  | .tCommit => Sys2Proof.Machine.execTCommit s
  | .tQuery => Sys2Proof.Machine.execTQuery s
  | .tSync => Sys2Proof.Machine.execTSync s
  | .tHandover => Sys2Proof.Machine.execTHandover s
  | .getIdentity => Sys2Proof.Machine.execGetIdentity s
  | .otpRevoke => Sys2Proof.Machine.execOtpRevoke s
  | .fwStage => Sys2Proof.Machine.execFwStage s
  | .fwActivate => Sys2Proof.Machine.execFwActivate s
  | .configStore => Sys2Proof.Machine.execConfigStore s
  | .modeActivate => Sys2Proof.Machine.execModeActivate s
  | .modeActivateApplied => Sys2Proof.Machine.execModeActivateApplied s
  | .selectionWrite => Sys2Proof.Machine.execSelectionWrite s
  | .flashMaint => Sys2Proof.Machine.execFlashMaint s
  | .eclipseTrigger => Sys2Proof.Machine.execEclipseTrigger s
  | .regRead => Sys2Proof.Machine.execRegRead s
  | .regWrite => Sys2Proof.Machine.execRegWrite s
  | .faultRaised f => Sys2Proof.Machine.execFaultRaised f s
  | .correctableWindowExpiry u group => Sys2Proof.Machine.execCorrectableWindowExpiry u group s
  | .faultNRelease => Sys2Proof.Machine.execFaultNRelease s
  | .cvDataWrite n m reg value => Sys2Proof.Machine.execCvDataWrite n m reg value s
  | .cvInit n m => Sys2Proof.Machine.execCvInit n m s
  | .cvEndWrite n m value => Sys2Proof.Machine.execCvEndWrite n m value s
  | .cvStateWrite n m value => Sys2Proof.Machine.execCvStateWrite n m value s
  | .mpuCommitWrite u m => Sys2Proof.Machine.execMpuCommitWrite u m s
  | .mpuDrainRead u m => Sys2Proof.Machine.execMpuDrainRead u m s
  | .ddrFillBlock => Sys2Proof.Machine.execDdrFillBlock s
  | .launderAccess r e => Sys2Proof.Machine.execLaunderAccess r e s
  | .darnSectorErase => Sys2Proof.Machine.execDarnSectorErase s
  | .flashOpDone ok => Sys2Proof.Machine.execFlashOpDone ok s
  | .journalRecordCommit ok => Sys2Proof.Machine.execJournalRecordCommit ok s
  | .recordSectorErase pair => Sys2Proof.Machine.execRecordSectorErase pair s
  | .orbitReport => Sys2Proof.Machine.execOrbitReport s
  | .eclipseInRise => Sys2Proof.Machine.execEclipseInRise s
  | .counterCarry bank which => Sys2Proof.Machine.execCounterCarry bank which s
  | .eclipseAonLatch => Sys2Proof.Machine.execEclipseAonLatch s
  | .eclBankRelease m mask => Sys2Proof.Machine.execEclBankRelease m mask s
  | .pcFreeze m bank on => Sys2Proof.Machine.execPcFreeze m bank on s
  | .pcClear m bank => Sys2Proof.Machine.execPcClear m bank s
  | .cometRecordWrite => Sys2Proof.Machine.execCometRecordWrite s
  | .cometHoldoffExpiry => Sys2Proof.Machine.execCometHoldoffExpiry s
  | .cometEnSet m value => Sys2Proof.Machine.execCometEnSet m value s
  | .cometEnClear m value => Sys2Proof.Machine.execCometEnClear m value s
  | .cometRdPtrWrite m value => Sys2Proof.Machine.execCometRdPtrWrite m value s
  | .samplerSpill => Sys2Proof.Machine.execSamplerSpill s
  | .smpEnSet m value => Sys2Proof.Machine.execSmpEnSet m value s
  | .smpRdWrite m value => Sys2Proof.Machine.execSmpRdWrite m value s
  | .smpHoldoffExpiry => Sys2Proof.Machine.execSmpHoldoffExpiry s
  | .pflRdWrite m v value => Sys2Proof.Machine.execPflRdWrite m v value s
  | .sbErrRdWrite m value => Sys2Proof.Machine.execSbErrRdWrite m value s
  | .tblAccRead m value => Sys2Proof.Machine.execTblAccRead m value s
  | .tblAccWrite m value => Sys2Proof.Machine.execTblAccWrite m value s
  | .meterMapWrite m p value => Sys2Proof.Machine.execMeterMapWrite m p value s
  | .famAccRead m value => Sys2Proof.Machine.execFamAccRead m value s
  | .famAccWrite m value => Sys2Proof.Machine.execFamAccWrite m value s
  | .bindAccRead m value => Sys2Proof.Machine.execBindAccRead m value s
  | .bindAccWrite m value => Sys2Proof.Machine.execBindAccWrite m value s
  | .routeAccRead m value => Sys2Proof.Machine.execRouteAccRead m value s
  | .routeAccWrite m value => Sys2Proof.Machine.execRouteAccWrite m value s
  | .ctxAccRead m value => Sys2Proof.Machine.execCtxAccRead m value s
  | .twinShadowRead m value => Sys2Proof.Machine.execTwinShadowRead m value s
  | .tileCoefRead m t value => Sys2Proof.Machine.execTileCoefRead m t value s
  | .tileCoefClear m t value => Sys2Proof.Machine.execTileCoefClear m t value s
  | .czResetReq m n value => Sys2Proof.Machine.execCzResetReq m n value s
  | .czTrainEnClear m n value => Sys2Proof.Machine.execCzTrainEnClear m n value s
  | .czTrainEnSet m n value => Sys2Proof.Machine.execCzTrainEnSet m n value s
  | .czOfferWrite m n value => Sys2Proof.Machine.execCzOfferWrite m n value s
  | .czStoredClear m n value => Sys2Proof.Machine.execCzStoredClear m n value s
  | .portRetrain m p value => Sys2Proof.Machine.execPortRetrain m p value s
  | .portRelease m p value => Sys2Proof.Machine.execPortRelease m p value s
  | .portPerstForce m p value => Sys2Proof.Machine.execPortPerstForce m p value s
  | .portDisable m p value => Sys2Proof.Machine.execPortDisable m p value s
  | .readClearField a => Sys2Proof.Machine.execReadClearField a s
  | .registerWrite a value => Sys2Proof.Machine.execRegisterWrite a value s
  | .moverQuiesceWaitExpiry => Sys2Proof.Machine.execMoverQuiesceWaitExpiry s
  | .dllpRx p d => Sys2Proof.Machine.execDllpRx p d s
  | .replayTimerTimeout p => Sys2Proof.Machine.execReplayTimerTimeout p s
  | .ltssmStateChange p ltssm => Sys2Proof.Machine.execLtssmStateChange p ltssm s
  | .tSyncReply => Sys2Proof.Machine.execTSyncReply s
  | .epochSyncTwinReply => Sys2Proof.Machine.execEpochSyncTwinReply s
  | .spSramScrub e => Sys2Proof.Machine.execSpSramScrub e s
  | .laneTest t lanes => Sys2Proof.Machine.execLaneTest t lanes s
  | .inBandInterruptRequest bus => Sys2Proof.Machine.execInBandInterruptRequest bus s
  | .bootConfigApplied => Sys2Proof.Machine.execBootConfigApplied s
  | .firmwareReloadDone => Sys2Proof.Machine.execFirmwareReloadDone s

end Sys2Proof.Machine
end

