-- ==== Sys2Proof/Machine/Step.lean ====
section
/-!
DEFINITION. Machine/Step.lean: one step of the part: the command at the front of the queue, or a tick of the clock.
-/
namespace Sys2Proof.Machine

/-- One step.  With a command waiting, the one that has waited longest is carried out on the state without it.  With
none, one period of the common edge passes (R97, R376): device time and the edge count advance, counters count, tile sequencers start the steps
that are due (log entry 8). -/
def step (s : State) : Host.Outcome State Fault Refusal :=
  match s.pending with
  | c :: rest => exec c { s with pending := rest }
  | [] => .next (tick s)

/-- `s` with the command that a word spells put at the front of its queue; the opcode table gives no row a word, so
no word spells a command. -/
def State.withFetchWord (s : State) (nbits w : Nat) : State :=
  match Sys2Proof.decodeTableWord nbits w with
  | some c => { s with pending := c :: s.pending }
  | none => s

end Sys2Proof.Machine
end

