-- ==== Sys2Proof/WellFormed.lean ====
section
/-!
DEFINITION. WellFormed.lean: the ranges of the operands of a command: each value fits the field in which it reaches the part.

The machine runs every command, well formed or not; an operand out of its range stands for nothing that could reach the part.
-/
namespace Sys2Proof

/-- INDEX and KIND of a UNIT code (R352). -/
def UnitId.wf (u : UnitId) : Bool := decide (u.kind < 256) && decide (u.index < 65536)

/-- A fault report (R354): a 16-bit SOURCE and a 32-bit DETAIL. -/
def FaultReq.wf (f : FaultReq) : Bool := decide (f.source < 65536) && f.unit.wf && decide (f.detail < 4294967296)

/-- A register access is of 1, 2, 4 or 8 bytes, in a space of 28 address bits (R449). -/
def Access.wf (a : Access) : Bool := [1, 2, 4, 8].contains a.bytes && decide (a.offset < 268435456)

/-- A TLP: traffic class of 3 bits, tag of 14, address of 64, at most 4,096 bytes, 4 byte enables. -/
def Tlp.wf (t : Tlp) : Bool :=
  decide (t.tc < 8) && decide (t.tag < 16384) && decide (t.addr < 18446744073709551616) && decide (t.destId < 65536) && decide (t.reqId < 65536) &&
    decide (t.cplId < 65536) && decide (t.status < 8) && decide (t.len ≤ 4096) && decide (t.data.length ≤ 4096) && decide (t.be < 16)

/-- A Calez frame as its header fields allow (R176). -/
def Frame.wf (f : Frame) : Bool :=
  decide (f.type < 16) && decide (f.vc < 8) && decide (f.pool < 4) && decide (f.seq < 4096) && decide (f.ack < 4096) && decide (f.len ≤ 256) &&
    decide (f.session < 256) && (f.type != 1 || f.abort || f.first == (match f.body with | .tlp _ _ => true | _ => false))

/-- The PARAM blocks of a partner (R195). -/
def Param.wf (p : Param) : Bool :=
  decide (p.node < 4096) && decide (p.port < 64) && decide (p.widths < 8) && decide (p.rates < 4) && decide (p.session < 256) && decide (p.ka < 64) &&
    decide (p.prevNode < 4096) && decide (p.prevSession < 256) && decide (p.prevRxLast < 4096) && decide (p.prevPort < 64) && decide (p.laneOk < 65536)

/-- A configuration request (R103). -/
def CfgReq.wf (r : CfgReq) : Bool :=
  decide (r.bus < 256) && decide (r.dev < 32) && decide (r.fn < 8) && decide (r.reg < 1024) && decide (r.be < 16) && decide (r.data < 4294967296) &&
    decide (r.tag < 16384) && decide (r.reqId < 65536)

/-- A sideband result: the REASON of the error log has 8 bits (R464). -/
def SbResult.wf : SbResult → Bool
  | .done _ => true
  | .failed reason => decide (reason < 256)

/-- A translation (R244). -/
def AtsResult.wf : AtsResult → Bool
  | .granted size addr _ _ => decide (size < 18446744073709551616) && decide (addr < 18446744073709551616)
  | .error => true

/-- A data link layer packet: sequence numbers of 12 bits, credits of 16. -/
def Dllp.wf : Dllp → Bool
  | .ack seq => decide (seq < 4096)
  | .nak seq => decide (seq < 4096)
  | .updateFc vc _ hdr data => decide (vc < 8) && decide (hdr < 65536) && decide (data < 65536)
  | .initFc _ hdr data hs ds => decide (hdr < 65536) && decide (data < 65536) && decide (hs < 4) && decide (ds < 4)
  | .feature _ => true
  | .pmEnterL1 => true
  | .pmEnterPciL1 => true
  | .pmRequestAck => true

/-- A margining command: step numbers of 7 bits for voltage, of 6 for timing, as PCI Express gives them. -/
def MarginCmd.wf : MarginCmd → Bool
  | .stepTiming _ n => decide (n < 64)
  | .stepVoltage _ n => decide (n < 128)
  | _ => true

/-- The transport of an SPDM request: endpoint ID of 8 bits, MCTP tag of 3 (R325, R446). -/
def SpdmVia.wf : SpdmVia → Bool
  | .mctp _ src tag => decide (src < 256) && decide (tag < 8)
  | .doe _ => true

/-- Every operand of a command is in its range. -/
def Instr.wf : Instr → Bool
  | .porNAssert => true
  | .porNDeassert _ => true
  | .xoStable => true
  | .rootPllStable => true
  | .clockMonitorFail _ => true
  | .firmwareReady => true
  | .warmReset => true
  | .pwrfailNRecognised => true
  | .powerFailFlushDone => true
  | .pwrfailNRise => true
  | .vddAonLoss => true
  | .supplyLoss _ => true
  | .spWatchdogExpired => true
  | .firmwareWatchdogExpired => true
  | .hostPerstNAssert _ => true
  | .hostPerstNDeassert _ => true
  | .hostPerstHoldEnd _ => true
  | .aonRead => true
  | .tilePark _ => true
  | .tileDark _ => true
  | .tileWakeCause _ => true
  | .beaconDetected _ => true
  | .tilePllStable _ _ => true
  | .tilePllLockLost _ _ => true
  | .powerUpCalibrationDone _ => true
  | .dormantEntry => true
  | .dormantWake _ => true
  | .wakeTimerExpiry => true
  | .pressStepDone _ _ _ => true
  | .backgroundLevelChange key => decide (key < 512)
  | .marginCommand _ x => x.cmd.wf
  | .keepaliveSend _ => true
  | .linkDownTimeout _ => true
  | .alignmentLost _ => true
  | .uncorrectableLimit _ => true
  | .ackSendTimer _ => true
  | .replayTimeout _ => true
  | .creditRefresh _ => true
  | .keepaliveRx _ node session ack => decide (node < 4096) && decide (session < 256) && decide (ack < 4096)
  | .ackBlockRx _ ack _ => decide (ack < 4096)
  | .creditRx _ vc pool limit => decide (vc < 8) && decide (pool < 4) && decide (limit < 65536)
  | .replayBlockRx _ first => decide (first < 4096)
  | .resetBlockRx _ node reason => decide (node < 4096) && decide (reason < 256)
  | .quietReqRx _ => true
  | .quietAckRx _ => true
  | .quietRejectRx _ => true
  | .quietIdleExpiry _ => true
  | .quietHandshakeTimeout _ => true
  | .quietWake _ => true
  | .resumeRx _ ack session => decide (ack < 4096) && decide (session < 256)
  | .wakeTimeout _ => true
  | .trainSetRx _ lane arg => decide (lane < 16) && decide (arg < 16777216)
  | .trainHoldRx _ lane arg snr => decide (lane < 16) && decide (arg < 16777216) && decide (snr < 256)
  | .trainFomRx _ lane arg => decide (lane < 16) && decide (arg < 16777216)
  | .trainDoneRx _ lane arg snr => decide (lane < 16) && decide (arg < 16777216) && decide (snr < 256)
  | .paramRx _ p => p.wf
  | .czTrainStateExit _ x => decide (x.lanes < 65536) && decide (x.peerNode < 4096) && decide (x.peerPort < 64)
  | .czTrainStateTimeout _ => true
  | .czDetectRetry _ lanes => decide (lanes < 65536)
  | .czSignalLoss _ => true
  | .controlBlockUnknown _ type => decide (type < 256)
  | .frameRx _ f _ => f.wf
  | .tlpFrameRx _ => true
  | .abortFrameRx _ => true
  | .testFrameRx _ => true
  | .feedbackRx _ => true
  | .routeAdvRx _ => true
  | .ferRx _ => true
  | .ferAckRx _ => true
  | .icpFrameRx _ => true
  | .resolveRx _ => true
  | .resolveSend _ => true
  | .resolveTimeout _ => true
  | .timeExchangeDue => true
  | .timeReqRx _ id => decide (id < 256)
  | .timeT2Rx _ id t2 => decide (id < 256) && decide (t2 < 281474976710656)
  | .timeHiRx _ id hi => decide (id < 256) && decide (hi < 65536)
  | .timeT3Rx _ id t3 => decide (id < 256) && decide (t3 < 281474976710656)
  | .tlpIngress _ t _ => t.wf
  | .egressSchedule _ => true
  | .pacingRelease frc => decide (frc < 65536)
  | .moveFenceExpiry _ => true
  | .sprayCounterTimeout frc path => decide (frc < 65536) && decide (path < 8)
  | .feedbackHoldExpiry => true
  | .incPeriodEnd frc => decide (frc < 65536)
  | .frcRetire frc => decide (frc < 65536)
  | .contextSweep ctx => decide (ctx < 262144)
  | .quarantineExpiry _ tag => decide (tag < 16384)
  | .epochSlotDrained => true
  | .syncLimitExpiry => true
  | .epochSyncComplete => true
  | .ferHoldExpiry _ => true
  | .ferRetryExpiry _ => true
  | .pcieDlUp _ _ width _ _ _ => decide (width < 17)
  | .pcieLinkDown _ _ => true
  | .surpriseDown _ => true
  | .linkFatalError _ _ => true
  | .pcieRateChange _ _ width => decide (width < 17)
  | .pcieL1Request _ => true
  | .pcieL1Exit _ => true
  | .clkreqSample _ _ => true
  | .ptmDialogue _ _ => true
  | .ptmRequestRx x => decide (x.rid < 65536)
  | .pmeTurnOffRx _ => true
  | .pmeToAckRx _ => true
  | .pmeToAckTimeout _ => true
  | .ltrRx _ snoop nosnoop => decide (snoop < 65536) && decide (nosnoop < 65536)
  | .intxMessageRx _ rid pin _ => decide (rid < 65536) && decide (pin < 4)
  | .errorMessageRx _ rid severity => decide (rid < 65536) && decide (severity < 3)
  | .configRequest _ r => r.wf
  | .acsControlWrite _ bridge acs vec => decide (bridge < 64) && decide (acs < 65536) && decide (vec < 18446744073709551616)
  | .bmeClear _ fn => decide (fn < 72)
  | .moverPfD3hot _ => true
  | .flrEndpoint _ hostRid => decide (hostRid < 65536)
  | .flrMoverPf _ => true
  | .flrMgmtFunction _ => true
  | .secondaryBusReset _ bridge => decide (bridge < 64)
  | .dpcTriggerStatusClear _ bridge => decide (bridge < 64)
  | .linkDisableWrite _ bridge _ => decide (bridge < 64)
  | .retrainLinkWrite _ bridge speed => decide (bridge < 64) && decide (speed < 16)
  | .slotPowerOnRequest _ bridge => decide (bridge < 64)
  | .slotPowerOffRequest _ bridge => decide (bridge < 64)
  | .slotIndicatorWrite _ bridge _ _ => decide (bridge < 64)
  | .priAtsDisable _ enables => decide (enables < 8)
  | .presenceChange _ _ => true
  | .mrlOpen _ => true
  | .powerFaultAssert _ => true
  | .powerGood _ => true
  | .attentionButtonPress _ => true
  | .wakeAssert _ => true
  | .perstDelayExpiry _ => true
  | .pollSample _ _ => true
  | .egvAdmission => true
  | .egvWindowExpiry => true
  | .egvAccumulatorRead _ mj => decide (mj < 4294967296)
  | .egvRampTimeout _ => true
  | .sbWindowWrite a _ => a.wf
  | .sbWindowRead a => a.wf
  | .sbTransferDone _ r => r.wf
  | .sbLockedAccess a => a.wf
  | .sbBusEnable _ _ => true
  | .sbBusStuck _ _ => true
  | .sbSclStretchTimeout _ => true
  | .sbPollWrite _ _ _ => true
  | .bmcTargetAccess => true
  | .twinHbToggle => true
  | .twinHbLost => true
  | .twinHbAlive => true
  | .hbFaultSet => true
  | .twinLinkDown => true
  | .twinLinkActive => true
  | .joinWaitExpiry => true
  | .resyncEnd => true
  | .handbackGraceEnd => true
  | .handoverDrainEnd => true
  | .twinReplyTimeout => true
  | .twinStagedDiscard => true
  | .tQueryTimer => true
  | .tPrepareReply => true
  | .tCommitReply => true
  | .tQueryReply => true
  | .tHelloReply => true
  | .tHandoverReply => true
  | .relayReplyRx => true
  | .relayTimeout => true
  | .instTailWrite _ _ _ => true
  | .descriptorFetchDone _ _ desc => decide (desc.length = 64)
  | .engineDispatch _ => true
  | .moverReadCompletion _ _ data => decide (data.length ≤ 4096)
  | .atsTranslationCompletion _ r => r.wf
  | .prgResponseRx _ index code => decide (index < 512) && decide (code < 16)
  | .invalidateRequestRx _ pasid iova size itag => decide (pasid < 1048576) && decide (iova < 18446744073709551616) && decide (size < 18446744073709551616) && decide (itag < 32)
  | .invalidateComplete _ itag => decide (itag < 32)
  | .instEnable _ => true
  | .instDisable _ => true
  | .instQuiesce _ _ => true
  | .instanceQuiesced _ => true
  | .instSetupWrite _ offset bytes => decide (offset < 64) && decide (bytes.length ≤ 64)
  | .mbSend _ _ => true
  | .mbAck _ _ => true
  | .mbReplyWrite _ len _ => decide (len < 257)
  | .atcFlush => true
  | .engineDisable _ => true
  | .harvestDone _ => true
  | .icpRingEnable _ sqLog2 cqLog2 => decide (sqLog2 < 32) && decide (cqLog2 < 32)
  | .icpRingDisable _ => true
  | .icpSqTailWrite _ _ => true
  | .icpSlotFetchDone _ _ slot => decide (slot.length ≤ 4096)
  | .icpCqHeadWrite _ _ => true
  | .icpReply _ => true
  | .mctpMessageRx _ src tag _ _ _ type bytes => decide (src < 256) && decide (tag < 8) && decide (type < 128) && decide (bytes.length ≤ 64)
  | .mctpReassemblyTimeout _ src tag => decide (src < 256) && decide (tag < 8)
  | .setEndpointId _ tag eid => decide (tag < 8) && decide (eid < 256)
  | .getEndpointId _ tag => decide (tag < 8)
  | .getMctpVersionSupport _ tag => decide (tag < 8)
  | .getMessageTypeSupport _ tag => decide (tag < 8)
  | .doeDiscovery _ index => decide (index < 256)
  | .spdmGetVersion via => via.wf
  | .spdmGetCapabilities via => via.wf
  | .spdmNegotiateAlgorithms via => via.wf
  | .spdmGetDigests via => via.wf
  | .spdmGetCertificate via slot offset len => via.wf && decide (slot < 256) && decide (offset < 65536) && decide (len < 65536)
  | .spdmChallenge via slot nonce => via.wf && decide (slot < 256) && decide (nonce.length = 32)
  | .spdmGetMeasurements via op _ nonce => via.wf && decide (op < 256) && decide (nonce.length = 32)
  | .spdmUnsupportedRequest via code => via.wf && decide (code < 256)
  | .deviceInfo => true
  | .vswQuiesce => true
  | .vswQuiesced => true
  | .portControl => true
  | .eyeScan => true
  | .tileCalibrate => true
  | .bistRun => true
  | .bindWrite => true
  | .famWrite => true
  | .routeWrite => true
  | .tableRead => true
  | .epochSync => true
  | .moverBind => true
  | .moverQuiesce => true
  | .moverDirty => true
  | .moverTStatus => true
  | .moverTRelay => true
  | .orbitConfig => true
  | .slotPower => true
  | .energySet => true
  | .energyStatus => true
  | .faultRead => true
  | .faultClear => true
  | .fence => true
  | .reset => true
  | .faultInject => true
  | .twinRole => true
  | .tHello => true
  | .tPrepare => true
  | .tCommit => true
  | .tQuery => true
  | .tSync => true
  | .tHandover => true
  | .getIdentity => true
  | .otpRevoke => true
  | .fwStage => true
  | .fwActivate => true
  | .configStore => true
  | .modeActivate => true
  | .modeActivateApplied => true
  | .selectionWrite => true
  | .flashMaint => true
  | .eclipseTrigger => true
  | .regRead => true
  | .regWrite => true
  | .faultRaised f => f.wf
  | .correctableWindowExpiry u group => u.wf && decide (group < 65536)
  | .faultNRelease => true
  | .cvDataWrite _ _ _ _ => true
  | .cvInit _ _ => true
  | .cvEndWrite _ _ _ => true
  | .cvStateWrite _ _ _ => true
  | .mpuCommitWrite _ _ => true
  | .mpuDrainRead _ _ => true
  | .ddrFillBlock => true
  | .launderAccess _ _ => true
  | .darnSectorErase => true
  | .flashOpDone _ => true
  | .journalRecordCommit _ => true
  | .recordSectorErase _ => true
  | .orbitReport => true
  | .eclipseInRise => true
  | .counterCarry bank _ => decide (bank < 256)
  | .eclipseAonLatch => true
  | .eclBankRelease _ _ => true
  | .pcFreeze _ bank _ => decide (bank < 256)
  | .pcClear _ bank => decide (bank < 256)
  | .cometRecordWrite => true
  | .cometHoldoffExpiry => true
  | .cometEnSet _ _ => true
  | .cometEnClear _ _ => true
  | .cometRdPtrWrite _ _ => true
  | .samplerSpill => true
  | .smpEnSet _ _ => true
  | .smpRdWrite _ _ => true
  | .smpHoldoffExpiry => true
  | .pflRdWrite _ _ _ => true
  | .sbErrRdWrite _ _ => true
  | .tblAccRead _ _ => true
  | .tblAccWrite _ _ => true
  | .meterMapWrite _ _ _ => true
  | .famAccRead _ _ => true
  | .famAccWrite _ _ => true
  | .bindAccRead _ _ => true
  | .bindAccWrite _ _ => true
  | .routeAccRead _ _ => true
  | .routeAccWrite _ _ => true
  | .ctxAccRead _ _ => true
  | .twinShadowRead _ _ => true
  | .tileCoefRead _ _ _ => true
  | .tileCoefClear _ _ _ => true
  | .czResetReq _ _ _ => true
  | .czTrainEnClear _ _ _ => true
  | .czTrainEnSet _ _ _ => true
  | .czOfferWrite _ _ _ => true
  | .czStoredClear _ _ _ => true
  | .portRetrain _ _ _ => true
  | .portRelease _ _ _ => true
  | .portPerstForce _ _ _ => true
  | .portDisable _ _ _ => true
  | .readClearField a => a.wf
  | .registerWrite a _ => a.wf
  | .moverQuiesceWaitExpiry => true
  | .dllpRx _ d => d.wf
  | .replayTimerTimeout _ => true
  | .ltssmStateChange _ _ => true
  | .tSyncReply => true
  | .epochSyncTwinReply => true
  | .spSramScrub _ => true
  | .laneTest _ lanes => decide (lanes < 65536)
  | .inBandInterruptRequest _ => true
  | .bootConfigApplied => true
  | .firmwareReloadDone => true

end Sys2Proof
end

