-- ==== Sys2Proof/Safety.lean ====
section
/-!
DEFINITION. Safety.lean: what counts as a sound state of the part and as a state in which nothing is left to do, in the terms that statements use.
-/
namespace Sys2Proof.Machine

/-- A register file is canonical: keys rise strictly, and no register is listed at its reset value (log entry 10). -/
def Regs.wf (r : Assoc Word) : Bool := rising r && r.all (fun e => e.2 != resetOf e.1)

/-- Every domain but AON is held in its reset state (R351): no heartbeat, no link, port, tile or TLP, nothing that the FCU or the journal
buffer holds. -/
structure Held351 (s : State) : Prop where
  phase : s.pwr.phase = .held
  hbRun : s.pwr.hbRun = false
  hbOut : s.pwr.hbOut = false
  faultN : s.pwr.faultNLow = true
  core : s.core = Core.reset
  bind : s.hosts.bind = []
  fab : s.fab = Fabric.reset
  links : s.links = []
  icp : s.icp = Icp.reset
  twin : s.twin = Twin.reset
  mover : s.mover = Mover.reset
  tiles : s.tiles = []
  ports : s.ports = []
  fcu : s.fcu = Fcu.reset
  jbuf : s.bg.jbuf = []

/-- Two states differ in their registers alone. -/
def OnlyRegs (s t : State) : Prop := t = { s with regs := t.regs }

/-- What no reply to an ICP command changes: memory, flash, OTP, the power state, the fabric, links, ports, tiles, the pair and the switch core. -/
structure Untouched (s t : State) : Prop where
  mem : t.mem = s.mem
  flash : t.flash = s.flash
  otp : t.otp = s.otp
  pwr : t.pwr = s.pwr
  fcu : t.fcu = s.fcu
  core : t.core = s.core
  cong : t.cong = s.cong
  fab : t.fab = s.fab
  twin : t.twin = s.twin
  links : t.links = s.links
  tiles : t.tiles = s.tiles
  ports : t.ports = s.ports
  hosts : t.hosts = s.hosts
  time : t.time = s.time
  pending : t.pending = s.pending

/-- What holds after every step: FAULT_N is low while a fault is uncleared or recorded or the TERMINAL latch is set (R362), and a TERMINAL fault holds the part (R351). -/
def Sound (s : State) : Prop :=
  (faultNHeld s = true → s.pwr.faultNLow = true) ∧ (s.pwr.terminal = true → Held351 s)

/-- The state in which a command ends: its effect, what follows from it inside the part, and what the AON domain sees to. -/
def after (t : State) : State := conclude (settle t)

/-- A decoder is up and begins a request with an opcode: the request, and the state in which it is outstanding as begun. -/
def Begins (s : State) (d : Decoder) (opcode : Nat) (r : IcpReq) (t : State) : Prop := decoderUp s d = true ∧ icpTake s d opcode = some (r, t)

/-- A decoder begins a request that no MODE_ACTIVATE or FW_ACTIVATE keeps back (R329). -/
def Runs (s : State) (d : Decoder) (opcode : Nat) (r : IcpReq) (t : State) : Prop := Begins s d opcode r t ∧ actBusy t opcode = false

/-- The low half of a register value. -/
def low32 (w : Word) : Word := BitVec.ofNat 64 (w.toNat % 2 ^ 32)

/-- The bits of a register that an access to the whole of it covers. -/
def wholeMask (k : Nat) : Word := match famOf k with | some f => if f.width = 32 then 0xFFFFFFFF#64 else BitVec.allOnes 64 | none => 0

/-- A master's read or write of a whole register of the CRS reaches the register: its target works, no MPU or other check turns it away, nothing is held or
captured of a register half (R449–R454). -/
def Reaches (s : State) (m : Master) (k : Nat) (a : Rwx) : Prop := accessUp s m = true ∧ s.half = [] ∧ crsCheck s m (crsOffset k) a = (0, s)

/-- A write of a value reaches its register, and tries nothing that only the SP may do (R11, R349, R456). -/
def Lands (s : State) (m : Master) (k : Nat) (w : Word) : Prop :=
  Reaches s m k .write ∧ (mpuLocked s k = false ∨ m.id.val = 0) ∧ spwAttempt s m.id.val k w (wholeMask k) = false

/-- Nothing is due inside the part: no TLP waits for a context or for delivery, no packet for the twin link, no fault or fence to be decided, no latch to be counted,
no held slot command, no transfer at the head of a bus that cannot carry it, no mailbox or ring that could go on, no answer or interrupt of the Mover, no orderly unbinding whose
slot is off, no slot whose interrupt has changed, no tile that waits to go off with its ports empty, and no fault that FAULT_N should show. -/
structure Idle (s : State) : Prop where
  ctxWait : s.core.ctxWait = []
  localDue : s.core.localDue = []
  twinTx : s.icp.twinTx = []
  due : s.fcu.due = []
  fenceDue : s.fcu.fenceDue = []
  latch : s.bg.eclSeen = s.bg.eclSeq
  slots : ∀ e ∈ s.ports, (s.port e.1).slotCmd ≠ none ∨ (s.port e.1).heldSlot = none
  buses : ∀ b x q, b < 4 → sbQ s b = x :: q → sbBlocked s b x.legacy = none
  mailboxes : ∀ e ∈ s.mover.insts, isSet s (Reg.INST_STATUS e.1) Fld.INST_STATUS_MB_OUT_BUSY = true → 16 ≤ outstanding s (Ch.mailbox e.1)
  rings : ∀ v, v < 32 → ringOn s v = true → rd s (Reg.ICP_SQ_HEAD v) = rd s (Reg.ICP_SQ_TAIL v)
  moverDue : s.mover.due = []
  moverIrqs : s.mover.irqs = []
  unbinding : ∀ i ∈ s.hosts.unbinding, ∀ e, aget s.hosts.bind i = some e → (s.func e.vsw (fnBridge e.bridge)).powerOff = false
  slotInts : ∀ x ∈ s.hosts.vsws, ∀ f ∈ x.2.funcs, 8 ≤ f.1 → slotLevel f.2 = f.2.slotInt
  tiles : ∀ e ∈ s.tiles, e.2.offDue = true → (tilePorts s e.1).all (portIdle s) = false
  faultN : faultNHeld s = false

end Sys2Proof.Machine
end

