-- ==== Sys2Proof/Certificates/Slice0/Obligations.lean ====
section
/-!
DEFINITION. Certificates/Slice0/Obligations.lean: the statements about this part that are to be proved, by the chapters of the manual.
-/
open Sys2Proof Sys2Proof.Machine

/-! ## Power, clocks, resets and boot -/

/-- R351, R378, R379, R476: what puts every domain but AON into reset, the cause that the next boot will record, and FAULT_N released with it. -/
def Obligations.ColdResetCommands : Prop :=
  ∀ s : State, s.pwr.terminal = false →
    (s.pwr.porLow = false → exec .porNAssert s =
      .next (conclude (coldHold { s with pwr := { s.pwr with porLow := true } } (s.pwr.cause.getD 0x01) .held))) ∧
    (∀ src, s.pwr.flushing = false → s.pwr.phase ≠ .held → watched s src = true →
      exec (.clockMonitorFail src) s = .next (after (coldHold s (clockCause src) .waitXo))) ∧
    (∀ cause phase, let t := coldHold s cause phase
      t.pwr.cause = some cause ∧ t.pwr.phase = phase ∧ t.pwr.faultNLow = false ∧ t.pwr.hbRun = false ∧ t.core = Core.reset ∧ t.fab = Fabric.reset ∧
      t.links = [] ∧ t.ports = [] ∧ t.tiles = [] ∧ t.mover = Mover.reset ∧ t.twin = Twin.reset ∧ t.icp = Icp.reset ∧ t.fcu = Fcu.reset ∧
      t.mem = s.mem ∧ t.flash = s.flash ∧ t.otp = s.otp ∧ t.time = 0 ∧ t.edge = s.edge ∧ t.pending = s.pending)

/-- R380: POR_N deasserts: the strap is sampled and, where neither the TERMINAL latch nor PWRFAIL_N holds the part, the wait for the XO begins. -/
def Clauses.PorDeassertStartsBoot : Prop :=
  ∀ (s : State) (strap : Fin 8), s.pwr.porLow = true → s.pwr.terminal = false → s.pwr.pwrfailLow = false →
    exec (.porNDeassert strap) s = .next (after { s with pwr := { s.pwr with
      porLow := false, strap := strap.val, railsOk := true, bootStart := s.edge, phase := .waitXo, pfDone := false } })

/-- R378, R382: the XO is stable: the cause that waits enters RST_REASON, one count up, and CLK_STATUS shows the XO and the root PLL on. -/
def Clauses.XoStableRecordsCause : Prop :=
  ∀ (s : State) (cause : Nat), s.pwr.phase = .waitXo → s.pwr.terminal = false → s.pwr.cause = some cause → cause < 256 →
    ∃ t, exec .xoStable s = .next (after t) ∧ t.pwr.phase = .romSlow ∧ t.pwr.cause = none ∧ rd t Reg.CLK_STATUS = 0xC0000000 ∧
      (rd t Reg.RST_REASON).toNat % 256 = cause ∧ rd t Reg.RST_DETAIL = 0 ∧
      (rd t Reg.RST_REASON).toNat / 256 % 65536 = min 0xFFFF ((rd s Reg.RST_REASON).toNat / 256 % 65536 + 1) ∧
      (isSet t Reg.PWR_STATUS Fld.PWR_STATUS_PF_LAST = decide (cause = 0x0B ∨ cause = 0x0D))

/-- R377, R380, R437: the boot goes on from the root PLL, the configuration and the firmware, each in its place. -/
def Clauses.BootSteps : Prop :=
  ∀ s : State,
    (s.pwr.phase = .romSlow → powered s = true →
      exec .rootPllStable s = .next (after (romBoot s)) ∧ (romBoot s).pwr.phase = .booting ∧ (romBoot s).pwr.coresHeld = true) ∧
    (s.pwr.phase = .booting → fastUp s = true → exec .bootConfigApplied s = .next (after (bootConfig s))) ∧
    (s.pwr.phase = .configured → up s = true → s.pwr.coresHeld = false → (bankNow s).2.2 ≠ 2 →
      ∃ t, exec .firmwareReady s = .next (after t) ∧ t.pwr.phase = .ready ∧ isSet t Reg.BOOT_STATUS Fld.BOOT_STATUS_READY = true ∧
        getF t Reg.BOOT_STATUS Fld.BOOT_STATUS_STAGE = 9 ∧ (rd t Reg.BOOT_TIME).toNat = (s.edge - s.pwr.bootStart) / 50 % 2 ^ 32 ∧
        t.flash = s.flash ∧ t.otp = s.otp) ∧
    (up s = true → exec .firmwareReloadDone s = .next (after (firmwareReloaded s)))

/-- R359, R381: a warm reset that was asked for is carried out with its cause, and everything outside AON that is not sticky starts from reset. -/
def Clauses.WarmResetRuns : Prop :=
  ∀ (s : State) (cause source unit : Nat), s.pwr.warmReq = some (cause, source, unit) → fastUp s = true →
    ∃ x, exec .warmReset s = .next (after (romBoot x)) ∧ x.core = Core.reset ∧ x.fab = Fabric.reset ∧ x.links = [] ∧ x.ports = [] ∧ x.tiles = [] ∧
      x.mover = Mover.reset ∧ x.twin = Twin.reset ∧ x.icp = Icp.reset ∧ x.mem = s.mem ∧ x.flash = s.flash ∧ x.otp = s.otp ∧ x.bg.jbuf = s.bg.jbuf ∧
      x.time = 0 ∧ x.edge = s.edge ∧ x.pending = s.pending ∧ (∀ u ∈ x.fcu.units, u.cmdFenced = false) ∧ rd x Reg.FCU_SEQ = rd s Reg.FCU_SEQ ∧
      (cause = 0x08 → x.pwr.fatalTimes = s.pwr.fatalTimes ++ [s.edge / 16]) ∧ (cause ≠ 0x08 → x.pwr.fatalTimes = s.pwr.fatalTimes)

/-- R394, R397: PWRFAIL_N in a running part sheds everything but the journal's buffer, which the flush then writes; the boot that follows waits for the pin. -/
def Clauses.PowerFailure : Prop :=
  ∀ s : State, s.pwr.terminal = false →
    (up s = true → ∃ t, exec .pwrfailNRecognised s = .next (conclude t) ∧ t.pwr.flushing = true ∧ t.pwr.pwrfailLow = true ∧ t.pwr.phase = .held ∧
      t.pwr.cause = some 0x0B ∧ t.bg.jbuf = s.bg.jbuf ∧ t.links = [] ∧ t.core = Core.reset ∧ t.ports = [] ∧ t.flash = s.flash) ∧
    (s.pwr.flushing = true → exec .powerFailFlushDone s = .next (after (flushDone s))) ∧
    (s.pwr.pfDone = true → s.pwr.railsOk = true → s.pwr.porLow = false → s.pwr.phase = .held →
      ∃ t, exec .pwrfailNRise s = .next (after t) ∧ t.pwr.phase = .waitXo ∧ t.pwr.pwrfailLow = false ∧ t.pwr.pfDone = false ∧
        getF t Reg.PWR_STATUS Fld.PWR_STATUS_STATE = 0)

/-- R479, R480: a supply other than VDD_AON takes the domains with it, VDD2 and VDDQ_LP the LPDDR4X contents too; VDD_AON takes everything but the
flash and the OTP. -/
def Clauses.SupplyLosses : Prop :=
  ∀ s : State,
    (∃ t, exec .vddAonLoss s = .next (conclude t) ∧ t.regs = [] ∧ t.mem = [] ∧ t.pwr = Power.reset ∧ t.otp = s.otp ∧ t.core = Core.reset ∧ t.links = [] ∧
      t.fcu = Fcu.reset ∧ t.time = 0 ∧ t.pending = s.pending) ∧
    (∀ r, s.pwr.terminal = false → ∃ t, exec (.supplyLoss r) s = .next (conclude t) ∧ t.pwr.phase = .held ∧ t.pwr.railsOk = false ∧ t.core = Core.reset ∧
      t.links = [] ∧ t.fab = Fabric.reset ∧ t.otp = s.otp ∧ (r = .vdd2 ∨ r = .vddqLp → t.mem = []) ∧ (r ≠ .vdd2 → r ≠ .vddqLp → t.mem = s.mem))

/-- R350, R354: the SP's watchdog is TERMINAL; the firmware's is a CONTAINED fault of the management complex, its core a value that the spec leaves open. -/
def Clauses.Watchdogs : Prop :=
  ∀ s : State, up s = true → s.pwr.porLow = false → s.pwr.pfDone = false →
    (∃ t, exec .spWatchdogExpired s = .next (conclude t) ∧ t.pwr.terminal = true ∧ t.pwr.phase = .held ∧ t.pwr.faultNLow = true ∧
      (rd t Reg.RST_REASON).toNat % 256 = 0x0C ∧ t.links = [] ∧ t.core = Core.reset) ∧
    (s.pwr.coresHeld = false → isFenced s ⟨Uk.mgmt, 0⟩ = false → exec .firmwareWatchdogExpired s = .next (after { s with
      free := s.free + 1, fcu := { s.fcu with due := s.fcu.due ++ [⟨0x0500, .contained, ⟨Uk.mgmt, 0⟩, Config.freeNat s.free % 4, false⟩] } }))

/-- R126: a HOST_PERST_N input acts on the vSwitches that select it while a configuration is in force and the device is not Dormant, and is only a level
before that; the hold ends by a row of its own. -/
def Clauses.HostPerst : Prop :=
  ∀ (s : State) (v : Fin 32),
    (up s = true →
      exec (.hostPerstNAssert v) s = .next (after (perstAssert s v.val)) ∧ exec (.hostPerstNDeassert v) s = .next (after (perstDeassert s v.val)) ∧
      exec (.hostPerstHoldEnd v) s = .next (after (perstHoldEnd s v.val))) ∧
    (configured s = false →
      exec (.hostPerstNAssert v) s = .next (after (perstPin s v.val true)) ∧ exec (.hostPerstNDeassert v) s = .next (after (perstPin s v.val false)))

/-- R484: AON_READ sends 128 bits and changes nothing: RST_REASON in bits 31:0, RST_DETAIL in 95:32, the TERMINAL latch in 96, FAULT_N_LOW in 97. -/
def Clauses.AonReadShiftsOut : Prop :=
  ∀ s : State, ∃ bytes, exec .aonRead s = .next (after { s with out := s.out ++ [.jtag bytes] }) ∧ bytes.length = 16 ∧
    bytes.take 4 = (natLe 4 (rd s Reg.RST_REASON).toNat).map (fun b => b.toNat) ∧
    (bytes.drop 4).take 8 = (natLe 8 (rd s Reg.RST_DETAIL).toNat).map (fun b => b.toNat) ∧
    bytes.drop 12 = [b2n s.pwr.terminal + 2 * b2n s.pwr.faultNLow, 0, 0, 0]

/-- R386, R387, R388: entry to Dormant, the wake by a cause and by the timer. -/
def Clauses.DormantCommands : Prop :=
  ∀ s : State,
    (dormantMay s = true → dormantDue s = none → ∃ t, exec .dormantEntry s = .next (after t) ∧ getF t Reg.PWR_STATUS Fld.PWR_STATUS_STATE = 2 ∧
      rd t Reg.CLK_STATUS = 0x80000000 ∧ rd t Reg.WAKE_TIMER = 0 ∧ t.cong.voqAvg = []) ∧
    (∀ d, dormantMay s = true → dormantDue s = some d → d ≤ s.time → ∃ t, exec .dormantEntry s = .next (after t) ∧
      getF t Reg.PWR_STATUS Fld.PWR_STATUS_LAST_WAKE = 5 ∧ getF t Reg.PWR_STATUS Fld.PWR_STATUS_STATE = getF s Reg.PWR_STATUS Fld.PWR_STATUS_STATE) ∧
    (getF s Reg.PWR_STATUS Fld.PWR_STATUS_STATE = 2 → powered s = true →
      (∀ c, exec (.dormantWake c) s = .next (after (dormantWake s c))) ∧
      (rd s Reg.WAKE_TIMER ≠ 0 → exec .wakeTimerExpiry s =
        .next (after (dormantWake { s with time := s.time + 5120 * (((rd s Reg.WAKE_TIMER).toNat - s.time + 5119) / 5120),
                                           edge := s.edge + 16 * (((rd s Reg.WAKE_TIMER).toNat - s.time + 5119) / 5120) } .timer))) ∧
      ∃ t, exec .bmcTargetAccess s = .next (after t) ∧ getF t Reg.PWR_STATUS Fld.PWR_STATUS_STATE = 3 ∧ rd t Reg.CLK_STATUS = 0xC0000000 ∧
        t.out = s.out ++ [.bmcNack])

/-- R351: nothing but the loss of VDD_AON clears the TERMINAL latch: whatever else happens to a part whose latch is set, it stays set. -/
def Obligations.TerminalLatchStays : Prop :=
  ∀ (s t : State) (c : Instr), c ≠ .vddAonLoss → s.pwr.terminal = true → exec c s = .next t → t.pwr.terminal = true

/-- R351, R394, R476: while something holds the part in reset, only the commands of the AON domain, of its supplies and of its pins do anything; every other
changes nothing but what the AON domain itself sees to. -/
def Clauses.HeldPartIgnoresCommands : Prop :=
  ∀ (s : State) (c : Instr), powered s = false →
    c ∉ [Instr.porNAssert, .xoStable, .pwrfailNRecognised, .powerFailFlushDone, .pwrfailNRise, .vddAonLoss, .spWatchdogExpired, .aonRead, .faultNRelease] →
    (∀ x, c ≠ .porNDeassert x) → (∀ x, c ≠ .supplyLoss x) → (∀ x, c ≠ .hostPerstNAssert x) → (∀ x, c ≠ .hostPerstNDeassert x) → c ≠ .twinHbToggle →
    exec c s = .next (conclude s)

/-- R377, R385, R437: before the configuration is applied, and in Dormant, the commands of links, TLPs, contexts, the Mover and the twin pair do nothing; of the TLPs
that come on a port only one that comes whole before the configuration has an effect (R127): a configuration request is answered with Configuration Request Retry
Status, any other non-posted request with Unsupported Request, and a posted one is counted. -/
def Clauses.NothingRunsBeforeConfiguration : Prop :=
  ∀ (s : State) (n : Fin 32) (p : Fin 64) (f : Frame) (t : Tlp) (a : Arrival) (e : Fin 16), up s = false →
    (∀ c ∈ [Instr.keepaliveSend n, .linkDownTimeout n, .frameRx n f true, .tlpFrameRx n, .quietWake n, .czTrainStateExit n ⟨0, 0, 0⟩, .timeExchangeDue,
           .egressSchedule p, .contextSweep n.val, .syncLimitExpiry, .pcieLinkDown p 0, .surpriseDown p, .dllpRx p .pmEnterL1,
           .engineDispatch e, .atcFlush, .moverQuiesceWaitExpiry, .twinLinkDown, .twinLinkActive, .tPrepare, .tCommit, .deviceInfo, .famWrite, .regWrite,
           .egvAdmission, .orbitReport, .cometRecordWrite, .samplerSpill, .darnSectorErase],
      exec c s = .next (after s)) ∧
    (powered s = false ∨ configured s = true ∨ a ≠ .whole → exec (.tlpIngress p t a) s = .next (after s)) ∧
    (powered s = true → configured s = false → exec (.tlpIngress p t .whole) s = .next (after (match t.cls with
      | .nonPosted => { s with out := s.out ++ [.tlp p.val { cplTlp t.reqId t.tag 0 (if isCfg t then 2 else 1) [] with len := 4 }] }
      | .posted => wr s Reg.CORE_ACCESS_CNT (BitVec.ofNat 64 (min 0xFFFFFFFF ((rd s Reg.CORE_ACCESS_CNT).toNat + 1)))
      | .completion => s)))

/-! ## Lane tiles -/

/-- R383, R384, R77: a tile whose ports allow it goes PARKED and DARK; a wake cause brings it back, an OFF tile through its power-up calibration, and a tile that only
waits to go OFF stays. -/
def Clauses.TilePowerCommands : Prop :=
  ∀ (s : State) (t : Fin 16), up s = true →
    (tilePower s t.val = 0 → 1 ≤ tileMay s t.val → exec (.tilePark t) s =
      .next (after (setF (avgClear (pressAbandon s t.val) t.val) (Reg.TILE_STATUS t.val) Fld.TILE_STATUS_POWER 1))) ∧
    (tilePower s t.val ≤ 1 → tileMay s t.val = 2 → exec (.tileDark t) s =
      .next (after (setF (avgClear (holdAges (pllStop (pressAbandon s t.val) t.val) t.val) t.val) (Reg.TILE_STATUS t.val) Fld.TILE_STATUS_POWER 2))) ∧
    (tilePower s t.val = 1 → (s.tile t.val).offDue = false → exec (.tileWakeCause t) s =
      .next (after (setF (runAges (pressAbandon s t.val) t.val) (Reg.TILE_STATUS t.val) Fld.TILE_STATUS_POWER 0))) ∧
    (tilePower s t.val = 2 → (s.tile t.val).offDue = false → exec (.tileWakeCause t) s =
      .next (after (pllStart (setF (runAges (pressAbandon s t.val) t.val) (Reg.TILE_STATUS t.val) Fld.TILE_STATUS_POWER 0) t.val))) ∧
    (tilePower s t.val = 3 → isFenced s ⟨Uk.tile, t.val⟩ = false → tilePorts s t.val ≠ [] → (s.tile t.val).offDue = false → exec (.tileWakeCause t) s =
      .next (after ((pllStart (setF s (Reg.TILE_STATUS t.val) Fld.TILE_STATUS_POWER 0) t.val).modTile t.val (fun x => { x with calRunning := true, offDue := false })))) ∧
    ((s.tile t.val).offDue = true → isFenced s ⟨Uk.tile, t.val⟩ = false → exec (.tileWakeCause t) s =
      exec (.tileWakeCause t) (s.modTile t.val (fun x => { x with offDue := false }))) ∧
    exec (.beaconDetected t) s = .next (after ((List.range 4).foldl
      (fun s i => if slotCalez s t.val i then quietWake s (4 * t.val + i) else s) (tileWake s t.val)))

/-- R261, R263, R280: a PLL that runs becomes stable; one that loses lock is counted, takes its links down and is a CONTAINED fault of the tile; the power-up
calibration ends with CAL_DONE, every lane's age at 0 and training of the PCIe ports that are down. -/
def Clauses.TilePllsAndCalibration : Prop :=
  ∀ (s : State) (t : Fin 16), up s = true →
    (isSet s (Reg.TILE_STATUS t.val) Fld.TILE_STATUS_LC_ON = true →
      exec (.tilePllStable t true) s = .next (after (setF s (Reg.TILE_STATUS t.val) Fld.TILE_STATUS_LC_STABLE 1))) ∧
    (isSet s (Reg.TILE_STATUS t.val) Fld.TILE_STATUS_RING_ON = true →
      exec (.tilePllStable t false) s = .next (after (setF s (Reg.TILE_STATUS t.val) Fld.TILE_STATUS_RING_STABLE 1))) ∧
    (isSet s (Reg.TILE_STATUS t.val) Fld.TILE_STATUS_LC_ON = true → (∀ i, i < 4 → slotOn s t.val i = false) →
      exec (.tilePllLockLost t true) s = .next (after (detect (setF (bump s (Reg.TILE_PLL_UNLOCK_CNT t.val))
        (Reg.TILE_STATUS t.val) Fld.TILE_STATUS_LC_STABLE 0) 0x0220 .contained Uk.tile t.val 1))) ∧
    (isSet s (Reg.TILE_STATUS t.val) Fld.TILE_STATUS_LC_ON = true → exec (.tilePllLockLost t true) s = .next (after (pllLost s t.val true))) ∧
    ((s.tile t.val).calRunning = true → tilePower s t.val = 0 → (s.tile t.val).calFor = none → exec (.powerUpCalibrationDone t) s =
      .next (after (let c := (setF s (Reg.TILE_STATUS t.val) Fld.TILE_STATUS_CAL_DONE 1).modTile t.val (fun x =>
          { x with passAt := (List.range 16).map (fun l => (l, s.time)), ageHeld := [], calRunning := false, calFor := none })
        ((tilePorts c t.val).filter (isPcie c)).foldl (fun s p =>
          if isSet s (Reg.PORT_STATUS p) Fld.PORT_STATUS_DL_ACTIVE then s else trainFromDetect s p) c)))

/-- R273, R278, R279, R401: a lane pass, margin commands on a PCIe lane in L0 (a step is NAKed while the lane is URGENT or CRITICAL, and otherwise takes the spare
slice; how many errors it counts the spec leaves open), a lane test and the levels. -/
def Clauses.PressAndMargining : Prop :=
  ∀ (s : State) (t lane : Fin 16) (snr : Byte), up s = true →
    (pressStep s t.val lane.val = some false → (s.tile t.val).press = some (lane.val, false) → laneCrit s t.val lane.val ≤ snr.toNat →
      exec (.pressStepDone t lane snr) s = .next (after (pressStart (setF (setF (setF (setF
        (bump (s.modTile t.val (fun x => { x with press := none, passAt := aput x.passAt lane.val s.time })) (Reg.TILE_PRESS_PASS_CNT t.val))
        (Reg.LANE_STATUS t.val lane.val) Fld.LANE_STATUS_SNR snr.toNat) (Reg.LANE_STATUS t.val lane.val) Fld.LANE_STATUS_PRESS_STATE 0)
        (Reg.TILE_STATUS t.val) Fld.TILE_STATUS_PRESS_LANE lane.val) (Reg.PRESS_LEVEL t.val) (Fld.PRESS_LEVEL_LEVEL lane.val) 0) t.val))) ∧
    (∀ i, (List.range 4).find? (fun i => slotOn s t.val i && (slotLanes s t.val i).contains lane.val) = some i → slotCalez s t.val i = false →
      ltssm s (slotPort s t.val i) = Lt.l0 →
      (∀ c v, marginValue s t.val i c = some v → exec (.marginCommand t ⟨lane, c⟩) s = .next (after (emit s (.marginReport t.val lane.val v)))) ∧
      exec (.marginCommand t ⟨lane, .normal⟩) s = .next (after (emit (marginEnd s t.val [lane.val]) (.margin t.val lane.val true 0))) ∧
      exec (.marginCommand t ⟨lane, .clearErrors⟩) s = .next (after (emit s (.margin t.val lane.val true 0))) ∧
      (∀ c, (∃ left n, c = .stepTiming left n ∧ n ≤ 32) ∨ (∃ down n, c = .stepVoltage down n ∧ n ≤ 64) →
        (1 ≤ pressLevel s t.val lane.val →
          exec (.marginCommand t ⟨lane, c⟩) s = .next (after (emit (marginEnd s t.val [lane.val]) (.margin t.val lane.val false 0)))) ∧
        (pressLevel s t.val lane.val = 0 → (s.tile t.val).press = none → (s.tile t.val).margined.contains lane.val = false →
          ∃ errors, exec (.marginCommand t ⟨lane, c⟩) s = .next (after (emit (setF { s.modTile t.val (fun x => { x with margined := x.margined ++ [lane.val] }) with
            free := s.free + 1 } (Reg.LANE_STATUS t.val lane.val) Fld.LANE_STATUS_PRESS_STATE 3) (.margin t.val lane.val true errors)))))) ∧
    (∀ mask, mask < 65536 → exec (.laneTest t mask) s = .next (after ((List.range 4).foldl
      (fun s i => if slotOn s t.val i && (slotLanes s t.val i).any (fun l => mask.testBit l) then slotDown s t.val i else s)
      (pressAbandonLanes (s.modTile t.val (fun x => { x with testLanes := x.testLanes ||| mask })) t.val (bitsOf 16 mask))))) ∧
    (∀ key, key < 6 ∨ key = 16 ∨ key = 17 → levelOf s (bgAge s key) (ms (bgDeadline s key)) ≤ 1 →
      exec (.backgroundLevelChange key) s = .next (after (setBgLevel s key (levelOf s (bgAge s key) (ms (bgDeadline s key)))))) ∧
    (∀ key, key < 6 ∨ key = 16 ∨ key = 17 → levelOf s (bgAge s key) (ms (bgDeadline s key)) = 2 → bgLevel s key < 2 →
      exec (.backgroundLevelChange key) s = .next (after (detect (setBgLevel s key 2) 0x0301 .contained Uk.background (bgIndex key)
        ((if key < 6 then key else 0) * 2 ^ 56 + bgAge s key / ms 1 % 2 ^ 56))))

/-- R401: NORMAL up to the deadline, CRITICAL beyond CRIT_MULT deadlines, URGENT between; a multiplier below 2 acts as 2. -/
def Obligations.LevelsOfAge : Prop :=
  ∀ (s : State) (age deadline : Nat),
    (levelOf s age deadline = 0 ↔ age ≤ deadline) ∧
    (levelOf s age deadline = 2 ↔ max 2 (getF s Reg.BG_CTRL Fld.BG_CTRL_CRIT_MULT) * deadline < age) ∧
    levelOf s age deadline ≤ 2


/-! ## Calez links -/

/-- R181, R184, R187: an ACTIVE link sends its KEEPALIVE, its ACK and its LIMITs, and each block that reports ACK clears what was unreported. -/
def Clauses.CalezReportsLeave : Prop :=
  ∀ (s : State) (n : Fin 32), up s = true → czActive s n.val = true →
    exec (.keepaliveSend n) s = .next (after { s with
      links := aput s.links n.val { s.link n.val with unreported := 0 },
      out := s.out ++ [.block n.val (.keepalive (nodeId s) (getF s (Reg.CZ_STATUS n.val) Fld.CZ_STATUS_SESSION) (((s.link n.val).nextRx + 4095) % 4096))] }) ∧
    exec (.creditRefresh n) s = .next (after { s with
      out := s.out ++ (s.link n.val).rxLimit.map (fun x => .block n.val (.credit (x.1 / 4) (x.1 % 4) x.2)) }) ∧
    ((s.link n.val).unreported ≠ 0 → exec (.ackSendTimer n) s = .next (after { s with
      links := aput s.links n.val { s.link n.val with unreported := 0 },
      out := s.out ++ [.block n.val (.ack (((s.link n.val).nextRx + 4095) % 4096) false)] }))

/-- R181, R183, R185, R187: what an ACTIVE link does with the control blocks that arrive; each of them makes data blocks count again. -/
def Clauses.CalezBlocksArrive : Prop :=
  ∀ (s : State) (n : Fin 32), up s = true → czActive s n.val = true →
    let d := s.modLink n.val (fun l => { l with discarding := false })
    (∀ node session ack, node % 4096 = getF s (Reg.CZ_PEER n.val) Fld.CZ_PEER_PEER_NODE → session % 256 = getF s (Reg.CZ_PEER n.val) Fld.CZ_PEER_PEER_SESSION →
      exec (.keepaliveRx n node session ack) s = .next (after (czAckTo (s.modLink n.val (fun l => { l with discarding := false, lastValid := s.time })) n.val ack))) ∧
    (∀ node session ack, node % 4096 ≠ getF s (Reg.CZ_PEER n.val) Fld.CZ_PEER_PEER_NODE → session % 256 ≠ getF s (Reg.CZ_PEER n.val) Fld.CZ_PEER_PEER_SESSION →
      exec (.keepaliveRx n node session ack) s = .next (after d)) ∧
    (∀ ack, exec (.ackBlockRx n ack false) s = .next (after (czAckTo d n.val ack))) ∧
    (∀ ack, czActive (czAckTo d n.val ack) n.val = true → exec (.ackBlockRx n ack true) s = .next (after (czReplay (czAckTo d n.val ack) n.val))) ∧
    (∀ vc pool limit, vc < 8 → pool < 4 → limit < 65536 →
      exec (.creditRx n vc pool limit) s = .next (after (czGo (s.modLink n.val (fun l => { l with discarding := false, limit := aput l.limit (vc * 4 + pool) limit })) n.val))) ∧
    (∀ first, exec (.replayBlockRx n first) s = .next (after d)) ∧
    (∀ type, exec (.controlBlockUnknown n type) s = .next (after (wr d (Reg.CZ_UNKNOWN_CNT n.val)
      (BitVec.ofNat 64 (min 0xFFFFFFFF ((rd s (Reg.CZ_UNKNOWN_CNT n.val)).toNat + 1)))))) ∧
    (∀ node reason, exec (.resetBlockRx n node reason) s = .next (after (czDown d n.val 0x06)))

/-- R185: an ACK covers the oldest unacknowledged frames up to the one it names, the replay count starts anew, and frames that waited may leave. -/
def Obligations.AckCoversOldestFrames : Prop :=
  ∀ (s : State) (n ack k : Nat), k < (s.link n).unacked.length → (s.link n).unacked.length ≤ 2047 → ack < 4096 →
    (∃ x r, (s.link n).unacked = x :: r ∧ x.frame.seq < 4096 ∧ ack = (x.frame.seq + k) % 4096) →
    czAckTo s n ack = czGo (s.modLink n (fun l => { l with unacked := l.unacked.drop (k + 1), ackMoved := s.time, replays := 0 })) n

/-- R185: REPLAY_TO sends a REPLAY block and every unacknowledged frame again; the fourth replay in a row from one frame takes the link down. -/
def Clauses.CalezReplay : Prop :=
  ∀ (s : State) (n : Fin 32) (x : Stored) (r : List Stored), up s = true → czActive s n.val = true → (s.link n.val).unacked = x :: r →
    let l := s.link n.val
    let c := pcLink (bump s (Reg.CZ_REPLAY_CNT n.val)) n.val 0x103
    let t := fun k => c.modLink n.val (fun l => { l with replays := k, replayAt := x.frame.seq, ackMoved := s.time })
    let again := fun k => exec (.replayTimeout n) s =
      .next (after (emits (t k) (.block n.val (.replay x.frame.seq) :: (x :: r).map (fun y => .frame n.val y.frame))))
    (l.replays = 0 ∨ l.replayAt ≠ x.frame.seq → again 1) ∧
    (l.replays ≠ 0 → l.replayAt = x.frame.seq → l.replays < 3 → again (l.replays + 1)) ∧
    (l.replayAt = x.frame.seq → 3 ≤ l.replays → exec (.replayTimeout n) s = .next (after (czDown (t (l.replays + 1)) n.val 0x03)))

/-- R172, R173, R188, R203: the events that take a link down, each with its reason; at a lane's sixteenth uncorrectable codeword within 100 µs those of the sixteen that
have not been counted yet are counted first, all sixteen where none has. -/
def Clauses.CalezDownReasons : Prop :=
  ∀ (s : State) (n : Fin 32), up s = true →
    (czState s n.val = 6 →
      exec (.linkDownTimeout n) s = .next (after (czDown s n.val 0x01)) ∧
      exec (.alignmentLost n) s = .next (after (czDown s n.val 0x02)) ∧
      ∃ k, 1 ≤ k ∧ k ≤ 16 ∧ ((s.link n.val).uncorr = [] → k = 16) ∧
        exec (.uncorrectableLimit n) s = .next (after (czDown (wr { s with free := s.free + 1 } (Reg.CZ_FEC_UNCORR_CNT n.val)
          (BitVec.ofNat 64 (min 0xFFFFFFFF ((rd s (Reg.CZ_FEC_UNCORR_CNT n.val)).toNat + k)))) n.val 0x08))) ∧
    (czState s n.val = 8 → exec (.wakeTimeout n) s = .next (after (czDown s n.val 0x07)))

/-- R189, R193: a link that enters RESET sends a RESET block with its reason, last of what it sends then, shows STATE 0, WIDTH 0, RATE 0 and REVERSED 0, and
has forgotten the partner's offer and what equalisation held. -/
def Obligations.CalezResetEntered : Prop :=
  ∀ (s : State) (n : Fin 32) (reason : Nat),
    let t := enterReset s n.val reason
    getF t (Reg.CZ_STATUS n.val) Fld.CZ_STATUS_STATE = 0 ∧ getF t (Reg.CZ_STATUS n.val) Fld.CZ_STATUS_WIDTH = 0 ∧
    getF t (Reg.CZ_STATUS n.val) Fld.CZ_STATUS_RATE = 0 ∧ getF t (Reg.CZ_STATUS n.val) Fld.CZ_STATUS_REVERSED = 0 ∧
    (∃ o node, t.out = o ++ [.block n.val (.reset node reason)]) ∧
    (t.link n.val).param = none ∧ (t.link n.val).laneOk = 0 ∧ (t.link n.val).eqPeer = [] ∧ (t.link n.val).eqDone = []

/-- R201, R203: the QUIET handshake on an ACTIVE link, the wake of a QUIET one, and RESUME, which the side that it reaches sends too before it is ACTIVE. -/
def Clauses.CalezQuiet : Prop :=
  ∀ (s : State) (n : Fin 32), up s = true →
    let d := s.modLink n.val (fun l => { l with discarding := false })
    (czActive s n.val = true →
      (quietOk s n.val = true → (s.link n.val).quietAsked = false → exec (.quietIdleExpiry n) s =
        .next (after (emit (s.modLink n.val (fun l => { l with quietAsked := true })) (.block n.val (.quiet 0))))) ∧
      ((s.link n.val).quietAsked = true →
        exec (.quietReqRx n) s = .next (after (enterQuiet d n.val)) ∧ exec (.quietAckRx n) s = .next (after (enterQuiet d n.val)) ∧
        exec (.quietRejectRx n) s = .next (after (czGo (s.modLink n.val (fun l => { l with discarding := false, quietAsked := false })) n.val)) ∧
        exec (.quietHandshakeTimeout n) s = .next (after (czGo (s.modLink n.val (fun l => { l with quietAsked := false })) n.val))) ∧
      ((s.link n.val).quietAsked = false → quietOk s n.val = true → quietIdle s n.val = true →
        exec (.quietReqRx n) s = .next (after (enterQuiet (emit d (.block n.val (.quiet 1))) n.val))) ∧
      ((s.link n.val).quietAsked = false → quietOk s n.val = false → exec (.quietReqRx n) s = .next (after (emit d (.block n.val (.quiet 2)))))) ∧
    (czState s n.val = 7 → exec (.quietWake n) s =
      .next (after (let w := (setF (portWake (pressAbandonPort s (czPort s n.val)) (czPort s n.val)) (Reg.CZ_STATUS n.val) Fld.CZ_STATUS_STATE 8).modLink n.val
                      (fun l => { l with resumed := false })
                    if tilePower s (n.val / 4) = 2 then emit w (.beacon n.val) else w))) ∧
    (∀ ack session, czState s n.val = 8 → session % 256 = getF s (Reg.CZ_PEER n.val) Fld.CZ_PEER_PEER_SESSION →
      let r := if (s.link n.val).resumed then d else emit (d.modLink n.val (fun l => { l with resumed := true }))
        (.block n.val (.resume (((s.link n.val).nextRx + 4095) % 4096) (getF s (Reg.CZ_STATUS n.val) Fld.CZ_STATUS_SESSION)))
      exec (.resumeRx n ack session) s = .next (after (czGo (czAckTo ((setF r (Reg.CZ_STATUS n.val) Fld.CZ_STATUS_STATE 6).modLink n.val
        (fun l => { l with lastValid := s.time, lastFrame := s.time, ackMoved := s.time })) n.val ack) n.val))) ∧
    (∀ ack session, czState s n.val = 8 → session % 256 ≠ getF s (Reg.CZ_PEER n.val) Fld.CZ_PEER_PEER_SESSION →
      exec (.resumeRx n ack session) s = .next (after (czDown d n.val 0x04)))

/-- R268, R269, R270: equalisation on a lane. A legal setting is applied and HOLD answers with the one in use; the follower answers a changed
setting of the leader with FOM; the leader goes on by a step of its search; a lane whose SNR lies below its criterion is excluded at DONE. -/
def Clauses.CalezEqualisation : Prop :=
  ∀ (s : State) (n : Fin 32) (lane arg snr : Nat), up s = true → czState s n.val = 4 → arg < 2 ^ 24 →
    let l := s.link n.val
    let block := fun op a => Out.block n.val (.train lane 4 (czPort s n.val) op a (nodeId s))
    (eqLegal arg = true → exec (.trainSetRx n lane arg) s = .next (after (emit (s.modLink n.val (fun l => { l with eqTx := aput l.eqTx lane arg }))
      (block 0 arg)))) ∧
    (eqLegal arg = false → exec (.trainSetRx n lane arg) s = .next (after (emit s (block 0 (ownTx s n.val lane))))) ∧
    (isSet s (Reg.CZ_STATUS n.val) Fld.CZ_STATUS_LEAD = true →
      exec (.trainHoldRx n lane arg snr) s = .next (after (eqLead (s.modLink n.val (fun l => { l with eqPeer := aput l.eqPeer lane arg })) n.val lane)) ∧
      exec (.trainFomRx n lane arg) s = .next (after (eqLead (s.modLink n.val (fun l => { l with eqFom := aput l.eqFom lane arg })) n.val lane))) ∧
    (aget l.eqPeer lane = some arg → isSet s (Reg.CZ_STATUS n.val) Fld.CZ_STATUS_LEAD = false → exec (.trainHoldRx n lane arg snr) s = .next (after s)) ∧
    (aget l.eqPeer lane ≠ some arg → isSet s (Reg.CZ_STATUS n.val) Fld.CZ_STATUS_LEAD = false → exec (.trainHoldRx n lane arg snr) s =
      .next (after (emit (s.modLink n.val (fun l => { l with eqPeer := aput l.eqPeer lane arg, eqCnt := aput l.eqCnt lane ((agetD l.eqCnt lane 0 + 1) % 256) }))
        (block 2 ((agetD l.eqCnt lane 0 + 1) % 256 * 65536 + min 0xFFFF snr))))) ∧
    (isSet s (Reg.CZ_STATUS n.val) Fld.CZ_STATUS_LEAD = false →
      exec (.trainFomRx n lane arg) s = .next (after (s.modLink n.val (fun l => { l with eqFom := aput l.eqFom lane arg })))) ∧
    (l.eqDone.contains lane = false → exec (.trainDoneRx n lane arg snr) s =
      .next (after (emit (s.modLink n.val (fun l => { l with
        eqPeer := aput l.eqPeer lane arg, eqDone := l.eqDone ++ [lane],
        laneOk := if snr < eqCrit s n.val then clearBit l.laneOk lane else l.laneOk })) (block 3 (ownTx s n.val lane)))))

/-- R192, R193, R196: training. RESET is left for DETECT where the link may train, LOCK for ALIGN with the lanes that passed it, and PARAM follows EQ; LOCK, ALIGN, EQ and PARAM begin again from RESET on a time-out or a loss
of signal; the partner's PARAM blocks are kept, and PARAM goes on from them. -/
def Clauses.CalezTraining : Prop :=
  ∀ (s : State) (n : Fin 32), up s = true →
    (∀ lanes node port, czState s n.val = 0 → czMayTrain s n.val = true → exec (.czTrainStateExit n ⟨lanes, node, port⟩) s =
      .next (after (setF (pressAbandonPort s (czPort s n.val)) (Reg.CZ_STATUS n.val) Fld.CZ_STATUS_STATE 1))) ∧
    (∀ lanes node port, czState s n.val = 1 → exec (.czTrainStateExit n ⟨lanes, node, port⟩) s = .next (after (detectDone s n.val lanes)) ∧
      exec (.czDetectRetry n lanes) s = .next (after (detectDone s n.val lanes))) ∧
    (∀ lanes node port, czState s n.val = 2 → (s.link n.val).atStart = false → getF s (Reg.CZ_STATUS n.val) Fld.CZ_STATUS_PASS = 0 →
      exec (.czTrainStateExit n ⟨lanes, node, port⟩) s =
        .next (after (lockDone s n.val ((s.link n.val).laneOk &&& lanes &&& (2 ^ czLanes s n.val - 1))))) ∧
    (∀ lanes node port, czState s n.val = 3 → exec (.czTrainStateExit n ⟨lanes, node, port⟩) s = .next (after (alignDone s n.val node port))) ∧
    (∀ lanes node port, czState s n.val = 4 → exec (.czTrainStateExit n ⟨lanes, node, port⟩) s = .next (after (eqDone s n.val lanes)) ∧
      (isSet s (Reg.CZ_STATUS n.val) Fld.CZ_STATUS_LEAD = false →
        eqDone s n.val lanes = enterParam (s.modLink n.val (fun l => { l with laneOk := l.laneOk &&& lanes })) n.val)) ∧
    (∀ lanes node port, czState s n.val = 8 → exec (.czTrainStateExit n ⟨lanes, node, port⟩) s = .next (after (emit (s.modLink n.val (fun l => { l with resumed := true }))
      (.block n.val (.resume (((s.link n.val).nextRx + 4095) % 4096) (getF s (Reg.CZ_STATUS n.val) Fld.CZ_STATUS_SESSION)))))) ∧
    (2 ≤ czState s n.val → czState s n.val ≤ 5 →
      (czState s n.val = 2 → (s.link n.val).atStart = true →
        exec (.czTrainStateTimeout n) s = .next (after (restartTraining (s.modLink n.val (fun l => { l with skipStart := true })) n.val))) ∧
      (czState s n.val ≠ 2 ∨ (s.link n.val).atStart = false → exec (.czTrainStateTimeout n) s = .next (after (restartTraining s n.val))) ∧
      exec (.czSignalLoss n) s = .next (after (restartTraining s n.val))) ∧
    (∀ p : Param, czState s n.val = 5 → (s.link n.val).ended = none →
      exec (.paramRx n p) s = .next (after (paramGo (s.modLink n.val (fun l => { l with param := some p })) n.val)))

/-- R196: the result of two offers is the same whichever side computes it. -/
def Obligations.ParamResultSymmetric : Prop :=
  ∀ (a b : Param) (width : Nat), paramResult a b width = paramResult b a width

/-- R196: the result is a width and a rate that both sides offer, on an aligned group of lanes that both found usable. -/
def Clauses.ParamResultOffered : Prop :=
  ∀ (a b : Param) (width c base rate : Nat), paramResult a b width = some (c, base, rate) →
    1 ≤ c ∧ c ≤ 3 ∧ a.widths.testBit (c - 1) = true ∧ b.widths.testBit (c - 1) = true ∧
    rate ≤ 1 ∧ a.rates.testBit rate = true ∧ b.rates.testBit rate = true ∧
    base % codeWidth c = 0 ∧ base + codeWidth c ≤ width ∧
    (∀ i, i < codeWidth c → a.laneOk.testBit (base + i) = true ∧ b.laneOk.testBit (base + i) = true)

/-- R183, R184: a frame that arrives on an ACTIVE link which is not discarding, by its CRC, its SESSION and its SEQ. -/
def Clauses.CalezFrameArrives : Prop :=
  ∀ (s : State) (n : Fin 32) (f : Frame), up s = true → czActive s n.val = true → (s.link n.val).discarding = false → f.cr0 = none → f.cr1 = none →
    exec (.frameRx n f false) s = .next (after (correctable ((bump s (Reg.CZ_CRC_ERR_CNT n.val)).modLink n.val
      (fun l => { l with discarding := true })) ⟨Uk.calez, n.val⟩ 0 1 0x0200)) ∧
    (f.session % 256 ≠ getF s (Reg.CZ_PEER n.val) Fld.CZ_PEER_PEER_SESSION → exec (.frameRx n f true) s =
      .next (after (s.modLink n.val (fun l => { l with discarding := true, lastValid := s.time })))) ∧
    (f.session % 256 = getF s (Reg.CZ_PEER n.val) Fld.CZ_PEER_PEER_SESSION →
      let t := czAckTo (s.modLink n.val (fun l => { l with lastValid := s.time, lastFrame := s.time })) n.val f.ack
      let d := (f.seq % 4096 + 4096 - (t.link n.val).nextRx) % 4096
      czActive t n.val = true →
        (d = 0 → exec (.frameRx n f true) s = .next (after (frameAccept t n.val f))) ∧
        (0 < d → d < 2048 → exec (.frameRx n f true) s = .next (after (czNak t n.val))) ∧
        (d = 2048 → exec (.frameRx n f true) s = .next (after (czDown t n.val 0x04))) ∧
        (2048 < d → exec (.frameRx n f true) s = .next (after (sendAck (bump t (Reg.CZ_DUP_CNT n.val)) n.val false))))

/-- R90, R142, R156, R157, R177, R178, R179, R190, R205: what takes an accepted frame from a link, by what the frame is: a TLP with its first segment, and with the last
segment its rest; the credits of a frame of VC7 go back as its row takes it, those of an ICP segment as it was accepted. -/
def Clauses.CalezFrameTaken : Prop :=
  ∀ (s : State) (n : Fin 32) (f : Frame) (r : List Frame), up s = true → (s.link n.val).rxq = f :: r →
    let t := s.modLink n.val (fun l => { l with rxq := r })
    let u := czReturn t n.val 7 0 4
    (∀ h x, f.body = .tlp h x → exec (.tlpFrameRx n) s = .next (after (fabricIngress t n.val h x f.vc (!f.last)))) ∧
    (∀ b, f.body = .part b → exec (.tlpFrameRx n) s = .next (after (restEnd t (czPort s n.val) (some f.vc) true))) ∧
    (f.abort = true → exec (.abortFrameRx n) s = .next (after (restEnd (let a := bump t (Reg.CZ_ABORT_CNT n.val)
      if f.type = 5 then a.modLink n.val (fun l => { l with icpPart := [] }) else a) (czPort s n.val) (some f.vc) false))) ∧
    (∀ e b, f.body = .test e b → exec (.testFrameRx n) s = .next (after (let c := comet t 0 (czPort s n.val) s.time (testHeld t n.val b) 0 false
      czReturn (if isSet c (Reg.CZ_CTRL n.val) Fld.CZ_CTRL_TEST_EN then bumpN c (Reg.CZ_TEST_ERR n.val) e else c) n.val 7 0 4))) ∧
    (∀ i es, f.body = .feedback i (nodeId s) es → exec (.feedbackRx n) s =
      .next (after (es.foldl (fun s e => fbApply s e.frc e.cn e.worst e.path e.ack e.ackValid) (bump u Reg.CC_FB_RX_CNT)))) ∧
    (∀ a es, f.body = .routeAdv a es → serving s = false → exec (.routeAdvRx n) s = .next (after (advReceive u (czPort u n.val) a es))) ∧
    (∀ x, f.body = .fer x → x.ack = false → x.toNode = nodeId s → exec (.ferRx n) s = .next (after (ferTake u x))) ∧
    (∀ x, f.body = .fer x → x.ack = true → x.toNode = nodeId s → exec (.ferAckRx n) s = .next (after (ferAckTake u x))) ∧
    (∀ p, f.body = .icp p → mode s = 4 → isTwinLink s n.val = true →
      (bitAt p 1 7 = true → exec (.icpFrameRx n) s = .next (after (twinReplyIn t p))) ∧
      (bitAt p 1 7 = false → exec (.icpFrameRx n) s = .next (after (icpArrive t (if bitAt p 9 6 then Ch.relay else Ch.twin) 0 p.length p)))) ∧
    (∀ x m, f.body = .resolve x → x.toNode = nodeId s → resolveLink u x = some m → exec (.resolveRx n) s = .next (after (endedResolve u m x.rxLast)))

/-- R190, R191: RESOLVE is sent at most as often as is left of its tries, and a session that nothing resolves is in doubt after RESOLVE_TO. -/
def Clauses.CalezResolve : Prop :=
  ∀ (s : State) (n : Fin 32), up s = true →
    (∀ pv, (s.link n.val).prev = some pv → 0 < pv.left → exec (.resolveSend n) s =
      .next (after (sendToNode (s.modLink n.val (fun l => { l with prev := some { pv with left := pv.left - 1 } })) pv.node
        (vc7Frame 6 16 (.resolve ⟨nodeId s, pv.node, czPort s n.val, pv.port, pv.session, pv.rxLast⟩))))) ∧
    exec (.resolveTimeout n) s = .next (after (endedDoubt s n.val))

/-- R98, R174: the time exchange: TIME_REQ with the next ID, the three answers, and what the asking side keeps of them. -/
def Clauses.TimeExchange : Prop :=
  ∀ (s : State) (n : Fin 32), up s = true → czActive s n.val = true →
    let d := s.modLink n.val (fun l => { l with discarding := false })
    (timeLink s = some n.val → exec .timeExchangeDue s = .next (after (emit { s with cong := { s.cong with
      timeId := (s.cong.timeId + 1) % 256, t1 := s.time, t2lo := none, t2hi := none } } (.block n.val (.timeReq ((s.cong.timeId + 1) % 256)))))) ∧
    (∀ id, id < 256 → exec (.timeReqRx n id) s = .next (after (emits d [.block n.val (.timeT2 id (s.time % 2 ^ 48)),
      .block n.val (.timeHi id (s.time / 2 ^ 48 % 65536)), .block n.val (.timeT3 id (s.time % 2 ^ 48))]))) ∧
    (∀ t2, t2 < 2 ^ 48 → s.cong.timeId < 256 → exec (.timeT2Rx n s.cong.timeId t2) s =
      .next (after { d with cong := { s.cong with t2lo := some t2 } })) ∧
    (∀ hi, hi < 65536 → s.cong.timeId < 256 → exec (.timeHiRx n s.cong.timeId hi) s = .next (after { d with cong := { s.cong with t2hi := some hi } })) ∧
    (∀ lo hi t3, s.cong.t2lo = some lo → s.cong.t2hi = some hi → s.cong.timeId < 256 →
      exec (.timeT3Rx n s.cong.timeId t3) s = .next (after (timeT3 s n.val s.cong.timeId t3)) ∧
      (let off : Int := ((hi * 2 ^ 48 + lo : Nat) - (s.cong.t1 : Int) - ((s.time : Int) - nearest48 (t3 % 2 ^ 48) (hi * 2 ^ 48 + lo))) / 2
       max 1 (getF s Reg.TIME_CTRL Fld.TIME_CTRL_STEP_TH) * 1600 < off.natAbs → (timeT3 s n.val s.cong.timeId t3).time = ((s.time : Int) + off).toNat))

/-! ## The switch core and the fabric -/

/-- R52, R65, R85: a TLP on a PCIe port with its link up enters the stages; the scheduler sends one eligible head, cells freed behind it; an empty port sends
nothing. -/
def Obligations.CoreTraffic : Prop :=
  ∀ (s : State) (p : Fin 64), up s = true →
    (∀ t a, isPcie s p.val = true → portUp s p.val = true → exec (.tlpIngress p t a) s = .next (after (ingress s p.val t a))) ∧
    (∀ v c h u, schedPick (countWaits s p.val) p.val = some (v, c, h, u) → h.recheck = false → h.bad = 0 →
      exec (.egressSchedule p) s = .next (after (let w := setVoq u p.val v c ((voq u p.val v c).drop 1)
        depart { w with core := { w.core with lastCls := aput w.core.lastCls (p.val * 8 + v) c } } p.val h (voqCells u p.val v c)))) ∧
    (schedPick (countWaits s p.val) p.val = none → exec (.egressSchedule p) s = .next (after (countWaits s p.val)))

/-- R65: VC7 is served before every other VC, and what is served is the head of its VOQ, eligible. -/
def Clauses.SchedulerPick : Prop :=
  ∀ (s u : State) (p v c : Nat) (h : Held), schedPick s p = some (v, c, h, u) →
    ((vcHead s p 7).isSome → v = 7) ∧ (voq s p v c).head? = some h ∧ eligible s p h = true

/-- R65: the classes of a VC take turns: after a class has been served, it is the last to be asked. -/
def Clauses.ClassRoundRobin : Prop :=
  ∀ last : Nat, last < 3 → ∃ a b, classOrder (some last) = [a, b, last] ∧ (classOrder (some last)).Perm [0, 1, 2]

/-- R79: a meter lets through no more than its buckets hold: the colour is green exactly when both buckets cover the TLP and its 32 bytes, yellow when only the
peak bucket does, and the buckets never exceed their bursts. -/
def Clauses.MeterColours : Prop :=
  ∀ (m m' : Meter) (now payload c : Nat), m.take now payload = (c, m') →
    let b := (payload + 32) * 16000
    let tc := min (m.cbs * 16000) (m.tc + m.cir * (now - m.at_))
    let tp := min (m.pbs * 16000) (m.tp + m.pir * (now - m.at_))
    (c = 2 ↔ tp < b) ∧ (c = 1 ↔ b ≤ tp ∧ tc < b) ∧ (c = 0 ↔ b ≤ tp ∧ b ≤ tc) ∧
    m'.tc ≤ m'.cbs * 16000 ∧ m'.tp ≤ m'.pbs * 16000 ∧ m'.at_ = now ∧ (c = 0 → m'.tc = tc - b ∧ m'.tp = tp - b) ∧ (c = 2 → m'.tc = tc ∧ m'.tp = tp)

/-- R84, R85, R86, R87, R88: the timers of flow-rate contexts, whose tokens are brought up to date before RATE changes. A period without a mark raises RATE by AI, by 4 × AI after the fourth time, up to RMAX; a spray counter that
time clears is counted; an idle context with nothing open is retired; the oldest feedback frame leaves. -/
def Clauses.FlowRateTimers : Prop :=
  ∀ (s : State) (i : Nat) (f : Frc), up s = true → aget s.cong.frcs i = some f →
    let put := fun g => { s with cong := { s.cong with frcs := aput s.cong.frcs i g } }
    let g := refill s f
    let ai := getF s (Reg.RED_PROF_B f.vc f.lastc) Fld.RED_PROF_B_AI
    (f.periodMarked = false → f.decreased = true → f.k < 4 → exec (.incPeriodEnd i) s =
      .next (after (put { g with periodMarked := false, rate := min f.rmax (f.rate + ai), k := f.k + 1 }))) ∧
    (f.periodMarked = false → f.decreased = true → 4 ≤ f.k → exec (.incPeriodEnd i) s =
      .next (after (put { g with periodMarked := false, rate := min f.rmax (f.rate + 4 * ai) }))) ∧
    (f.periodMarked = true → exec (.incPeriodEnd i) s = .next (after (put { g with periodMarked := false }))) ∧
    (∀ path, agetD f.spray path 0 ≠ 0 → exec (.sprayCounterTimeout i path) s =
      .next (after (bump (put { f with spray := adel f.spray path, sprayAt := aput f.sprayAt path s.time }) Reg.CC_FENCE_TO_CNT))) ∧
    (f.settled = true → f.queue = [] → exec (.frcRetire i) s = .next (after { s with cong := { s.cong with frcs := adel s.cong.frcs i } })) ∧
    (∀ e, s.cong.feedback = [e] → exec .feedbackHoldExpiry s = .next (after (fbSend s e.node))) ∧
    (∀ h q x, f.queue = h :: q → h.rest = false → h.fab = some x → x.destNode = nodeId s → portFault s h.outPort = none → 0 ≤ g.tokens → f.rate < f.rmax →
      exec (.pacingRelease i) s = .next (after (toVoq (put { g with queue := q, tokens := g.tokens - (h.tlp.payload + 32) * 1600, lastTlp := s.time }) h)))

/-- R85: tokens grow with RATE and the time that has passed, and never above PACE_BURST KiB unless they already stand there. -/
def Clauses.PacingTokensBounded : Prop :=
  ∀ (s : State) (f : Frc), let cap : Int := max 1 (getF s Reg.CC_CTRL Fld.CC_CTRL_PACE_BURST) * 1024 * 1600
    f.tokens ≤ cap → f.tokensAt ≤ s.time →
      (refill s f).tokens = min cap (f.tokens + f.rate * (s.time - f.tokensAt)) ∧ f.tokens ≤ (refill s f).tokens ∧ (refill s f).tokensAt = s.time

/-- R144, R149, R150: a move fence ends for its node alone; a context past its deadline ends, counted; a quarantined tag is free again. -/
def Clauses.ContextTimers : Prop :=
  ∀ s : State, up s = true →
    (∀ node : Fin 4096, exec (.moveFenceExpiry node) s = .next (after (moveEnd s node.val)) ∧
      aget (moveEnd s node.val).cong.moves node.val = none ∧ (∀ d, d ≠ node.val → aget (moveEnd s node.val).cong.moves d = aget s.cong.moves d)) ∧
    (∀ i c, aget s.fab.ctxs i = some c → c.deadline < timeUs s →
      (c.source = true → exec (.contextSweep i) s = .next (after (ctxKill (bump s Reg.CTO_CNT) i false))) ∧
      (c.source = false → exec (.contextSweep i) s = .next (after (ctxFree (unqueueCtx s i) i false)))) ∧
    (∀ i c, aget s.fab.ctxs i = some c → timeUs s ≤ c.deadline → exec (.contextSweep i) s = .next (after s)) ∧
    (∀ (p : Fin 64) tag, exec (.quarantineExpiry p tag) s = .next (after { s with fab := { s.fab with
      quarantine := adel s.fab.quarantine (p.val * 16384 + tag) } }))

/-- R149, R150: a context that ends is gone, its generation goes up by one modulo 16, and a remapped tag of a PCIe port that its completions did not free is
quarantined for QUAR_TIME, 0 acting as 1. -/
def Clauses.ContextEnds : Prop :=
  ∀ (s : State) (i : Nat) (c : CtxEnt) (byCpl : Bool), aget s.fab.ctxs i = some c →
    let t := ctxFree s i byCpl
    aget t.fab.ctxs i = none ∧ (∀ j, j ≠ i → aget t.fab.ctxs j = aget s.fab.ctxs j) ∧ agetD t.fab.gens i 0 = (c.gen + 1) % 16 ∧
    (∀ tag, c.outTag = some tag → byCpl = false → c.outCalez = false → aget t.fab.quarantine (c.outPort * 16384 + tag) =
      some (s.time + 16000000 * max 1 (getF s (Reg.CTX_PORT_CFG c.outPort) Fld.CTX_PORT_CFG_QUAR_TIME))) ∧
    (byCpl = true → t.fab.quarantine = s.fab.quarantine) ∧ t.regs = s.regs ∧ t.mem = s.mem ∧ t.core = s.core ∧ t.out = s.out

/-- R147, R150: a tag that is given out lies in the pool of its port, no open context of the port holds it, and it is not in quarantine. -/
def Clauses.FreeTagUnused : Prop :=
  ∀ (s : State) (p tag : Nat), freeTag s p = some tag →
    tag < tagPool s p ∧ aget s.fab.quarantine (p * 16384 + tag) = none ∧
    ∀ e ∈ s.fab.ctxs, e.2.outPort = p → e.2.outCalez = false → e.2.outTag ≠ some tag

/-- R161, R162, R164: the epoch rows. A change that waited is made; SYNC_LIMIT flags the requests of the oldest epoch that is left; EPOCH_SYNC replies once everything
older than its target has left or been flagged. -/
def Clauses.EpochCommands : Prop :=
  ∀ s : State, up s = true →
    (∀ c, s.fab.waiting = [c] → exec .epochSlotDrained s = .next (after (ruleApply { s with fab := { s.fab with waiting := [] } } c))) ∧
    (∀ e, (((queuedHeld s).filter (fun h => h.flaggable && !h.uncounted && decide (stampOf s h < epoch s))).map (stampOf s)).min? = some e →
      exec .syncLimitExpiry s = .next (after (flagRecheck s (fun h => !h.uncounted && stampOf s h == e)))) ∧
    (∀ w, s.fab.syncs = [w] → synced s w.target = true → w.both = false → exec .epochSyncComplete s =
      .next (after (reply { s with fab := { s.fab with syncs := [] } } w.req St.ok
        (natLe 4 (epoch s) ++ natLe 4 (min 0xFFFFFFFF (s.fab.flagged - w.from_ + w.twinFlagged))))))

/-- R161: a rule change is made at once only where no change waits before it and the slot that its epoch reuses is empty; otherwise it waits in its turn. -/
def Clauses.RuleChangesInOrder : Prop :=
  ∀ (s : State) (c : RuleChange),
    (s.fab.waiting = [] → epochCount s ((epoch s + 1) % 4) = 0 → ruleChange s c = ruleApply s c) ∧
    (s.fab.waiting ≠ [] ∨ epochCount s ((epoch s + 1) % 4) ≠ 0 → ruleChange s c = { s with fab := { s.fab with waiting := s.fab.waiting ++ [c] } })

/-- R155, R156: Fabric Error Reports: one unacknowledged frame towards a node at a time, sent again at most three times, then lost, counted and a fault, and the next
frame leaves if it is due. -/
def Clauses.FerTimers : Prop :=
  ∀ (s : State) (node : Fin 4096), up s = true →
    ((ferFor s node.val) ≠ [] → (∃ x ∈ s.fab.ferSent, x.node = node.val) → exec (.ferHoldExpiry node) s = .next (after s)) ∧
    ((∀ x ∈ s.fab.ferSent, x.node ≠ node.val) → exec (.ferHoldExpiry node) s = .next (after (ferSend s node.val))) ∧
    (∀ x, s.fab.ferSent = [x] → x.node = node.val →
      (x.resends < 3 → exec (.ferRetryExpiry node) s =
        .next (after (ferEmit { s with fab := { s.fab with ferSent := [{ x with resends := x.resends + 1 }] } } node.val x.seq x.entries))) ∧
      (3 ≤ x.resends → exec (.ferRetryExpiry node) s =
        .next (after (let t := detect (bump { s with fab := { s.fab with ferSent := [] } } Reg.FER_LOST_CNT) 0x0213 .contained Uk.fabric 0 node.val
                      if ferDue t node.val then ferSend t node.val else t))))

/-! ## PCIe ports, host hierarchies, slots, energy and sideband -/

/-- R265, R286, R287, R305, R306: a PCIe link comes up, changes, moves and goes down: into Detect, L2/L3 Ready, Disabled, Hot Reset or Loopback; in no other state has
it left L0 for good. -/
def Clauses.PcieLinkCommands : Prop :=
  ∀ (s : State) (p : Fin 64), up s = true → isPcie s p.val = true →
    (∀ rate width flit reversed partner, mayTrain s p.val = true → 1 ≤ ltssm s p.val → ltssm s p.val ≤ 5 → isSet s (Reg.PORT_STATUS p.val) Fld.PORT_STATUS_DL_ACTIVE = false →
      exec (.pcieDlUp p rate width flit reversed partner) s = .next (after (pcieUp s p.val rate.val width flit reversed partner.val))) ∧
    (∀ lt : Fin 11, lt.val ≠ 1 → lt.val < 7 → exec (.pcieLinkDown p lt) s = .next (after s)) ∧
    (∀ lt : Fin 11, lt.val = 1 ∨ 7 ≤ lt.val → upVsw s p.val = none → servesComposed s p.val = false →
      exec (.pcieLinkDown p lt) s = .next (after (linkLost s p.val lt.val 0x0C))) ∧
    ((s.port p.val).hostOff = true → exec (.surpriseDown p) s = .next (after (pcieDown s p.val Lt.detect))) ∧
    (∀ v, (s.port p.val).hostOff = false → upVsw s p.val = some v → exec (.surpriseDown p) s =
      .next (after (pcieDown (clearPortCoef (detect (portEvent s p.val Ev.surpriseDown) 0x0202 .contained Uk.port p.val (ltssm s p.val)) p.val)
        p.val Lt.detect))) ∧
    (portFn s p.val = none → upVsw s p.val = none → directBridge s p.val = none →
      exec (.linkFatalError p .receiverOverflow) s = .next (after (trainFromDetect (pcieDown (detect s 0x0201 .contained Uk.port p.val 17) p.val Lt.detect) p.val)) ∧
      exec (.linkFatalError p .flowControl) s = .next (after (trainFromDetect (pcieDown (detect s 0x0201 .contained Uk.port p.val 13) p.val Lt.detect) p.val)) ∧
      exec (.linkFatalError p .dataLink) s = .next (after (trainFromDetect (pcieDown (detect s 0x0201 .contained Uk.port p.val 4) p.val Lt.detect) p.val))) ∧
    (∀ (rate : Fin 6) width, isSet s (Reg.PORT_STATUS p.val) Fld.PORT_STATUS_DL_ACTIVE = true →
      exec (.pcieRateChange p rate width) s = .next (after (rateChange s p.val rate.val width))) ∧
    (∀ lt : Fin 11, 1 ≤ lt.val → lt.val ≤ 5 → 1 ≤ ltssm s p.val → ltssm s p.val ≤ 5 → isSet s (Reg.PORT_STATUS p.val) Fld.PORT_STATUS_DL_ACTIVE = false →
      exec (.ltssmStateChange p lt) s = .next (after (setF (pressAbandonPort s p.val) (Reg.PORT_STATUS p.val) Fld.PORT_STATUS_LTSSM lt.val))) ∧
    (portUp s p.val = true → exec (.replayTimerTimeout p) s = .next (after (pcieReplay (linkCorrectable s p.val 12) p.val)))

/-- R283, R290, R291, R297, R299: data link layer packets and L1. Initial credits of 0 stand for no limit; credits granted add to the limit. -/
def Clauses.PcieDllpsAndL1 : Prop :=
  ∀ (s : State) (p : Fin 64), up s = true → isPcie s p.val = true →
    (∀ seq, exec (.dllpRx p (.ack seq)) s = .next (after (ackTo s p.val seq))) ∧
    (∀ seq, exec (.dllpRx p (.nak seq)) s = .next (after (pcieReplay (ackTo s p.val seq) p.val))) ∧
    (∀ sc, exec (.dllpRx p (.feature sc)) s =
      .next (after (s.modPort p.val (fun x => { x with scaled := sc || isSet s (Reg.PORT_STATUS p.val) Fld.PORT_STATUS_FLIT })))) ∧
    (l1Allowed s p.val = true → ltssm s p.val = Lt.l0 → voqsEmpty s p.val = true →
      ((upVsw s p.val).isSome → exec (.pcieL1Request p) s = .next (after (emit s (.dllp p.val .pmEnterL1)))) ∧
      ((upVsw s p.val).isNone → exec (.dllpRx p .pmEnterL1) s = .next (after (enterL1 (emit s (.dllp p.val .pmRequestAck)) p.val)))) ∧
    (l1Allowed s p.val = false → ltssm s p.val = Lt.l0 → upVsw s p.val = none → exec (.dllpRx p .pmEnterL1) s = .next (after (emit s (.message p.val 0x14 0)))) ∧
    (isSet s (Reg.PORT_PM p.val) Fld.PORT_PM_L1_ALLOW = true → ltssm s p.val = Lt.l0 → voqsEmpty s p.val = true → upVsw s p.val = none →
      exec (.dllpRx p .pmEnterPciL1) s = .next (after (enterL1 (emit s (.dllp p.val .pmRequestAck)) p.val))) ∧
    (ltssm s p.val = Lt.l0 → (upVsw s p.val).isSome → exec (.dllpRx p .pmRequestAck) s = .next (after (enterL1 s p.val))) ∧
    (∀ c hdr data hs ds, exec (.dllpRx p (.initFc c hdr data hs ds)) s = .next (after (s.modPort p.val (fun x =>
      { x with fcLimit := aput x.fcLimit c.code (if hdr = 0 then 2 ^ 32 else hdr, if data = 0 then 2 ^ 32 else data) })))) ∧
    (∀ vc c hdr data lim, aget (s.port p.val).fcLimit c.code = some lim → exec (.dllpRx p (.updateFc vc c hdr data)) s =
      .next (after (s.modPort p.val (fun x => { x with fcLimit := aput x.fcLimit c.code (lim.1 + hdr, lim.2 + data) })))) ∧
    (l1Allowed s p.val = false → exec (.pcieL1Request p) s = .next (after s)) ∧
    (ltssm s p.val = Lt.l1 →
      let t := portWake (setF (setF (pressAbandonPort (clkreqDrive s p.val true) p.val) (Reg.PORT_STATUS p.val) Fld.PORT_STATUS_LTSSM 5) (Reg.PORT_STATUS p.val) Fld.PORT_STATUS_L1_SUB 0) p.val
      exec (.pcieL1Exit p) s = .next (after t)) ∧
    (2 ≤ getF s (Reg.PORT_STATUS p.val) Fld.PORT_STATUS_L1_SUB → exec (.clkreqSample p false) s =
      .next (after (s.modPort p.val (fun x => { x with clkreqIn := false }))))

/-- R290: the frames that an ACK covers leave the replay store, the others stay in their order, and the replay number starts anew when one has left. -/
def Obligations.PcieAckClearsReplayStore : Prop :=
  ∀ (s : State) (p seq : Nat), let x := s.port p
    let y := (ackTo s p seq).port p
    y.unacked = x.unacked.filter (fun u => !decide ((seq + 4096 - u.1) % 4096 < 2048)) ∧
    (y.unacked.length < x.unacked.length → y.replayNum = 0) ∧ (y.unacked.length = x.unacked.length → y = x) ∧
    (∀ q, q ≠ p → (ackTo s p seq).port q = s.port q) ∧ (ackTo s p seq).regs = s.regs ∧ (ackTo s p seq).mem = s.mem

/-- R100, R121, R123, R295, R296, R300, R301: messages from above and below, and PTM. A PTM Request is answered with the host time of the vSwitch to which its requester
belongs; the upstream port sends INTx for the OR of what its bridges carry, each wire swizzled by function and bridge; an error message that DPC Trigger Enable takes
triggers DPC in place of the message. -/
def Clauses.PcieMessages : Prop :=
  ∀ (s : State) (p : Fin 64) (v : Fin 32), up s = true →
    (∀ offset, upVsw s p.val = some v.val → (agetD (s.func v.val fnUp).other 178 0).testBit 0 = true → isSet s (Reg.PORT_STATUS p.val) Fld.PORT_STATUS_DL_ACTIVE = true →
      exec (.ptmDialogue p offset) s = .next (after (setF (wr s (Reg.HOST_TIME_OFS v.val) offset) (Reg.PORT_PTM p.val) Fld.PORT_PTM_VALID 1))) ∧
    (∀ rid w o i, upVsw s p.val = none → resolve s p.val rid = some (w, o, i) → portUp s p.val = true → exec (.ptmRequestRx ⟨p, rid⟩) s =
      .next (after (emit s (.message p.val 0x53 ((s.time + (rd s (Reg.HOST_TIME_OFS w)).toNat) % 2 ^ 64))))) ∧
    (portsBelow s v.val = [] → exec (.pmeTurnOffRx v) s = .next (after (linkLost (emit (s.modPort (upPort s v.val) (fun x => { x with pmeOff := [] }))
      (.message (upPort s v.val) 0x1B 0)) (upPort s v.val) Lt.l23 0x0C))) ∧
    (∀ t, (s.port p.val).pmeWait = some t → vswsOfPort s p.val = [v.val] →
      exec (.pmeToAckRx p) s = .next (after (pmeCollected (linkLost (s.modPort p.val (fun x => { x with pmeWait := none })) p.val Lt.l23 0x0C) v.val)) ∧
      exec (.pmeToAckTimeout p) s = .next (after (pmeCollected (s.modPort p.val (fun x => { x with pmeWait := none })) v.val))) ∧
    (∀ snoop nosnoop, isPcie s p.val = true → upVsw s p.val = none → snoop < 65536 → nosnoop < 65536 → vswsOfPort s p.val = [] →
      exec (.ltrRx p snoop nosnoop) s = .next (after (wr (s.modPort p.val (fun x => { x with ltrSeen := true })) (Reg.PORT_LTR p.val)
        (BitVec.ofNat 64 (nosnoop * 65536 + snoop))))) ∧
    (∀ rid pin on k, directBridge s p.val = some (v.val, k) → pin < 4 →
      let t := intxSet s v.val k (intxWith (s.func v.val (fnBridge k)) (rid % 256) pin on)
      exec (.intxMessageRx p rid pin on) s = .next (after t) ∧
      (on = true → (∀ j ∈ bridges s v.val, (s.func v.val (fnBridge j)).intx = 0) → k ∈ bridges s v.val → portUp s (upPort s v.val) = true → t.out = s.out ++
        [.message (upPort s v.val) (0x20 + (pin + rid % 256 / 8 + bridgeDevfn k / 8) % 4) (hostId s v.val fnUp)])) ∧
    (∀ rid k, directBridge s p.val = some (v.val, k) →
      let en := (s.func v.val (fnBridge k)).dpcEn
      exec (.errorMessageRx p rid 0) s = .next (after (emit s (.message (upPort s v.val) 0x30 rid))) ∧
      (en ≠ 2 → exec (.errorMessageRx p rid 1) s = .next (after (emit s (.message (upPort s v.val) 0x31 rid)))) ∧
      (en = 2 → exec (.errorMessageRx p rid 1) s = .next (after (dpcDirect s v.val k 1))) ∧
      (en = 0 → exec (.errorMessageRx p rid 2) s = .next (after (emit s (.message (upPort s v.val) 0x33 rid)))) ∧
      (en = 1 ∨ en = 2 → exec (.errorMessageRx p rid 2) s = .next (after (dpcDirect s v.val k 2))))

/-- R103, R119, R124, R125, R244, R254, R285, R303, R307, R324: what a host writes at the functions of its vSwitch. -/
def Clauses.HostWrites : Prop :=
  ∀ (s : State) (v : Fin 32) (k : Nat), up s = true → k < 63 → vswOn s v.val = true → portUp s (upPort s v.val) = true → isDirect s v.val k = true →
    (∀ fn, fn ∈ [fnUp, fnMgmt, fnMover, fnBridge k] → fnExists s v.val fn = true) →
    (∀ r, exec (.configRequest v r) s = .next (after (ingress s (upPort s v.val) (cfgTlp r) .whole))) ∧
    (∀ acs vec, exec (.acsControlWrite v k acs vec) s = .next (after (acsChange s v.val (fnBridge k) acs vec))) ∧
    ((s.func v.val (fnBridge k)).command.testBit 2 = true → exec (.bmeClear v (fnBridge k)) s =
      .next (after (s.modFunc v.val (fnBridge k) (fun f => { f with command := clearBit f.command 2 })))) ∧
    ((s.func v.val fnMover).d3hot = false → exec (.moverPfD3hot v) s =
      .next (after (mvBmeClear (s.modFunc v.val fnMover (fun f => { f with d3hot := true })) v.val))) ∧
    (∀ rid j e, (bridges s v.val).find? (fun k => isComposed s v.val k && (s.func v.val (fnBridge k)).secBus == rid / 256 % 256 && rid / 256 % 256 != 0) = some j →
      devfnHit s v.val j (rid % 256) = some e → guarded s e = false → exec (.flrEndpoint v rid) s = .next (after (emit s (.flr e.port e.devRid)))) ∧
    exec (.flrMoverPf v) s = .next (after (flrOwn s v.val fnMover)) ∧ exec (.flrMgmtFunction v) s = .next (after (flrOwn s v.val fnMgmt)) ∧
    exec (.secondaryBusReset v k) s = .next (after (secondaryReset s v.val k)) ∧
    ((s.func v.val (fnBridge k)).dpcTrig = true → exec (.dpcTriggerStatusClear v k) s = .next (after (dpcClear s v.val k))) ∧
    ((s.func v.val (fnBridge k)).linkDisabled = false → exec (.linkDisableWrite v k true) s = .next (after (portDisabled
      (s.modFunc v.val (fnBridge k) (fun f => { f with linkDisabled := true })) (bridgePort s v.val k) 0x06 false))) ∧
    (∀ speed, exec (.retrainLinkWrite v k speed) s = .next (after (retrainFn (targetSpeed s v.val (fnBridge k) speed) v.val (fnBridge k)))) ∧
    exec (.slotPowerOnRequest v k) s = .next (after (slotControl s v.val k 1 none)) ∧
    exec (.slotPowerOffRequest v k) s = .next (after (slotControl s v.val k 2 none)) ∧
    (∀ attn power : Fin 4, exec (.slotIndicatorWrite v k attn power) s = .next (after (slotControl s v.val k 0 (some (attn.val, power.val))))) ∧
    ((s.func v.val fnMover).ats = 0 → ∀ enables, enables < 8 → exec (.priAtsDisable v enables) s =
      .next (after (s.modFunc v.val fnMover (fun f => { f with ats := enables }))))

/-- R103, R109, R127: a configuration request of a host to a function of its vSwitch passes the stages to that function, which answers it: while the vSwitch is
not ready with Configuration Request Retry Status, a read with the register, a write, once carried out, with success. -/
def Clauses.ConfigurationRequests : Prop :=
  ∀ (s : State) (v : Nat) (h : Held) (r : CfgReq),
    (isCfg h.tlp = true → (cfgOf h.tlp).type1 = false → (cfgOf h.tlp).dev = 0 → (cfgOf h.tlp).fn < 3 → fnExists s v (cfgOf h.tlp).fn = true →
      refuses s v = false → ctxLacks s { h with org := some .host } = false →
      request s v .host h = deliverFn s { h with org := some .host } (.cfg v (cfgOf h.tlp))) ∧
    (vswReady s v = false → localDo s (.cfg v r h) = answerOwn s v h { cplTlp h.ridIn h.tagIn (hostId s v fnUp) 2 [] with len := 4 }) ∧
    (vswReady s v = true → r.type1 = false →
      (r.write = false → localDo s (.cfg v r h) = answerOwn s v h { cplTlp h.ridIn h.tagIn (hostId s v r.fn) 0 (natLe 4 (cfgRead s v r.fn r.reg)) with len := 4 }) ∧
      (r.write = true → let w := cfgWrite s v r.fn r.reg r.be r.data
        localDo s (.cfg v r h) = answerOwn w v h { cplTlp h.ridIn h.tagIn (hostId w v r.fn) 0 [] with len := 4 }))

/-- R304, R305, R392, R460, R464, R466: the inputs of a slot, and the rows of the sideband buses. -/
def Clauses.SlotCommands : Prop :=
  ∀ (s : State) (p : Fin 64), up s = true →
    (isSet s (Reg.PORT_STATUS p.val) Fld.PORT_STATUS_PRESENT = false → exec (.presenceChange p true) s = .next (after (slotStatus
      (portEvent (clearPortCoef (setF s (Reg.PORT_STATUS p.val) Fld.PORT_STATUS_PRESENT 1) p.val) p.val Ev.presence) p.val Sl.presence))) ∧
    (slotPowered (slotStatus (portEvent s p.val Ev.mrl) p.val Sl.mrl) p.val = false → exec (.mrlOpen p) s =
      .next (after (slotStatus (portEvent s p.val Ev.mrl) p.val Sl.mrl))) ∧
    (let t := slotStatus (portEvent (clearPortCoef (perstWrite s p.val true) p.val) p.val Ev.powerFault) p.val Sl.powerFault
     slotPowered t p.val = true → exec (.powerFaultAssert p) s = .next (after (egvCut t (egvSlot t p.val) 9 true))) ∧
    (egvState s (egvSlot s p.val) = 1 → exec (.powerGood p) s = .next (after (powerGoods s p.val))) ∧
    exec (.attentionButtonPress p) s = .next (after (slotStatus (portEvent s p.val Ev.attnButton) p.val Sl.attn)) ∧
    exec (.wakeAssert p) s = .next (after (wakes s p.val)) ∧
    (∀ t, (s.port p.val).perstDue = some t → exec (.perstDelayExpiry p) s =
      .next (after (perstRelease (s.modPort p.val (fun x => { x with perstDue := none })) p.val)))

/-- R391, R392, R466: the Energy Governor and polling: a reading over its limit and a ramp that takes too long cut the slot's power. -/
def Clauses.EnergyAndPolling : Prop :=
  ∀ (s : State) (n : Fin 32), up s = true →
    exec .egvAdmission s = .next (after (egvAdmitQueued 64 { s with egv := { s.egv with charges := s.egv.charges.filter (fun c => s.time < c.2.2 + ms 100) } })) ∧
    exec .egvWindowExpiry s = .next (after (egvReview { s with egv := { s.egv with charges := s.egv.charges.drop 1 } })) ∧
    (∀ mj r, s.egv.ramps.find? (fun r => r.1 == n.val) = some r → isSet s (Reg.EGV_SLOT_CFG n.val) Fld.EGV_SLOT_CFG_ACC_EN = true →
      let t := setF s (Reg.EGV_SLOT_STATUS n.val) Fld.EGV_SLOT_STATUS_LAST_INRUSH (min mj 65535)
      (mj ≤ r.2.2.1 → exec (.egvAccumulatorRead n mj) s = .next (after t)) ∧
      (r.2.2.1 < mj → exec (.egvAccumulatorRead n mj) s = .next (after (egvCut t n.val 7 true)))) ∧
    (egvState s n.val = 1 → exec (.egvRampTimeout n) s = .next (after (egvCut s n.val 8 true))) ∧
    (∀ i : Fin 256, pollServed s i.val = true → agetD s.sb.fails i.val 0 < 2 → exec (.pollSample i none) s =
      .next (after { s with sb := { s.sb with fails := aput s.sb.fails i.val (agetD s.sb.fails i.val 0 + 1) } })) ∧
    (∀ (i : Fin 256) v, exec (.pollSample i (some v)) s = .next (after (pollSample s i.val (some v.toNat))))

/-- R460, R462, R463, R464, R472: the sideband bridge. -/
def Obligations.SidebandCommands : Prop :=
  ∀ (s : State) (b : Fin 4), up s = true →
    (∀ r, exec (.sbTransferDone b r) s = .next (after (sbFinish s b.val r))) ∧
    exec (.sbBusEnable b true) s = .next (after (let t := setF s Reg.SB_CTRL Fld.SB_CTRL_BUS_EN (setBit (getF s Reg.SB_CTRL Fld.SB_CTRL_BUS_EN) b.val)
      { t with sb := { s.sb with legacyBus := if s.sb.legacyBus.contains b.val then s.sb.legacyBus else s.sb.legacyBus ++ [b.val] } })) ∧
    (∀ sda, busOn s b.val = true → busFenced s b.val = false → s.sb.retried.contains b.val = true → exec (.sbBusStuck b sda) s =
      .next (after (emit (detect s 0x0800 .contained Uk.bus b.val (b2n sda)) (.busClear b.val)))) ∧
    (∀ x q, sbQ s b.val = x :: q → x.legacy = true → exec (.sbSclStretchTimeout b) s = .next (after (sbFinish s b.val (.failed 0x03)))) ∧
    (busOn s b.val = true → busFenced s b.val = false → exec (.inBandInterruptRequest b) s = .next (after (emit s (.ibiNack b.val)))) ∧
    (∀ a : Access, inWindow a.offset = true → a.space = .crs → (∀ value : Byte, exec (.sbWindowWrite a value) s = .next (after (accessWrite s a (value.setWidth 64)))) ∧
      exec (.sbWindowRead a) s = .next (after (accessRead s a))) ∧
    (∀ a : Access, inBridge a.offset = true → a.space = .crs → exec (.sbLockedAccess a) s = .next (after (accessRead s { a with locked := true })))

/-! ## The twin pair -/

/-- R215, R216: the heartbeat toggles while HB_RUN is set, whatever else runs; the partner's is lost, alive again, and a fault after 16 µs on a live link. -/
def Clauses.TwinHeartbeat : Prop :=
  ∀ s : State,
    (s.pwr.hbRun = true → exec .twinHbToggle s = .next (after { s with
      pwr := { s.pwr with hbOut := !s.pwr.hbOut }, out := s.out ++ [.heartbeat (!s.pwr.hbOut)] })) ∧
    (up s = true → mode s = 4 →
      (twinState s ≠ 4 → exec .twinHbLost s = .next (after (setF s Reg.TWIN_STATUS Fld.TWIN_STATUS_HB_ALIVE 0))) ∧
      exec .twinHbAlive s = .next (after (setF (setF s Reg.TWIN_STATUS Fld.TWIN_STATUS_HB_ALIVE 1) Reg.TWIN_STATUS Fld.TWIN_STATUS_HB_FAULT 0)) ∧
      (hbLost s = true → twinLive s = true → isSet s Reg.TWIN_STATUS Fld.TWIN_STATUS_HB_FAULT = false → exec .hbFaultSet s =
        .next (after (detect (twinEvent (setF s Reg.TWIN_STATUS Fld.TWIN_STATUS_HB_FAULT 1) 5) 0x0401 .contained Uk.twin 0 0))))

/-- R218, R227, R228, R229, R231: the pair's state follows its link and its timers. -/
def Clauses.TwinPairStates : Prop :=
  ∀ s : State, up s = true → mode s = 4 →
    (twinLive s = false → twinState (sessionEnd s) = 2 →
      (autoTakeover (sessionEnd s) = true → exec .twinLinkDown s = .next (after (takeover (sessionEnd s) 1))) ∧
      (autoTakeover (sessionEnd s) = false → exec .twinLinkDown s = .next (after (enterState (sessionEnd s) 4 2)))) ∧
    (twinLive s = true → s.twin.helloDone = false → exec .twinLinkActive s =
      .next (after (twinSend { s with twin := { s.twin with txAlive := 0, rxRep := 0, relayTx := 0 } } 0x0710 (helloPayload s)))) ∧
    (twinState s = 1 → s.twin.joinFromSplit = false → twinLive s = false → hbLost s = false →
      exec .joinWaitExpiry s = .next (after (joinDone (enterState s 4 6)))) ∧
    (∀ r, s.twin.resync = some r → r.sentAll = true → r.gotEnd = true → twinState (resyncOff s) = 1 → (resyncOff s).twin.partnerState ≠ 3 →
      exec .resyncEnd s = .next (after (joinDone (enterState (resyncOff s) 2 9)))) ∧
    (∀ d, s.twin.handbackDue = some d → twinState s = 3 → exec .handbackGraceEnd s =
      .next (after (twinEvent (enterState (clearTaken (epochNow { s with twin := { s.twin with handbackDue := none } }) (partner s)) 2 8) 3))) ∧
    (∀ a, s.twin.leftAt = some a → exec .handoverDrainEnd s = .next (after (heartbeatStop { s with twin := { s.twin with leftAt := none } })))

/-- R211, R212: time-outs of a transaction between the twins: a vote that does not come aborts it, a commit reply that does not come leaves it to T_QUERY, and a
staged transaction without T_COMMIT is discarded. -/
def Clauses.TwinTimeouts : Prop :=
  ∀ (s : State) (c : CoordTxn), up s = true →
    (s.twin.coord = some c → c.step = .vote →
      exec .twinReplyTimeout s = .next (after (txnFail (sendCommit (bump s Reg.TWIN_TO_CNT) c.txn true) St.timeout 0))) ∧
    (s.twin.coord = some c → c.step = .settling → exec .twinReplyTimeout s = .next (after s)) ∧
    (s.twin.coord = some c → c.step = .settling → twinLive s = true → exec .tQueryTimer s = .next (after (twinSend s 0x0713 (natLe 4 c.txn)))) ∧
    (s.twin.staged.isSome → exec .twinStagedDiscard s = .next (after (setFate { s with twin := { s.twin with staged := none } } 3)))

/-- R165, R211, R212, R228, R229: the partner's answers, each taken once: a vote of OK on a transaction that was not beaten commits it, anything else aborts it. -/
def Clauses.TwinReplies : Prop :=
  ∀ (s t : State) (v : TwinReply), up s = true →
    (∀ c, takeTwinReply s 0x0711 = some (v, t) → t.twin.coord = some c → c.step = .vote → num v.payload 0 4 = c.txn →
      (v.status = St.ok → c.beaten = false → c.kind ≠ 3 → exec .tPrepareReply s =
        .next (after (sendCommit { t with twin := { t.twin with coord := some { c with step := .commit, deadline := t.time + ms 1 } } } c.txn false))) ∧
      (v.status = St.busy → exec .tPrepareReply s =
        .next (after (txnFail (sendCommit (bump t Reg.TWIN_REFUSE_CNT) c.txn true) St.busy (num v.payload 4 2))))) ∧
    (∀ c, takeTwinReply s 0x0712 = some (v, t) → t.twin.coord = some c → c.step = .commit → num v.payload 0 4 = c.txn →
      (v.status = St.ok → exec .tCommitReply s = .next (after (txnApply t c c.req))) ∧
      (v.status ≠ St.ok → exec .tCommitReply s = .next (after (txnFail t St.twinDisagree 0)))) ∧
    (∀ c, takeTwinReply s 0x0713 = some (v, t) → t.twin.coord = some c → c.step = .settling → num v.payload 0 4 = c.txn → v.status = St.ok →
      bitAt v.payload 4 0 = true → twinState (twinEvent (txnApply t c none) 6) ≠ 1 → exec .tQueryReply s = .next (after (twinEvent (txnApply t c none) 6))) ∧
    (takeTwinReply s 0x0710 = some (v, t) → v.status = St.ok → twinState t ≠ 4 → t.twin.coord = none → exec .tHelloReply s =
      .next (after (startResync { t with twin := { t.twin with helloDone := true, partnerState := num v.payload 0 1 } }))) ∧
    (∀ at_, takeTwinReply s 0x0715 = some (v, t) → t.twin.handover = some (1, none, at_) → v.status ≠ St.ok → exec .tHandoverReply s =
      .next (after { t with twin := { t.twin with handover := none, handbackBlocked := true } })) ∧
    (∀ at_, takeTwinReply s 0x0715 = some (v, t) → t.twin.handover = some (1, none, at_) → v.status = St.ok → exec .tHandoverReply s =
      .next (after { t with twin := { t.twin with
        handover := none, handbackDue := some (t.time + us 100 + 2 * us (max 10 (min 10000 (getF t Reg.SPRAY_FENCE_TO Fld.SPRAY_FENCE_TO_TIMEOUT)))) } })) ∧
    (∀ r, takeTwinReply s 0x0714 = some (v, t) → t.twin.resync = some r → v.status = St.ok → r.toSend = [] → exec .tSyncReply s =
      .next (after { t with twin := { t.twin with resync := some { r with sentAll := true } } })) ∧
    (∀ w, takeTwinReply s 0x0208 = some (v, t) → t.fab.syncs = [w] → w.both = true → w.twinDone = false → v.status = St.ok → exec .epochSyncTwinReply s =
      .next (after { t with fab := { t.fab with syncs := [{ w with twinDone := true, twinFlagged := num v.payload 4 4 }] } }))

/-- R327: the reply of a relayed packet leaves on the channel that the packet came by; a relay without a reply is answered TIMEOUT. -/
def Clauses.RelayReplies : Prop :=
  ∀ (s : State) (x : Relay), up s = true →
    (∀ v, s.icp.twinReplies = [v] → v.relayed = true → s.icp.relays = [x] → x.req.opcode = v.opcode → x.req.seq = v.seq → v.status ≠ St.accepted →
      exec .relayReplyRx s = .next (after (sendReply { s with icp := { s.icp with twinReplies := [], relays := [] } } x.req v.status v.payload))) ∧
    (∀ rest, s.icp.relays = x :: rest → exec .relayTimeout s =
      .next (after (sendReply { s with icp := { s.icp with relays := rest } } x.req St.timeout (zeros (replyLen x.req.opcode)))))

/-! ## The Mover -/

/-- R241, R243, R246, R248: doorbells, descriptors and engines. A completion ends the Mover's own context for its tag first. -/
def Obligations.MoverEngines : Prop :=
  ∀ (s : State) (v : Fin 32) (n : Fin 4096) (e : Fin 16), up s = true →
    (∀ count : BitVec 32, vswOn s v.val = true → instVsw s n.val = some v.val →
      ((count.toNat + 2 ^ 32 - headOf s n.val) % 2 ^ 32 ≤ 2 ^ (s.inst n.val).ringLog2 →
        exec (.instTailWrite v n count) s = .next (after (fetchNext (wr s (Reg.INST_TAIL n.val) (count.setWidth 64)) n.val))) ∧
      (2 ^ (s.inst n.val).ringLog2 < (count.toNat + 2 ^ 32 - headOf s n.val) % 2 ^ 32 →
        exec (.instTailWrite v n count) s = .next (after (setF s (Reg.INST_STATUS n.val) Fld.INST_STATUS_DB_ERR 1)))) ∧
    (let t := mvCtxEnd s (16 + n.val)
     (∀ ok desc, exec (.descriptorFetchDone n ok desc) s = .next (after (fetchDone t n.val ok desc))) ∧
     ((t.inst n.val).fetching = true → instState t n.val = Im.enabled → aget t.mover.orphans (16 + n.val) = none →
      exec (.descriptorFetchDone n false []) s = .next (after (ringFail (engineReadEnds (t.modInst n.val (fun i => { i with fetching := false })) (16 + n.val)) n.val)))) ∧
    (∀ m d, mode s ≠ 5 → engFree s e.val = true → nextDesc s = some (m, d) → exec (.engineDispatch e) s =
      .next (after (let t := setDesc s m { d with phase := .running e.val, wait := .none, stopping := 0, started := s.mover.order }
        engGo { t with mover := { t.mover with lastInst := m, order := t.mover.order + 1 } } e.val))) ∧
    (nextDesc s = none → exec (.engineDispatch e) s = .next (after s)) ∧
    (let t := mvCtxEnd s e.val
     (∀ ok data, exec (.moverReadCompletion e ok data) s = .next (after (readDone t e.val ok data))) ∧
     (∀ m d w pos len, engDesc t e.val = some (m, d) → instVsw t m = some w → d.wait = .read pos len →
      (∀ data, exec (.moverReadCompletion e false data) s =
        .next (after (descEnd (setDesc (engineReadEnds t e.val) m { d with wait := .none }) m { d with wait := .none } Ds.readError)))) ∧
     (∀ m, engDesc t e.val = none → aget t.mover.orphans e.val = some m → ∀ ok data, exec (.moverReadCompletion e ok data) s =
      .next (after (bump (engineReadEnds { t with mover := { t.mover with orphans := adel t.mover.orphans e.val } } e.val) Reg.MV_DISCARD_CNT)))) ∧
    exec (.engineDisable e) s = .next (after (engGo (setF s Reg.MV_CTRL Fld.MV_CTRL_ENG_EN (clearBit (getF s Reg.MV_CTRL Fld.MV_CTRL_ENG_EN) e.val)) e.val))

/-- R243, R244, R245: translations and page requests of engines and rings, and invalidations. -/
def Obligations.MoverTranslation : Prop :=
  ∀ (s : State) (v : Fin 32) (e : Fin 16), up s = true →
    (∀ m d w iova write, engDesc s e.val = some (m, d) → instVsw s m = some w → d.wait = .xlat iova write →
      exec (.atsTranslationCompletion (.engine e) .error) s = .next (after (descEnd s m { d with wait := .none } Ds.xlatFault)) ∧
      (∀ size addr, (d.stopping ≠ 3 ∨ d.done ≠ 0) →
        exec (.atsTranslationCompletion (.engine e) (.granted size addr false false)) s = .next (after (noAccess s w m d)))) ∧
    (∀ (n : Fin 4096) w iova write, (s.inst n.val).ringWait = .xlat iova write → instVsw s n.val = some w →
      (∀ size addr, exec (.atsTranslationCompletion (.ring n) (.granted size addr true true)) s =
        .next (after (ringGo (atcPut s w n.val iova size addr true true) w n.val))) ∧
      (instState s n.val = Im.enabled → exec (.atsTranslationCompletion (.ring n) .error) s = .next (after (ringFail s n.val)) ∧
        ∀ size addr, exec (.atsTranslationCompletion (.ring n) (.granted size addr false false)) s = .next (after (ringDenied s w n.val iova write)))) ∧
    (∀ index code, vswOn s v.val = true → aget s.mover.prg (v.val * 512 + index) = none →
      exec (.prgResponseRx v index code) s = .next (after (bump s Reg.MV_PRG_STALE_CNT))) ∧
    (∀ m slot d index, vswOn s v.val = true → aget s.mover.prg (v.val * 512 + index) = some (m, slot) →
      (s.inst m).descs.find? (fun d => d.slot == slot) = some d →
      let t := { s with mover := { s.mover with prg := adel s.mover.prg (v.val * 512 + index) } }
      exec (.prgResponseRx v index 0) s = .next (after (askPages (pended (setDesc t m { d with phase := .pending, wait := .none }) m
        { d with phase := .pending, wait := .none }) v.val)) ∧
      exec (.prgResponseRx v index 1) s = .next (after (askPages (descEnd t m { d with wait := .none } Ds.xlatFault) v.val))) ∧
    (∀ m index, vswOn s v.val = true → aget s.mover.prg (v.val * 512 + index) = some (m, ringSlot) →
      (s.inst m).descs.find? (fun d => d.slot == ringSlot) = none →
      let t := { s with mover := { s.mover with prg := adel s.mover.prg (v.val * 512 + index) } }
      exec (.prgResponseRx v index 0) s = .next (after (askPages (ringGo t v.val m) v.val)) ∧
      exec (.prgResponseRx v index 1) s = .next (after (askPages (ringFail t m) v.val))) ∧
    (∀ pasid iova size itag, vswOn s v.val = true → exec (.invalidateRequestRx v pasid iova size itag) s = .next (after (invalidate s v.val pasid iova size itag)) ∧
      ∀ x ∈ (invalidate s v.val pasid iova size itag).mover.atc, x.vsw = v.val → x.pasid = pasid → overlaps x.iova x.size iova size = false) ∧
    (∀ itag, s.mover.invals = [⟨v.val, itag, []⟩] → exec (.invalidateComplete v itag) s =
      .next (after (emit (bump { s with mover := { s.mover with invals := [] } } Reg.MV_INV_CNT) (.invalidateDone v.val itag)))) ∧
    exec .atcFlush s = .next (after { s with mover := { s.mover with atc := [] } })

/-- R235, R237, R253, R254: an instance selected by a Mover PF whose vSwitch is on: enable, disable, quiesce, set-up and the mailboxes. -/
def Clauses.MoverInstances : Prop :=
  ∀ (s : State) (v : Fin 32) (n : Fin 4096), up s = true → vswOn s v.val = true → instVsw s n.val = some v.val →
    getF s (Reg.MVPF_INST_SEL v.val) Fld.MVPF_INST_SEL_INSTANCE = n.val →
    exec (.instEnable v) s = .next (after (instEnable s n.val)) ∧
    ((instState s n.val = Im.disabled ∨ instState s n.val = Im.quiesced ∨ instState s n.val = Im.error) → 4 ≤ (s.inst n.val).ringLog2 → (s.inst n.val).ringLog2 ≤ 16 →
      instState (instEnable s n.val) n.val = Im.enabled) ∧
    ((instState s n.val = Im.quiesced ∨ instState s n.val = Im.error) → exec (.instDisable v) s = .next (after (setInstState s n.val Im.disabled))) ∧
    (instState s n.val = Im.enabled → exec (.instQuiesce v false) s =
      .next (after (ringQuiet ((setInstState s n.val Im.quiescing).modInst n.val (fun i => { i with byCtrl := i.byCtrl || true })) n.val))) ∧
    (instState s n.val = Im.quiescing → (s.inst n.val).descs = [] → (s.inst n.val).recs = [] → instReads s n.val = false → instWrites s n.val = false → (s.inst n.val).byCtrl = false → exec (.instanceQuiesced n) s =
      .next (after (quiesceReplies ((setInstState s n.val Im.quiesced).modInst n.val (fun i => { i with byCtrl := false }))))) ∧
    (∀ offset bytes, exec (.instSetupWrite v offset bytes) s = .next (after (setupWrite s n.val offset bytes))) ∧
    (isSet s (Reg.INST_STATUS n.val) Fld.INST_STATUS_MB_OUT_BUSY = false →
      exec (.mbSend v n) s = .next (after (mbTake (setF s (Reg.INST_STATUS n.val) Fld.INST_STATUS_MB_OUT_BUSY 1) n.val))) ∧
    ((s.inst n.val).mbWait = [] → exec (.mbAck v n) s = .next (after (setF s (Reg.INST_STATUS n.val) Fld.INST_STATUS_MB_IN_FULL 0))) ∧
    (∀ p r, (s.inst n.val).mbWait = p :: r → exec (.mbAck v n) s =
      .next (after (deliver ((setF s (Reg.INST_STATUS n.val) Fld.INST_STATUS_MB_IN_FULL 0).modInst n.val (fun i => { i with mbWait := r })) (Ch.mailbox n.val) 0 p))) ∧
    (∀ r len, (s.inst n.val).relay = some r → exec (.mbReplyWrite v len true) s = .next (after (reply (s.modInst n.val (fun i => { i with relay := none })) r St.ok
      ((fit 64 (s.inst n.val).relayOut).take (min 48 len)))))

/-- R251, R255: the end of a HARVEST and the bound of a MOVER_QUIESCE answer the commands that wait for them. -/
def Clauses.MoverWaitsEnd : Prop :=
  ∀ s : State, up s = true →
    (∀ (n : Fin 4096) d r w, (s.inst n.val).dirty = some d → d.harvest = some (r, w) → exec (.harvestDone n) s =
      .next (after (reply (s.modInst n.val (fun i => { i with dirty := some { d with harvest := none, outOfRange := false } })) r St.ok
        (natLe 4 w ++ natLe 1 (b2n d.lost + 2 * b2n d.outOfRange) ++ zeros 3)))) ∧
    (∀ q rest, s.mover.quiesces = q :: rest → exec .moverQuiesceWaitExpiry s =
      .next (after (reply { s with mover := { s.mover with quiesces := rest } } q.req St.timeout (natLe 2 (notQuiet s q.first q.count) ++ zeros 2))))

/-! ## ICP: transports and commands -/

/-- R322, R323, R324: a ring is enabled, its doorbell rung, its slots read, its completions taken. -/
def Obligations.RingCommands : Prop :=
  ∀ (s : State) (v : Fin 32), up s = true →
    (∀ sq cq, vswOn s v.val = true → (rd s Reg.ICP_MGR).getLsbD v.val = true → ringOn s v.val = false →
      exec (.icpRingEnable v sq cq) s = .next (after (ringEnable s v.val sq cq)) ∧
      rd (ringEnable s v.val sq cq) (Reg.ICP_RING_CFG v.val) = BitVec.ofNat 64 (2 ^ 31 + max 2 (min 8 cq) * 256 + max 2 (min 8 sq)) ∧
      rd (ringEnable s v.val sq cq) (Reg.ICP_SQ_HEAD v.val) = 0 ∧ rd (ringEnable s v.val sq cq) (Reg.ICP_CQ_TAIL v.val) = 0) ∧
    (ringOn s v.val = true →
      exec (.icpRingDisable v) s = .next (after (ringEnd s v.val)) ∧
      (∀ count : BitVec 32, sqSize s v.val < diff32 count.toNat (rd s (Reg.ICP_SQ_HEAD v.val)).toNat →
        exec (.icpSqTailWrite v count) s = .next (after (setF s (Reg.ICP_RING_STATUS v.val) Fld.ICP_RING_STATUS_DB_ERR 1))) ∧
      (∀ count : BitVec 32, diff32 count.toNat (rd s (Reg.ICP_SQ_HEAD v.val)).toNat ≤ sqSize s v.val →
        exec (.icpSqTailWrite v count) s = .next (after (ringFetch (wr s (Reg.ICP_SQ_TAIL v.val) (count.setWidth 64)) v.val))) ∧
      (∀ count : BitVec 32, exec (.icpCqHeadWrite v count) s = .next (after (wr s (Reg.ICP_CQ_HEAD v.val) (count.setWidth 64))))) ∧
    (∀ slot, s.icp.fetching = [v.val] → slot.length = 4096 →
      exec (.icpSlotFetchDone v false slot) s = .next (after (msix (bump (setF { s with icp := { s.icp with fetching := [] } }
        (Reg.ICP_RING_STATUS v.val) Fld.ICP_RING_STATUS_FETCH_ERR 1) Reg.ICP_REFUSED_CNT) v.val 0 0)) ∧
      exec (.icpSlotFetchDone v true slot) s = .next (after (ringFetch (icpArrive (wr { s with icp := { s.icp with fetching := [] } } (Reg.ICP_SQ_HEAD v.val)
        (BitVec.ofNat 64 (((rd s (Reg.ICP_SQ_HEAD v.val)).toNat + 1) % 2 ^ 32))) v.val 0 (16 + num slot 6 2) slot) v.val))) ∧
    (∀ p, agetD s.icp.cplWait v.val [] = [p] → ringOn s v.val = true → cqFull s v.val = false → (s.func v.val fnMgmt).command.testBit 2 = true →
      exec (.icpReply v) s = .next (after (let tail := (rd s (Reg.ICP_CQ_TAIL v.val)).toNat
        let w := mgmtWrite s v.val ((rd s (Reg.ICP_CQ_BASE v.val)).toNat + 4096 * (tail % cqSize s v.val)) p
        ringFetch (msix (wr { w with icp := { w.icp with cplWait := adel w.icp.cplWait v.val } } (Reg.ICP_CQ_TAIL v.val) (BitVec.ofNat 64 ((tail + 1) % 2 ^ 32))) v.val 0 0) v.val)))

/-- R325: MCTP. A message is complete with its EOM packet, is dropped 100 ms after its first packet, and the control requests are answered on a channel that is there;
an endpoint ID of 0 or 0xFF is refused. -/
def Obligations.MctpCommands : Prop :=
  ∀ (s : State) (c : Fin 67) (src tag : Nat), up s = true → mctpUp s c.val = true →
    (∀ type bytes, s.icp.mctpParts = [] → exec (.mctpMessageRx c src tag true true false type bytes) s = .next (after (mctpMessage s c.val tag type bytes))) ∧
    (∀ type bytes, s.icp.mctpParts = [] → exec (.mctpMessageRx c src tag true false false type bytes) s =
      .next (after { s with icp := { s.icp with mctpParts := [⟨c.val, src, tag, type, bytes, s.time⟩] } })) ∧
    (∀ type bytes p, s.icp.mctpParts = [p] → p.chan = c.val → p.src = src → p.tag = tag → s.time ≤ p.started + ms 100 →
      exec (.mctpMessageRx c src tag false true false type bytes) s =
        .next (after (mctpMessage { s with icp := { s.icp with mctpParts := [] } } c.val tag p.type (p.bytes ++ bytes)))) ∧
    exec (.mctpReassemblyTimeout c src tag) s = .next (after { s with icp := { s.icp with
      mctpParts := s.icp.mctpParts.filter (fun p => !(p.chan == c.val && p.src == src && p.tag == tag)) } }) ∧
    (∀ eid, 0 < eid → eid < 255 → exec (.setEndpointId c tag eid) s = .next (after (mctpAnswer (zeroAlive { s with icp := { s.icp with
      mctpEid := aput s.icp.mctpEid c.val eid } } c.val) c.val tag 1 [0#8, 0#8, BitVec.ofNat 8 eid, 0#8]))) ∧
    exec (.setEndpointId c tag 0) s = .next (after (mctpAnswer s c.val tag 1 [2#8])) ∧ exec (.setEndpointId c tag 255) s = .next (after (mctpAnswer s c.val tag 1 [2#8])) ∧
    exec (.getEndpointId c tag) s = .next (after (mctpAnswer s c.val tag 2 [0#8, BitVec.ofNat 8 (agetD s.icp.mctpEid c.val 0), 0#8, 0#8])) ∧
    exec (.getMctpVersionSupport c tag) s = .next (after (mctpAnswer { s with free := s.free + 1 } c.val tag 4 ([0#8, 1#8] ++ natLe 4 (Config.freeNat s.free % 2 ^ 32)))) ∧
    exec (.getMessageTypeSupport c tag) s = .next (after (mctpAnswer s c.val tag 5 [0#8, 3#8, 0x00#8, 0x05#8, 0x7E#8]))

/-- R445, R446, R447: DOE discovery and the SPDM requests, each answered in its place of the connection's order: version 1.4; certificates, challenges and signed
measurements; SHA3-256 and ML-DSA-44; slot 0 alone; six measurements. The layout of the messages is the model's (log entry 65). -/
def Obligations.SpdmCommands : Prop :=
  ∀ (s : State) (via : SpdmVia) (v : Fin 32), up s = true →
    let conn := agetD s.icp.spdmConn (spdmKey via) 0
    (spdmUp s (.doe v) = true →
      exec (.doeDiscovery v 0) s = .next (after (emit s (.doe v.val 0 [0x01#8, 0#8, 0#8, 1#8]))) ∧
      exec (.doeDiscovery v 1) s = .next (after (emit s (.doe v.val 0 [0x01#8, 0#8, 1#8, 0#8])))) ∧
    (spdmUp s via = true →
      exec (.spdmGetVersion via) s = .next (after (spdmSend (spdmReach s via 1) via [0x10#8, 0x04#8, 0#8, 0#8, 0#8, 1#8, 0x00#8, 0x14#8])) ∧
      (1 ≤ conn → exec (.spdmGetCapabilities via) s = .next (after (spdmSend { spdmReach s via 2 with free := s.free + 1 } via
        (spdmMsg 0x61 0 0 ([0#8] ++ natLe 1 (Config.freeNat s.free % 2 ^ 8) ++ zeros 2 ++ natLe 4 0x16 ++ natLe 4 4096 ++ natLe 4 4096))))) ∧
      (2 ≤ conn → exec (.spdmNegotiateAlgorithms via) s = .next (after (spdmSend (spdmReach s via 3) via
        (spdmMsg 0x63 0 0 (natLe 2 36 ++ [1#8, 0#8] ++ natLe 4 0x10 ++ zeros 4 ++ natLe 4 0x08 ++ natLe 4 1 ++ zeros 12))))) ∧
      (3 ≤ conn → slot0 s = true →
        exec (.spdmGetDigests via) s = .next (after (spdmSend s via (spdmMsg 0x01 1 1 (natLe 32 (Config.sha3 (certChain s)))))) ∧
        (∀ offset len, offset < (certChain s).length →
          let d := ((certChain s).drop offset).take (min len 4088)
          exec (.spdmGetCertificate via 0 offset len) s = .next (after (spdmSend s via
            (spdmMsg 0x02 0 0 (natLe 2 d.length ++ natLe 2 ((certChain s).length - offset - d.length) ++ d))))) ∧
        (∀ nonce, nonce.length = 32 → exec (.spdmChallenge via 0 nonce) s = .next (after (spdmSend { s with free := s.free + 3 } via
          (spdmMsg 0x03 0 1 (natLe 32 (Config.sha3 (certChain s)) ++ natLe 32 (Config.freeNat s.free % 2 ^ 256) ++ zeros 2 ++
            natLe 8 (Config.freeNat (s.free + 1) % 2 ^ 64) ++ fit 2420 (Config.mldsaSign (aliasSeed s) (natLe 32 (Config.freeNat (s.free + 2) % 2 ^ 256)))))))) ) ∧
      (3 ≤ conn → ∀ op nonce, 1 ≤ op → op ≤ 6 → exec (.spdmGetMeasurements via op false nonce) s = .next (after (spdmSend { s with free := s.free + 1 } via
        (spdmMsg 0x60 0 0 (natLe 1 1 ++ natLe 3 (measureBlock s op).length ++ measureBlock s op ++ natLe 32 (Config.freeNat s.free % 2 ^ 256) ++ zeros 2))))) ∧
      ∀ code, exec (.spdmUnsupportedRequest via code) s = .next (after (spdmSend s via (spdmMsg 0x7F 0x07 (code % 256) [])))) ∧
    (spdmUp s via = false → exec (.spdmGetVersion via) s = .next (after s))

/-- R328: of the requests that a decoder can serve it begins an URGENT one before any other, otherwise the oldest; what it begins leaves its queue and runs. -/
def Obligations.UrgentBegunFirst : Prop :=
  ∀ (q : List IcpReq) (r : IcpReq), nextReq q = some r →
    r ∈ q ∧ ((∃ x ∈ q, x.flags.testBit 1 = true) → r.flags.testBit 1 = true) ∧ ((∀ x ∈ q, x.flags.testBit 1 = false) → q.head? = some r)


/-- R309, R335, R336, R337: device, ports and service commands. -/
def Obligations.DeviceCommands : Prop :=
  ∀ (s t : State) (r : IcpReq),
    (Runs s .fw 0x0101 r t → exec .deviceInfo s = .next (after (reply t r St.ok ([0xB0#8] ++ natLe 1 (mode t) ++ natLe 1 (twinState t) ++ [0#8] ++
      natLe 2 (nodeId t) ++ zeros 2 ++ regBytes t Reg.GLB_CONFIG_ID 4 ++ regBytes t Reg.GLB_OVERLAY_ID 4 ++ natLe 4 (fwVersion t) ++ natLe 1 (curBank t) ++ zeros 3 ++
      natLe 8 t.time)))) ∧
    (Runs s .fw 0x0102 r t → num r.payload 4 1 = 1 → exec .vswQuiesce s = .next (after (reply ((namedVsws t (num r.payload 0 4)).foldl
      (fun s v => s.modVsw v (fun x => { x with refusing := false })) t) r St.ok (zeros 8)))) ∧
    (Runs s .fw 0x0102 r t → num r.payload 4 1 = 0 → bitAt r.payload 5 0 = false → exec .vswQuiesce s = .next (after
      (let u := (namedVsws t (num r.payload 0 4)).foldl (fun s v => s.modVsw v (fun x => { x with refusing := true })) t
       { u with icp := { u.icp with quiesces := u.icp.quiesces ++ [⟨r, num r.payload 0 4⟩] } }))) ∧
    (∀ w, up s = true → s.icp.quiesces = [w] →
      let left := vswMask ((namedVsws s w.mask).filter (fun v => !vswQuiesced s v))
      exec .vswQuiesced s = .next (after (reply { s with icp := { s.icp with quiesces := [] } } w.req (if left = 0 then St.ok else St.timeout) (natLe 4 left ++ zeros 4)))) ∧
    (Runs s .fw 0x0110 r t → num r.payload 1 1 = 3 → num r.payload 0 1 < 64 → isPcie t (num r.payload 0 1) = true →
      isFenced t ⟨Uk.port, num r.payload 0 1⟩ = false → (t.port (num r.payload 0 1)).slotCmd = none →
      exec .portControl s = .next (after (reply (retrain t (num r.payload 0 1)) r St.ok []))) ∧
    (Runs s .fw 0x0120 r t → num r.payload 0 1 < 16 → num r.payload 1 1 < 16 → exec .eyeScan s = .next (after
      (let head := [BitVec.ofNat 8 (num r.payload 0 1), BitVec.ofNat 8 (num r.payload 1 1)]
       let u := sendReply t r St.accepted (head ++ zeros 2054)
       let m := Config.freeNat u.free % 2 ^ (8 * 2049)
       reply { u with free := u.free + 1 } r St.ok (head ++ natLe 1 m ++ zeros 5 ++ natLe 2048 (m / 256))))) ∧
    (∀ n, Runs s .fw 0x0121 r t → num r.payload 0 1 = n → n < 16 →
      let w := runAges (((List.range 4).filter (slotOn (sendReply t r St.accepted ([BitVec.ofNat 8 n] ++ zeros 7)) n)).foldl (fun s i => slotDown s n i)
        (sendReply t r St.accepted ([BitVec.ofNat 8 n] ++ zeros 7))) n
      let c := (setF w (Reg.TILE_STATUS n) Fld.TILE_STATUS_CAL_DONE 0).modTile n (fun x => { x with coef := [] })
      isFenced c ⟨Uk.tile, n⟩ = false → tilePorts c n ≠ [] → (w.tile n).calFor = none →
      exec .tileCalibrate s = .next (after ((pllStart (setF c (Reg.TILE_STATUS n) Fld.TILE_STATUS_POWER 0) n).modTile n
        (fun x => { x with calRunning := true, calFor := some r })))) ∧
    (Runs s .fw 0x0122 r t → num r.payload 0 1 = 2 → exec .bistRun s = .next (after
      (let u := sendReply t r St.accepted (zeros 16)
       let m := Config.freeNat u.free % 2 ^ 96
       reply { u with mem := [], ddr := { u.ddr with bad := [] }, free := u.free + 1 } r St.ok (natLe 4 m ++ zeros 4 ++ natLe 8 (m / 2 ^ 32)))))

/-- R164, R165, R338, R339, R454: table commands outside mode 4 and EPOCH_SYNC: every record is checked before one is written, and a write that the large MPU denies
ends with INTERNAL (the model's choice of the master, log entry 127). -/
def Obligations.TableCommands : Prop :=
  ∀ (s t : State) (r : IcpReq), tableWaits s = false → mode t ≠ 4 →
    (Runs s .fw 0x0201 r t → (tableRefused t 2 true r.payload = none → tableDenied t 2 r.payload = none → exec .bindWrite s = .next (after (liveApply t 2 true (some r) r.payload))) ∧
      (∀ a, tableRefused t 2 true r.payload = none → tableDenied t 2 r.payload = some a → exec .bindWrite s = .next (after (tableFail t 2 a (some r)))) ∧
      ∀ i, tableRefused t 2 true r.payload = some i → exec .bindWrite s = .next (after (reply t r St.notPermitted (tablePayload t r.opcode i)))) ∧
    (Runs s .fw 0x0202 r t → (tableRefused t 0 true r.payload = none → tableDenied t 0 r.payload = none → exec .famWrite s = .next (after (liveApply t 0 true (some r) r.payload))) ∧
      (∀ a, tableRefused t 0 true r.payload = none → tableDenied t 0 r.payload = some a → exec .famWrite s = .next (after (tableFail t 0 a (some r)))) ∧
      ∀ i, tableRefused t 0 true r.payload = some i → exec .famWrite s = .next (after (reply t r St.notPermitted (tablePayload t r.opcode i)))) ∧
    (Runs s .fw 0x0203 r t → (tableRefused t 1 true r.payload = none → tableDenied t 1 r.payload = none → exec .routeWrite s = .next (after (liveApply t 1 true (some r) r.payload))) ∧
      (∀ a, tableRefused t 1 true r.payload = none → tableDenied t 1 r.payload = some a → exec .routeWrite s = .next (after (tableFail t 1 a (some r)))) ∧
      ∀ i, tableRefused t 1 true r.payload = some i → exec .routeWrite s = .next (after (reply t r St.notPermitted (tablePayload t r.opcode i)))) ∧
    (Runs s .fw 0x0204 r t → num r.payload 0 1 = 2 → bitAt r.payload 1 0 = false → num r.payload 4 4 < 4096 →
      let n := min (num r.payload 8 2) (min 63 (4096 - num r.payload 4 4))
      exec .tableRead s = .next (after (reply t r St.ok (natLe 2 n ++ zeros 6 ++ (List.range n).flatMap (fun i => routeBytes t (num r.payload 4 4 + i)))))) ∧
    (Runs s .fw 0x0208 r t → num r.payload 0 4 ≤ epoch t → exec .epochSync s = .next (after { t with fab := { t.fab with syncs := t.fab.syncs ++
      [⟨r, if num r.payload 0 4 = 0 then epoch t else num r.payload 0 4, t.fab.flagged, false, false, 0⟩] } }))

/-- R251, R253, R255, R340: the Mover's commands and ORBIT_CONFIG. -/
def Obligations.MoverAndOrbitCommands : Prop :=
  ∀ (s t : State) (r : IcpReq),
    let first := num r.payload 0 2
    let count := num r.payload 2 2
    (Runs s .fw 0x0301 r t → rangeBad first count = false → num r.payload 4 1 < 32 → vswOn t (num r.payload 4 1) = true → bitAt r.payload 6 0 = false →
      (∀ i, i < count → instState t (first + i) ≠ Im.enabled ∧ instState t (first + i) ≠ Im.quiescing ∧ (t.inst (first + i)).dirty = none) →
      exec .moverBind s = .next (after (reply (((List.range count).map (fun i => first + i)).foldl (fun s n =>
        wr ((instClear s n Im.disabled).modInst n (fun _ => Inst.init)) (Reg.MV_INST_BIND n) (BitVec.ofNat 64 (2 ^ 31 + num r.payload 4 1))) t) r St.ok (zeros 4)))) ∧
    (Runs s .fw 0x0302 r t → rangeBad first count = false → (num r.payload 4 1).testBit 1 = true →
      exec .moverQuiesce s = .next (after (reply ((((List.range count).map (fun i => first + i)).filter (fun n => instState t n == Im.quiesced)).foldl instEnable t) r St.ok (zeros 4)))) ∧
    (∀ place, Runs s .fw 0x0303 r t → num r.payload 0 1 = 0 → num r.payload 1 1 ≤ 1 → count < 4096 → num r.payload 8 8 % 4096 = 0 → num r.payload 16 8 % 8 = 0 →
      1 ≤ num r.payload 4 4 → num r.payload 4 4 ≤ 2 ^ 28 → (t.inst count).dirty = none →
      let d : Dirty := { pages := num r.payload 4 4, iovaBase := num r.payload 8 8, ofs := place, lost := false, outOfRange := false, harvest := none }
      dirtyPlace (t.modInst count (fun i => { i with dirty := none })) d.bytes = some place →
      exec .moverDirty s = .next (after (reply (setF (State.modInst { t.modInst count (fun i => { i with dirty := none }) with
        mem := memZero t.mem (dirtyBase t + place) d.bytes } count (fun i => { i with dirty := some d }))
        (Reg.INST_STATUS count) Fld.INST_STATUS_DIRTY_ON 1) r St.ok (zeros 8)))) ∧
    (Runs s .fw 0x0320 r t → exec .moverTStatus s = .next (after (let n := r.chan - 128
      reply t r St.ok (natLe 1 (instState t n) ++ zeros 1 ++ natLe 2 (getF t (Reg.INST_STATUS n) Fld.INST_STATUS_LAST_ERR) ++ natLe 4 (headOf t n) ++
        natLe 4 (tailOf t n) ++ regBytes t (Reg.INST_ABORT_CNT n) 4 ++ regBytes t (Reg.INST_BYTES n) 8)))) ∧
    (Runs s .fw 0x0321 r t → (t.inst (r.chan - 128)).relay = none → ∃ u, exec .moverTRelay s = .next (after u) ∧
      (u.inst (r.chan - 128)).relay = some r ∧ (u.inst (r.chan - 128)).relayIn = fit 64 r.raw ∧ (u.inst (r.chan - 128)).relayOut = [] ∧
      (r.chan - 128) ∈ u.mover.relayPend) ∧
    (Runs s .fw 0x0401 r t → num r.payload 0 4 = 0 → num r.payload 4 1 ≤ 1 → exec .orbitConfig s = .next (after (reply
      (let u := wr (wr (wr t Reg.ORBIT_CFG
        (BitVec.ofNat 64 (0 * 2 ^ 32 + num r.payload 4 1 * 2 ^ 29 + num r.payload 5 1 % 32 * 2 ^ 24 + num r.payload 16 1 % 32)))
        Reg.ORBIT_ADDR (BitVec.ofNat 64 (num r.payload 8 8 / 4096 * 4096))) Reg.ORBIT_SETS (BitVec.ofNat 64 (num r.payload 24 8))
       { u with bg := { u.bg with orbitSeq := 0, orbitOfs := 0, since := adel u.bg.since 17 } }) r St.ok [])))

/-- R341, R342, R361, R364, R366: energy and safety commands. -/
def Obligations.EnergyAndSafetyCommands : Prop :=
  ∀ (s t : State) (r : IcpReq),
    let n := num r.payload 0 1
    let code := num r.payload 4 4
    let u := UnitId.ofCode code
    (Runs s .sp 0x0501 r t → n < 32 → num r.payload 1 1 = 1 → hostOwned t n = false → egvState t n ≠ 1 → t.egv.queue.any (fun q => q.slot == n) = false →
      exec .slotPower s = .next (after (reply (egvOff t n) r St.ok (natLe 1 (egvState (egvOff t n) n) ++ zeros 7)))) ∧
    (Runs s .sp 0x0502 r t → n = 0xFF → 1 ≤ num r.payload 1 1 → num r.payload 1 1 ≤ 8 → num r.payload 2 2 = 0 → code = 0 → 1000 ≤ num r.payload 8 4 → num r.payload 8 4 ≤ 4000000 →
      exec .energySet s = .next (after (reply (wr (setF t Reg.EGV_CTRL Fld.EGV_CTRL_MAX_RAMPS (num r.payload 1 1)) Reg.EGV_WINDOW (BitVec.ofNat 64 (num r.payload 8 4))) r St.ok (zeros 8)))) ∧
    (Runs s .sp 0x0503 r t → n < 32 → exec .energyStatus s = .next (after (reply t r St.ok (natLe 1 (egvState t n) ++ [0#8] ++
      natLe 2 (getF t (Reg.EGV_SLOT_STATUS n) Fld.EGV_SLOT_STATUS_LAST_INRUSH) ++ natLe 4 (declared t n) ++ natLe 4 (windowUsed t) ++ natLe 1 t.egv.ramps.length ++ zeros 3)))) ∧
    (Runs s .sp 0x0601 r t → n ≤ 4 → exec .faultRead s = .next (after (let rs := t.fcu.recs.filter (fun e => e.1 == n)
      reply t r St.ok (natLe 1 rs.length ++ zeros 7 ++ rs.flatMap (fun e => e.2.bytes))))) ∧
    (Runs s .sp 0x0602 r t → n < 4 → u.code = code → (unitState t u).classes.testBit n = true → isFenced t u = false →
      exec .faultClear s = .next (after (reply (journalSafety (clearFaults t u n) r n code) r St.ok (zeros 8)))) ∧
    (Runs s .sp 0x0603 r t → n = 0 → u.code = code → fencible u = true → isFenced t u = true →
      exec .fence s = .next (after (reply (journalSafety (setUnit t { (unitState t u) with cmdFenced := true }) r 0 code) r St.ok (zeros 8)))) ∧
    (Runs s .sp 0x0604 r t → n = 0 → mode t ≠ 4 → exec .reset s = .next (after (let w := reply (journalSafety t r 0 0) r St.ok (zeros 8)
      match w.pwr.warmReq with | some _ => w | none => { w with pwr := { w.pwr with warmReq := some (0x09, 0, 0) } }))) ∧
    (Runs s .sp 0x0605 r t → (UnitId.ofCode (num r.payload 0 4)).code = num r.payload 0 4 → hasSite (UnitId.ofCode (num r.payload 0 4)) 2 = true →
      num r.payload 4 2 / 4096 = 2 → exec .faultInject s = .next (after (reply { t with fcu := { t.fcu with injections := t.fcu.injections ++
        [⟨UnitId.ofCode (num r.payload 0 4), 2, num r.payload 4 2 % 4096, max 1 (num r.payload 6 1)⟩] } } r St.ok (zeros 8))))

/-- R211, R212, R213, R227, R228, R229, R230, R231: the commands of the pair. CVU7 checks TCHK over the records: a T_PREPARE whose check value is wrong is refused, counted
and a fault; a vote of OK stages the transaction; T_COMMIT applies what is staged, or drops it; entries of T_SYNC for the live tables wait for the handover. -/
def Obligations.PairCommands : Prop :=
  ∀ (s t : State) (r : IcpReq),
    let txn := num r.payload 0 4
    (Runs s .sp 0x0701 r t → num r.payload 0 1 = 3 → exec .twinRole s = .next (after (reply (setF (setF t Reg.TWIN_CTRL Fld.TWIN_CTRL_AUTO_HANDBACK (b2n (bitAt r.payload 1 1)))
      Reg.TWIN_CTRL Fld.TWIN_CTRL_AUTO_TAKEOVER (b2n (bitAt r.payload 1 0))) r St.ok []))) ∧
    (Begins s .tma 0x0710 r t → exec .tHello s = .next (after (reply t r St.ok (helloPayload t)))) ∧
    (∀ right u, Begins s .tma 0x0711 r t → isFenced t ⟨Uk.cvu, 7⟩ = false →
      cvTwinCheck t (txnRecords (num r.payload 4 1) (r.payload.drop 12)) (num r.payload 8 4) (num r.raw 10 1 % 16) = (right, u) →
      (right = false → exec .tPrepare s =
        .next (after (reply (bump (detect (bump u Reg.TWIN_CHK_ERR_CNT) 0x0403 .contained Uk.twin 0 txn) Reg.TWIN_REFUSE_CNT) r St.badCrc (natLe 4 txn ++ natLe 2 0 ++ zeros 2)))) ∧
      (right = true → num r.payload 4 1 ≤ 3 → twinState u = 2 → u.twin.staged = none → u.pwr.act = none →
        u.twin.coord = none → (txnVote u (num r.payload 4 1) (r.payload.drop 12)) = (St.ok, 0) → exec .tPrepare s =
        .next (after (reply (setTxn { u with twin := { u.twin with staged := some ⟨txn, num r.payload 4 1, r.payload.drop 12⟩ } } txn 0 1) r St.ok (natLe 4 txn ++ natLe 2 0 ++ zeros 2))))) ∧
    (∀ recs tchk a, t.fcu.injections = [] → tchk < 2 ^ 32 → (cvTwinCheck t recs tchk a).1 = (tchk == crc32c recs)) ∧
    (∀ x, Begins s .tma 0x0712 r t → t.twin.staged = some x → x.txn = txn →
      (bitAt r.payload 4 0 = true → exec .tCommit s =
        .next (after (reply (setFate { t with twin := { t.twin with staged := none } } 3) r St.ok (natLe 4 txn ++ natLe 4 (epoch (setFate { t with twin := { t.twin with staged := none } } 3)))))) ∧
      (bitAt r.payload 4 0 = false → x.kind ≠ 3 → exec .tCommit s = .next (after (let w := { t with twin := { t.twin with staged := none, applied := some txn, laterPacket := false } }
        tableStore w x.kind false (some r) x.payload)))) ∧
    (Begins s .tma 0x0713 r t → t.twin.staged = none → exec .tQuery s = .next (after (reply t r St.ok (natLe 4 txn ++ natLe 1 (b2n (t.twin.applied == some txn)) ++ zeros 3)))) ∧
    (∀ table, Begins s .tma 0x0714 r t → num r.payload 0 1 = table → table ≤ 2 → num r.payload 1 1 = 0 → t.twin.resync = none →
      (∀ e ∈ syncRecs table r.payload, e.1 < (match table with | 0 => 131072 | 1 => 16384 | _ => 4096) ∧ syncOwned t table 0 e.2 = true) →
      let kept := t.twin.syncLive.filter (fun e => e.1 != table)
      let u := setF { t with twin := { t.twin with syncLive := kept, resync := some ⟨[], false, bitAt r.payload 2 1, [table * 2]⟩ } } Reg.TWIN_STATUS Fld.TWIN_STATUS_RESYNC_BUSY 1
      exec .tSync s = .next (after (reply { u with twin := { u.twin with syncLive := kept ++ (syncRecs table r.payload).map (fun e => (table, e.1, e.2)) } } r St.ok []))) ∧
    (∀ table e, Begins s .tma 0x0714 r t → num r.payload 0 1 = table → table ≤ 2 → num r.payload 1 1 ≤ 1 → e ∈ syncRecs table r.payload →
      syncOwned t table (num r.payload 1 1) e.2 = false → exec .tSync s = .next (after (reply t r St.notPermitted []))) ∧
    (Begins s .sp 0x0715 r t → num r.payload 0 1 = 0 → twinState t = 2 → exec .tHandover s = .next (after (reply (takeover t 4) r St.ok (zeros 8))))

/-- R49, R329, R343, R344, R345, R441, R442, R443: identity, firmware, configurations, mode changes and register commands. -/
def Clauses.ServiceCommands : Prop :=
  ∀ (s t : State) (r : IcpReq),
    (Runs s .fw 0x0801 r t → num r.payload 0 1 = 0 → exec .getIdentity s = .next (after (let pub := fit 1312 (Config.mldsaPublic (identitySeed t))
      reply t r St.ok (natLe 1 0 ++ [0#8] ++ natLe 2 1312 ++ zeros 4 ++ pub ++ natLe 32 (Config.sha3 pub))))) ∧
    (∀ pub, Runs s .sp 0x0802 r t → num r.payload 0 1 < 4 → setBit t.otp.keyRevoked (num r.payload 0 1) % 16 ≠ 15 → aget t.pwr.keptKeys (num r.payload 1 1) = some pub →
      num r.payload 4 8 = t.otp.serial → t.otp.keyRevoked.testBit (num r.payload 1 1) = false →
      Config.mldsaVerify (Config.sha3 pub) (r.payload.take 12) ((r.payload.drop 12).take 2420) = true →
      exec .otpRevoke s = .next (after (reply (setF { t with otp := { t.otp with keyRevoked := setBit t.otp.keyRevoked (num r.payload 0 1) } } Reg.OTP_STATE Fld.OTP_STATE_KEY_REVOKED
        (setBit t.otp.keyRevoked (num r.payload 0 1))) r St.ok []))) ∧
    (Runs s .fw 0x0901 r t → num r.payload 0 4 = 0 → (r.payload.drop 8).length ≤ num r.payload 4 4 → num r.payload 4 4 ≤ 4194304 →
      exec .fwStage s = .next (after (let w := modBank t (1 - curBank t) (fun b => { b with fw := areaWrite b.fw 0 (r.payload.drop 8) })
        reply (wr { w with pwr := { w.pwr with staging := { w.pwr.staging with active := true } } } Reg.STAGE_STATUS
          (BitVec.ofNat 64 ((r.payload.drop 8).length * 2 ^ 32 + num r.payload 4 4))) r St.ok []))) ∧
    (Runs s .sp 0x0902 r t → mode t ≠ 4 → activateCheck t = St.ok → (bitAt r.payload 0 0 = true → exec .fwActivate s = .next (after (reply t r St.ok []))) ∧
      (bitAt r.payload 0 0 = false → ∃ u, exec .fwActivate s = .next (after u) ∧ u.pwr.warmReq = some (t.pwr.warmReq.getD (0x0A, 0, 0)) ∧
        u.flash.journal = t.flash.journal ∧ u.otp = t.otp)) ∧
    (∀ k, Runs s .fw 0x0903 r t → num r.payload 0 4 = 0 → (r.payload.drop 8).length < num r.payload 4 4 → num r.payload 4 4 ≤ 327680 →
      t.pwr.staging.cfg = none → freeSlot t = some k → exec .configStore s = .next (after (let w := putSlot t k (r.payload.drop 8)
        reply { w with pwr := { w.pwr with staging := { w.pwr.staging with cfg := some (k, num r.payload 4 4) } } } r St.ok []))) ∧
    (Begins s .sp 0x0904 r t → nextReq (served s .sp) = some r → modeWaits s r = false →
      (modeBusy t = true → exec .modeActivate s = .next (after (modeReject t r St.busy 0 0 0))) ∧
      (modeBusy t = false → num r.payload 0 1 ≤ 5 → mode t ≠ 4 → num r.payload 12 4 = 0 → num r.payload 16 4 = 0 →
        ∀ affected, modeCheck t (num r.payload 0 1) (num r.payload 4 4) (num r.payload 8 4) = (St.ok, 0, 0, affected) →
        (bitAt r.payload 1 0 = true → exec .modeActivate s = .next (after (reply t r St.ok (natLe 4 affected ++ natLe 2 0 ++ natLe 2 0)))) ∧
        (bitAt r.payload 1 0 = false → exec .modeActivate s = .next (after (sendReply ((bitsOf 32 affected).foldl
          (fun s v => s.modVsw v (fun x => { x with modeHeld := true })) (setF { t with
            pwr := { t.pwr with act := some ⟨r, num r.payload 0 1, num r.payload 1 1, num r.payload 4 4, num r.payload 8 4, affected, true, false⟩ } } Reg.GLB_MODE_STATUS Fld.GLB_MODE_STATUS_ACT_BUSY 1)) r St.accepted
          (natLe 4 affected ++ zeros 4)))))) ∧
    (∀ a why b o, up s = true → s.pwr.act = some a → namedConfig s a.mode a.configId a.overlayId = (why, b, o) → a.voted = true → a.told = false →
      s.twin.coord = none →
      (why.1 ≠ 0 → exec .modeActivateApplied s =
        .next (after (reply (detect (modeAbort s) 0x0501 .contained Uk.icp 0 0x0904) a.req St.internal (zeros 8)))) ∧
      (why.1 = 0 → mode s ≠ 4 → a.mode ≠ 4 → a.flags.testBit 1 = false →
        (∀ p, p < 64 → portChanged s (cfgRegs s (recsOf b ++ recsOf o)) p = false) →
        (∀ n, n < 16 → rd s (Reg.TILE_CFG n) = rd (cfgRegs s (recsOf b ++ recsOf o)) (Reg.TILE_CFG n)) →
        let c := (inForce s).foldl recReset s
        let d := setMode (applyRecs c (recsOf b ++ recsOf o)) a.mode 3 false (isSet c Reg.GLB_MODE_STATUS Fld.GLB_MODE_STATUS_ONCE_USED) (recsOf b ++ recsOf o)
        let e := setConfigIds (modeFabric (frcsEnd d) (mode s)) b o
        let f := epochNow { e with pwr := { e.pwr with sel := ⟨b, o, 3, 0, 0, false, e.pwr.sel.once⟩ } }
        exec .modeActivateApplied s = .next (after (reply (journalConfig (modeAbort (flagRecheck f (fun h => decide (stampOf f h < epoch f)))))
          a.req St.ok (natLe 4 a.affected ++ natLe 2 0 ++ natLe 2 0))))) ∧
    (Runs s .sp 0x0905 r t → bitAt r.payload 1 0 = false → selCheck t (num r.payload 0 1) (num r.payload 4 4) (num r.payload 8 4) = St.ok →
      exec .selectionWrite s = .next (after (reply (selWrite t ⟨num r.payload 0 1, false, num r.payload 4 4, num r.payload 8 4, num r.payload 12 1, num r.payload 16 4,
        num r.payload 20 4, 0⟩) r St.ok []))) ∧
    (Runs s .fw 0x0906 r t → num r.payload 0 1 = 1 → stagingBusy t = false → exec .flashMaint s = .next (after (reply (sendReply t r St.accepted []) r St.ok []))) ∧
    (s.bg.eclBusy = none → Runs s .fw 0x0A01 r t → num r.payload 0 1 ≤ 1 → bitAt r.payload 1 0 = false →
      exec .eclipseTrigger s = .next (after (reply (eclLatch t (num r.payload 0 1) 1 false true) r St.ok (natLe 8 t.time))))

/-- R345, R348: REG_READ reads words outside the transfer window as a management core at P1, and REG_WRITE writes nothing where one word is not its own. -/
def Clauses.RegisterCommands : Prop :=
  ∀ (s t : State) (r : IcpReq), let off := num r.payload 0 4
    let n := num r.payload 4 2
    (Runs s .fw 0x0A10 r t → off % 4 = 0 → 1 ≤ n → n ≤ 1016 → off + 4 * n ≤ 0x0B100000 ∨ 0x0B200000 ≤ off →
      let x := crsSpan ⟨1, 1, 0⟩ 0 (4 * n + 1) off (4 * n) t
      exec .regRead s = .next (after (reply x.2.2 r St.ok (fit 8 r.payload ++ x.1)))) ∧
    (Runs s .fw 0x0A10 r t → off % 4 ≠ 0 ∨ n = 0 ∨ 1016 < n → exec .regRead s = .next (after (refuse t r St.notPermitted))) ∧
    (Runs s .fw 0x0A11 r t → off % 4 = 0 → (∀ i, i < n → regForbidden (off + 4 * i) = false) →
      exec .regWrite s = .next (after (reply (crsWriteSpan ⟨1, 1, 0⟩ 0 (n + 1) off (fit (4 * n) (r.payload.drop 8)) t).2 r St.ok (fit 6 r.payload ++ zeros 2)))) ∧
    (Runs s .fw 0x0A11 r t → (∃ i, i < n ∧ regForbidden (off + 4 * i) = true) → exec .regWrite s = .next (after (refuse t r St.notPermitted)))

/-! ## Observability, registers, faults and the background -/

/-- R18, R64, R81, R93, R96, R413, R415, R416, R417, R422, R427: reports (none while the management cores are held), snapshots, counters, COMET and the sampler. -/
def Obligations.ObserveCommands : Prop :=
  ∀ s : State,
    (up s = true → s.pwr.coresHeld = true → exec .orbitReport s = .next (after s)) ∧
    (up s = true → s.pwr.coresHeld = false → orbitPeriod s ≠ 0 → orbitDenied s ((bitsOf 9 (rd s Reg.ORBIT_SETS).toNat).flatMap orbitSet) = none →
      let u := { s with bg := { s.bg with orbitSeq := s.bg.orbitSeq + 1 } }
      let b := orbitBytes s (s.bg.orbitSeq + 1) (bitsOf 9 (rd s Reg.ORBIT_SETS).toNat)
      let w := if isSet s Reg.ORBIT_CFG Fld.ORBIT_CFG_DEST then orbitToSlot u (s.bg.orbitSeq + 1) b else orbitToHost u (s.bg.orbitSeq + 1) b
      exec .orbitReport s = .next (after (setBgLevel { w with bg := { w.bg with
        since := aput w.bg.since 17 (max s.time (agetD s.bg.since 17 s.time + ms (orbitPeriod s))) } } 17 0))) ∧
    (configured s = true → dormant s = true → exec .eclipseInRise s = .next (after (dormantWake s .eclipseIn))) ∧
    (configured s = true → dormant s = false → isSet s Reg.ECL_ARM Fld.ECL_ARM_IN_EN = true → s.bg.eclDeaf ≤ s.time →
      (s.bg.eclBusy = none → exec .eclipseInRise s = .next (after (eclFire s 2))) ∧
      (s.bg.eclBusy ≠ none → exec .eclipseInRise s = .next (after { s with bg := { s.bg with eclWait := some (setBit (s.bg.eclWait.getD 0) 1) } }))) ∧
    (configured s = true → dormant s = false → isSet s Reg.ECL_ARM Fld.ECL_ARM_IN_EN = false → exec .eclipseInRise s = .next (after s)) ∧
    (fastUp s = true → ∀ b, s.bg.eclBusy = some b → s.bg.eclWait = none → ∃ t, exec .eclipseAonLatch s = .next (after (msixManagers t 5)) ∧
      getF t Reg.ECL_STATUS (if b.1 = 0 then Fld.ECL_STATUS_VALID_A else Fld.ECL_STATUS_VALID_B) = 1 ∧ getF t Reg.ECL_STATUS Fld.ECL_STATUS_BUSY = 0 ∧
      t.bg.eclBusy = none ∧ t.mem = s.mem ∧ t.out = s.out) ∧
    (fastUp s = true → ∀ bank (i : Fin 8), bank ∈ allBanks → isSet s (Reg.PC_SEL bank i) Fld.PC_SEL_TRIG = false → exec (.counterCarry bank i) s =
      .next (after (setF (wr s (Reg.PC_CNT bank i) 0) (Reg.PC_CTRL bank) Fld.PC_CTRL_OVF (setBit (getF s (Reg.PC_CTRL bank) Fld.PC_CTRL_OVF) i.val)))) ∧
    (up s = true → ∀ c rest told w, s.cong.staging = c :: rest → isFenced s ⟨Uk.comet, 0⟩ = false →
      let u := subShared { s with cong := { s.cong with staging := rest } } c.port 3 1
      ringPut u cometRing (c.bytes ((c.seq + 4294967296 - u.cong.cometNext) % 4294967296)) = (true, told, w) →
      exec .cometRecordWrite s = .next (after { w with cong := { w.cong with cometNext := (c.seq + 1) % 4294967296, cometLast := w.time, cometTold := told } })) ∧
    (up s = true → ringHoldoff s cometRing s.cong.cometLast s.cong.cometTold = true →
      exec .cometHoldoffExpiry s = .next (after (msixManagers { s with cong := { s.cong with cometTold := true } } 6))) ∧
    (up s = true → ringHoldoff s smpRing s.cong.smpLast s.cong.smpTold = true →
      exec .smpHoldoffExpiry s = .next (after (msixManagers { s with cong := { s.cong with smpTold := true } } 7))) ∧
    (up s = true → ∀ i rest e told w, s.cong.smpDone = i :: rest → aget s.cong.smpEntries i = some e → isFenced s ⟨Uk.sampler, 0⟩ = false → ddrOk s = true →
      smpRing.full s = false → let u := { (smpAdmit s e.inPort).2 with cong := { (smpAdmit s e.inPort).2.cong with
        smpDone := rest, smpEntries := adel (smpAdmit s e.inPort).2.cong.smpEntries i } }
      ((smpAdmit s e.inPort).1 = true → ringPut u smpRing e.bytes = (true, told, w) →
        exec .samplerSpill s = .next (after { w with cong := { w.cong with smpLast := w.time, smpTold := told } })) ∧
      ((smpAdmit s e.inPort).1 = false → exec .samplerSpill s = .next (after (bump u Reg.SMP_LOST_CNT))))

/-- R94, R95, R158, R417, R423, R427, R464, R465: writes of the registers of counters, rings and logs that reach them. The counter
bank of the MPU block (13) lies where MPU 15's registers do, which go before it (log entry 24). -/
def Clauses.LogAndRingRegisters : Prop :=
  ∀ (s : State) (m : Master) (w : Word),
    (∀ mask : Fin 4, Lands s m Reg.ECL_STATUS (low32 (Fld.ECL_STATUS_VALID_B.set (Fld.ECL_STATUS_VALID_A.set 0 (mask.val % 2)) (mask.val / 2))) →
      ∃ t, exec (.eclBankRelease m mask) s = .next (after t) ∧
        getF t Reg.ECL_STATUS Fld.ECL_STATUS_VALID_A = (if mask.val % 2 = 1 then 0 else getF s Reg.ECL_STATUS Fld.ECL_STATUS_VALID_A) ∧
        getF t Reg.ECL_STATUS Fld.ECL_STATUS_VALID_B = (if 2 ≤ mask.val then 0 else getF s Reg.ECL_STATUS Fld.ECL_STATUS_VALID_B) ∧ t.mem = s.mem) ∧
    (∀ bank, bank ∈ allBanks → bank ≠ 13 → accessUp s m = true → s.half = [] → crsCheck s m (bankBase bank) .write = (0, s) →
      (∀ on, ∃ t, exec (.pcFreeze m bank on) s = .next (after t) ∧ isSet t (Reg.PC_CTRL bank) Fld.PC_CTRL_FREEZE = on ∧
        (∀ i : Fin 8, rd t (Reg.PC_CNT bank i) = rd s (Reg.PC_CNT bank i))) ∧
      ∃ t, exec (.pcClear m bank) s = .next (after t) ∧ rd t (Reg.PC_CYCLE bank) = 0 ∧ (∀ i : Fin 8, rd t (Reg.PC_CNT bank i) = 0) ∧
        getF t (Reg.PC_CTRL bank) Fld.PC_CTRL_OVF = 0 ∧ isSet t (Reg.PC_CTRL bank) Fld.PC_CTRL_FREEZE = isSet s (Reg.PC_CTRL bank) Fld.PC_CTRL_FREEZE) ∧
    (Lands s m Reg.COMET_CTRL (low32 (Fld.COMET_CTRL_EN.set w 1)) → isSet s Reg.COMET_CTRL Fld.COMET_CTRL_EN = false →
      ∃ t, exec (.cometEnSet m w) s = .next (after t) ∧ isSet t Reg.COMET_CTRL Fld.COMET_CTRL_EN = true ∧ rd t Reg.COMET_WR_PTR = 0 ∧ rd t Reg.COMET_RD_PTR = 0 ∧
        getF t Reg.COMET_STATUS Fld.COMET_STATUS_STOPPED = 0) ∧
    (Lands s m Reg.COMET_CTRL (low32 (Fld.COMET_CTRL_EN.set w 0)) →
      ∃ t, exec (.cometEnClear m w) s = .next (after t) ∧ isSet t Reg.COMET_CTRL Fld.COMET_CTRL_EN = false ∧ rd t Reg.COMET_WR_PTR = rd s Reg.COMET_WR_PTR ∧
        rd t Reg.COMET_RD_PTR = rd s Reg.COMET_RD_PTR) ∧
    (Lands s m Reg.COMET_RD_PTR (low32 w) → exec (.cometRdPtrWrite m w) s = .next (after (ringRead s cometRing (w.toNat % 2 ^ 32)))) ∧
    (Lands s m Reg.SMP_CTRL (low32 (Fld.SMP_CTRL_EN.set w 1)) → isSet s Reg.SMP_CTRL Fld.SMP_CTRL_EN = false →
      ∃ t, exec (.smpEnSet m w) s = .next (after t) ∧ isSet t Reg.SMP_CTRL Fld.SMP_CTRL_EN = true ∧ rd t Reg.SMP_RING_WR = 0 ∧ rd t Reg.SMP_RING_RD = 0 ∧
        getF t Reg.SMP_STATUS Fld.SMP_STATUS_STOPPED = 0) ∧
    (Lands s m Reg.SMP_RING_RD (low32 w) → exec (.smpRdWrite m w) s = .next (after (ringRead s smpRing (w.toNat % 2 ^ 32)))) ∧
    (∀ (r : RingRegs) v, let c := r.cap s
      let old := (rd s r.rdPtr).toNat
      (v < c → (v + c - old % c) % c ≤ r.unread s → r.full (wr s r.rdPtr (BitVec.ofNat 64 v)) = false →
        ringRead s r v = setF (wr s r.rdPtr (BitVec.ofNat 64 v)) r.status Fld.COMET_STATUS_STOPPED 0) ∧
      (c ≤ v ∨ r.unread s < (v + c - old % c) % c → ringRead s r v = setF s r.status Fld.COMET_STATUS_CFG_ERR 1)) ∧
    (∀ v : Fin 32, Lands s m (Reg.PFL_PTR v) (low32 w) → let old := getF s (Reg.PFL_PTR v) Fld.PFL_PTR_RD
      let new := w.toNat % 2 ^ 32 % 64
      exec (.pflRdWrite m v w) s = .next (after (if (new + 64 - old) % 64 ≤ (getF s (Reg.PFL_PTR v) Fld.PFL_PTR_WR + 64 - old) % 64
        then setF s (Reg.PFL_PTR v) Fld.PFL_PTR_RD new else s))) ∧
    (Lands s m Reg.SB_ERR_PTR (low32 w) → let old := getF s Reg.SB_ERR_PTR Fld.SB_ERR_PTR_RD
      let new := w.toNat % 2 ^ 32 % 32
      exec (.sbErrRdWrite m w) s = .next (after (if (new + 32 - old) % 32 ≤ (getF s Reg.SB_ERR_PTR Fld.SB_ERR_PTR_WR + 32 - old) % 32
        then setF s Reg.SB_ERR_PTR Fld.SB_ERR_PTR_RD new else s))) ∧
    (∀ i : Fin 256, Lands s m (Reg.SB_POLL i) w →
      (Fld.SB_POLL_EN.get w = 0 ∨ (busLoad s (Fld.SB_POLL_BUS.get w) i w ≤ 800000000 ∧ s.sb.legacyBus.contains (Fld.SB_POLL_BUS.get w) = false) →
        isSet s (Reg.SB_POLL i) Fld.SB_POLL_EN = false → exec (.sbPollWrite m i w) s =
        .next (after (setF (wr s (Reg.SB_POLL i) (Fld.SB_POLL_PERIOD.set (w &&& 0xDFFCFFFF00FFFFFF#64) (pollPeriod w))) (Reg.SB_POLL_VAL i) Fld.SB_POLL_VAL_VALID 0))) ∧
      (Fld.SB_POLL_EN.get w = 1 → 800000000 < busLoad s (Fld.SB_POLL_BUS.get w) i w →
        exec (.sbPollWrite m i w) s = .next (after (setF s Reg.SB_STATUS Fld.SB_STATUS_ERR 1))))

/-- R79, R113, R114, R132, R135, R137, R148, R209, R271: a read through an access register puts the entry into the data registers; a write stores the entry that the
data registers hold, where the writer is a management core and the entry may stand. -/
def Obligations.TableAccessRegisters : Prop :=
  ∀ (s : State) (m : Master) (w : Word),
    let pass := fun (u : State) (ofs : Nat) (a : Rwx) => mpuAllows u 0 (0x8000000000 + ofs) a m.id.val 1 = true
    (∀ op, op ≤ 1 → let v := low32 (Fld.FAM_ACC_OP.set w op)
      let u := accStore s Reg.FAM_ACC v 0x0C01FFFF
      let i := v.toNat % 131072
      Lands s m Reg.FAM_ACC v →
      (op = 0 → pass u (32 * i) .read → exec (.famAccRead m w) s = .next (after (putData u (fun k => Reg.FAM_DATA k) (famBytes s i)))) ∧
      (op = 1 → (1 ≤ m.id.val ∧ m.id.val ≤ 4) ∨ m.id.val = 11 → let b := getData u (fun k => Reg.FAM_DATA k) 4
        ownerTable u (famRead b).owner = some true →
        ((famLiveStep u (famNext u) (i, b)).isSome → pass u (32 * i) .write → exec (.famAccWrite m w) s = .next (after (famApply u [(i, famRead b)]))) ∧
        (famLiveStep u (famNext u) (i, b) = none → exec (.famAccWrite m w) s = .next (after (accRefuse u Reg.FAM_ACC)))) ∧
      (op = 1 → ownerTable u (famRead (getData u (fun k => Reg.FAM_DATA k) 4)).owner ≠ some true → exec (.famAccWrite m w) s = .next (after (accRefuse u Reg.FAM_ACC))) ∧
      (op = 1 → m.id.val = 0 ∨ (5 ≤ m.id.val ∧ m.id.val ≠ 11) → exec (.famAccWrite m w) s = .next (after (accRefuse u Reg.FAM_ACC)))) ∧
    (∀ op, op ≤ 1 → let v := low32 (Fld.BIND_ACC_OP.set w op)
      let u := accStore s Reg.BIND_ACC v 0x0C003FFF
      let i := v.toNat % 16384
      Lands s m Reg.BIND_ACC v →
      (op = 0 → pass u (0xC00000 + 16 * i) .read → exec (.bindAccRead m w) s = .next (after (putData u (fun k => Reg.BIND_DATA k) (bindBytes s i)))) ∧
      (op = 1 → (1 ≤ m.id.val ∧ m.id.val ≤ 4) ∨ m.id.val = 11 → 2 ≤ mode u → mode u ≤ 4 → pass u (0xC00000 + 16 * i) .write →
        ownerTable u (bindRead (getData u (fun k => Reg.BIND_DATA k) 2)).owner = some true →
        (bindLiveStep u true (bindNext u) (i, getData u (fun k => Reg.BIND_DATA k) 2)).isSome →
        exec (.bindAccWrite m w) s = .next (after (bindApply u [(i, bindRead (getData u (fun k => Reg.BIND_DATA k) 2))]))) ∧
      (op = 1 → mode u ≤ 1 → exec (.bindAccWrite m w) s = .next (after (accRefuse u Reg.BIND_ACC)))) ∧
    (∀ op, op ≤ 1 → let v := low32 (Fld.ROUTE_ACC_OP.set w op)
      let u := accStore s Reg.ROUTE_ACC v 0x0C000FFF
      let i := v.toNat % 4096
      Lands s m Reg.ROUTE_ACC v →
      (op = 0 → pass u (0xC40000 + 64 * i) .read → exec (.routeAccRead m w) s = .next (after (putData u (fun k => Reg.ROUTE_DATA k) (routeBytes s i)))) ∧
      (op = 1 → (1 ≤ m.id.val ∧ m.id.val ≤ 4) ∨ m.id.val = 11 → pass u (0xC40000 + 64 * i) .write →
        exec (.routeAccWrite m w) s = .next (after (routeWrite u i (getData u (fun k => Reg.ROUTE_DATA k) 8))))) ∧
    (∀ op, op ≤ 1 → let v := low32 (Fld.TBL_ACC_OP.set w op)
      let u := accStore s Reg.TBL_ACC v 0x3C00FFFF
      let i := v.toNat % 65536
      Lands s m Reg.TBL_ACC v → Fld.TBL_ACC_TABLE.get v = 0 → i < 16384 →
      (op = 0 → pass u (0xF00000 + 64 * i) .read → exec (.tblAccRead m w) s = .next (after (putData u (fun k => Reg.TBL_DATA k) (meterBytes s i)))) ∧
      (op = 1 → ∀ x, meterWritten u (getData u (fun k => Reg.TBL_DATA k) 8) = some x → pass u (0xF00000 + 64 * i) .write →
        exec (.tblAccWrite m w) s = .next (after { u with cong := { u.cong with meters := aput u.cong.meters i x } }))) ∧
    (∀ p : Fin 64, Lands s m (Reg.METER_MAP p) (low32 w) →
      exec (.meterMapWrite m p w) s = .next (after (regPlain s m.id.val (Reg.METER_MAP p) (low32 w) 0xFFFFFFFF#64))) ∧
    (let u := accStore s Reg.CTX_ACC (low32 w) 0x0C03FFFF
     let i := (low32 w).toNat % 262144
     Lands s m Reg.CTX_ACC (low32 w) →
      (accOp (low32 w) = 0 → i ≠ 0x3FFFF → pass u (0x400000 + 24 * i) .read →
        exec (.ctxAccRead m w) s = .next (after (putData u (fun k => Reg.CTX_DATA k) (ctxBytesAt s i)))) ∧
      (accOp (low32 w) ≠ 0 → exec (.ctxAccRead m w) s = .next (after (accRefuse u Reg.CTX_ACC)))) ∧
    (let u := accStore s Reg.TWIN_SHADOW_ACC (low32 w) 0x3C01FFFF
     let i := (low32 w).toNat % 131072
     Lands s m Reg.TWIN_SHADOW_ACC (low32 w) → accOp (low32 w) = 0 → Fld.TWIN_SHADOW_ACC_TABLE.get (low32 w) = 0 → pass u (0x1000000 + 32 * i) .read →
      exec (.twinShadowRead m w) s = .next (after (putData u (fun k => Reg.TWIN_SHADOW_DATA k) (fit 64 (shadowFamBytes s i))))) ∧
    (∀ t : Fin 16, let k := Reg.TILE_COEF_ACC t
      (Lands s m k (low32 (Fld.TILE_COEF_ACC_CLR.set w 0)) → let v := low32 (Fld.TILE_COEF_ACC_CLR.set w 0)
        bitsAt v.toNat 0 3 ≤ 5 → exec (.tileCoefRead m t w) s = .next (after (putData (accStore s k v 0xF7) (fun i => Reg.TILE_COEF_DATA t i)
          (fit 64 (coefOf s t (bitsAt v.toNat 4 4) (bitsAt v.toNat 0 3)))))) ∧
      (Lands s m k (low32 (Fld.TILE_COEF_ACC_CLR.set w 1)) → let v := low32 (Fld.TILE_COEF_ACC_CLR.set w 1)
        exec (.tileCoefClear m t w) s = .next (after ((accStore s k v 0xF7).modTile t (fun x => { x with coef := x.coef.filter (fun e => e.1 / 8 != bitsAt v.toNat 4 4) })))))

/-- R189, R194, R200, R305, R307, R308, R309: the control registers of links and ports. -/
def Clauses.LinkAndPortRegisters : Prop :=
  ∀ (s : State) (m : Master) (w : Word),
    (∀ n : Fin 32, let k := Reg.CZ_CTRL n
      let plain := fun v : Word => regPlain s m.id.val k v (0xFFFFFFFF#64 &&& ~~~(Fld.CZ_CTRL_TRAIN_EN.mask ||| Fld.CZ_CTRL_OFFER_W.mask ||| Fld.CZ_CTRL_OFFER_R.mask))
      let base := fun v : Word => offerWrite (plain v) n (Fld.CZ_CTRL_OFFER_W.get v) (Fld.CZ_CTRL_OFFER_R.get v)
      (let v := low32 (Fld.CZ_CTRL_RESET_REQ.set w 1)
       Lands s m k v → getF s k Fld.CZ_CTRL_TRAIN_EN = Fld.CZ_CTRL_TRAIN_EN.get v →
        exec (.czResetReq m n w) s = .next (after (czResetReq (base v) n))) ∧
      (let v := low32 (Fld.CZ_CTRL_TRAIN_EN.set w 0)
       Lands s m k v → Fld.CZ_CTRL_RESET_REQ.get v = 0 → isSet s k Fld.CZ_CTRL_TRAIN_EN = true →
        exec (.czTrainEnClear m n w) s = .next (after (trainEnClear (base v) n))) ∧
      (let v := low32 (Fld.CZ_CTRL_TRAIN_EN.set w 1)
       Lands s m k v → Fld.CZ_CTRL_RESET_REQ.get v = 0 → isSet s k Fld.CZ_CTRL_TRAIN_EN = false →
        exec (.czTrainEnSet m n w) s = .next (after (trainEnSet (base v) n))) ∧
      (let v := low32 w
       Lands s m k v → Fld.CZ_CTRL_RESET_REQ.get v = 0 → getF s k Fld.CZ_CTRL_TRAIN_EN = Fld.CZ_CTRL_TRAIN_EN.get v →
        exec (.czOfferWrite m n w) s = .next (after (base v))) ∧
      (Lands s m (Reg.CZ_STORED n) (low32 (Fld.CZ_STORED_CLEAR.set w 1)) → exec (.czStoredClear m n w) s = .next (after (storedClear s n)))) ∧
    (∀ p : Fin 64, let k := Reg.PORT_CTRL p
      let kept := fun v : Word => getF s k Fld.PORT_CTRL_PERST_FORCE = Fld.PORT_CTRL_PERST_FORCE.get v ∧ getF s k Fld.PORT_CTRL_DISABLE = Fld.PORT_CTRL_DISABLE.get v
      (let v := low32 (Fld.PORT_CTRL_RETRAIN.set w 1)
       Lands s m k v → kept v → Fld.PORT_CTRL_RELEASE.get v = 0 → exec (.portRetrain m p w) s = .next (after (retrain s p))) ∧
      (let v := low32 (Fld.PORT_CTRL_RELEASE.set w 1)
       Lands s m k v → kept v → Fld.PORT_CTRL_RETRAIN.get v = 0 → exec (.portRelease m p w) s = .next (after (portRelease s p))) ∧
      (let v := low32 (Fld.PORT_CTRL_RELEASE.set (Fld.PORT_CTRL_RETRAIN.set w 0) 0)
       Lands s m k v → getF s k Fld.PORT_CTRL_DISABLE = Fld.PORT_CTRL_DISABLE.get v → getF s k Fld.PORT_CTRL_PERST_FORCE ≠ Fld.PORT_CTRL_PERST_FORCE.get v →
        exec (.portPerstForce m p w) s = .next (after (perstForce s p (Fld.PORT_CTRL_PERST_FORCE.get v == 1)))) ∧
      (let v := low32 w
       Lands s m k v → getF s k Fld.PORT_CTRL_PERST_FORCE = Fld.PORT_CTRL_PERST_FORCE.get v → getF s k Fld.PORT_CTRL_DISABLE ≠ Fld.PORT_CTRL_DISABLE.get v →
        Fld.PORT_CTRL_RELEASE.get v = 0 → Fld.PORT_CTRL_RETRAIN.get v = 0 →
        exec (.portDisable m p w) s = .next (after (setDisable s p (Fld.PORT_CTRL_DISABLE.get v == 1)))))

/-- R9, R10, R11, R349, R449, R454: every read and every write of a register is carried out. A read answers what the register shows and clears its RC fields; a write stores
its RW fields, clears RW1C fields where it writes 1, leaves every other field to the part; a 64-bit register is read and written whole, or half by half through the value that
its master holds; where no register stands a read returns 0 and a write does nothing; the change of an SPW field by another master than the SP is recorded, and leaves the
field; what an MPU turns away reaches nothing. -/
def Clauses.RegisterAccess : Prop :=
  ∀ (s : State) (a : Access), accessUp s a.by_ = true → let m := a.by_.id.val
    (spaceUp s a.space = true → exec (.readClearField a) s = .next (after (accessRead s a)) ∧
      ∀ w, exec (.registerWrite a w) s = .next (after (accessWrite s a w))) ∧
    (a.space = .crs → inBridge a.offset = false → exportRead s a.offset a.bytes = none → crsCheck s a.by_ a.offset .read = (0, s) →
      (∀ h, crsAt a.offset = some h → s.half = [] →
        (h.fam.width = 32 → a.bytes = 4 → a.offset % 4 = 0 →
          exec (.readClearField a) s = .next (after (emit (clearOnRead s h.key) (.readData a.by_ (low32 (regView s h.key)) false)))) ∧
        (h.fam.width = 64 → h.high = false → a.bytes = 8 → a.offset % 8 = 0 →
          exec (.readClearField a) s = .next (after (emit (clearOnRead s h.key) (.readData a.by_ (regView s h.key) false)))) ∧
        (h.fam.width = 64 → h.high = false → a.bytes = 4 → a.offset % 4 = 0 →
          exec (.readClearField a) s = .next (after (emit (halfPut (clearOnRead s h.key) m h.key false ((regView s h.key).toNat / 2 ^ 32))
            (.readData a.by_ (low32 (regView s h.key)) false)))) ∧
        (h.fam.width = 64 → h.high = true → a.bytes = 4 → a.offset % 4 = 0 →
          exec (.readClearField a) s = .next (after (emit (clearRead s h.key 0xFFFFFFFF00000000#64)
            (.readData a.by_ (BitVec.ofNat 64 ((regView s h.key).toNat / 2 ^ 32)) false))))) ∧
      (∀ h x, crsAt a.offset = some h → s.half = [⟨m, h.key, false, x⟩] → x < 2 ^ 32 → h.fam.width = 64 → h.high = true → a.bytes = 4 → a.offset % 4 = 0 →
        exec (.readClearField a) s = .next (after (emit { s with half := [] } (.readData a.by_ (BitVec.ofNat 64 x) false)))) ∧
      (crsAt a.offset = none → ringMirror a.offset = none → exec (.readClearField a) s = .next (after (emit s (.readData a.by_ 0 false))))) ∧
    (∀ w, a.space = .crs → inBridge a.offset = false → crsCheck s a.by_ a.offset .write = (0, s) →
      (∀ h, crsAt a.offset = some h → s.half = [] →
        (h.fam.width = 32 → a.bytes = 4 → a.offset % 4 = 0 →
          exec (.registerWrite a w) s = .next (after (regCommit s m h.key (low32 w) 0xFFFFFFFF#64 a.offset))) ∧
        (h.fam.width = 64 → h.high = false → a.bytes = 8 → a.offset % 8 = 0 →
          exec (.registerWrite a w) s = .next (after (regCommit s m h.key w (BitVec.allOnes 64) a.offset))) ∧
        (h.fam.width = 64 → h.high = false → a.bytes = 4 → a.offset % 4 = 0 →
          exec (.registerWrite a w) s = .next (after (halfPut s m h.key true (w.toNat % 2 ^ 32)))) ∧
        (h.fam.width = 64 → h.high = true → a.bytes = 4 → a.offset % 4 = 0 →
          exec (.registerWrite a w) s = .next (after (regCommit s m h.key (BitVec.ofNat 64 (w.toNat % 2 ^ 32 * 2 ^ 32)) 0xFFFFFFFF00000000#64 a.offset)))) ∧
      (∀ h x, crsAt a.offset = some h → s.half = [⟨m, h.key, true, x⟩] → h.fam.width = 64 → h.high = true → a.bytes = 4 → a.offset % 4 = 0 →
        exec (.registerWrite a w) s = .next (after (regCommit { s with half := [] } m h.key (BitVec.ofNat 64 (w.toNat % 2 ^ 32 * 2 ^ 32 + x)) (BitVec.allOnes 64) (a.offset - 4)))) ∧
      (crsAt a.offset = none → exec (.registerWrite a w) s = .next (after s))) ∧
    (∀ h, a.space ≠ .crs → spaceUp s a.space = true → barReg s a.space a.offset = some h → h.fam.width = 32 → a.bytes = 4 → a.offset % 4 = 0 → s.half = [] →
      exec (.readClearField a) s = .next (after (emit (clearOnRead s h.key) (.readData a.by_ (regView s h.key) false))) ∧
      ∀ w, exec (.registerWrite a w) s = .next (after (regCommit s 13 h.key (low32 w) 0xFFFFFFFF#64 a.offset))) ∧
    (∀ w t, a.space = .crs → crsCheck s a.by_ a.offset .write = (1, t) → exec (.registerWrite a w) s = .next (after t)) ∧
    (∀ w t, a.space = .crs → crsCheck s a.by_ a.offset .write = (2, t) → exec (.registerWrite a w) s = .next (after (emit t (.writeErr a.by_)))) ∧
    (∀ t c, a.space = .crs → crsCheck s a.by_ a.offset .read = (c, t) → c ≠ 0 → exec (.readClearField a) s = .next (after (emit t (.readData a.by_ 0 (c == 2))))) ∧
    (∀ k w mask off, m ≠ 0 → mpuLocked s k = true → regCommit s m k w mask off = spwRecord s m off) ∧
    (∀ k w mask off t, t = (if spwAttempt s m k w mask then spwRecord s m off else s) → cvuOf k = none → accWrite t m k w = none → ringWrite t m k w mask = none →
      barRegWrite t k w mask = none → unitWrite t m k w mask = none → mpuLocked s k = false ∨ m = 0 → regCommit s m k w mask off = regPlain t m k w mask) ∧
    (∀ k w mask f, famOf k = some f → isLog k = false → regPlain s m k w mask = wr s k (stored k (storedBits f m (rd s k) w mask))) ∧
    (∀ off, let r := Reg.SP_SPW_LOG
      let fault := fun u : State => detect (bump u Reg.SP_SPW_CNT) 0x0010 .corrected Uk.master m (m % 16 * 2 ^ 32 + off % 2 ^ 32)
      (isSet s r Fld.SP_SPW_LOG_VALID = false → spwRecord s m off =
        fault (setF (setF (setF s r Fld.SP_SPW_LOG_MASTER m) r Fld.SP_SPW_LOG_OFFSET off) r Fld.SP_SPW_LOG_VALID 1)) ∧
      (isSet s r Fld.SP_SPW_LOG_VALID = true → spwRecord s m off = fault (setF s r Fld.SP_SPW_LOG_SECOND 1)))

/-- R9: what a write leaves of each bit of a register: the written value in RW and RWS fields and, for the SP, SPW fields; 0 where 1 is written to an RW1C field; the
old value elsewhere and outside the bits that the access covers. -/
def Clauses.StoredBits : Prop :=
  ∀ (f : Family) (m : Nat) (old w mask : Word) (i : Nat),
    (storedBits f m old w mask).getLsbD i =
      if (f.maskOf (fun a => a == .rw1c)).getLsbD i && mask.getLsbD i && w.getLsbD i then false
      else if (f.maskOf (fun a => a == .rw || a == .rws || (a == .spw && m == 0))).getLsbD i && mask.getLsbD i then w.getLsbD i
      else old.getLsbD i

/-- R354, R362, R369, R370, R371, R372, R373, R455: faults reported, windows of correctable events, FAULT_N, the check-value units and the MPUs' commits. -/
def Clauses.SafetyRegisters : Prop :=
  ∀ (s : State) (m : Master) (w : Word),
    (spUp s = true →
      (∀ f, exec (.faultRaised f) s = .next (after { s with fcu := { s.fcu with due := s.fcu.due ++ [f] } })) ∧
      (∀ u group, exec (.correctableWindowExpiry u group) s = .next (after { s with fcu := { s.fcu with
        windows := s.fcu.windows.filter (fun x => !(x.unit == u && x.group == group)) } }))) ∧
    (s.pwr.faultNLow = true → faultNHeld s = false → s.pwr.faultNSince + 500 ≤ s.edge →
      exec .faultNRelease s = .next (after { s with pwr := { s.pwr with faultNLow := false }, out := s.out ++ [.faultN false] })) ∧
    (∀ n : Fin 8, let state := rd s (Reg.CV_STATE n)
      cvOwner s n m.id.val = true → isFenced s ⟨Uk.cvu, n⟩ = false →
      (Lands s m (Reg.CV_DATA8 n) (low32 w) → isSet s (Reg.CV_CTRL n) Fld.CV_CTRL_EN = true → exec (.cvDataWrite n m 0 w) s =
        .next (after (wr s (Reg.CV_STATE n) (BitVec.ofNat 64 (cvByte (cvAlg s n) state.toNat (BitVec.ofNat 8 (low32 w).toNat)))))) ∧
      (Lands s m (Reg.CV_DATA32 n) (low32 w) → isSet s (Reg.CV_CTRL n) Fld.CV_CTRL_EN = true → exec (.cvDataWrite n m 2 w) s =
        .next (after (wr s (Reg.CV_STATE n) (BitVec.ofNat 64 ((natLe 4 (low32 w).toNat).foldl (cvByte (cvAlg s n)) state.toNat))))) ∧
      (∀ r, Lands s m (match r with | 0 => Reg.CV_DATA8 n | 1 => Reg.CV_DATA16 n | 2 => Reg.CV_DATA32 n) (low32 w) →
        isSet s (Reg.CV_CTRL n) Fld.CV_CTRL_EN = false → exec (.cvDataWrite n m r w) s = .next (after s)) ∧
      (Lands s m (Reg.CV_CTRL n) (low32 (Fld.CV_CTRL_INIT.set (rd s (Reg.CV_CTRL n)) 1)) →
        ∃ t, exec (.cvInit n m) s = .next (after t) ∧ rd t (Reg.CV_STATE n) = BitVec.ofNat 64 (match cvAlg t n with | 2 => 0xFFFF | 3 => 0 | _ => 0xFFFFFFFF)) ∧
      (Lands s m (Reg.CV_END n) (low32 w) → Fld.CV_END_CHECK.get (low32 w) = 0 → isSet s (Reg.CV_CTRL n) Fld.CV_CTRL_ALIVE_EN = false →
        exec (.cvEndWrite n m w) s = .next (after (bump (cvInit (setF (wr s (Reg.CV_RESULT n) (cvCut s n (state.toNat ^^^ cvFinal (cvAlg s n))))
          (Reg.CV_STATUS n) Fld.CV_STATUS_ALIVE_LAST (Fld.CV_END_ALIVE.get (low32 w))) n) (Reg.CV_MSG_CNT n)))) ∧
      (Lands s m (Reg.CV_STATE n) w → exec (.cvStateWrite n m w) s = .next (after (let p := regPlain s m.id.val (Reg.CV_STATE n) w (BitVec.allOnes 64)
        wr p (Reg.CV_STATE n) (cvCut p n (rd p (Reg.CV_STATE n)).toNat))))) ∧
    (∀ n : Fin 8, cvOwner s n m.id.val = false → Lands s m (Reg.CV_END n) (low32 w) →
      exec (.cvEndWrite n m w) s = .next (after (setF s (Reg.CV_STATUS n) Fld.CV_STATUS_FOREIGN 1))) ∧
    (∀ u : Fin 23, Lands s m (Reg.MPU_COMMIT u) 1 → ∃ t, exec (.mpuCommitWrite u m) s = .next (after t) ∧
      getF t (Reg.MPU_STATUS u) Fld.MPU_STATUS_GEN = (getF s (Reg.MPU_STATUS u) Fld.MPU_STATUS_GEN + 1) % 65536 ∧
      t.mpuForce = (mpuKeys u).foldl (fun x k => aset 0 x k (rd s k)) s.mpuForce ∧ t.mem = s.mem) ∧
    (∀ u : Fin 23, Reaches s m (Reg.MPU_DRAIN u) .read → exec (.mpuDrainRead u m) s =
      .next (after (emit (clearOnRead s (Reg.MPU_DRAIN u)) (.readData m (low32 (regView s (Reg.MPU_DRAIN u))) false))))

/-- R403, R404, R407, R408, R409, R410, R431, R459: the fill of LPDDR4X, LAUNDER's accesses, the scrub of the SP's SRAM, the journal and its sectors. -/
def Clauses.BackgroundCommands : Prop :=
  ∀ s : State, up s = true →
    (isSet s Reg.DDR_STATUS Fld.DDR_STATUS_READY = true → s.ddr.fillNext < 1792 → exec .ddrFillBlock s = .next (after { s with ddr := { s.ddr with
      fillNext := s.ddr.fillNext + 1, filled := s.ddr.filled.filter (fun b => b != s.ddr.fillNext) } })) ∧
    (∀ (r : Fin 6) e, isSet s Reg.BG_CTRL Fld.BG_CTRL_LD_EN = true → (r.val = 5 → ddrOk s = true) → let pos := agetD s.bg.ldPos r.val 0
      (pos + 1 < launderWords r.val → ∃ t, exec (.launderAccess r e) s = .next (after t) ∧ agetD t.bg.ldPos r.val 0 = pos + 1) ∧
      (launderWords r.val ≤ pos + 1 → ∃ t, exec (.launderAccess r e) s = .next (after t) ∧ agetD t.bg.ldPos r.val 0 = 0 ∧ bgLevel t r.val = 0)) ∧
    (∀ (r : Fin 6) e, isSet s Reg.BG_CTRL Fld.BG_CTRL_LD_EN = false → exec (.launderAccess r e) s = .next (after s)) ∧
    exec (.spSramScrub .clean) s = .next (after s) ∧
    (s.fcu.injections = [] → exec (.spSramScrub .uncorrectable) s = .next (after { s with
      free := s.free + 1, fcu := { s.fcu with due := s.fcu.due ++ [⟨0x0002, .terminal, ⟨Uk.sp, 0⟩, Config.freeNat s.free % 2 ^ 20, false⟩] } })) ∧
    (∀ k, s.bg.erasing = none → jnlReserve s < 4 → jnlFind s (fun x => !x.erased) (jnlSectors - 1) (jnlHead s + 1) = some k →
      exec .darnSectorErase s = .next (after (modSector { s with bg := { s.bg with erasing := some k } } k (fun x => { x with recs := [], torn := 0 })))) ∧
    (∀ k, s.bg.erasing = some k → s.bg.jbuf = [] →
      exec (.flashOpDone true) s = .next (after (darnReserve (modSector { s with bg := { s.bg with erasing := none } } k
        (fun x => { x with erased := true, headed := false, recs := [], torn := 0 })))) ∧
      exec (.flashOpDone false) s = .next (after (sectorRetire { s with bg := { s.bg with erasing := none } } k 0))) ∧
    (∀ r rest, s.bg.jbuf = r :: rest → headReady s = some s → (jSector s (jnlHead s)).headed = true →
      exec (.journalRecordCommit true) s = .next (after (recordCommit s r)) ∧
      exec (.journalRecordCommit false) s = .next (after (sectorRetire s (jnlHead s) 1))) ∧
    (isSet s Reg.BOOT_STATUS Fld.BOOT_STATUS_READY = true → exec (.recordSectorErase 0) s =
      .next (after { s with flash := { s.flash with bankRec := s.flash.bankRec.tidy bankGen } })) ∧
    (isSet s Reg.BOOT_STATUS Fld.BOOT_STATUS_READY = true → exec (.recordSectorErase 1) s =
      .next (after { s with flash := { s.flash with bank0 := { s.flash.bank0 with sel := s.flash.bank0.sel.tidy selGen } } }))

/-! ## The whole part -/

/-- A step carries out the command at the front of the queue on the state without it; with none waiting, the clock ticks (the model's choice, log entry 8). -/
def Obligations.StepRunsFrontCommand : Prop :=
  ∀ (s : State), (∀ c rest, s.pending = c :: rest → step s = exec c { s with pending := rest }) ∧ (s.pending = [] → step s = .next (tick s))

/-- R14, R351, R448, R459, R476: the state after reset: every register at its reset value, mode 5, everything held in reset, nothing sent, nothing waiting. -/
def Obligations.ResetState : Prop :=
  Sound State.reset ∧ Memory.wf State.reset.mem = true ∧ Regs.wf State.reset.regs = true ∧ (∀ k, rd State.reset k = resetOf k) ∧ mode State.reset = 5 ∧
    powered State.reset = false ∧ State.reset.pwr.porLow = true ∧ State.reset.pending = [] ∧ State.reset.out = [] ∧ State.reset.links = [] ∧
    (∀ n : Fin 32, czState State.reset n = 0) ∧ (∀ p : Fin 64, ltssm State.reset p = 0) ∧ ∀ a, memGet State.reset.mem a = 0#8

/-- R351, R362: after every step, whatever command or tick it carries out, FAULT_N is low while a fault stands and a part whose TERMINAL latch is set is held. -/
def Obligations.SoundPreserved : Prop := ∀ s t : State, Sound s → step s = .next t → Sound t

/-- R450, R459: LPDDR4X keeps its canonical form, reads what was written, and every other byte as before; two memories of that form that read the same are equal. -/
def Obligations.MemoryReadsWhatWasWritten : Prop :=
  ∀ m : List Host.Cell, Memory.wf m = true →
    (∀ a bs, Memory.wf (memWrite m a bs) = true ∧ memRead (memWrite m a bs) a bs.length = bs ∧
      ∀ x, x < a ∨ a + bs.length ≤ x → memGet (memWrite m a bs) x = memGet m x) ∧
    (∀ n, Memory.wf n = true → (∀ x, memGet n x = memGet m x) → n = m)

/-- R9, R448: a register reads what was written to it and every other as before, in a file that keeps its canonical form; a field reads what was put into it, and
leaves every field that shares no bit with it. -/
def Obligations.RegistersAndFields : Prop :=
  (∀ (s : State) k v, Regs.wf s.regs = true → Regs.wf (wr s k v).regs = true ∧ OnlyRegs s (wr s k v) ∧ ∀ j, rd (wr s k v) j = if j = k then v else rd s j) ∧
  (∀ (f : Field) (w : Word) v, f.lsb + f.width ≤ 64 → f.get (f.set w v) = v % 2 ^ f.width ∧
    ∀ g : Field, g.lsb + g.width ≤ f.lsb ∨ f.lsb + f.width ≤ g.lsb → g.get (f.set w v) = g.get w)

/-- R113, R132: the 32 bytes of a FAM entry and the 16 bytes of a binding entry, written with 0 in every reserved field, read back as written. -/
def Obligations.TableEntriesReadBack : Prop :=
  (∀ b : List Byte, b.length = 32 → famReservedSet b = false → (famRead b).bytes = b) ∧
  (∀ b : List Byte, famRead (famRead b).bytes = famRead b) ∧
  (∀ b : List Byte, bindRead (bindRead b).bytes = bindRead b) ∧
  (∀ e : FamEnt, e.win % 4096 = 0 → e.win < 2 ^ 64 → e.remoteBase % 4096 = 0 → e.remoteBase < 2 ^ 64 → e.kind < 4 → e.size < 64 → e.port < 64 → e.node < 4096 →
    e.nodeMask < 4096 → e.vsw < 32 → e.proxyRid < 2 ^ 16 → e.owner < 4096 → e.user < 2 ^ 32 → famRead e.bytes = e) ∧
  (∀ e : BindEnt, e.devRid < 2 ^ 16 → e.kind < 4 → e.port < 64 → e.vsw < 32 → e.bridge < 64 → e.hostDevfn < 256 → e.owner < 4096 → bindRead e.bytes = e)

/-- R30: a strap value of 0 to 5 selects no overlay and leaves the stored record as it is. -/
def Clauses.StrapSelectsNoOverlay : Prop :=
  ∀ s : State, s.pwr.strap ≤ 5 → (bootSelect s).1.overlay = none ∧ (bootSelect s).2 = s

/-- R356: faults detected together are taken highest class first, within a class the lower unit code first, and none is lost. -/
def Obligations.FaultOrder : Prop :=
  ∀ l : List FaultReq, (sortFaults l).Perm l ∧
    (sortFaults l).Pairwise (fun a b => b.cls.code < a.cls.code ∨ (a.cls.code = b.cls.code ∧ a.unit.code ≤ b.unit.code))

/-- R9, R94, R314, R316: what rows of one shape leave unchanged. A register write with no rule of its own changes its register alone; a reply changes nothing of the part but
what carries the reply; a record of COMET or the sampler is stored in the 64 bytes of the ring's next slot and nowhere else; messages that leave change no register and no other
link. -/
def Clauses.Frames : Prop :=
  (∀ (s : State) m k w mask, OnlyRegs s (regPlain s m k w mask) ∧ ∀ j, j ≠ k → rd (regPlain s m k w mask) j = rd s j) ∧
  (∀ (s : State) r st p, Untouched s (reply s r st p) ∧ (r.chan < 128 → (reply s r st p).regs = s.regs)) ∧
  (∀ (s t : State) (r : RingRegs) told b, (r = cometRing ∨ r = smpRing) → b.length = 64 → ringPut s r b = (true, told, t) →
    memRead t.mem (r.addr s) 64 = b ∧ ∀ x, x < r.addr s ∨ r.addr s + 64 ≤ x → memGet t.mem x = memGet s.mem x) ∧
  (∀ (s : State) (n : Fin 32) (f : Link → Link) o, (emit (s.modLink n f) o).regs = s.regs ∧ (emit (s.modLink n f) o).mem = s.mem ∧
    ∀ m, m ≠ n.val → (emit (s.modLink n f) o).link m = s.link m)

/-- R93, R427: the frame of a step that stores a record: every byte of LPDDR4X outside the record's slot reads as before. -/
def Clauses.RecordStoreFrame : Prop :=
  ∀ (s u : State) (c : CometRec) rest told w, up s = true → s.cong.staging = c :: rest → isFenced s ⟨Uk.comet, 0⟩ = false →
    u = subShared { s with cong := { s.cong with staging := rest } } c.port 3 1 →
    (c.bytes ((c.seq + 4294967296 - u.cong.cometNext) % 4294967296)).length = 64 →
    ringPut u cometRing (c.bytes ((c.seq + 4294967296 - u.cong.cometNext) % 4294967296)) = (true, told, w) →
    ∃ t, exec .cometRecordWrite s = .next (after t) ∧ rd t Reg.COMET_WR_PTR = BitVec.ofNat 64 (((rd s Reg.COMET_WR_PTR).toNat + 1) % cometRing.cap s) ∧
      (∀ x, x < cometRing.addr s ∨ cometRing.addr s + 64 ≤ x → memGet t.mem x = memGet s.mem x) ∧ t.flash = s.flash ∧ t.otp = s.otp ∧ t.links = s.links

/-- R351, R355, R360, R362: where nothing is due inside the part, nothing follows a command: the state that its statement names is the state in which it ends. -/
def Obligations.IdleStateRests : Prop := ∀ s : State, Idle s → after s = s

/-! ## Rules of the manual stated whole -/

/-- R225: TWIN_ROLE TAKEOVER is accepted in state SPLIT alone, with the twin link down and the heartbeat lost; otherwise TWIN_DISAGREE. -/
def Obligations.TakeoverByRole : Prop :=
  ∀ (s t : State) (r : IcpReq), Runs s .sp 0x0701 r t → num r.payload 0 1 = 2 →
    (twinState t = 4 ∧ twinLive t = false ∧ hbLost t = true → exec .twinRole s = .next (after (reply (takeover t 5) r St.ok []))) ∧
    (¬(twinState t = 4 ∧ twinLive t = false ∧ hbLost t = true) → exec .twinRole s = .next (after (reply t r St.twinDisagree [])))

/-- R314: with WANT_REPLY, or on a Twin, Twin relay or Tenant channel, every reply of a command is sent; without it those of status OK and ACCEPTED are not, every other one is.
A reply counts the channel's REPLY_ALIVE up. -/
def Obligations.WantReply : Prop :=
  ∀ (s : State) (r : IcpReq) (status : Nat) (payload : List Byte), inSession s r = true →
    let sent := deliver (setAlive s r.chan ⟨(alive s r.chan).exp, ((alive s r.chan).rep + 1) % 16⟩) r.chan r.tag
      (packet (r.opcode % 0x8000 + 0x8000) r.flags r.seq status (alive s r.chan).rep payload)
    (r.flags.testBit 0 = true ∨ r.chan = Ch.twin ∨ r.chan = Ch.relay ∨ 128 ≤ r.chan → sendReply s r status payload = sent) ∧
    (r.flags.testBit 0 = false → r.chan ≠ Ch.twin → r.chan ≠ Ch.relay → r.chan < 128 →
      (status = St.ok ∨ status = St.accepted → sendReply s r status payload = s) ∧ (status ≠ St.ok → status ≠ St.accepted → sendReply s r status payload = sent))

/-- R257: the slots that each split has, each from tile lane 4 × its number up; tile lane i of tile t is device lane 16 × t + i. -/
def Obligations.SlotsOfTile : Prop :=
  (∀ split i width, split < 4 → i < 4 → ((slotExists split i = true ∧ slotWidth split i = width) ↔
    (split, i, width) ∈ [(0, 0, 16), (1, 0, 8), (1, 2, 8), (2, 0, 8), (2, 2, 4), (2, 3, 4), (3, 0, 4), (3, 1, 4), (3, 2, 4), (3, 3, 4)])) ∧
  (∀ (s : State) t i, slotLanes s t i = (List.range (slotWidth (tileSplit s t) i)).map (fun l => 4 * i + l)) ∧
  (∀ (s : State) t i l, slotOn s t i = true → i < 4 → l ∈ slotLanes s t i → l < 16) ∧
  (∀ (s : State) t l, l ∈ lanesInUse s t → levelOf s (laneAge s t l) (pressPeriod s t) = 2 → pressLevel s t l < 2 →
    ∃ u : State, pressLevelChange s t l = { u with fcu := { u.fcu with due := u.fcu.due ++ [⟨0x0300, .contained, ⟨Uk.lane, 16 * t + l⟩, laneAge u t l, false⟩] } })

/-- R368: the algorithms of the check-value units: polynomial, initial value, final XOR, check value over "123456789"; a result has no bit above its width. -/
def Obligations.CheckValueAlgorithms : Prop :=
  let nine : List Byte := [0x31, 0x32, 0x33, 0x34, 0x35, 0x36, 0x37, 0x38, 0x39]
  (cvByte 0 0 0x80 = 0x82F63B78 ∧ cvInitial 0 = 0xFFFFFFFF ∧ cvFinal 0 = 0xFFFFFFFF ∧ nine.foldl (cvByte 0) (cvInitial 0) ^^^ cvFinal 0 = 0xE3069283) ∧
  (cvByte 1 0 0x80 = 0xEDB88320 ∧ cvInitial 1 = 0xFFFFFFFF ∧ cvFinal 1 = 0xFFFFFFFF ∧ nine.foldl (cvByte 1) (cvInitial 1) ^^^ cvFinal 1 = 0xCBF43926) ∧
  (cvByte 2 0 0x01 = 0x1021 ∧ cvInitial 2 = 0xFFFF ∧ cvFinal 2 = 0 ∧ nine.foldl (cvByte 2) (cvInitial 2) ^^^ cvFinal 2 = 0x29B1) ∧
  (cvByte 3 0 0x01 = 0x42F0E1EBA9EA3693 ∧ cvInitial 3 = 0 ∧ cvFinal 3 = 0 ∧ nine.foldl (cvByte 3) (cvInitial 3) ^^^ cvFinal 3 = 0x6C40DF5F0B497347) ∧
  (∀ alg r (bs : List Byte), alg < 4 → r < 2 ^ cvWidth alg → bs.foldl (cvByte alg) r < 2 ^ cvWidth alg) ∧
  (∀ (s : State) n v, (cvCut s n v).toNat < 2 ^ cvWidth (cvAlg s n))

/-- R463: a locked or exclusive access to the transfer window or to another register of the sideband bridge starts no transfer, ends NOT_SUPPORTED (an error response), and is
logged with reason 0x06; where the log is full it is counted. -/
def Obligations.LockedSidebandAccess : Prop :=
  ∀ (s : State) (a : Access), fastUp s = true → a.space = .crs → inBridge a.offset = true → crsCheck s a.by_ a.offset .read = (0, s) →
    exec (.sbLockedAccess a) s = .next (after (emit (sbLog s a.offset a.by_.id.val 0x06 (if inWindow a.offset then (windowParts a.offset).1 else 0) a.by_.vsw.val)
      (.writeErr a.by_))) ∧
    ∀ bus, (sbLog s a.offset a.by_.id.val 0x06 bus a.by_.vsw.val).sb = s.sb

/-! ## Statements of several clauses, each as it stands above -/

/-- R380, R378, R382, R377, R437, R30: The boot: POR_N, the XO, the root PLL, the configuration, the firmware, and the strap: the clauses PorDeassertStartsBoot, XoStableRecordsCause, BootSteps, StrapSelectsNoOverlay together. -/
def Obligations.BootSequence : Prop := Clauses.PorDeassertStartsBoot ∧ Clauses.XoStableRecordsCause ∧ Clauses.BootSteps ∧ Clauses.StrapSelectsNoOverlay

/-- R359, R381, R394, R397, R479, R480: Warm resets, power failure and the loss of a supply: the clauses WarmResetRuns, PowerFailure, SupplyLosses together. -/
def Obligations.ResetsAndSupplies : Prop := Clauses.WarmResetRuns ∧ Clauses.PowerFailure ∧ Clauses.SupplyLosses

/-- R350, R354, R126, R484, R386, R387, R388: Watchdogs, HOST_PERST_N, AON_READ and the Dormant state: the clauses Watchdogs, HostPerst, AonReadShiftsOut, DormantCommands together. -/
def Obligations.PinsAndDormant : Prop := Clauses.Watchdogs ∧ Clauses.HostPerst ∧ Clauses.AonReadShiftsOut ∧ Clauses.DormantCommands

/-- R351, R394, R476, R377, R385, R437: A part in reset, or one that is not configured, ignores every other command: the clauses HeldPartIgnoresCommands, NothingRunsBeforeConfiguration together. -/
def Obligations.HeldPart : Prop := Clauses.HeldPartIgnoresCommands ∧ Clauses.NothingRunsBeforeConfiguration

/-- R383, R384, R261, R263, R280, R273, R279, R401: Tiles: power states, PLLs, calibration, lane passes, margining, lane tests and levels: the clauses TilePowerCommands, TilePllsAndCalibration, PressAndMargining together. -/
def Obligations.TileCommands : Prop := Clauses.TilePowerCommands ∧ Clauses.TilePllsAndCalibration ∧ Clauses.PressAndMargining

/-- R181, R184, R187, R183, R185, R90, R142, R156, R157, R177, R178, R179: Calez: the blocks an ACTIVE link sends, what arrives on it, and who takes an accepted frame: the clauses CalezReportsLeave, CalezBlocksArrive, CalezFrameArrives, CalezFrameTaken together. -/
def Obligations.CalezBlocks : Prop := Clauses.CalezReportsLeave ∧ Clauses.CalezBlocksArrive ∧ Clauses.CalezFrameArrives ∧ Clauses.CalezFrameTaken

/-- R185, R172, R173, R188, R203: Calez: replay, its limit, and the events that take a link down: the clauses CalezReplay, CalezDownReasons together. -/
def Obligations.CalezDown : Prop := Clauses.CalezReplay ∧ Clauses.CalezDownReasons

/-- R201, R203, R268, R269, R270, R192, R193, R196: Calez: QUIET, equalisation, training, and a result that both sides offer: the clauses CalezQuiet, CalezEqualisation, CalezTraining, ParamResultOffered together. -/
def Obligations.CalezTrainingSteps : Prop := Clauses.CalezQuiet ∧ Clauses.CalezEqualisation ∧ Clauses.CalezTraining ∧ Clauses.ParamResultOffered

/-- R190, R191, R98, R174: Calez: RESOLVE and its limit, and the time exchange: the clauses CalezResolve, TimeExchange together. -/
def Obligations.CalezResolveAndTime : Prop := Clauses.CalezResolve ∧ Clauses.TimeExchange

/-- R65: The scheduler serves VC7 first, and the classes of a VC in turn: the clauses SchedulerPick, ClassRoundRobin together. -/
def Obligations.SchedulerOrder : Prop := Clauses.SchedulerPick ∧ Clauses.ClassRoundRobin

/-- R79, R85: Meters and pacing: colours, buckets and tokens stay within their bounds: the clauses MeterColours, PacingTokensBounded together. -/
def Obligations.MetersAndPacing : Prop := Clauses.MeterColours ∧ Clauses.PacingTokensBounded

/-- R84, R86, R87, R88, R144, R149, R150, R155, R156: Timers of flow-rate contexts, contexts, tags, fences and Fabric Error Reports: the clauses FlowRateTimers, ContextTimers, FerTimers together. -/
def Obligations.FabricTimers : Prop := Clauses.FlowRateTimers ∧ Clauses.ContextTimers ∧ Clauses.FerTimers

/-- R149, R150, R147: A context that ends is gone and its tag quarantined; a tag given out is free: the clauses ContextEnds, FreeTagUnused together. -/
def Obligations.ContextsAndTags : Prop := Clauses.ContextEnds ∧ Clauses.FreeTagUnused

/-- R161, R162, R164: Epochs: changes, SYNC_LIMIT, EPOCH_SYNC, and rule changes in order: the clauses EpochCommands, RuleChangesInOrder together. -/
def Obligations.EpochsAndRules : Prop := Clauses.EpochCommands ∧ Clauses.RuleChangesInOrder

/-- R265, R286, R287, R305, R306, R283, R290, R297, R299, R100, R121, R295: PCIe links: up, down, rate and power changes, DLLPs, L1 and messages: the clauses PcieLinkCommands, PcieDllpsAndL1, PcieMessages together. -/
def Obligations.PcieLinks : Prop := Clauses.PcieLinkCommands ∧ Clauses.PcieDllpsAndL1 ∧ Clauses.PcieMessages

/-- R103, R109, R119, R124, R125, R127, R244, R254, R285, R303, R307, R324: What a host writes at the functions of its vSwitch, and how its configuration requests are
answered: the clauses HostWrites, ConfigurationRequests together. -/
def Obligations.HostCommands : Prop := Clauses.HostWrites ∧ Clauses.ConfigurationRequests

/-- R304, R305, R392, R460, R464, R466, R391: Slots: their inputs, the Energy Governor and polling: the clauses SlotCommands, EnergyAndPolling together. -/
def Obligations.SlotsAndEnergy : Prop := Clauses.SlotCommands ∧ Clauses.EnergyAndPolling

/-- R215, R216, R218, R227, R228, R229, R231, R211, R212: The twin pair: heartbeat, states and time-outs: the clauses TwinHeartbeat, TwinPairStates, TwinTimeouts together. -/
def Obligations.TwinPair : Prop := Clauses.TwinHeartbeat ∧ Clauses.TwinPairStates ∧ Clauses.TwinTimeouts

/-- R165, R211, R212, R228, R229, R327: The answers of the partner and of a relay: the clauses TwinReplies, RelayReplies together. -/
def Obligations.PartnerReplies : Prop := Clauses.TwinReplies ∧ Clauses.RelayReplies

/-- R235, R237, R253, R254, R251, R255: The Mover: its instances, and the waits that HARVEST and MOVER_QUIESCE end: the clauses MoverInstances, MoverWaitsEnd together. -/
def Obligations.MoverInstancesAndWaits : Prop := Clauses.MoverInstances ∧ Clauses.MoverWaitsEnd

/-- R49, R329, R343, R344, R345, R441, R442, R443, R348: ICP identity, firmware, configuration, mode and register commands: the clauses ServiceCommands, RegisterCommands together. -/
def Obligations.ServiceAndRegisterCommands : Prop := Clauses.ServiceCommands ∧ Clauses.RegisterCommands

/-- R94, R95, R158, R417, R423, R427, R464, R465, R189, R194, R200, R305: Writes of the control registers of counters, rings, logs, links and ports: the clauses LogAndRingRegisters, LinkAndPortRegisters together. -/
def Obligations.ControlRegisters : Prop := Clauses.LogAndRingRegisters ∧ Clauses.LinkAndPortRegisters

/-- R9, R10, R11, R349, R449, R454: Reads and writes of registers, bit by bit, and what an MPU turns away: the clauses RegisterAccess, StoredBits together. -/
def Obligations.RegisterAccessAndBits : Prop := Clauses.RegisterAccess ∧ Clauses.StoredBits

/-- R354, R362, R369, R370, R371, R372, R373, R455, R403, R404, R407, R408: Faults, FAULT_N, check values, MPUs, LAUNDER, the journal and the LPDDR4X fill: the clauses SafetyRegisters, BackgroundCommands together. -/
def Obligations.SafetyAndBackground : Prop := Clauses.SafetyRegisters ∧ Clauses.BackgroundCommands

/-- R9, R94, R314, R316, R93, R427: Frames: what register writes, replies, records and link messages leave unchanged: the clauses Frames, RecordStoreFrame together. -/
def Obligations.FramesOfRows : Prop := Clauses.Frames ∧ Clauses.RecordStoreFrame
end

