-- ==== Sys2Proof/Laws/State.lean ====
section
/-!
SUPPORT. Laws/State.lean: what each named update of the state does to each field, so that no proof unfolds a record update.
-/
namespace Sys2Proof.Machine

/-! ### wr: a register is written -/

@[simp] theorem wr_regs (s : State) (k : Nat) (v : Word) : (wr s k v).regs = aset (resetOf k) s.regs k v := rfl
@[simp] theorem wr_mem (s : State) (k : Nat) (v : Word) : (wr s k v).mem = s.mem := rfl
@[simp] theorem wr_time (s : State) (k : Nat) (v : Word) : (wr s k v).time = s.time := rfl
@[simp] theorem wr_edge (s : State) (k : Nat) (v : Word) : (wr s k v).edge = s.edge := rfl
@[simp] theorem wr_free (s : State) (k : Nat) (v : Word) : (wr s k v).free = s.free := rfl
@[simp] theorem wr_out (s : State) (k : Nat) (v : Word) : (wr s k v).out = s.out := rfl
@[simp] theorem wr_pwr (s : State) (k : Nat) (v : Word) : (wr s k v).pwr = s.pwr := rfl
@[simp] theorem wr_flash (s : State) (k : Nat) (v : Word) : (wr s k v).flash = s.flash := rfl
@[simp] theorem wr_otp (s : State) (k : Nat) (v : Word) : (wr s k v).otp = s.otp := rfl
@[simp] theorem wr_fcu (s : State) (k : Nat) (v : Word) : (wr s k v).fcu = s.fcu := rfl
@[simp] theorem wr_bg (s : State) (k : Nat) (v : Word) : (wr s k v).bg = s.bg := rfl
@[simp] theorem wr_half (s : State) (k : Nat) (v : Word) : (wr s k v).half = s.half := rfl
@[simp] theorem wr_core (s : State) (k : Nat) (v : Word) : (wr s k v).core = s.core := rfl
@[simp] theorem wr_cong (s : State) (k : Nat) (v : Word) : (wr s k v).cong = s.cong := rfl
@[simp] theorem wr_hosts (s : State) (k : Nat) (v : Word) : (wr s k v).hosts = s.hosts := rfl
@[simp] theorem wr_fab (s : State) (k : Nat) (v : Word) : (wr s k v).fab = s.fab := rfl
@[simp] theorem wr_links (s : State) (k : Nat) (v : Word) : (wr s k v).links = s.links := rfl
@[simp] theorem wr_icp (s : State) (k : Nat) (v : Word) : (wr s k v).icp = s.icp := rfl
@[simp] theorem wr_twin (s : State) (k : Nat) (v : Word) : (wr s k v).twin = s.twin := rfl
@[simp] theorem wr_mover (s : State) (k : Nat) (v : Word) : (wr s k v).mover = s.mover := rfl
@[simp] theorem wr_tiles (s : State) (k : Nat) (v : Word) : (wr s k v).tiles = s.tiles := rfl
@[simp] theorem wr_ports (s : State) (k : Nat) (v : Word) : (wr s k v).ports = s.ports := rfl
@[simp] theorem wr_egv (s : State) (k : Nat) (v : Word) : (wr s k v).egv = s.egv := rfl
@[simp] theorem wr_sb (s : State) (k : Nat) (v : Word) : (wr s k v).sb = s.sb := rfl
@[simp] theorem wr_mpuForce (s : State) (k : Nat) (v : Word) : (wr s k v).mpuForce = s.mpuForce := rfl
@[simp] theorem wr_ddr (s : State) (k : Nat) (v : Word) : (wr s k v).ddr = s.ddr := rfl
@[simp] theorem wr_lineAt (s : State) (k : Nat) (v : Word) : (wr s k v).lineAt = s.lineAt := rfl
@[simp] theorem wr_pending (s : State) (k : Nat) (v : Word) : (wr s k v).pending = s.pending := rfl

/-! ### setF: a field of a register is set -/

@[simp] theorem setF_regs (s : State) (k : Nat) (f : Field) (v : Nat) : (setF s k f v).regs = aset (resetOf k) s.regs k (f.set (rd s k) v) := rfl
@[simp] theorem setF_mem (s : State) (k : Nat) (f : Field) (v : Nat) : (setF s k f v).mem = s.mem := rfl
@[simp] theorem setF_time (s : State) (k : Nat) (f : Field) (v : Nat) : (setF s k f v).time = s.time := rfl
@[simp] theorem setF_edge (s : State) (k : Nat) (f : Field) (v : Nat) : (setF s k f v).edge = s.edge := rfl
@[simp] theorem setF_free (s : State) (k : Nat) (f : Field) (v : Nat) : (setF s k f v).free = s.free := rfl
@[simp] theorem setF_out (s : State) (k : Nat) (f : Field) (v : Nat) : (setF s k f v).out = s.out := rfl
@[simp] theorem setF_pwr (s : State) (k : Nat) (f : Field) (v : Nat) : (setF s k f v).pwr = s.pwr := rfl
@[simp] theorem setF_flash (s : State) (k : Nat) (f : Field) (v : Nat) : (setF s k f v).flash = s.flash := rfl
@[simp] theorem setF_otp (s : State) (k : Nat) (f : Field) (v : Nat) : (setF s k f v).otp = s.otp := rfl
@[simp] theorem setF_fcu (s : State) (k : Nat) (f : Field) (v : Nat) : (setF s k f v).fcu = s.fcu := rfl
@[simp] theorem setF_bg (s : State) (k : Nat) (f : Field) (v : Nat) : (setF s k f v).bg = s.bg := rfl
@[simp] theorem setF_half (s : State) (k : Nat) (f : Field) (v : Nat) : (setF s k f v).half = s.half := rfl
@[simp] theorem setF_core (s : State) (k : Nat) (f : Field) (v : Nat) : (setF s k f v).core = s.core := rfl
@[simp] theorem setF_cong (s : State) (k : Nat) (f : Field) (v : Nat) : (setF s k f v).cong = s.cong := rfl
@[simp] theorem setF_hosts (s : State) (k : Nat) (f : Field) (v : Nat) : (setF s k f v).hosts = s.hosts := rfl
@[simp] theorem setF_fab (s : State) (k : Nat) (f : Field) (v : Nat) : (setF s k f v).fab = s.fab := rfl
@[simp] theorem setF_links (s : State) (k : Nat) (f : Field) (v : Nat) : (setF s k f v).links = s.links := rfl
@[simp] theorem setF_icp (s : State) (k : Nat) (f : Field) (v : Nat) : (setF s k f v).icp = s.icp := rfl
@[simp] theorem setF_twin (s : State) (k : Nat) (f : Field) (v : Nat) : (setF s k f v).twin = s.twin := rfl
@[simp] theorem setF_mover (s : State) (k : Nat) (f : Field) (v : Nat) : (setF s k f v).mover = s.mover := rfl
@[simp] theorem setF_tiles (s : State) (k : Nat) (f : Field) (v : Nat) : (setF s k f v).tiles = s.tiles := rfl
@[simp] theorem setF_ports (s : State) (k : Nat) (f : Field) (v : Nat) : (setF s k f v).ports = s.ports := rfl
@[simp] theorem setF_egv (s : State) (k : Nat) (f : Field) (v : Nat) : (setF s k f v).egv = s.egv := rfl
@[simp] theorem setF_sb (s : State) (k : Nat) (f : Field) (v : Nat) : (setF s k f v).sb = s.sb := rfl
@[simp] theorem setF_mpuForce (s : State) (k : Nat) (f : Field) (v : Nat) : (setF s k f v).mpuForce = s.mpuForce := rfl
@[simp] theorem setF_ddr (s : State) (k : Nat) (f : Field) (v : Nat) : (setF s k f v).ddr = s.ddr := rfl
@[simp] theorem setF_lineAt (s : State) (k : Nat) (f : Field) (v : Nat) : (setF s k f v).lineAt = s.lineAt := rfl
@[simp] theorem setF_pending (s : State) (k : Nat) (f : Field) (v : Nat) : (setF s k f v).pending = s.pending := rfl

/-! ### bumpN: a counter counts -/

@[simp] theorem bumpN_regs (s : State) (k n : Nat) : (bumpN s k n).regs = aset (resetOf k) s.regs k (BitVec.ofNat 64 (min 0xFFFFFFFF ((rd s k).toNat + n))) := rfl
@[simp] theorem bumpN_mem (s : State) (k n : Nat) : (bumpN s k n).mem = s.mem := rfl
@[simp] theorem bumpN_time (s : State) (k n : Nat) : (bumpN s k n).time = s.time := rfl
@[simp] theorem bumpN_edge (s : State) (k n : Nat) : (bumpN s k n).edge = s.edge := rfl
@[simp] theorem bumpN_free (s : State) (k n : Nat) : (bumpN s k n).free = s.free := rfl
@[simp] theorem bumpN_out (s : State) (k n : Nat) : (bumpN s k n).out = s.out := rfl
@[simp] theorem bumpN_pwr (s : State) (k n : Nat) : (bumpN s k n).pwr = s.pwr := rfl
@[simp] theorem bumpN_flash (s : State) (k n : Nat) : (bumpN s k n).flash = s.flash := rfl
@[simp] theorem bumpN_otp (s : State) (k n : Nat) : (bumpN s k n).otp = s.otp := rfl
@[simp] theorem bumpN_fcu (s : State) (k n : Nat) : (bumpN s k n).fcu = s.fcu := rfl
@[simp] theorem bumpN_bg (s : State) (k n : Nat) : (bumpN s k n).bg = s.bg := rfl
@[simp] theorem bumpN_half (s : State) (k n : Nat) : (bumpN s k n).half = s.half := rfl
@[simp] theorem bumpN_core (s : State) (k n : Nat) : (bumpN s k n).core = s.core := rfl
@[simp] theorem bumpN_cong (s : State) (k n : Nat) : (bumpN s k n).cong = s.cong := rfl
@[simp] theorem bumpN_hosts (s : State) (k n : Nat) : (bumpN s k n).hosts = s.hosts := rfl
@[simp] theorem bumpN_fab (s : State) (k n : Nat) : (bumpN s k n).fab = s.fab := rfl
@[simp] theorem bumpN_links (s : State) (k n : Nat) : (bumpN s k n).links = s.links := rfl
@[simp] theorem bumpN_icp (s : State) (k n : Nat) : (bumpN s k n).icp = s.icp := rfl
@[simp] theorem bumpN_twin (s : State) (k n : Nat) : (bumpN s k n).twin = s.twin := rfl
@[simp] theorem bumpN_mover (s : State) (k n : Nat) : (bumpN s k n).mover = s.mover := rfl
@[simp] theorem bumpN_tiles (s : State) (k n : Nat) : (bumpN s k n).tiles = s.tiles := rfl
@[simp] theorem bumpN_ports (s : State) (k n : Nat) : (bumpN s k n).ports = s.ports := rfl
@[simp] theorem bumpN_egv (s : State) (k n : Nat) : (bumpN s k n).egv = s.egv := rfl
@[simp] theorem bumpN_sb (s : State) (k n : Nat) : (bumpN s k n).sb = s.sb := rfl
@[simp] theorem bumpN_mpuForce (s : State) (k n : Nat) : (bumpN s k n).mpuForce = s.mpuForce := rfl
@[simp] theorem bumpN_ddr (s : State) (k n : Nat) : (bumpN s k n).ddr = s.ddr := rfl
@[simp] theorem bumpN_lineAt (s : State) (k n : Nat) : (bumpN s k n).lineAt = s.lineAt := rfl
@[simp] theorem bumpN_pending (s : State) (k n : Nat) : (bumpN s k n).pending = s.pending := rfl

/-! ### bump: a counter counts one -/

@[simp] theorem bump_regs (s : State) (k : Nat) : (bump s k).regs = aset (resetOf k) s.regs k (BitVec.ofNat 64 (min 0xFFFFFFFF ((rd s k).toNat + 1))) := rfl
@[simp] theorem bump_mem (s : State) (k : Nat) : (bump s k).mem = s.mem := rfl
@[simp] theorem bump_time (s : State) (k : Nat) : (bump s k).time = s.time := rfl
@[simp] theorem bump_edge (s : State) (k : Nat) : (bump s k).edge = s.edge := rfl
@[simp] theorem bump_free (s : State) (k : Nat) : (bump s k).free = s.free := rfl
@[simp] theorem bump_out (s : State) (k : Nat) : (bump s k).out = s.out := rfl
@[simp] theorem bump_pwr (s : State) (k : Nat) : (bump s k).pwr = s.pwr := rfl
@[simp] theorem bump_flash (s : State) (k : Nat) : (bump s k).flash = s.flash := rfl
@[simp] theorem bump_otp (s : State) (k : Nat) : (bump s k).otp = s.otp := rfl
@[simp] theorem bump_fcu (s : State) (k : Nat) : (bump s k).fcu = s.fcu := rfl
@[simp] theorem bump_bg (s : State) (k : Nat) : (bump s k).bg = s.bg := rfl
@[simp] theorem bump_half (s : State) (k : Nat) : (bump s k).half = s.half := rfl
@[simp] theorem bump_core (s : State) (k : Nat) : (bump s k).core = s.core := rfl
@[simp] theorem bump_cong (s : State) (k : Nat) : (bump s k).cong = s.cong := rfl
@[simp] theorem bump_hosts (s : State) (k : Nat) : (bump s k).hosts = s.hosts := rfl
@[simp] theorem bump_fab (s : State) (k : Nat) : (bump s k).fab = s.fab := rfl
@[simp] theorem bump_links (s : State) (k : Nat) : (bump s k).links = s.links := rfl
@[simp] theorem bump_icp (s : State) (k : Nat) : (bump s k).icp = s.icp := rfl
@[simp] theorem bump_twin (s : State) (k : Nat) : (bump s k).twin = s.twin := rfl
@[simp] theorem bump_mover (s : State) (k : Nat) : (bump s k).mover = s.mover := rfl
@[simp] theorem bump_tiles (s : State) (k : Nat) : (bump s k).tiles = s.tiles := rfl
@[simp] theorem bump_ports (s : State) (k : Nat) : (bump s k).ports = s.ports := rfl
@[simp] theorem bump_egv (s : State) (k : Nat) : (bump s k).egv = s.egv := rfl
@[simp] theorem bump_sb (s : State) (k : Nat) : (bump s k).sb = s.sb := rfl
@[simp] theorem bump_mpuForce (s : State) (k : Nat) : (bump s k).mpuForce = s.mpuForce := rfl
@[simp] theorem bump_ddr (s : State) (k : Nat) : (bump s k).ddr = s.ddr := rfl
@[simp] theorem bump_lineAt (s : State) (k : Nat) : (bump s k).lineAt = s.lineAt := rfl
@[simp] theorem bump_pending (s : State) (k : Nat) : (bump s k).pending = s.pending := rfl

/-! ### emit: one thing is sent -/

@[simp] theorem emit_regs (s : State) (o : Out) : (emit s o).regs = s.regs := rfl
@[simp] theorem emit_mem (s : State) (o : Out) : (emit s o).mem = s.mem := rfl
@[simp] theorem emit_time (s : State) (o : Out) : (emit s o).time = s.time := rfl
@[simp] theorem emit_edge (s : State) (o : Out) : (emit s o).edge = s.edge := rfl
@[simp] theorem emit_free (s : State) (o : Out) : (emit s o).free = s.free := rfl
@[simp] theorem emit_out (s : State) (o : Out) : (emit s o).out = s.out ++ [o] := rfl
@[simp] theorem emit_pwr (s : State) (o : Out) : (emit s o).pwr = s.pwr := rfl
@[simp] theorem emit_flash (s : State) (o : Out) : (emit s o).flash = s.flash := rfl
@[simp] theorem emit_otp (s : State) (o : Out) : (emit s o).otp = s.otp := rfl
@[simp] theorem emit_fcu (s : State) (o : Out) : (emit s o).fcu = s.fcu := rfl
@[simp] theorem emit_bg (s : State) (o : Out) : (emit s o).bg = s.bg := rfl
@[simp] theorem emit_half (s : State) (o : Out) : (emit s o).half = s.half := rfl
@[simp] theorem emit_core (s : State) (o : Out) : (emit s o).core = s.core := rfl
@[simp] theorem emit_cong (s : State) (o : Out) : (emit s o).cong = s.cong := rfl
@[simp] theorem emit_hosts (s : State) (o : Out) : (emit s o).hosts = s.hosts := rfl
@[simp] theorem emit_fab (s : State) (o : Out) : (emit s o).fab = s.fab := rfl
@[simp] theorem emit_links (s : State) (o : Out) : (emit s o).links = s.links := rfl
@[simp] theorem emit_icp (s : State) (o : Out) : (emit s o).icp = s.icp := rfl
@[simp] theorem emit_twin (s : State) (o : Out) : (emit s o).twin = s.twin := rfl
@[simp] theorem emit_mover (s : State) (o : Out) : (emit s o).mover = s.mover := rfl
@[simp] theorem emit_tiles (s : State) (o : Out) : (emit s o).tiles = s.tiles := rfl
@[simp] theorem emit_ports (s : State) (o : Out) : (emit s o).ports = s.ports := rfl
@[simp] theorem emit_egv (s : State) (o : Out) : (emit s o).egv = s.egv := rfl
@[simp] theorem emit_sb (s : State) (o : Out) : (emit s o).sb = s.sb := rfl
@[simp] theorem emit_mpuForce (s : State) (o : Out) : (emit s o).mpuForce = s.mpuForce := rfl
@[simp] theorem emit_ddr (s : State) (o : Out) : (emit s o).ddr = s.ddr := rfl
@[simp] theorem emit_lineAt (s : State) (o : Out) : (emit s o).lineAt = s.lineAt := rfl
@[simp] theorem emit_pending (s : State) (o : Out) : (emit s o).pending = s.pending := rfl

/-! ### emits: several things are sent -/

@[simp] theorem emits_regs (s : State) (os : List Out) : (emits s os).regs = s.regs := rfl
@[simp] theorem emits_mem (s : State) (os : List Out) : (emits s os).mem = s.mem := rfl
@[simp] theorem emits_time (s : State) (os : List Out) : (emits s os).time = s.time := rfl
@[simp] theorem emits_edge (s : State) (os : List Out) : (emits s os).edge = s.edge := rfl
@[simp] theorem emits_free (s : State) (os : List Out) : (emits s os).free = s.free := rfl
@[simp] theorem emits_out (s : State) (os : List Out) : (emits s os).out = s.out ++ os := rfl
@[simp] theorem emits_pwr (s : State) (os : List Out) : (emits s os).pwr = s.pwr := rfl
@[simp] theorem emits_flash (s : State) (os : List Out) : (emits s os).flash = s.flash := rfl
@[simp] theorem emits_otp (s : State) (os : List Out) : (emits s os).otp = s.otp := rfl
@[simp] theorem emits_fcu (s : State) (os : List Out) : (emits s os).fcu = s.fcu := rfl
@[simp] theorem emits_bg (s : State) (os : List Out) : (emits s os).bg = s.bg := rfl
@[simp] theorem emits_half (s : State) (os : List Out) : (emits s os).half = s.half := rfl
@[simp] theorem emits_core (s : State) (os : List Out) : (emits s os).core = s.core := rfl
@[simp] theorem emits_cong (s : State) (os : List Out) : (emits s os).cong = s.cong := rfl
@[simp] theorem emits_hosts (s : State) (os : List Out) : (emits s os).hosts = s.hosts := rfl
@[simp] theorem emits_fab (s : State) (os : List Out) : (emits s os).fab = s.fab := rfl
@[simp] theorem emits_links (s : State) (os : List Out) : (emits s os).links = s.links := rfl
@[simp] theorem emits_icp (s : State) (os : List Out) : (emits s os).icp = s.icp := rfl
@[simp] theorem emits_twin (s : State) (os : List Out) : (emits s os).twin = s.twin := rfl
@[simp] theorem emits_mover (s : State) (os : List Out) : (emits s os).mover = s.mover := rfl
@[simp] theorem emits_tiles (s : State) (os : List Out) : (emits s os).tiles = s.tiles := rfl
@[simp] theorem emits_ports (s : State) (os : List Out) : (emits s os).ports = s.ports := rfl
@[simp] theorem emits_egv (s : State) (os : List Out) : (emits s os).egv = s.egv := rfl
@[simp] theorem emits_sb (s : State) (os : List Out) : (emits s os).sb = s.sb := rfl
@[simp] theorem emits_mpuForce (s : State) (os : List Out) : (emits s os).mpuForce = s.mpuForce := rfl
@[simp] theorem emits_ddr (s : State) (os : List Out) : (emits s os).ddr = s.ddr := rfl
@[simp] theorem emits_lineAt (s : State) (os : List Out) : (emits s os).lineAt = s.lineAt := rfl
@[simp] theorem emits_pending (s : State) (os : List Out) : (emits s os).pending = s.pending := rfl

/-! ### setLink: a link is replaced -/

@[simp] theorem setLink_regs (s : State) (n : Nat) (l : Link) : (s.setLink n l).regs = s.regs := rfl
@[simp] theorem setLink_mem (s : State) (n : Nat) (l : Link) : (s.setLink n l).mem = s.mem := rfl
@[simp] theorem setLink_time (s : State) (n : Nat) (l : Link) : (s.setLink n l).time = s.time := rfl
@[simp] theorem setLink_edge (s : State) (n : Nat) (l : Link) : (s.setLink n l).edge = s.edge := rfl
@[simp] theorem setLink_free (s : State) (n : Nat) (l : Link) : (s.setLink n l).free = s.free := rfl
@[simp] theorem setLink_out (s : State) (n : Nat) (l : Link) : (s.setLink n l).out = s.out := rfl
@[simp] theorem setLink_pwr (s : State) (n : Nat) (l : Link) : (s.setLink n l).pwr = s.pwr := rfl
@[simp] theorem setLink_flash (s : State) (n : Nat) (l : Link) : (s.setLink n l).flash = s.flash := rfl
@[simp] theorem setLink_otp (s : State) (n : Nat) (l : Link) : (s.setLink n l).otp = s.otp := rfl
@[simp] theorem setLink_fcu (s : State) (n : Nat) (l : Link) : (s.setLink n l).fcu = s.fcu := rfl
@[simp] theorem setLink_bg (s : State) (n : Nat) (l : Link) : (s.setLink n l).bg = s.bg := rfl
@[simp] theorem setLink_half (s : State) (n : Nat) (l : Link) : (s.setLink n l).half = s.half := rfl
@[simp] theorem setLink_core (s : State) (n : Nat) (l : Link) : (s.setLink n l).core = s.core := rfl
@[simp] theorem setLink_cong (s : State) (n : Nat) (l : Link) : (s.setLink n l).cong = s.cong := rfl
@[simp] theorem setLink_hosts (s : State) (n : Nat) (l : Link) : (s.setLink n l).hosts = s.hosts := rfl
@[simp] theorem setLink_fab (s : State) (n : Nat) (l : Link) : (s.setLink n l).fab = s.fab := rfl
@[simp] theorem setLink_links (s : State) (n : Nat) (l : Link) : (s.setLink n l).links = aput s.links n l := rfl
@[simp] theorem setLink_icp (s : State) (n : Nat) (l : Link) : (s.setLink n l).icp = s.icp := rfl
@[simp] theorem setLink_twin (s : State) (n : Nat) (l : Link) : (s.setLink n l).twin = s.twin := rfl
@[simp] theorem setLink_mover (s : State) (n : Nat) (l : Link) : (s.setLink n l).mover = s.mover := rfl
@[simp] theorem setLink_tiles (s : State) (n : Nat) (l : Link) : (s.setLink n l).tiles = s.tiles := rfl
@[simp] theorem setLink_ports (s : State) (n : Nat) (l : Link) : (s.setLink n l).ports = s.ports := rfl
@[simp] theorem setLink_egv (s : State) (n : Nat) (l : Link) : (s.setLink n l).egv = s.egv := rfl
@[simp] theorem setLink_sb (s : State) (n : Nat) (l : Link) : (s.setLink n l).sb = s.sb := rfl
@[simp] theorem setLink_mpuForce (s : State) (n : Nat) (l : Link) : (s.setLink n l).mpuForce = s.mpuForce := rfl
@[simp] theorem setLink_ddr (s : State) (n : Nat) (l : Link) : (s.setLink n l).ddr = s.ddr := rfl
@[simp] theorem setLink_lineAt (s : State) (n : Nat) (l : Link) : (s.setLink n l).lineAt = s.lineAt := rfl
@[simp] theorem setLink_pending (s : State) (n : Nat) (l : Link) : (s.setLink n l).pending = s.pending := rfl

/-! ### modLink: a link is changed -/

@[simp] theorem modLink_regs (s : State) (n : Nat) (f : Link → Link) : (s.modLink n f).regs = s.regs := rfl
@[simp] theorem modLink_mem (s : State) (n : Nat) (f : Link → Link) : (s.modLink n f).mem = s.mem := rfl
@[simp] theorem modLink_time (s : State) (n : Nat) (f : Link → Link) : (s.modLink n f).time = s.time := rfl
@[simp] theorem modLink_edge (s : State) (n : Nat) (f : Link → Link) : (s.modLink n f).edge = s.edge := rfl
@[simp] theorem modLink_free (s : State) (n : Nat) (f : Link → Link) : (s.modLink n f).free = s.free := rfl
@[simp] theorem modLink_out (s : State) (n : Nat) (f : Link → Link) : (s.modLink n f).out = s.out := rfl
@[simp] theorem modLink_pwr (s : State) (n : Nat) (f : Link → Link) : (s.modLink n f).pwr = s.pwr := rfl
@[simp] theorem modLink_flash (s : State) (n : Nat) (f : Link → Link) : (s.modLink n f).flash = s.flash := rfl
@[simp] theorem modLink_otp (s : State) (n : Nat) (f : Link → Link) : (s.modLink n f).otp = s.otp := rfl
@[simp] theorem modLink_fcu (s : State) (n : Nat) (f : Link → Link) : (s.modLink n f).fcu = s.fcu := rfl
@[simp] theorem modLink_bg (s : State) (n : Nat) (f : Link → Link) : (s.modLink n f).bg = s.bg := rfl
@[simp] theorem modLink_half (s : State) (n : Nat) (f : Link → Link) : (s.modLink n f).half = s.half := rfl
@[simp] theorem modLink_core (s : State) (n : Nat) (f : Link → Link) : (s.modLink n f).core = s.core := rfl
@[simp] theorem modLink_cong (s : State) (n : Nat) (f : Link → Link) : (s.modLink n f).cong = s.cong := rfl
@[simp] theorem modLink_hosts (s : State) (n : Nat) (f : Link → Link) : (s.modLink n f).hosts = s.hosts := rfl
@[simp] theorem modLink_fab (s : State) (n : Nat) (f : Link → Link) : (s.modLink n f).fab = s.fab := rfl
@[simp] theorem modLink_links (s : State) (n : Nat) (f : Link → Link) : (s.modLink n f).links = aput s.links n (f (s.link n)) := rfl
@[simp] theorem modLink_icp (s : State) (n : Nat) (f : Link → Link) : (s.modLink n f).icp = s.icp := rfl
@[simp] theorem modLink_twin (s : State) (n : Nat) (f : Link → Link) : (s.modLink n f).twin = s.twin := rfl
@[simp] theorem modLink_mover (s : State) (n : Nat) (f : Link → Link) : (s.modLink n f).mover = s.mover := rfl
@[simp] theorem modLink_tiles (s : State) (n : Nat) (f : Link → Link) : (s.modLink n f).tiles = s.tiles := rfl
@[simp] theorem modLink_ports (s : State) (n : Nat) (f : Link → Link) : (s.modLink n f).ports = s.ports := rfl
@[simp] theorem modLink_egv (s : State) (n : Nat) (f : Link → Link) : (s.modLink n f).egv = s.egv := rfl
@[simp] theorem modLink_sb (s : State) (n : Nat) (f : Link → Link) : (s.modLink n f).sb = s.sb := rfl
@[simp] theorem modLink_mpuForce (s : State) (n : Nat) (f : Link → Link) : (s.modLink n f).mpuForce = s.mpuForce := rfl
@[simp] theorem modLink_ddr (s : State) (n : Nat) (f : Link → Link) : (s.modLink n f).ddr = s.ddr := rfl
@[simp] theorem modLink_lineAt (s : State) (n : Nat) (f : Link → Link) : (s.modLink n f).lineAt = s.lineAt := rfl
@[simp] theorem modLink_pending (s : State) (n : Nat) (f : Link → Link) : (s.modLink n f).pending = s.pending := rfl

/-! ### modPort: a port is changed -/

@[simp] theorem modPort_regs (s : State) (p : Nat) (f : Port → Port) : (s.modPort p f).regs = s.regs := rfl
@[simp] theorem modPort_mem (s : State) (p : Nat) (f : Port → Port) : (s.modPort p f).mem = s.mem := rfl
@[simp] theorem modPort_time (s : State) (p : Nat) (f : Port → Port) : (s.modPort p f).time = s.time := rfl
@[simp] theorem modPort_edge (s : State) (p : Nat) (f : Port → Port) : (s.modPort p f).edge = s.edge := rfl
@[simp] theorem modPort_free (s : State) (p : Nat) (f : Port → Port) : (s.modPort p f).free = s.free := rfl
@[simp] theorem modPort_out (s : State) (p : Nat) (f : Port → Port) : (s.modPort p f).out = s.out := rfl
@[simp] theorem modPort_pwr (s : State) (p : Nat) (f : Port → Port) : (s.modPort p f).pwr = s.pwr := rfl
@[simp] theorem modPort_flash (s : State) (p : Nat) (f : Port → Port) : (s.modPort p f).flash = s.flash := rfl
@[simp] theorem modPort_otp (s : State) (p : Nat) (f : Port → Port) : (s.modPort p f).otp = s.otp := rfl
@[simp] theorem modPort_fcu (s : State) (p : Nat) (f : Port → Port) : (s.modPort p f).fcu = s.fcu := rfl
@[simp] theorem modPort_bg (s : State) (p : Nat) (f : Port → Port) : (s.modPort p f).bg = s.bg := rfl
@[simp] theorem modPort_half (s : State) (p : Nat) (f : Port → Port) : (s.modPort p f).half = s.half := rfl
@[simp] theorem modPort_core (s : State) (p : Nat) (f : Port → Port) : (s.modPort p f).core = s.core := rfl
@[simp] theorem modPort_cong (s : State) (p : Nat) (f : Port → Port) : (s.modPort p f).cong = s.cong := rfl
@[simp] theorem modPort_hosts (s : State) (p : Nat) (f : Port → Port) : (s.modPort p f).hosts = s.hosts := rfl
@[simp] theorem modPort_fab (s : State) (p : Nat) (f : Port → Port) : (s.modPort p f).fab = s.fab := rfl
@[simp] theorem modPort_links (s : State) (p : Nat) (f : Port → Port) : (s.modPort p f).links = s.links := rfl
@[simp] theorem modPort_icp (s : State) (p : Nat) (f : Port → Port) : (s.modPort p f).icp = s.icp := rfl
@[simp] theorem modPort_twin (s : State) (p : Nat) (f : Port → Port) : (s.modPort p f).twin = s.twin := rfl
@[simp] theorem modPort_mover (s : State) (p : Nat) (f : Port → Port) : (s.modPort p f).mover = s.mover := rfl
@[simp] theorem modPort_tiles (s : State) (p : Nat) (f : Port → Port) : (s.modPort p f).tiles = s.tiles := rfl
@[simp] theorem modPort_ports (s : State) (p : Nat) (f : Port → Port) : (s.modPort p f).ports = aput s.ports p (f (s.port p)) := rfl
@[simp] theorem modPort_egv (s : State) (p : Nat) (f : Port → Port) : (s.modPort p f).egv = s.egv := rfl
@[simp] theorem modPort_sb (s : State) (p : Nat) (f : Port → Port) : (s.modPort p f).sb = s.sb := rfl
@[simp] theorem modPort_mpuForce (s : State) (p : Nat) (f : Port → Port) : (s.modPort p f).mpuForce = s.mpuForce := rfl
@[simp] theorem modPort_ddr (s : State) (p : Nat) (f : Port → Port) : (s.modPort p f).ddr = s.ddr := rfl
@[simp] theorem modPort_lineAt (s : State) (p : Nat) (f : Port → Port) : (s.modPort p f).lineAt = s.lineAt := rfl
@[simp] theorem modPort_pending (s : State) (p : Nat) (f : Port → Port) : (s.modPort p f).pending = s.pending := rfl

/-! ### modTile: a tile is changed -/

@[simp] theorem modTile_regs (s : State) (t : Nat) (f : Tile → Tile) : (s.modTile t f).regs = s.regs := rfl
@[simp] theorem modTile_mem (s : State) (t : Nat) (f : Tile → Tile) : (s.modTile t f).mem = s.mem := rfl
@[simp] theorem modTile_time (s : State) (t : Nat) (f : Tile → Tile) : (s.modTile t f).time = s.time := rfl
@[simp] theorem modTile_edge (s : State) (t : Nat) (f : Tile → Tile) : (s.modTile t f).edge = s.edge := rfl
@[simp] theorem modTile_free (s : State) (t : Nat) (f : Tile → Tile) : (s.modTile t f).free = s.free := rfl
@[simp] theorem modTile_out (s : State) (t : Nat) (f : Tile → Tile) : (s.modTile t f).out = s.out := rfl
@[simp] theorem modTile_pwr (s : State) (t : Nat) (f : Tile → Tile) : (s.modTile t f).pwr = s.pwr := rfl
@[simp] theorem modTile_flash (s : State) (t : Nat) (f : Tile → Tile) : (s.modTile t f).flash = s.flash := rfl
@[simp] theorem modTile_otp (s : State) (t : Nat) (f : Tile → Tile) : (s.modTile t f).otp = s.otp := rfl
@[simp] theorem modTile_fcu (s : State) (t : Nat) (f : Tile → Tile) : (s.modTile t f).fcu = s.fcu := rfl
@[simp] theorem modTile_bg (s : State) (t : Nat) (f : Tile → Tile) : (s.modTile t f).bg = s.bg := rfl
@[simp] theorem modTile_half (s : State) (t : Nat) (f : Tile → Tile) : (s.modTile t f).half = s.half := rfl
@[simp] theorem modTile_core (s : State) (t : Nat) (f : Tile → Tile) : (s.modTile t f).core = s.core := rfl
@[simp] theorem modTile_cong (s : State) (t : Nat) (f : Tile → Tile) : (s.modTile t f).cong = s.cong := rfl
@[simp] theorem modTile_hosts (s : State) (t : Nat) (f : Tile → Tile) : (s.modTile t f).hosts = s.hosts := rfl
@[simp] theorem modTile_fab (s : State) (t : Nat) (f : Tile → Tile) : (s.modTile t f).fab = s.fab := rfl
@[simp] theorem modTile_links (s : State) (t : Nat) (f : Tile → Tile) : (s.modTile t f).links = s.links := rfl
@[simp] theorem modTile_icp (s : State) (t : Nat) (f : Tile → Tile) : (s.modTile t f).icp = s.icp := rfl
@[simp] theorem modTile_twin (s : State) (t : Nat) (f : Tile → Tile) : (s.modTile t f).twin = s.twin := rfl
@[simp] theorem modTile_mover (s : State) (t : Nat) (f : Tile → Tile) : (s.modTile t f).mover = s.mover := rfl
@[simp] theorem modTile_tiles (s : State) (t : Nat) (f : Tile → Tile) : (s.modTile t f).tiles = aput s.tiles t (f (s.tile t)) := rfl
@[simp] theorem modTile_ports (s : State) (t : Nat) (f : Tile → Tile) : (s.modTile t f).ports = s.ports := rfl
@[simp] theorem modTile_egv (s : State) (t : Nat) (f : Tile → Tile) : (s.modTile t f).egv = s.egv := rfl
@[simp] theorem modTile_sb (s : State) (t : Nat) (f : Tile → Tile) : (s.modTile t f).sb = s.sb := rfl
@[simp] theorem modTile_mpuForce (s : State) (t : Nat) (f : Tile → Tile) : (s.modTile t f).mpuForce = s.mpuForce := rfl
@[simp] theorem modTile_ddr (s : State) (t : Nat) (f : Tile → Tile) : (s.modTile t f).ddr = s.ddr := rfl
@[simp] theorem modTile_lineAt (s : State) (t : Nat) (f : Tile → Tile) : (s.modTile t f).lineAt = s.lineAt := rfl
@[simp] theorem modTile_pending (s : State) (t : Nat) (f : Tile → Tile) : (s.modTile t f).pending = s.pending := rfl

/-! ### modVsw: a vSwitch is changed -/

@[simp] theorem modVsw_regs (s : State) (v : Nat) (f : Vsw → Vsw) : (s.modVsw v f).regs = s.regs := rfl
@[simp] theorem modVsw_mem (s : State) (v : Nat) (f : Vsw → Vsw) : (s.modVsw v f).mem = s.mem := rfl
@[simp] theorem modVsw_time (s : State) (v : Nat) (f : Vsw → Vsw) : (s.modVsw v f).time = s.time := rfl
@[simp] theorem modVsw_edge (s : State) (v : Nat) (f : Vsw → Vsw) : (s.modVsw v f).edge = s.edge := rfl
@[simp] theorem modVsw_free (s : State) (v : Nat) (f : Vsw → Vsw) : (s.modVsw v f).free = s.free := rfl
@[simp] theorem modVsw_out (s : State) (v : Nat) (f : Vsw → Vsw) : (s.modVsw v f).out = s.out := rfl
@[simp] theorem modVsw_pwr (s : State) (v : Nat) (f : Vsw → Vsw) : (s.modVsw v f).pwr = s.pwr := rfl
@[simp] theorem modVsw_flash (s : State) (v : Nat) (f : Vsw → Vsw) : (s.modVsw v f).flash = s.flash := rfl
@[simp] theorem modVsw_otp (s : State) (v : Nat) (f : Vsw → Vsw) : (s.modVsw v f).otp = s.otp := rfl
@[simp] theorem modVsw_fcu (s : State) (v : Nat) (f : Vsw → Vsw) : (s.modVsw v f).fcu = s.fcu := rfl
@[simp] theorem modVsw_bg (s : State) (v : Nat) (f : Vsw → Vsw) : (s.modVsw v f).bg = s.bg := rfl
@[simp] theorem modVsw_half (s : State) (v : Nat) (f : Vsw → Vsw) : (s.modVsw v f).half = s.half := rfl
@[simp] theorem modVsw_core (s : State) (v : Nat) (f : Vsw → Vsw) : (s.modVsw v f).core = s.core := rfl
@[simp] theorem modVsw_cong (s : State) (v : Nat) (f : Vsw → Vsw) : (s.modVsw v f).cong = s.cong := rfl
@[simp] theorem modVsw_hosts (s : State) (v : Nat) (f : Vsw → Vsw) : (s.modVsw v f).hosts = { s.hosts with vsws := aput s.hosts.vsws v (f (s.vsw v)) } := rfl
@[simp] theorem modVsw_fab (s : State) (v : Nat) (f : Vsw → Vsw) : (s.modVsw v f).fab = s.fab := rfl
@[simp] theorem modVsw_links (s : State) (v : Nat) (f : Vsw → Vsw) : (s.modVsw v f).links = s.links := rfl
@[simp] theorem modVsw_icp (s : State) (v : Nat) (f : Vsw → Vsw) : (s.modVsw v f).icp = s.icp := rfl
@[simp] theorem modVsw_twin (s : State) (v : Nat) (f : Vsw → Vsw) : (s.modVsw v f).twin = s.twin := rfl
@[simp] theorem modVsw_mover (s : State) (v : Nat) (f : Vsw → Vsw) : (s.modVsw v f).mover = s.mover := rfl
@[simp] theorem modVsw_tiles (s : State) (v : Nat) (f : Vsw → Vsw) : (s.modVsw v f).tiles = s.tiles := rfl
@[simp] theorem modVsw_ports (s : State) (v : Nat) (f : Vsw → Vsw) : (s.modVsw v f).ports = s.ports := rfl
@[simp] theorem modVsw_egv (s : State) (v : Nat) (f : Vsw → Vsw) : (s.modVsw v f).egv = s.egv := rfl
@[simp] theorem modVsw_sb (s : State) (v : Nat) (f : Vsw → Vsw) : (s.modVsw v f).sb = s.sb := rfl
@[simp] theorem modVsw_mpuForce (s : State) (v : Nat) (f : Vsw → Vsw) : (s.modVsw v f).mpuForce = s.mpuForce := rfl
@[simp] theorem modVsw_ddr (s : State) (v : Nat) (f : Vsw → Vsw) : (s.modVsw v f).ddr = s.ddr := rfl
@[simp] theorem modVsw_lineAt (s : State) (v : Nat) (f : Vsw → Vsw) : (s.modVsw v f).lineAt = s.lineAt := rfl
@[simp] theorem modVsw_pending (s : State) (v : Nat) (f : Vsw → Vsw) : (s.modVsw v f).pending = s.pending := rfl

/-! ### modFunc: a function is changed -/

@[simp] theorem modFunc_regs (s : State) (v k : Nat) (f : Func → Func) : (s.modFunc v k f).regs = s.regs := rfl
@[simp] theorem modFunc_mem (s : State) (v k : Nat) (f : Func → Func) : (s.modFunc v k f).mem = s.mem := rfl
@[simp] theorem modFunc_time (s : State) (v k : Nat) (f : Func → Func) : (s.modFunc v k f).time = s.time := rfl
@[simp] theorem modFunc_edge (s : State) (v k : Nat) (f : Func → Func) : (s.modFunc v k f).edge = s.edge := rfl
@[simp] theorem modFunc_free (s : State) (v k : Nat) (f : Func → Func) : (s.modFunc v k f).free = s.free := rfl
@[simp] theorem modFunc_out (s : State) (v k : Nat) (f : Func → Func) : (s.modFunc v k f).out = s.out := rfl
@[simp] theorem modFunc_pwr (s : State) (v k : Nat) (f : Func → Func) : (s.modFunc v k f).pwr = s.pwr := rfl
@[simp] theorem modFunc_flash (s : State) (v k : Nat) (f : Func → Func) : (s.modFunc v k f).flash = s.flash := rfl
@[simp] theorem modFunc_otp (s : State) (v k : Nat) (f : Func → Func) : (s.modFunc v k f).otp = s.otp := rfl
@[simp] theorem modFunc_fcu (s : State) (v k : Nat) (f : Func → Func) : (s.modFunc v k f).fcu = s.fcu := rfl
@[simp] theorem modFunc_bg (s : State) (v k : Nat) (f : Func → Func) : (s.modFunc v k f).bg = s.bg := rfl
@[simp] theorem modFunc_half (s : State) (v k : Nat) (f : Func → Func) : (s.modFunc v k f).half = s.half := rfl
@[simp] theorem modFunc_core (s : State) (v k : Nat) (f : Func → Func) : (s.modFunc v k f).core = s.core := rfl
@[simp] theorem modFunc_cong (s : State) (v k : Nat) (f : Func → Func) : (s.modFunc v k f).cong = s.cong := rfl
@[simp] theorem modFunc_hosts (s : State) (v k : Nat) (f : Func → Func) : (s.modFunc v k f).hosts = { s.hosts with vsws := aput s.hosts.vsws v { s.vsw v with funcs := aput (s.vsw v).funcs k (f (agetD (s.vsw v).funcs k Func.init)) } } := rfl
@[simp] theorem modFunc_fab (s : State) (v k : Nat) (f : Func → Func) : (s.modFunc v k f).fab = s.fab := rfl
@[simp] theorem modFunc_links (s : State) (v k : Nat) (f : Func → Func) : (s.modFunc v k f).links = s.links := rfl
@[simp] theorem modFunc_icp (s : State) (v k : Nat) (f : Func → Func) : (s.modFunc v k f).icp = s.icp := rfl
@[simp] theorem modFunc_twin (s : State) (v k : Nat) (f : Func → Func) : (s.modFunc v k f).twin = s.twin := rfl
@[simp] theorem modFunc_mover (s : State) (v k : Nat) (f : Func → Func) : (s.modFunc v k f).mover = s.mover := rfl
@[simp] theorem modFunc_tiles (s : State) (v k : Nat) (f : Func → Func) : (s.modFunc v k f).tiles = s.tiles := rfl
@[simp] theorem modFunc_ports (s : State) (v k : Nat) (f : Func → Func) : (s.modFunc v k f).ports = s.ports := rfl
@[simp] theorem modFunc_egv (s : State) (v k : Nat) (f : Func → Func) : (s.modFunc v k f).egv = s.egv := rfl
@[simp] theorem modFunc_sb (s : State) (v k : Nat) (f : Func → Func) : (s.modFunc v k f).sb = s.sb := rfl
@[simp] theorem modFunc_mpuForce (s : State) (v k : Nat) (f : Func → Func) : (s.modFunc v k f).mpuForce = s.mpuForce := rfl
@[simp] theorem modFunc_ddr (s : State) (v k : Nat) (f : Func → Func) : (s.modFunc v k f).ddr = s.ddr := rfl
@[simp] theorem modFunc_lineAt (s : State) (v k : Nat) (f : Func → Func) : (s.modFunc v k f).lineAt = s.lineAt := rfl
@[simp] theorem modFunc_pending (s : State) (v k : Nat) (f : Func → Func) : (s.modFunc v k f).pending = s.pending := rfl

/-! ### modInst: an instance is changed -/

@[simp] theorem modInst_regs (s : State) (n : Nat) (f : Inst → Inst) : (s.modInst n f).regs = s.regs := rfl
@[simp] theorem modInst_mem (s : State) (n : Nat) (f : Inst → Inst) : (s.modInst n f).mem = s.mem := rfl
@[simp] theorem modInst_time (s : State) (n : Nat) (f : Inst → Inst) : (s.modInst n f).time = s.time := rfl
@[simp] theorem modInst_edge (s : State) (n : Nat) (f : Inst → Inst) : (s.modInst n f).edge = s.edge := rfl
@[simp] theorem modInst_free (s : State) (n : Nat) (f : Inst → Inst) : (s.modInst n f).free = s.free := rfl
@[simp] theorem modInst_out (s : State) (n : Nat) (f : Inst → Inst) : (s.modInst n f).out = s.out := rfl
@[simp] theorem modInst_pwr (s : State) (n : Nat) (f : Inst → Inst) : (s.modInst n f).pwr = s.pwr := rfl
@[simp] theorem modInst_flash (s : State) (n : Nat) (f : Inst → Inst) : (s.modInst n f).flash = s.flash := rfl
@[simp] theorem modInst_otp (s : State) (n : Nat) (f : Inst → Inst) : (s.modInst n f).otp = s.otp := rfl
@[simp] theorem modInst_fcu (s : State) (n : Nat) (f : Inst → Inst) : (s.modInst n f).fcu = s.fcu := rfl
@[simp] theorem modInst_bg (s : State) (n : Nat) (f : Inst → Inst) : (s.modInst n f).bg = s.bg := rfl
@[simp] theorem modInst_half (s : State) (n : Nat) (f : Inst → Inst) : (s.modInst n f).half = s.half := rfl
@[simp] theorem modInst_core (s : State) (n : Nat) (f : Inst → Inst) : (s.modInst n f).core = s.core := rfl
@[simp] theorem modInst_cong (s : State) (n : Nat) (f : Inst → Inst) : (s.modInst n f).cong = s.cong := rfl
@[simp] theorem modInst_hosts (s : State) (n : Nat) (f : Inst → Inst) : (s.modInst n f).hosts = s.hosts := rfl
@[simp] theorem modInst_fab (s : State) (n : Nat) (f : Inst → Inst) : (s.modInst n f).fab = s.fab := rfl
@[simp] theorem modInst_links (s : State) (n : Nat) (f : Inst → Inst) : (s.modInst n f).links = s.links := rfl
@[simp] theorem modInst_icp (s : State) (n : Nat) (f : Inst → Inst) : (s.modInst n f).icp = s.icp := rfl
@[simp] theorem modInst_twin (s : State) (n : Nat) (f : Inst → Inst) : (s.modInst n f).twin = s.twin := rfl
@[simp] theorem modInst_mover (s : State) (n : Nat) (f : Inst → Inst) : (s.modInst n f).mover = { s.mover with insts := aput s.mover.insts n (f (s.inst n)) } := rfl
@[simp] theorem modInst_tiles (s : State) (n : Nat) (f : Inst → Inst) : (s.modInst n f).tiles = s.tiles := rfl
@[simp] theorem modInst_ports (s : State) (n : Nat) (f : Inst → Inst) : (s.modInst n f).ports = s.ports := rfl
@[simp] theorem modInst_egv (s : State) (n : Nat) (f : Inst → Inst) : (s.modInst n f).egv = s.egv := rfl
@[simp] theorem modInst_sb (s : State) (n : Nat) (f : Inst → Inst) : (s.modInst n f).sb = s.sb := rfl
@[simp] theorem modInst_mpuForce (s : State) (n : Nat) (f : Inst → Inst) : (s.modInst n f).mpuForce = s.mpuForce := rfl
@[simp] theorem modInst_ddr (s : State) (n : Nat) (f : Inst → Inst) : (s.modInst n f).ddr = s.ddr := rfl
@[simp] theorem modInst_lineAt (s : State) (n : Nat) (f : Inst → Inst) : (s.modInst n f).lineAt = s.lineAt := rfl
@[simp] theorem modInst_pending (s : State) (n : Nat) (f : Inst → Inst) : (s.modInst n f).pending = s.pending := rfl

/-! ### draw: a free value is drawn -/

@[simp] theorem draw_regs (s : State) (w : Nat) : ((draw s w).2).regs = s.regs := rfl
@[simp] theorem draw_mem (s : State) (w : Nat) : ((draw s w).2).mem = s.mem := rfl
@[simp] theorem draw_time (s : State) (w : Nat) : ((draw s w).2).time = s.time := rfl
@[simp] theorem draw_edge (s : State) (w : Nat) : ((draw s w).2).edge = s.edge := rfl
@[simp] theorem draw_free (s : State) (w : Nat) : ((draw s w).2).free = s.free + 1 := rfl
@[simp] theorem draw_out (s : State) (w : Nat) : ((draw s w).2).out = s.out := rfl
@[simp] theorem draw_pwr (s : State) (w : Nat) : ((draw s w).2).pwr = s.pwr := rfl
@[simp] theorem draw_flash (s : State) (w : Nat) : ((draw s w).2).flash = s.flash := rfl
@[simp] theorem draw_otp (s : State) (w : Nat) : ((draw s w).2).otp = s.otp := rfl
@[simp] theorem draw_fcu (s : State) (w : Nat) : ((draw s w).2).fcu = s.fcu := rfl
@[simp] theorem draw_bg (s : State) (w : Nat) : ((draw s w).2).bg = s.bg := rfl
@[simp] theorem draw_half (s : State) (w : Nat) : ((draw s w).2).half = s.half := rfl
@[simp] theorem draw_core (s : State) (w : Nat) : ((draw s w).2).core = s.core := rfl
@[simp] theorem draw_cong (s : State) (w : Nat) : ((draw s w).2).cong = s.cong := rfl
@[simp] theorem draw_hosts (s : State) (w : Nat) : ((draw s w).2).hosts = s.hosts := rfl
@[simp] theorem draw_fab (s : State) (w : Nat) : ((draw s w).2).fab = s.fab := rfl
@[simp] theorem draw_links (s : State) (w : Nat) : ((draw s w).2).links = s.links := rfl
@[simp] theorem draw_icp (s : State) (w : Nat) : ((draw s w).2).icp = s.icp := rfl
@[simp] theorem draw_twin (s : State) (w : Nat) : ((draw s w).2).twin = s.twin := rfl
@[simp] theorem draw_mover (s : State) (w : Nat) : ((draw s w).2).mover = s.mover := rfl
@[simp] theorem draw_tiles (s : State) (w : Nat) : ((draw s w).2).tiles = s.tiles := rfl
@[simp] theorem draw_ports (s : State) (w : Nat) : ((draw s w).2).ports = s.ports := rfl
@[simp] theorem draw_egv (s : State) (w : Nat) : ((draw s w).2).egv = s.egv := rfl
@[simp] theorem draw_sb (s : State) (w : Nat) : ((draw s w).2).sb = s.sb := rfl
@[simp] theorem draw_mpuForce (s : State) (w : Nat) : ((draw s w).2).mpuForce = s.mpuForce := rfl
@[simp] theorem draw_ddr (s : State) (w : Nat) : ((draw s w).2).ddr = s.ddr := rfl
@[simp] theorem draw_lineAt (s : State) (w : Nat) : ((draw s w).2).lineAt = s.lineAt := rfl
@[simp] theorem draw_pending (s : State) (w : Nat) : ((draw s w).2).pending = s.pending := rfl

end Sys2Proof.Machine
end

