-- ==== Sys2Proof/Laws/Ends.lean ====
section
/-!
SUPPORT. Laws/Ends.lean: how every command ends: the wrappers of the meanings, and where nothing follows from a command.
-/
namespace Sys2Proof.Machine

theorem finish_eq (s : State) : finish s = .next (after s) := rfl

theorem whenUp_eq (s : State) (f : State → State) : whenUp s f = .next (after (if up s then f s else s)) := rfl
theorem whenFast_eq (s : State) (f : State → State) : whenFast s f = .next (after (if fastUp s then f s else s)) := rfl
theorem whenSp_eq (s : State) (f : State → State) : whenSp s f = .next (after (if spUp s then f s else s)) := rfl
theorem whenConfigured_eq (s : State) (f : State → State) : whenConfigured s f = .next (after (if configured s then f s else s)) := rfl

/-- A command of what runs from the configuration on takes effect while it runs. -/
theorem whenUp_up {s : State} (h : up s = true) (f : State → State) : whenUp s f = .next (after (f s)) := by rw [whenUp_eq, if_pos h]
theorem whenFast_up {s : State} (h : fastUp s = true) (f : State → State) : whenFast s f = .next (after (f s)) := by rw [whenFast_eq, if_pos h]
theorem whenSp_up {s : State} (h : spUp s = true) (f : State → State) : whenSp s f = .next (after (f s)) := by rw [whenSp_eq, if_pos h]
theorem whenConfigured_up {s : State} (h : configured s = true) (f : State → State) : whenConfigured s f = .next (after (f s)) := by
  rw [whenConfigured_eq, if_pos h]

theorem fastUp_powered {s : State} (h : fastUp s = true) : powered s = true := by
  simp only [fastUp, Bool.and_eq_true] at h
  exact h.1.1

theorem up_fastUp {s : State} (h : up s = true) : fastUp s = true := by
  simp only [up, Bool.and_eq_true] at h
  exact h.1

/-- The phases of the part are nested: what runs from the configuration on runs with the fast domains, these with the SP. -/
theorem fastUp_spUp {s : State} (h : fastUp s = true) : spUp s = true := by
  simp only [fastUp, spUp, Bool.and_eq_true, Bool.or_eq_true, beq_iff_eq, bne_iff_ne, ne_eq] at h ⊢
  refine ⟨h.1, ?_⟩
  rcases h.2 with (h | h) | h <;> rw [h] <;> decide

theorem up_configured {s : State} (h : up s = true) : configured s = true := by
  simp only [up, fastUp, configured, Bool.and_eq_true, Bool.or_eq_true, beq_iff_eq, bne_iff_ne, ne_eq] at h ⊢
  obtain ⟨⟨⟨hp, _⟩, h⟩, hb⟩ := h
  rcases h with (h | h) | h
  · exact absurd h hb
  · exact ⟨hp, .inl h⟩
  · exact ⟨hp, .inr h⟩

/-- In a part that something holds in reset nothing follows from a command. -/
theorem settle_unpowered {s : State} (h : powered s = false) : settle s = s := by simp [settle, h]

theorem after_unpowered {s : State} (h : powered s = false) : after s = conclude s := by rw [after, settle_unpowered h]

/-- The AON domain leaves a part alone in which no fault stands. -/
theorem conclude_of_clear {s : State} (h : faultNHeld s = false) : conclude s = s := by
  have ht : s.pwr.terminal = false := by
    simp only [faultNHeld, Bool.or_eq_false_iff] at h
    exact h.2
  simp [conclude, ht, faultNDrive, h]

/-- FAULT_N is driven low exactly when something begins to hold it. -/
theorem faultNDrive_low {s : State} (h : faultNHeld s = true) : (faultNDrive s).pwr.faultNLow = true := by
  unfold faultNDrive
  by_cases hl : s.pwr.faultNLow = true
  · simp [h, hl]
  · simp [h, hl]

/-- One pass is enough where it changes nothing. -/
theorem settleLoop_fix {n : Nat} {s : State} (h1 : unbindReady (slotHeld (sbSweep s)) = s) (h2 : up s = true → retryCtx (icpResume s) = s)
    (h3 : countLatch (flushFaults (flushTwin (moverIrqs (moverDue (flushLocal s))))) = s) (h4 : settled s = true) : settleLoop (n + 1) s = s := by
  unfold settleLoop
  by_cases hu : up s = true
  · simp only [h1, hu, if_true, h2 hu, h3, h4]
  · simp only [h1, hu, Bool.false_eq_true, if_false, h3, h4, if_true]

end Sys2Proof.Machine
end

