-- ==== Sys2Proof/Laws/Icp.lean ====
section
/-!
SUPPORT. Laws/Icp.lean: an ICP command whose decoder begins it is carried out on the state in which it runs.
-/
namespace Sys2Proof.Machine

theorem decoderUp_up {s : State} {d : Decoder} (h : decoderUp s d = true) : up s = true := by
  cases d
  · exact h
  · simp only [decoderUp, Bool.and_eq_true] at h
    exact h.1
  · exact h

theorem Begins.up {s t : State} {d : Decoder} {o : Nat} {r : IcpReq} (h : Begins s d o r t) : Machine.up s = true := decoderUp_up h.1

theorem icpCommand_begins {s t : State} {d : Decoder} {o : Nat} {r : IcpReq} (h : Begins s d o r t) (f : IcpReq → State → State) :
    icpCommand s d o f = f r t := by
  rw [icpCommand, if_pos h.1, h.2]

theorem whenUp_icpCommand {s t : State} {d : Decoder} {o : Nat} {r : IcpReq} (h : Begins s d o r t) (f : IcpReq → State → State) :
    whenUp s (fun s => icpCommand s d o f) = .next (after (f r t)) := by
  rw [whenUp_up h.up, icpCommand_begins h]

theorem whenUp_icpRun {s t : State} {d : Decoder} {o : Nat} {r : IcpReq} (h : Runs s d o r t) (f : IcpReq → State → State) :
    whenUp s (fun s => icpRun s d o f) = .next (after (f r t)) := by
  simp only [icpRun]
  rw [whenUp_icpCommand h.1, if_neg (by rw [h.2]; exact Bool.false_ne_true)]

end Sys2Proof.Machine
end

