-- ==== Sys2Proof/Laws/Tables.lean ====
section
/-!
SUPPORT. Laws/Tables.lean: reading a table after it has been written, and the order of its keys.
-/
namespace Sys2Proof.Machine

variable {α : Type}

/-! ### Keys above a bound -/

/-- Every key of a table lies above `b`. -/
def above (b : Nat) (t : Assoc α) : Prop := ∀ e ∈ t, b < e.1

theorem above_mono {a b : Nat} {t : Assoc α} (h : above b t) (hab : a ≤ b) : above a t := fun e he => Nat.lt_of_le_of_lt hab (h e he)

theorem rising_cons {a : Nat} {v : α} {t : Assoc α} : rising ((a, v) :: t) = true ↔ above a t ∧ rising t = true := by
  induction t generalizing a v with
  | nil => simp [rising, above]
  | cons e t ih =>
    obtain ⟨b, w⟩ := e
    have hb := ih (a := b) (v := w)
    rw [rising, Bool.and_eq_true, hb]
    simp only [decide_eq_true_eq, above, List.mem_cons, forall_eq_or_imp]
    constructor
    · rintro ⟨hab, h1, h2⟩
      exact ⟨⟨hab, fun e he => Nat.lt_trans hab (h1 e he)⟩, h1, h2⟩
    · rintro ⟨⟨hab, _⟩, h1, h2⟩
      exact ⟨hab, h1, h2⟩

theorem aget_of_above {t : Assoc α} {k : Nat} (h : above k t) : aget t k = none := by
  induction t with
  | nil => rfl
  | cons e t ih =>
    obtain ⟨a, v⟩ := e
    have hk : k < a := h (a, v) (by simp)
    have ht : above k t := fun e he => h e (by simp [he])
    simp [aget, Nat.ne_of_gt hk, ih ht]

/-! ### Reading after writing -/

@[simp] theorem aget_aput_self (t : Assoc α) (k : Nat) (v : α) : aget (aput t k v) k = some v := by
  induction t with
  | nil => simp [aput, aget]
  | cons e t ih =>
    obtain ⟨a, w⟩ := e
    unfold aput
    split
    · simp [aget]
    · split
      · simp [aget]
      · rename_i h1 h2
        simp [aget, Ne.symm h2, ih]

theorem aget_aput_ne {t : Assoc α} {k j : Nat} {v : α} (h : j ≠ k) : aget (aput t k v) j = aget t j := by
  induction t with
  | nil => simp [aput, aget, Ne.symm h]
  | cons e t ih =>
    obtain ⟨a, w⟩ := e
    unfold aput
    split
    · simp [aget, Ne.symm h]
    · split
      · rename_i hk
        subst hk
        simp [aget, Ne.symm h]
      · simp [aget, ih]

theorem aget_adel_self (t : Assoc α) (k : Nat) : aget (adel t k) k = none := by
  induction t with
  | nil => rfl
  | cons e t ih =>
    obtain ⟨a, w⟩ := e
    by_cases h : a = k
    · simpa [adel, h] using ih
    · simpa [adel, h, aget] using ih

theorem aget_adel_ne {t : Assoc α} {k j : Nat} (h : j ≠ k) : aget (adel t k) j = aget t j := by
  induction t with
  | nil => rfl
  | cons e t ih =>
    obtain ⟨a, w⟩ := e
    by_cases ha : a = k
    · subst ha
      simpa [adel, aget, Ne.symm h] using ih
    · by_cases hj : a = j
      · subst hj
        simp [adel, aget, h]
      · simpa [adel, ha, aget, hj] using ih

theorem agetD_aput (t : Assoc α) (k j : Nat) (v d : α) : agetD (aput t k v) j d = if j = k then v else agetD t j d := by
  unfold agetD
  split
  · rename_i h
    subst h
    simp
  · rename_i h
    rw [aget_aput_ne h]

theorem agetD_aset [DecidableEq α] (t : Assoc α) (k j : Nat) (v d : α) : agetD (aset d t k v) j d = if j = k then v else agetD t j d := by
  unfold aset
  split
  · rename_i h
    unfold agetD
    split
    · rename_i hj
      subst hj
      rw [aget_adel_self, h]
      rfl
    · rename_i hj
      rw [aget_adel_ne hj]
  · exact agetD_aput t k j v d

/-- A write to one key leaves what every other key reads, whatever an absent key stands for there. -/
theorem agetD_aset_ne [DecidableEq α] {t : Assoc α} {k j : Nat} {v d e : α} (h : j ≠ k) : agetD (aset d t k v) j e = agetD t j e := by
  unfold aset agetD
  split
  · rw [aget_adel_ne h]
  · rw [aget_aput_ne h]

/-! ### The order of the keys -/

theorem mem_aput {t : Assoc α} {k : Nat} {v : α} {e : Nat × α} (h : e ∈ aput t k v) : e = (k, v) ∨ e ∈ t := by
  induction t with
  | nil => simpa [aput] using h
  | cons x t ih =>
    obtain ⟨a, w⟩ := x
    unfold aput at h
    split at h
    · simpa using h
    · split at h
      · rcases List.mem_cons.mp h with h | h
        · exact .inl h
        · exact .inr (by simp [h])
      · rcases List.mem_cons.mp h with h | h
        · exact .inr (by simp [h])
        · rcases ih h with h | h
          · exact .inl h
          · exact .inr (by simp [h])

theorem rising_aput {t : Assoc α} (k : Nat) (v : α) (h : rising t = true) : rising (aput t k v) = true := by
  induction t with
  | nil => rfl
  | cons e t ih =>
    obtain ⟨a, w⟩ := e
    have ⟨hab, ht⟩ := rising_cons.mp h
    unfold aput
    split
    · rename_i hk
      refine rising_cons.mpr ⟨?_, h⟩
      intro e he
      rcases List.mem_cons.mp he with rfl | he
      · exact hk
      · exact Nat.lt_trans hk (hab e he)
    · split
      · rename_i _ hk
        subst hk
        exact rising_cons.mpr ⟨hab, ht⟩
      · rename_i h1 h2
        refine rising_cons.mpr ⟨?_, ih ht⟩
        intro e he
        rcases mem_aput he with rfl | he
        · exact Nat.lt_of_le_of_ne (Nat.le_of_not_lt h1) (Ne.symm h2)
        · exact hab e he

theorem rising_adel {t : Assoc α} (k : Nat) (h : rising t = true) : rising (adel t k) = true := by
  induction t with
  | nil => rfl
  | cons e t ih =>
    obtain ⟨a, w⟩ := e
    have ⟨hab, ht⟩ := rising_cons.mp h
    by_cases hk : a = k
    · simpa [adel, hk] using ih ht
    · have hd : adel ((a, w) :: t) k = (a, w) :: adel t k := by simp [adel, hk]
      rw [hd]
      exact rising_cons.mpr ⟨fun e he => hab e ((List.mem_filter.mp he).1), ih ht⟩

/-- A table that lists no entry equal to its default keeps so, and keeps its order, through a write. -/
theorem aset_canonical [DecidableEq α] {d : α} {t : Assoc α} (k : Nat) (v : α) (h : rising t = true) (hd : ∀ e ∈ t, e.2 ≠ d) :
    rising (aset d t k v) = true ∧ ∀ e ∈ aset d t k v, e.2 ≠ d := by
  unfold aset
  split
  · exact ⟨rising_adel k h, fun e he => hd e ((List.mem_filter.mp he).1)⟩
  · rename_i hv
    refine ⟨rising_aput k v h, fun e he => ?_⟩
    rcases mem_aput he with rfl | he
    · exact hv
    · exact hd e he

/-- `aput` and `aset` agree where the value is not the default. -/
theorem aset_of_ne [DecidableEq α] {d : α} {t : Assoc α} {k : Nat} {v : α} (h : v ≠ d) : aset d t k v = aput t k v := by
  simp [aset, h]

end Sys2Proof.Machine
end

