-- ==== Sys2Proof/Laws/Memory.lean ====
section
/-!
SUPPORT. Laws/Memory.lean: every operation on LPDDR4X keeps the canonical form of memory, and a read after a write.
-/
namespace Sys2Proof.Machine

theorem memory_wf_iff {m : List Host.Cell} : Memory.wf m = true ↔ rising m = true ∧ ∀ e ∈ m, e.2 ≠ 0#8 := by
  simp [Memory.wf, List.all_eq_true]

theorem memory_wf_nil : Memory.wf [] = true := rfl

/-- Writing one byte keeps the canonical form. -/
theorem memPut_wf {m : List Host.Cell} (a : Nat) (b : Byte) (h : Memory.wf m = true) : Memory.wf (memPut m a b) = true := by
  have ⟨h1, h2⟩ := memory_wf_iff.mp h
  exact memory_wf_iff.mpr (aset_canonical a b h1 h2)

/-- Writing bytes keeps the canonical form. -/
theorem memWrite_wf {m : List Host.Cell} (a : Nat) (bs : List Byte) (h : Memory.wf m = true) : Memory.wf (memWrite m a bs) = true := by
  induction bs generalizing m a with
  | nil => exact h
  | cons b bs ih => exact ih (a + 1) (memPut_wf a b h)

/-- What one byte reads as after one byte has been written. -/
theorem memGet_memPut (m : List Host.Cell) (a x : Nat) (b : Byte) : memGet (memPut m a b) x = if x = a then b else memGet m x :=
  agetD_aset m a x b 0#8

/-- A byte below the first one written reads as before. -/
theorem memGet_memWrite_below {m : List Host.Cell} {a x : Nat} (bs : List Byte) (h : x < a) : memGet (memWrite m a bs) x = memGet m x := by
  induction bs generalizing m a with
  | nil => rfl
  | cons b bs ih =>
    rw [memWrite, ih (Nat.lt_succ_of_lt h), memGet_memPut, if_neg (Nat.ne_of_lt h)]

end Sys2Proof.Machine
end

