-- ==== Sys2Proof/Laws/Regs.lean ====
section
/-!
SUPPORT. Laws/Regs.lean: a register reads what was written to it, every other register as before; the register file keeps its canonical form.
-/
namespace Sys2Proof.Machine

/-- What a register reads after a register has been written. -/
theorem rd_wr (s : State) (k j : Nat) (v : Word) : rd (wr s k v) j = if j = k then v else rd s j := by
  unfold rd
  rw [wr_regs]
  by_cases h : j = k
  · subst h
    simp [agetD_aset]
  · rw [if_neg h, agetD_aset_ne h]

@[simp] theorem rd_wr_self (s : State) (k : Nat) (v : Word) : rd (wr s k v) k = v := by simp [rd_wr]

theorem rd_wr_ne {s : State} {k j : Nat} {v : Word} (h : j ≠ k) : rd (wr s k v) j = rd s j := by simp [rd_wr, h]

theorem rd_setF (s : State) (k j : Nat) (f : Field) (v : Nat) : rd (setF s k f v) j = if j = k then f.set (rd s k) v else rd s j :=
  rd_wr s k j _

theorem rd_bumpN (s : State) (k j n : Nat) :
    rd (bumpN s k n) j = if j = k then BitVec.ofNat 64 (min 0xFFFFFFFF ((rd s k).toNat + n)) else rd s j := rd_wr s k j _

/-- A register reads the same in two states with the same register file. -/
theorem rd_congr {s t : State} (h : s.regs = t.regs) (k : Nat) : rd s k = rd t k := by unfold rd; rw [h]

@[simp] theorem rd_emit (s : State) (o : Out) (k : Nat) : rd (emit s o) k = rd s k := rfl
@[simp] theorem rd_emits (s : State) (os : List Out) (k : Nat) : rd (emits s os) k = rd s k := rfl
@[simp] theorem rd_modLink (s : State) (n : Nat) (f : Link → Link) (k : Nat) : rd (s.modLink n f) k = rd s k := rfl
@[simp] theorem rd_modPort (s : State) (p : Nat) (f : Port → Port) (k : Nat) : rd (s.modPort p f) k = rd s k := rfl
@[simp] theorem rd_modTile (s : State) (t : Nat) (f : Tile → Tile) (k : Nat) : rd (s.modTile t f) k = rd s k := rfl
@[simp] theorem rd_modVsw (s : State) (v : Nat) (f : Vsw → Vsw) (k : Nat) : rd (s.modVsw v f) k = rd s k := rfl
@[simp] theorem rd_modInst (s : State) (n : Nat) (f : Inst → Inst) (k : Nat) : rd (s.modInst n f) k = rd s k := rfl

theorem regs_wf_nil : Regs.wf [] = true := rfl

/-- A link reads what was put there, every other link as before. -/
theorem link_modLink (s : State) (n m : Nat) (f : Link → Link) : (s.modLink n f).link m = if m = n then f (s.link n) else s.link m := by
  simp only [State.link, modLink_links]
  rw [agetD_aput]

theorem port_modPort (s : State) (p q : Nat) (f : Port → Port) : (s.modPort p f).port q = if q = p then f (s.port p) else s.port q := by
  simp only [State.port, modPort_ports]
  rw [agetD_aput]

theorem tile_modTile (s : State) (t u : Nat) (f : Tile → Tile) : (s.modTile t f).tile u = if u = t then f (s.tile t) else s.tile u := by
  simp only [State.tile, modTile_tiles]
  rw [agetD_aput]

theorem vsw_modVsw (s : State) (v u : Nat) (f : Vsw → Vsw) : (s.modVsw v f).vsw u = if u = v then f (s.vsw v) else s.vsw u := by
  simp only [State.vsw, modVsw_hosts]
  rw [agetD_aput]

theorem inst_modInst (s : State) (n m : Nat) (f : Inst → Inst) : (s.modInst n f).inst m = if m = n then f (s.inst n) else s.inst m := by
  simp only [State.inst, modInst_mover]
  rw [agetD_aput]

end Sys2Proof.Machine
end

