-- ==== Sys2Proof/Tests/Slice0.lean ====
section
/-!
SUPPORT. Tests/Slice0.lean: small tests of one command each, the ill-formed operands that WellFormed refuses, and for every statement with hypotheses
a state and operands that meet them.
-/
namespace Sys2Proof.Tests
open Sys2Proof Sys2Proof.Machine

set_option Elab.async false
set_option maxRecDepth 20000

/-! ## States that the tests start from -/

/-- A state with the fields given. -/
def fields (l : List (Nat × Field × Nat)) (s : State) : State := l.foldl (fun s x => setF s x.1 x.2.1 x.2.2) s

/-- A part that has booted, in a mode. -/
def ready (mode : Nat) : State :=
  setF { State.reset with pwr := { State.reset.pwr with phase := .ready, porLow := false, railsOk := true, coresHeld := false } } Reg.GLB_MODE_STATUS Fld.GLB_MODE_STATUS_MODE mode

/-- Mode 3 with a host's port 0 in tile 0, a Calez link (4, port 1) in tile 1, a slot (port 2) in tile 2 below bridge 0 of vSwitch 0, the links of both ports up. -/
def topo : State := fields [
  (Reg.TILE_CFG 0, Fld.TILE_CFG_EN 0, 1), (Reg.TILE_CFG 0, Fld.TILE_CFG_PORT 0, 0),
  (Reg.TILE_CFG 1, Fld.TILE_CFG_EN 0, 1), (Reg.TILE_CFG 1, Fld.TILE_CFG_CALEZ 0, 1), (Reg.TILE_CFG 1, Fld.TILE_CFG_PORT 0, 1),
  (Reg.TILE_CFG 2, Fld.TILE_CFG_EN 0, 1), (Reg.TILE_CFG 2, Fld.TILE_CFG_PORT 0, 2),
  (Reg.VSW_CTRL 0, Fld.VSW_CTRL_EN, 1), (Reg.VSW_CTRL 0, Fld.VSW_CTRL_UP_PORT, 0),
  (Reg.VBR_MAP 0 0, Fld.VBR_MAP_VALID, 1), (Reg.VBR_MAP 0 0, Fld.VBR_MAP_DIRECT, 1), (Reg.VBR_MAP 0 0, Fld.VBR_MAP_PORT, 2),
  (Reg.PORT_CFG 0, Fld.PORT_CFG_LINK_EN, 1), (Reg.PORT_CFG 2, Fld.PORT_CFG_LINK_EN, 1),
  (Reg.PORT_STATUS 0, Fld.PORT_STATUS_DL_ACTIVE, 1), (Reg.PORT_STATUS 0, Fld.PORT_STATUS_LTSSM, Lt.l0),
  (Reg.PORT_STATUS 2, Fld.PORT_STATUS_DL_ACTIVE, 1), (Reg.PORT_STATUS 2, Fld.PORT_STATUS_LTSSM, Lt.l0),
  (Reg.TILE_STATUS 0, Fld.TILE_STATUS_POWER, 0), (Reg.TILE_STATUS 1, Fld.TILE_STATUS_POWER, 0), (Reg.TILE_STATUS 2, Fld.TILE_STATUS_POWER, 0)] (ready 3)

/-- The Calez link of `topo` in a state of its training. -/
def link (state : Nat) : State := setF topo (Reg.CZ_STATUS 4) Fld.CZ_STATUS_STATE state

theorem test_ready_up : up (ready 1) = true := by decide +kernel
theorem test_topo_up : up topo = true ∧ isPcie topo 0 = true ∧ portUp topo 0 = true ∧ upVsw topo 0 = some 0 ∧ directBridge topo 2 = some (0, 0) := by decide +kernel
theorem test_link_active : czActive (link 6) 4 = true ∧ czPort (link 6) 4 = 1 := by decide +kernel

/-! ## Witnesses of the statements: each shows states and operands that meet the hypotheses of one, clause by clause -/

/-- A state with its power state changed. -/
def withPwr (f : Power → Power) (s : State) : State := { s with pwr := f s.pwr }

/-- The XO is awaited after a reset by POR_N. -/
def waiting : State := withPwr (fun p => { p with phase := .waitXo, porLow := false, railsOk := true, cause := some 1 }) State.reset

theorem witness_ColdResetCommands : State.reset.pwr.terminal = false ∧ (ready 1).pwr.porLow = false ∧ (ready 1).pwr.flushing = false ∧
    (ready 1).pwr.phase ≠ .held ∧ watched (ready 1) .xo = true := by decide +kernel
theorem witness_PorDeassertStartsBoot : State.reset.pwr.porLow = true ∧ State.reset.pwr.terminal = false ∧ State.reset.pwr.pwrfailLow = false := by decide +kernel
theorem witness_XoStableRecordsCause : waiting.pwr.phase = .waitXo ∧ waiting.pwr.terminal = false ∧ waiting.pwr.cause = some 1 ∧ 1 < 256 ∧
    (let s := withPwr (fun p => { p with cause := some 255 }) waiting; s.pwr.phase = .waitXo ∧ s.pwr.terminal = false ∧ s.pwr.cause = some 255) := by decide +kernel
theorem witness_BootSteps :
    (let s := withPwr (fun p => { p with phase := .romSlow }) waiting; s.pwr.phase = .romSlow ∧ powered s = true) ∧
    (let s := withPwr (fun p => { p with phase := .booting }) waiting; s.pwr.phase = .booting ∧ fastUp s = true) ∧
    (let s := withPwr (fun p => { p with phase := .configured, coresHeld := false }) (ready 1)
     s.pwr.phase = .configured ∧ up s = true ∧ s.pwr.coresHeld = false ∧ (bankNow s).2.2 ≠ 2) ∧ up (ready 1) = true := by decide +kernel
theorem witness_StrapSelectsNoOverlay : State.reset.pwr.strap ≤ 5 ∧ (withPwr (fun p => { p with strap := 5 }) State.reset).pwr.strap ≤ 5 := by decide +kernel
theorem witness_WarmResetRuns :
    (let s := withPwr (fun p => { p with warmReq := some (8, 0x0500, 0) }) (ready 1); s.pwr.warmReq = some (8, 0x0500, 0) ∧ fastUp s = true) ∧
    (let s := withPwr (fun p => { p with warmReq := some (9, 0, 0) }) (ready 1); s.pwr.warmReq = some (9, 0, 0) ∧ fastUp s = true) := by decide +kernel
theorem witness_PowerFailure : (ready 1).pwr.terminal = false ∧ up (ready 1) = true ∧
    (let s := withPwr (fun p => { p with flushing := true, pwrfailLow := true, phase := .held }) (ready 1); s.pwr.terminal = false ∧ s.pwr.flushing = true) ∧
    (let s := withPwr (fun p => { p with pfDone := true, pwrfailLow := true, phase := .held }) (ready 1)
     s.pwr.terminal = false ∧ s.pwr.pfDone = true ∧ s.pwr.railsOk = true ∧ s.pwr.porLow = false ∧ s.pwr.phase = .held) := by decide +kernel
theorem witness_SupplyLosses : (ready 1).pwr.terminal = false ∧ Rail.vdd2 = .vdd2 ∧ Rail.vddqLp = .vddqLp ∧ Rail.vddCore ≠ .vdd2 ∧ Rail.vddCore ≠ .vddqLp := by decide +kernel
theorem witness_Watchdogs : up (ready 1) = true ∧ (ready 1).pwr.porLow = false ∧ (ready 1).pwr.pfDone = false ∧ (ready 1).pwr.coresHeld = false ∧
    isFenced (ready 1) ⟨Uk.mgmt, 0⟩ = false := by decide +kernel
theorem witness_HostPerst : up (ready 1) = true ∧ configured State.reset = false := by decide +kernel
/-- A part that may enter Dormant. -/
def sleepy : State := (List.range 16).foldl (fun s t => setF s (Reg.TILE_STATUS t) Fld.TILE_STATUS_POWER 2)
  (setF (setF (ready 1) Reg.PWR_CTRL Fld.PWR_CTRL_DORMANT_EN 1) Reg.BG_CTRL Fld.BG_CTRL_LD_EN 0)
/-- A part in Dormant. -/
def asleep : State := setF sleepy Reg.PWR_STATUS Fld.PWR_STATUS_STATE 2
theorem witness_DormantCommands : (dormantMay sleepy = true ∧ dormantDue sleepy = none) ∧
    (let s := { sleepy with time := ms 1000, bg := { sleepy.bg with since := [(16, 0)] } }; dormantMay s = true ∧ dormantDue s = some (ms 1000) ∧ ms 1000 ≤ s.time) ∧
    (getF asleep Reg.PWR_STATUS Fld.PWR_STATUS_STATE = 2 ∧ powered asleep = true) ∧ rd (wr asleep Reg.WAKE_TIMER 1) Reg.WAKE_TIMER ≠ 0 ∧
    getF (wr asleep Reg.WAKE_TIMER 1) Reg.PWR_STATUS Fld.PWR_STATUS_STATE = 2 ∧ powered (wr asleep Reg.WAKE_TIMER 1) = true := by decide +kernel
theorem witness_TerminalLatchStays : ∃ t, Instr.xoStable ≠ .vddAonLoss ∧ (withPwr (fun p => { p with terminal := true }) State.reset).pwr.terminal = true ∧
    exec .xoStable (withPwr (fun p => { p with terminal := true }) State.reset) = .next t := ⟨_, by decide +kernel, by decide +kernel, rfl⟩
theorem witness_HeldPartIgnoresCommands : powered State.reset = false ∧ Instr.keepaliveSend 31 ∉ [Instr.porNAssert, .xoStable, .pwrfailNRecognised, .powerFailFlushDone,
    .pwrfailNRise, .vddAonLoss, .spWatchdogExpired, .aonRead, .faultNRelease] ∧ (∀ x, Instr.keepaliveSend 31 ≠ .porNDeassert x) ∧ (∀ x, Instr.keepaliveSend 31 ≠ .supplyLoss x) ∧
    (∀ x, Instr.keepaliveSend 31 ≠ .hostPerstNAssert x) ∧ (∀ x, Instr.keepaliveSend 31 ≠ .hostPerstNDeassert x) ∧ Instr.keepaliveSend 31 ≠ .twinHbToggle := by
  refine ⟨by decide, by simp, ?_, ?_, ?_, ?_, ?_⟩ <;> (intros; simp)
/-- A part that boots and has no configuration in force yet. -/
def booting : State := withPwr (fun p => { p with phase := .booting }) waiting
theorem witness_NothingRunsBeforeConfiguration : (up State.reset = false ∧ powered State.reset = false) ∧ (up asleep = false ∧ configured asleep = true) ∧
    (up booting = false ∧ powered booting = true ∧ configured booting = false ∧ Arrival.first ≠ .whole) := by decide +kernel

/-- A state with one tile changed. -/
def tileAt (power : Nat) : State := setF topo (Reg.TILE_STATUS 2) Fld.TILE_STATUS_POWER power
/-- `topo` with its slot's port in L1 and its tile allowed to sleep. -/
def sleepyTile (power : Nat) : State := fields [(Reg.PORT_STATUS 2, Fld.PORT_STATUS_LTSSM, Lt.l1), (Reg.PORT_STATUS 2, Fld.PORT_STATUS_L1_SUB, 3),
  (Reg.TILE_PM 2, Fld.TILE_PM_MAX_STATE, 2)] (tileAt power)

theorem witness_TilePowerCommands :
    (up (sleepyTile 0) = true ∧ tilePower (sleepyTile 0) 2 = 0 ∧ 1 ≤ tileMay (sleepyTile 0) 2) ∧
    (up (sleepyTile 1) = true ∧ tilePower (sleepyTile 1) 2 ≤ 1 ∧ tileMay (sleepyTile 1) 2 = 2) ∧
    (∀ k ∈ [1, 2], up (tileAt k) = true ∧ tilePower (tileAt k) 2 = k ∧ ((tileAt k).tile 2).offDue = false) ∧
    (up (tileAt 3) = true ∧ tilePower (tileAt 3) 2 = 3 ∧ isFenced (tileAt 3) ⟨Uk.tile, 2⟩ = false ∧ tilePorts (tileAt 3) 2 ≠ [] ∧ ((tileAt 3).tile 2).offDue = false) ∧
    (let s := (tileAt 0).modTile 2 (fun x => { x with offDue := true }); (s.tile 2).offDue = true ∧ isFenced s ⟨Uk.tile, 2⟩ = false) := by decide +kernel
theorem witness_TilePllsAndCalibration :
    (let s := setF topo (Reg.TILE_STATUS 1) Fld.TILE_STATUS_LC_ON 1; up s = true ∧ isSet s (Reg.TILE_STATUS 1) Fld.TILE_STATUS_LC_ON = true) ∧
    (let s := setF topo (Reg.TILE_STATUS 2) Fld.TILE_STATUS_RING_ON 1; up s = true ∧ isSet s (Reg.TILE_STATUS 2) Fld.TILE_STATUS_RING_ON = true) ∧
    (let s := setF topo (Reg.TILE_STATUS 15) Fld.TILE_STATUS_LC_ON 1
     up s = true ∧ isSet s (Reg.TILE_STATUS 15) Fld.TILE_STATUS_LC_ON = true ∧ ∀ i, i < 4 → slotOn s 15 i = false) ∧
    (let s := topo.modTile 2 (fun x => { x with calRunning := true })
     up s = true ∧ (s.tile 2).calRunning = true ∧ tilePower s 2 = 0 ∧ (s.tile 2).calFor = none) := by decide +kernel
/-- A lane pass without the rotating slice runs on lane 0 of tile 1, whose link is in ALIGN. -/
def pressed : State := (setF (link 3) (Reg.LANE_STATUS 1 0) Fld.LANE_STATUS_LOCKED 0).modTile 1 (fun x => { x with press := some (0, false) })
/-- The port of tile 2 in L0. -/
def inL0 : State := setF topo (Reg.PORT_STATUS 2) Fld.PORT_STATUS_LTSSM Lt.l0
theorem witness_PressAndMargining :
    (up pressed = true ∧ pressStep pressed 1 0 = some false ∧ (pressed.tile 1).press = some (0, false) ∧ laneCrit pressed 1 0 ≤ 255) ∧
    (up inL0 = true ∧ (List.range 4).find? (fun i => slotOn inL0 2 i && (slotLanes inL0 2 i).contains 15) = some 0 ∧ slotCalez inL0 2 0 = false ∧
      ltssm inL0 (slotPort inL0 2 0) = Lt.l0 ∧ marginValue inL0 2 0 .maxLanes = some 15 ∧ 32 ≤ 32 ∧ 64 ≤ 64 ∧ pressLevel inL0 2 15 = 0 ∧ (inL0.tile 2).press = none ∧ (inL0.tile 2).margined.contains 15 = false) ∧
    (let s := setF inL0 (Reg.PRESS_LEVEL 2) (Fld.PRESS_LEVEL_LEVEL 15) 1
     up s = true ∧ (List.range 4).find? (fun i => slotOn s 2 i && (slotLanes s 2 i).contains 15) = some 0 ∧ slotCalez s 2 0 = false ∧
      ltssm s (slotPort s 2 0) = Lt.l0 ∧ 1 ≤ pressLevel s 2 15) ∧ 65535 < 65536 ∧
    ((5 < 6 ∨ 5 = 16 ∨ 5 = 17) ∧ levelOf topo (bgAge topo 5) (ms (bgDeadline topo 5)) ≤ 1) ∧
    (levelOf topo (bgAge topo 17) (ms (bgDeadline topo 17)) ≤ 1) ∧
    (let s := { topo with time := ms 100000000 }; up s = true ∧ levelOf s (bgAge s 0) (ms (bgDeadline s 0)) = 2 ∧ bgLevel s 0 < 2) ∧
    (let s := { topo with time := ms 100000000, bg := { topo.bg with since := [(16, 0)] } }
     up s = true ∧ levelOf s (bgAge s 16) (ms (bgDeadline s 16)) = 2 ∧ bgLevel s 16 < 2) := by decide +kernel

/-- A frame with a body, on VC7. -/
def frame (b : FrameBody) : Frame := ⟨1, 7, 0, true, true, false, 0, 0, 16, none, none, 0, b⟩
/-- The link of `topo` with its state outside the registers changed. -/
def linkWith (state : Nat) (f : Link → Link) : State := (link state).modLink 4 f
/-- A memory read request. -/
def request : Tlp := ⟨.memRead, .byAddress, 0, false, false, false, 4096, 0, 256, 1, 0, 0, 64, [], false, false, false, false, false, 0, []⟩
/-- A fabric header towards a node. -/
def toNode (node : Nat) : FabHdr := ⟨node, 0, 1, 0, 0, 0, 0, false, false, 0, none, false, 0, 0, 1⟩

theorem witness_CalezReportsLeave : up (link 6) = true ∧ czActive (link 6) 4 = true ∧
    (let s := linkWith 6 (fun l => { l with unreported := 1 }); up s = true ∧ czActive s 4 = true ∧ (s.link 4).unreported ≠ 0) := by decide +kernel
/-- The link of `topo` whose partner is node 5 in session 7. -/
def partnered : State := fields [(Reg.CZ_PEER 4, Fld.CZ_PEER_PEER_NODE, 5), (Reg.CZ_PEER 4, Fld.CZ_PEER_PEER_SESSION, 7)] (link 6)
theorem witness_CalezBlocksArrive : up partnered = true ∧ czActive partnered 4 = true ∧
    5 % 4096 = getF partnered (Reg.CZ_PEER 4) Fld.CZ_PEER_PEER_NODE ∧ 7 % 256 = getF partnered (Reg.CZ_PEER 4) Fld.CZ_PEER_PEER_SESSION ∧
    6 % 4096 ≠ getF partnered (Reg.CZ_PEER 4) Fld.CZ_PEER_PEER_NODE ∧ 8 % 256 ≠ getF partnered (Reg.CZ_PEER 4) Fld.CZ_PEER_PEER_SESSION ∧
    czActive (czAckTo (partnered.modLink 4 (fun l => { l with discarding := false })) 4 4095) 4 = true ∧ 7 < 8 ∧ 3 < 4 ∧ 65535 < 65536 := by decide +kernel
theorem witness_AckCoversOldestFrames : (let s := linkWith 6 (fun l => { l with unacked := [⟨{ frame (.test 0 []) with seq := 4095 }, none⟩, ⟨frame (.test 0 []), none⟩] })
    1 < (s.link 4).unacked.length ∧ (s.link 4).unacked.length ≤ 2047 ∧ 0 < 4096 ∧
    (s.link 4).unacked = ⟨{ frame (.test 0 []) with seq := 4095 }, none⟩ :: [⟨frame (.test 0 []), none⟩] ∧ 4095 < 4096 ∧ 0 = (4095 + 1) % 4096) := by decide +kernel
/-- A link with one frame not acknowledged, after some replays. -/
def replayed (k : Nat) : State := linkWith 6 (fun l => { l with unacked := [⟨frame (.test 0 []), none⟩], replays := k, replayAt := 0 })
theorem witness_CalezReplay :
    (up (replayed 0) = true ∧ czActive (replayed 0) 4 = true ∧ ((replayed 0).link 4).unacked = ⟨frame (.test 0 []), none⟩ :: [] ∧ ((replayed 0).link 4).replays = 0) ∧
    (up (replayed 2) = true ∧ czActive (replayed 2) 4 = true ∧ ((replayed 2).link 4).unacked = ⟨frame (.test 0 []), none⟩ :: [] ∧ ((replayed 2).link 4).replays ≠ 0 ∧
      ((replayed 2).link 4).replayAt = 0 ∧ ((replayed 2).link 4).replays < 3) ∧
    (up (replayed 3) = true ∧ czActive (replayed 3) 4 = true ∧ ((replayed 3).link 4).unacked = ⟨frame (.test 0 []), none⟩ :: [] ∧ ((replayed 3).link 4).replayAt = 0 ∧
      3 ≤ ((replayed 3).link 4).replays) := by decide +kernel
theorem witness_CalezDownReasons : up (link 6) = true ∧ czState (link 6) 4 = 6 ∧ ((link 6).link 4).uncorr = [] ∧ up (link 8) = true ∧ czState (link 8) 4 = 8 := by decide +kernel
/-- An ACTIVE link that may go QUIET, its idle time over. -/
def idle : State := { fields [(Reg.CZ_CTRL 4, Fld.CZ_CTRL_QUIET_EN, 1), (Reg.CZ_TIMER 4, Fld.CZ_TIMER_QUIET_IDLE, 1)] (link 6) with time := us 1 }
theorem witness_CalezQuiet :
    (up idle = true ∧ czActive idle 4 = true ∧ quietOk idle 4 = true ∧ quietIdle idle 4 = true ∧ (idle.link 4).quietAsked = false) ∧
    (let s := linkWith 6 (fun l => { l with quietAsked := true }); up s = true ∧ czActive s 4 = true ∧ (s.link 4).quietAsked = true) ∧
    (let s := setF (link 6) (Reg.CZ_CTRL 4) Fld.CZ_CTRL_QUIET_EN 0; up s = true ∧ czActive s 4 = true ∧ (s.link 4).quietAsked = false ∧ quietOk s 4 = false) ∧
    (up (link 7) = true ∧ czState (link 7) 4 = 7) ∧
    (let s := setF partnered (Reg.CZ_STATUS 4) Fld.CZ_STATUS_STATE 8
     up s = true ∧ czState s 4 = 8 ∧ 7 % 256 = getF s (Reg.CZ_PEER 4) Fld.CZ_PEER_PEER_SESSION ∧ 6 % 256 ≠ getF s (Reg.CZ_PEER 4) Fld.CZ_PEER_PEER_SESSION) := by decide +kernel
theorem witness_CalezEqualisation : up (link 4) = true ∧ czState (link 4) 4 = 4 ∧ 258048 < 2 ^ 24 ∧ eqLegal 258048 = true ∧ 2 ^ 24 - 1 < 2 ^ 24 ∧ eqLegal (2 ^ 24 - 1) = false ∧
    (let s := linkWith 4 (fun l => { l with eqPeer := [(3, 258048)] }); up s = true ∧ czState s 4 = 4 ∧ aget (s.link 4).eqPeer 3 = some 258048) ∧
    aget ((link 4).link 4).eqPeer 3 ≠ some 258048 ∧ (∀ k ∈ [0, 1], isSet (setF (link 4) (Reg.CZ_STATUS 4) Fld.CZ_STATUS_LEAD k) (Reg.CZ_STATUS 4) Fld.CZ_STATUS_LEAD = decide (k = 1)) ∧ ((link 4).link 4).eqDone.contains 3 = false := by decide +kernel
theorem witness_CalezTraining :
    (let s := fields [(Reg.CZ_CTRL 4, Fld.CZ_CTRL_TRAIN_EN, 1), (Reg.TILE_STATUS 1, Fld.TILE_STATUS_CAL_DONE, 1), (Reg.TILE_STATUS 1, Fld.TILE_STATUS_LC_STABLE, 1)]
      (linkWith 0 (fun l => { l with held := false })); up s = true ∧ czState s 4 = 0 ∧ czMayTrain s 4 = true) ∧
    (∀ k ∈ [1, 3, 4, 8], up (link k) = true ∧ czState (link k) 4 = k) ∧ isSet (link 4) (Reg.CZ_STATUS 4) Fld.CZ_STATUS_LEAD = false ∧
    (let s := linkWith 2 (fun l => { l with atStart := false }); up s = true ∧ czState s 4 = 2 ∧ (s.link 4).atStart = false ∧ getF s (Reg.CZ_STATUS 4) Fld.CZ_STATUS_PASS = 0) ∧
    (let s := linkWith 2 (fun l => { l with atStart := true }); up s = true ∧ 2 ≤ czState s 4 ∧ czState s 4 ≤ 5 ∧ czState s 4 = 2 ∧ (s.link 4).atStart = true) ∧
    (up (link 5) = true ∧ 2 ≤ czState (link 5) 4 ∧ czState (link 5) 4 ≤ 5 ∧ czState (link 5) 4 ≠ 2) ∧
    (czState (link 5) 4 = 5 ∧ ((link 5).link 4).ended = none) := by decide +kernel
/-- An offer of every width and rate on sixteen good lanes. -/
def offer : Param := ⟨1, false, 1, 7, 3, 1, 1, false, 0, 0, 0, 0, 65535⟩
theorem witness_ParamResultOffered : paramResult offer offer 16 = some (3, 0, 1) ∧ paramResult { offer with laneOk := 0xF0F0, rates := 1 } offer 16 = some (1, 4, 0) := by
  decide +kernel
theorem witness_CalezFrameArrives :
    (up partnered = true ∧ czActive partnered 4 = true ∧ (partnered.link 4).discarding = false ∧ (frame (.test 0 [])).cr0 = none ∧ (frame (.test 0 [])).cr1 = none ∧
      (frame (.test 0 [])).session % 256 ≠ getF partnered (Reg.CZ_PEER 4) Fld.CZ_PEER_PEER_SESSION) ∧
    (∀ k ∈ [0, 1, 2047, 2048, 2049, 4095], let f := { frame (.test 0 []) with seq := k, ack := 4095, session := 7 }
      f.session % 256 = getF partnered (Reg.CZ_PEER 4) Fld.CZ_PEER_PEER_SESSION ∧
      (let t := czAckTo (partnered.modLink 4 (fun l => { l with lastValid := partnered.time, lastFrame := partnered.time })) 4 f.ack
       czActive t 4 = true ∧ (f.seq % 4096 + 4096 - (t.link 4).nextRx) % 4096 = k)) := by decide +kernel
/-- The link of `topo` with one accepted frame. -/
def taken (f : Frame) : State := linkWith 6 (fun l => { l with rxq := [f] })
/-- A Fabric Error Report from node 3 to the node of `topo`. -/
def report (ack : Bool) : FerFrame := ⟨3, nodeId topo, 0, ack, 0, []⟩
/-- The link of `topo` in mode 4, as the twin link, with an ICP frame accepted. -/
def twinTaken (p : List Byte) : State := fields [(Reg.GLB_MODE_STATUS, Fld.GLB_MODE_STATUS_MODE, 4), (Reg.CZ_CTRL 4, Fld.CZ_CTRL_TWIN, 1)] (taken (frame (.icp p)))
theorem witness_CalezFrameTaken :
    (∀ b ∈ [FrameBody.tlp (toNode 0) request, .test 3 [1], .part [0], .feedback 1 (nodeId topo) [], .routeAdv 1 [], .fer (report false), .fer (report true)],
      up (taken (frame b)) = true ∧ ((taken (frame b)).link 4).rxq = frame b :: [] ∧ (frame b).body = b) ∧
    serving (taken (frame (.routeAdv 1 []))) = false ∧ (report false).toNode = nodeId topo ∧ (report false).ack = false ∧ (report true).ack = true ∧
    (let f := { frame (.tlp (toNode 0) request) with abort := true, vc := 0 }; ((taken f).link 4).rxq = f :: [] ∧ f.abort = true ∧ f.vc ≠ 7) ∧
    (∀ p ∈ [[0#8, 0x80#8], [0#8, 0x00#8]], up (twinTaken p) = true ∧ ((twinTaken p).link 4).rxq = frame (.icp p) :: [] ∧ mode (twinTaken p) = 4 ∧ isTwinLink (twinTaken p) 4 = true) ∧
    bitAt [0#8, 0x80#8] 1 7 = true ∧ bitAt [0#8, 0x00#8] 1 7 = false ∧
    (let x : Resolve := ⟨9, nodeId topo, 0, 1, 7, 0⟩
     let s := (taken (frame (.resolve x))).modLink 4 (fun l => { l with ended := some ⟨7, 9, 1, []⟩ })
     (s.link 4).rxq = frame (.resolve x) :: [] ∧ x.toNode = nodeId s ∧
     resolveLink (czReturn (s.modLink 4 (fun l => { l with rxq := [] })) 4 7 0 4) x = some 4) := by decide +kernel
theorem witness_CalezResolve : (let s := linkWith 0 (fun l => { l with prev := some ⟨9, 7, 1, 0, 1⟩ }); up s = true ∧ (s.link 4).prev = some ⟨9, 7, 1, 0, 1⟩ ∧ 0 < 1) := by
  decide +kernel
/-- A node 5 whose grandmaster is node 1, one hop over the link of `topo`. -/
def timed : State := let s := setF (link 6) Reg.FAB_ID Fld.FAB_ID_NODE 5
  { s with cong := { s.cong with eligible := [1], timeId := 255, t2lo := some 4096, t2hi := some 0 },
           fab := { s.fab with routes := [(1, ⟨true, [(0, ⟨true, 1, 1, 1, false⟩)], none⟩)] } }
theorem witness_TimeExchange : up timed = true ∧ czActive timed 4 = true ∧ timeLink timed = some 4 ∧ 255 < 256 ∧ 2 ^ 48 - 1 < 2 ^ 48 ∧ timed.cong.timeId < 256 ∧ 65535 < 65536 ∧
    timed.cong.t2lo = some 4096 ∧ timed.cong.t2hi = some 0 ∧
    (let lo := 1000000000; let s := { timed with cong := { timed.cong with t2lo := some lo } }
     s.cong.t2lo = some lo ∧ max 1 (getF s Reg.TIME_CTRL Fld.TIME_CTRL_STEP_TH) * 1600 <
       (((0 * 2 ^ 48 + lo : Nat) - (s.cong.t1 : Int) - ((s.time : Int) - nearest48 (lo % 2 ^ 48) (0 * 2 ^ 48 + lo))) / 2).natAbs) := by decide +kernel

/-- A request held for a port, under an epoch. -/
def held (port epoch : Nat) : Held := ⟨1, request, 256, 1, 4096, 0, none, port, 0, none, 0, 0, none, none, epoch, false, false, 1, true, false, false, none, 0, false, false, false, false, 0, 0, 0, none, 0, false⟩
/-- A posted message held for port 2. -/
def message : Held := { held 2 0 with tlp := { request with op := .message 0x7E } }
/-- `topo` with a TLP at the head of the VOQ of port 2, in a VC. -/
def queued (vc : Nat) : State := setVoq topo 2 vc 0 [{ message with vc := vc }]
theorem witness_CoreTraffic : up topo = true ∧ isPcie topo 0 = true ∧ portUp topo 0 = true ∧ schedPick (countWaits topo 2) 2 = none ∧
    (∀ vc ∈ [0, 7], (schedPick (countWaits (queued vc) 2) 2).map (fun x => (x.1, x.2.1, x.2.2.1.recheck, x.2.2.1.bad)) = some (vc, 0, false, 0)) := by decide +kernel
theorem witness_SchedulerPick : ∀ vc ∈ [0, 7], (schedPick (queued vc) 2).map (fun x => (x.1, x.2.1)) = some (vc, 0) ∧ ((vcHead (queued vc) 2 7).isSome = decide (vc = 7)) := by
  decide +kernel
theorem witness_ClassRoundRobin : ∀ last ∈ [0, 1, 2], last < 3 := by decide
theorem witness_PacingTokensBounded : (let f : Frc := ⟨0, 9, 1, 4, 0, 5, 100, 0, 0, [], true, 0, false, [(1, 2)], [], 0, 0⟩
    f.tokens ≤ max 1 (getF topo Reg.CC_CTRL Fld.CC_CTRL_PACE_BURST) * 1024 * 1600 ∧ f.tokensAt ≤ topo.time) := by decide +kernel
/-- A flow-rate context. -/
def flow (k : Nat) : Frc := ⟨0, 0, 1, k, 0, 5, 100, 0, 0, [], true, 0, false, [], [], 0, 0⟩
/-- `topo` with one flow-rate context. -/
def flows (f : Frc) : State := { topo with cong := { topo.cong with frcs := [(6, f)] } }
theorem witness_FlowRateTimers :
    (∀ k ∈ [0, 3, 4], up (flows (flow k)) = true ∧ aget (flows (flow k)).cong.frcs 6 = some (flow k) ∧ (flow k).periodMarked = false ∧ (flow k).decreased = true ∧ (flow k).k = k) ∧
    (let f := { flow 0 with periodMarked := true }; aget (flows f).cong.frcs 6 = some f ∧ f.periodMarked = true) ∧
    (let f := { flow 0 with spray := [(1, 2)] }; aget (flows f).cong.frcs 6 = some f ∧ agetD f.spray 1 0 ≠ 0) ∧
    ((flow 0).settled = true ∧ (flow 0).queue = []) ∧
    (let s := { flows (flow 0) with cong := { (flows (flow 0)).cong with feedback := [⟨1, 0, 0, 0, 0, false, false, 0, 0⟩] } }
     up s = true ∧ aget s.cong.frcs 6 = some (flow 0) ∧ s.cong.feedback = [⟨1, 0, 0, 0, 0, false, false, 0, 0⟩]) ∧
    (let h := { held 2 0 with fab := some (toNode (nodeId topo)) }
     let f := { flow 0 with queue := [h] }
     let s := flows f
     up s = true ∧ aget s.cong.frcs 6 = some f ∧ f.queue = h :: [] ∧ h.rest = false ∧ h.fab = some (toNode (nodeId topo)) ∧ (toNode (nodeId topo)).destNode = nodeId s ∧
     portFault s h.outPort = none ∧ 0 ≤ (refill s f).tokens ∧ f.rate < f.rmax) := by decide +kernel
/-- A transaction context of port 2 with a deadline. -/
def context (source : Bool) (deadline : Nat) : CtxEnt := ⟨256, 1, false, some 7, source, 0, 2, 15, 0, 0, 0, false, 0, 0, 0, 64, deadline, 0, 0, false⟩
/-- `topo` after 5 µs with one context. -/
def contexts (c : CtxEnt) : State := { topo with time := us 5, fab := { topo.fab with ctxs := [(3, c)] } }
theorem witness_ContextTimers :
    (∀ b ∈ [true, false], up (contexts (context b 4)) = true ∧ aget (contexts (context b 4)).fab.ctxs 3 = some (context b 4) ∧
      (context b 4).deadline < timeUs (contexts (context b 4)) ∧ (context b 4).source = b) ∧
    aget (contexts (context true 5)).fab.ctxs 3 = some (context true 5) ∧ timeUs (contexts (context true 5)) ≤ (context true 5).deadline := by decide +kernel
theorem witness_ContextEnds : aget (contexts (context true 4)).fab.ctxs 3 = some (context true 4) ∧ 4 ≠ 3 ∧ (context true 4).outTag = some 7 ∧
    (context true 4).outCalez = false := by decide +kernel
theorem witness_FreeTagUnused : freeTag { contexts { context true 4 with outTag := some 0 } with fab := { (contexts { context true 4 with outTag := some 0 }).fab with
    quarantine := [(2 * 16384 + 1, us 9)] } } 2 = some 2 := by decide +kernel
/-- A command of the BMC. -/
def req (opcode : Nat) (payload : List Byte) : IcpReq := { chan := Ch.bmc, opcode := opcode, seq := 1, at_ := 0, flags := 1, payload := payload, tag := 0, ses := 0, raw := [] }
/-- `topo` in epoch 1, with a request held since epoch 0. -/
def older : State := setVoq (wr topo Reg.EPOCH_CUR 1) 2 0 1 [held 2 0]
theorem witness_EpochCommands :
    (let c := RuleChange.acs 0 8 0 0; let s := { topo with fab := { topo.fab with waiting := [c] } }; up s = true ∧ s.fab.waiting = [c]) ∧
    (up older = true ∧ (((queuedHeld older).filter (fun h => h.flaggable && !h.uncounted && decide (stampOf older h < epoch older))).map (stampOf older)).min? = some 0) ∧
    (let w : EpochWait := ⟨req 0x0208 [], 1, 0, false, false, 0⟩; let s := { wr topo Reg.EPOCH_CUR 1 with fab := { topo.fab with syncs := [w] } }
     up s = true ∧ s.fab.syncs = [w] ∧ synced s w.target = true ∧ w.both = false) := by decide +kernel
theorem witness_RuleChangesInOrder : (topo.fab.waiting = [] ∧ epochCount topo ((epoch topo + 1) % 4) = 0) ∧
    epochCount (setVoq (wr topo Reg.EPOCH_CUR 3) 2 0 1 [held 2 0]) ((epoch (wr topo Reg.EPOCH_CUR 3) + 1) % 4) ≠ 0 := by decide +kernel
/-- `topo` with one Fabric Error Report frame to node 4095 that is not acknowledged. -/
def reported (resends : Nat) : State := { topo with fab := { topo.fab with ferSent := [⟨4095, 0, [], resends⟩], ferQueue := [(4095, ⟨true, 0, 1, 1, 0, 0, 0⟩)] } }
theorem witness_FerTimers : (up (reported 0) = true ∧ ferFor (reported 0) 4095 ≠ [] ∧ (∃ x ∈ (reported 0).fab.ferSent, x.node = 4095)) ∧
    (∀ x ∈ (reported 0).fab.ferSent, x.node ≠ 4094) ∧
    (∀ k ∈ [2, 3], (reported k).fab.ferSent = [⟨4095, 0, [], k⟩] ∧ (⟨4095, 0, [], k⟩ : FerSent).node = 4095) := by decide +kernel

/-- `topo` with port 3, which no vSwitch uses, in tile 3. -/
def loose : State := fields [(Reg.TILE_CFG 3, Fld.TILE_CFG_EN 0, 1), (Reg.TILE_CFG 3, Fld.TILE_CFG_PORT 0, 3), (Reg.PORT_CFG 3, Fld.PORT_CFG_LINK_EN, 1),
  (Reg.PORT_STATUS 3, Fld.PORT_STATUS_DL_ACTIVE, 1), (Reg.PORT_STATUS 3, Fld.PORT_STATUS_LTSSM, Lt.l0)] topo
theorem witness_PcieLinkCommands :
    (let s := fields [(Reg.PORT_STATUS 3, Fld.PORT_STATUS_DL_ACTIVE, 0), (Reg.PORT_STATUS 3, Fld.PORT_STATUS_LTSSM, 5)] loose
     up s = true ∧ isPcie s 3 = true ∧ mayTrain s 3 = true ∧ 1 ≤ ltssm s 3 ∧ ltssm s 3 ≤ 5 ∧ isSet s (Reg.PORT_STATUS 3) Fld.PORT_STATUS_DL_ACTIVE = false) ∧
    (up topo = true ∧ isPcie topo 2 = true ∧ upVsw topo 2 = none ∧ servesComposed topo 2 = false) ∧
    (let s := topo.modPort 2 (fun x => { x with hostOff := true }); up s = true ∧ isPcie s 2 = true ∧ (s.port 2).hostOff = true) ∧
    (isPcie topo 0 = true ∧ (topo.port 0).hostOff = false ∧ upVsw topo 0 = some 0) ∧
    (up loose = true ∧ isPcie loose 3 = true ∧ portFn loose 3 = none ∧ upVsw loose 3 = none ∧ directBridge loose 3 = none) ∧
    isSet topo (Reg.PORT_STATUS 2) Fld.PORT_STATUS_DL_ACTIVE = true ∧ portUp topo 2 = true := by decide +kernel
/-- `topo` with L1 allowed on ports 0 and 2. -/
def l1 : State := (fields [(Reg.PORT_PM 0, Fld.PORT_PM_L1_ALLOW, 1), (Reg.PORT_PM 2, Fld.PORT_PM_L1_ALLOW, 1)] topo).modVsw 0 (fun x =>
  { x with funcs := [(fnUp, { Func.init with other := [(24, 2)] }), (fnBridge 0, { Func.init with other := [(24, 2)] })] })
theorem witness_PcieDllpsAndL1 :
    (up l1 = true ∧ isPcie l1 0 = true ∧ l1Allowed l1 0 = true ∧ ltssm l1 0 = Lt.l0 ∧ voqsEmpty l1 0 = true ∧ (upVsw l1 0).isSome) ∧
    (isPcie l1 2 = true ∧ l1Allowed l1 2 = true ∧ ltssm l1 2 = Lt.l0 ∧ voqsEmpty l1 2 = true ∧ (upVsw l1 2).isNone ∧ upVsw l1 2 = none ∧ isSet l1 (Reg.PORT_PM 2) Fld.PORT_PM_L1_ALLOW = true) ∧
    l1Allowed topo 0 = false ∧ (isPcie topo 2 = true ∧ l1Allowed topo 2 = false ∧ ltssm topo 2 = Lt.l0 ∧ upVsw topo 2 = none) ∧
    (let s := l1.modPort 2 (fun x => { x with fcLimit := [(TlpClass.posted.code, (5, 9))] }); aget (s.port 2).fcLimit TlpClass.posted.code = some (5, 9)) ∧
    (let s := setF l1 (Reg.PORT_STATUS 2) Fld.PORT_STATUS_LTSSM Lt.l1; up s = true ∧ isPcie s 2 = true ∧ ltssm s 2 = Lt.l1) ∧
    2 ≤ getF (setF l1 (Reg.PORT_STATUS 2) Fld.PORT_STATUS_L1_SUB 2) (Reg.PORT_STATUS 2) Fld.PORT_STATUS_L1_SUB := by decide +kernel
theorem witness_PcieMessages :
    (let s := topo.modFunc 0 fnUp (fun f => { f with other := [(178, 1)] })
     up s = true ∧ upVsw s 0 = some 0 ∧ (agetD (s.func 0 fnUp).other 178 0).testBit 0 = true ∧ isSet s (Reg.PORT_STATUS 0) Fld.PORT_STATUS_DL_ACTIVE = true) ∧
    (upVsw topo 2 = none ∧ resolve topo 2 65535 = some (0, .bridge 0, 65535) ∧ portUp topo 2 = true) ∧
    (let s := setF topo (Reg.VBR_MAP 0 0) Fld.VBR_MAP_VALID 0; up s = true ∧ portsBelow s 0 = []) ∧
    (let s := topo.modPort 2 (fun x => { x with pmeWait := some 5 }); up s = true ∧ (s.port 2).pmeWait = some 5 ∧ vswsOfPort s 2 = [0]) ∧
    (isPcie loose 3 = true ∧ upVsw loose 3 = none ∧ 65535 < 65536 ∧ vswsOfPort loose 3 = []) ∧ directBridge topo 2 = some (0, 0) ∧ 3 < 4 ∧
    ((∀ j ∈ bridges topo 0, (topo.func 0 (fnBridge j)).intx = 0) ∧ 0 ∈ bridges topo 0 ∧ portUp topo (upPort topo 0) = true) ∧
    (∀ k ∈ [0, 1, 2], let s := topo.modFunc 0 (fnBridge 0) (fun f => { f with dpcEn := k }); directBridge s 2 = some (0, 0) ∧ (s.func 0 (fnBridge 0)).dpcEn = k) := by decide +kernel
/-- `topo` with a composed bridge 1 of vSwitch 0, below which a function of port 3 is bound. -/
def composed : State := let s := setF (setF loose (Reg.VBR_MAP 0 1) Fld.VBR_MAP_VALID 1) (Reg.GLB_MODE_STATUS) Fld.GLB_MODE_STATUS_MODE 3
  { s.modFunc 0 (fnBridge 1) (fun f => { f with secBus := 9 }) with hosts := { (s.modFunc 0 (fnBridge 1) (fun f => { f with secBus := 9 })).hosts with
      bind := [(0, ⟨0x100, 0, 3, true, 0, 1, 2, false, 0⟩)] } }
/-- A configuration request of the host of `topo`, held at its upstream port. -/
def config (write : Bool) : Held := { held 64 0 with tlp := cfgTlp ⟨write, false, 0, 0, 2, 1023, 15, 7, 3, 256⟩ }
theorem witness_ConfigurationRequests : (∀ b ∈ [true, false], isCfg (config b).tlp = true ∧ (cfgOf (config b).tlp).type1 = false ∧ (cfgOf (config b).tlp).dev = 0 ∧
      (cfgOf (config b).tlp).fn < 3 ∧ (cfgOf (config b).tlp).write = b ∧ fnExists topo 0 (cfgOf (config b).tlp).fn = true ∧ refuses topo 0 = false ∧
      ctxLacks topo { config b with org := some .host } = false) ∧
    vswReady topo 0 = true ∧ vswReady (topo.modVsw 0 (fun x => { x with modeHeld := true })) 0 = false := by decide +kernel
theorem witness_HostCommands : up composed = true ∧ 0 < 63 ∧ vswOn composed 0 = true ∧ portUp composed (upPort composed 0) = true ∧ isDirect composed 0 0 = true ∧
    (∀ fn ∈ [fnUp, fnMgmt, fnMover, fnBridge 0], fnExists composed 0 fn = true) ∧
    ((composed.modFunc 0 (fnBridge 0) (fun f => { f with command := 4 })).func 0 (fnBridge 0)).command.testBit 2 = true ∧ (composed.func 0 fnMover).d3hot = false ∧
    (bridges composed 0).find? (fun k => isComposed composed 0 k && (composed.func 0 (fnBridge k)).secBus == 0x902 / 256 % 256 && 0x902 / 256 % 256 != 0) = some 1 ∧
    devfnHit composed 0 1 (0x902 % 256) = some ⟨0x100, 0, 3, true, 0, 1, 2, false, 0⟩ ∧ guarded composed ⟨0x100, 0, 3, true, 0, 1, 2, false, 0⟩ = false ∧
    ((composed.modFunc 0 (fnBridge 0) (fun f => { f with dpcTrig := true })).func 0 (fnBridge 0)).dpcTrig = true ∧
    (composed.func 0 (fnBridge 0)).linkDisabled = false ∧ (composed.func 0 fnMover).ats = 0 ∧ 7 < 8 := by decide +kernel
/-- `topo` with the slot of port 2, EGV slot 5, in a power state. -/
def slotAt (state : Nat) : State := fields [(Reg.PORT_CFG 2, Fld.PORT_CFG_EGV_SLOT, 5), (Reg.EGV_SLOT_STATUS 5, Fld.EGV_SLOT_STATUS_STATE, state)] topo
theorem witness_SlotCommands : up topo = true ∧ isSet topo (Reg.PORT_STATUS 2) Fld.PORT_STATUS_PRESENT = false ∧
    slotPowered (slotStatus (portEvent (slotAt 0) 2 Ev.mrl) 2 Sl.mrl) 2 = false ∧
    slotPowered (slotStatus (portEvent (clearPortCoef (perstWrite (slotAt 2) 2 true) 2) 2 Ev.powerFault) 2 Sl.powerFault) 2 = true ∧ up (slotAt 2) = true ∧
    egvState (slotAt 1) (egvSlot (slotAt 1) 2) = 1 ∧
    (let s := topo.modPort 2 (fun x => { x with perstDue := some 5 }); up s = true ∧ (s.port 2).perstDue = some 5) := by decide +kernel
theorem witness_EnergyAndPolling :
    (let s := { setF (slotAt 1) (Reg.EGV_SLOT_CFG 5) Fld.EGV_SLOT_CFG_ACC_EN 1 with egv := { topo.egv with ramps := [(5, 0, 100, 50)] } }
     up s = true ∧ s.egv.ramps.find? (fun r => r.1 == 5) = some (5, 0, 100, 50) ∧ isSet s (Reg.EGV_SLOT_CFG 5) Fld.EGV_SLOT_CFG_ACC_EN = true ∧ 100 ≤ 100 ∧ 100 < 101) ∧
    egvState (slotAt 1) 5 = 1 ∧
    (let s := fields [(Reg.SB_POLL 255, Fld.SB_POLL_EN, 1), (Reg.SB_POLL 255, Fld.SB_POLL_BUS, 3), (Reg.SB_CTRL, Fld.SB_CTRL_BUS_EN, 8)] topo
     up s = true ∧ pollServed s 255 = true ∧ agetD s.sb.fails 255 0 < 2) := by decide +kernel
/-- `topo` with bus 3 on, and one transfer to a legacy target on it. -/
def bus : State := let s := setF topo Reg.SB_CTRL Fld.SB_CTRL_BUS_EN 8
  { s with sb := { s.sb with retried := [3], queue := [(3, [⟨0x20, true, 0, true, 1, .poll 0⟩])] } }
/-- The management core 1. -/
def core1 : Master := ⟨1, 1, 0⟩
theorem witness_SidebandCommands : up bus = true ∧ busOn bus 3 = true ∧ busFenced bus 3 = false ∧ bus.sb.retried.contains 3 = true ∧
    sbQ bus 3 = ⟨0x20, true, 0, true, 1, .poll 0⟩ :: [] ∧ (⟨0x20, true, 0, true, 1, .poll 0⟩ : SbXfer).legacy = true ∧
    (∀ off ∈ [0x0B100000, 0x0B1FFFFF], inWindow (⟨core1, .crs, off, 1, false⟩ : Access).offset = true) ∧
    (∀ off ∈ [0x0B000000, 0x0B1FFFFF], inBridge (⟨core1, .crs, off, 1, false⟩ : Access).offset = true) ∧ (⟨core1, .crs, 0x0B000000, 1, false⟩ : Access).space = .crs := by
  decide +kernel

/-- `topo` in mode 4, its link the twin link, in a pair state. -/
def pair (state : Nat) (linkState : Nat) : State := fields [(Reg.GLB_MODE_STATUS, Fld.GLB_MODE_STATUS_MODE, 4), (Reg.CZ_CTRL 4, Fld.CZ_CTRL_TWIN, 1),
  (Reg.TWIN_STATUS, Fld.TWIN_STATUS_STATE, state), (Reg.TWIN_STATUS, Fld.TWIN_STATUS_HB_ALIVE, 1)] (link linkState)
/-- A state with its pair state beside the registers changed. -/
def withTwin (f : Twin → Twin) (s : State) : State := { s with twin := f s.twin }
theorem witness_TwinHeartbeat : (withPwr (fun p => { p with hbRun := true }) (ready 4)).pwr.hbRun = true ∧ up (pair 2 6) = true ∧ mode (pair 2 6) = 4 ∧ twinState (pair 2 6) ≠ 4 ∧
    (let s := setF (pair 2 6) Reg.TWIN_STATUS Fld.TWIN_STATUS_HB_ALIVE 0
     up s = true ∧ mode s = 4 ∧ hbLost s = true ∧ twinLive s = true ∧ isSet s Reg.TWIN_STATUS Fld.TWIN_STATUS_HB_FAULT = false) := by decide +kernel
theorem witness_TwinPairStates :
    (let s := fields [(Reg.TWIN_STATUS, Fld.TWIN_STATUS_HB_ALIVE, 0), (Reg.TWIN_CTRL, Fld.TWIN_CTRL_AUTO_TAKEOVER, 1)] (pair 2 0)
     up s = true ∧ mode s = 4 ∧ twinLive s = false ∧ twinState (sessionEnd s) = 2 ∧ autoTakeover (sessionEnd s) = true) ∧
    (twinLive (pair 2 0) = false ∧ twinState (sessionEnd (pair 2 0)) = 2 ∧ autoTakeover (sessionEnd (pair 2 0)) = false) ∧
    (twinLive (pair 1 6) = true ∧ (pair 1 6).twin.helloDone = false) ∧
    (up (pair 1 0) = true ∧ twinState (pair 1 0) = 1 ∧ (pair 1 0).twin.joinFromSplit = false ∧ twinLive (pair 1 0) = false ∧ hbLost (pair 1 0) = false) ∧
    (let s := withTwin (fun t => { t with resync := some ⟨[], true, true, []⟩ }) (pair 1 6)
     up s = true ∧ s.twin.resync = some ⟨[], true, true, []⟩ ∧ twinState (resyncOff s) = 1 ∧ (resyncOff s).twin.partnerState ≠ 3) ∧
    (let s := withTwin (fun t => { t with handbackDue := some 0 }) (pair 3 6); up s = true ∧ mode s = 4 ∧ s.twin.handbackDue = some 0 ∧ twinState s = 3) ∧
    (let s := withTwin (fun t => { t with leftAt := some 0 }) (pair 3 6); up s = true ∧ s.twin.leftAt = some 0) := by decide +kernel
/-- A transaction of this twin. -/
def txn (kind : Nat) (step : TxnStep) : CoordTxn := ⟨77, kind, [], none, step, 0, false⟩
/-- The pair with a transaction of this twin. -/
def coordinated (step : TxnStep) : State := withTwin (fun t => { t with coord := some (txn 0 step) }) (pair 2 6)
theorem witness_TwinTimeouts : (∀ x ∈ [TxnStep.vote, .settling], up (coordinated x) = true ∧ (coordinated x).twin.coord = some (txn 0 x) ∧ (txn 0 x).step = x) ∧
    twinLive (coordinated .settling) = true ∧ (withTwin (fun t => { t with staged := some ⟨77, 0, []⟩ }) (pair 2 6)).twin.staged.isSome := by decide +kernel
/-- A reply of the partner. -/
def answer (opcode status : Nat) (payload : List Byte) : TwinReply := ⟨opcode, 1, status, payload, false⟩
/-- A state in which a reply of the partner waits. -/
def answered (v : TwinReply) (s : State) : State := { s with icp := { s.icp with twinReplies := [v] } }
theorem witness_TwinReplies :
    (up (pair 2 6) = true ∧ up (coordinated .vote) = true) ∧
    (∀ st ∈ [St.ok, St.busy], let v := answer 0x0711 st (natLe 4 77 ++ natLe 4 0)
      takeTwinReply (answered v (coordinated .vote)) 0x0711 = some (v, coordinated .vote) ∧ (coordinated .vote).twin.coord = some (txn 0 .vote) ∧
      (txn 0 .vote).step = .vote ∧ num v.payload 0 4 = (txn 0 .vote).txn ∧ v.status = st ∧ (txn 0 .vote).beaten = false ∧ (txn 0 .vote).kind ≠ 3) ∧
    (∀ st ∈ [St.ok, St.twinDisagree], let v := answer 0x0712 st (natLe 4 77)
      takeTwinReply (answered v (coordinated .commit)) 0x0712 = some (v, coordinated .commit) ∧ (txn 0 .commit).step = .commit ∧ num v.payload 0 4 = (txn 0 .commit).txn ∧ v.status = st) ∧
    (let v := answer 0x0713 St.ok (natLe 4 77 ++ [1#8])
     takeTwinReply (answered v (coordinated .settling)) 0x0713 = some (v, coordinated .settling) ∧ (txn 0 .settling).step = .settling ∧ num v.payload 0 4 = (txn 0 .settling).txn ∧
     v.status = St.ok ∧ bitAt v.payload 4 0 = true ∧ twinState (twinEvent (txnApply (coordinated .settling) (txn 0 .settling) none) 6) ≠ 1) ∧
    (let v := answer 0x0710 St.ok [2#8]
     takeTwinReply (answered v (pair 2 6)) 0x0710 = some (v, pair 2 6) ∧ v.status = St.ok ∧ twinState (pair 2 6) ≠ 4 ∧ (pair 2 6).twin.coord = none) ∧
    (∀ st ∈ [St.ok, St.busy], let v := answer 0x0715 st []
      let t := withTwin (fun t => { t with handover := some (1, none, 0) }) (pair 3 6)
      takeTwinReply (answered v t) 0x0715 = some (v, t) ∧ t.twin.handover = some (1, none, 0) ∧ v.status = st) ∧
    (let v := answer 0x0714 St.ok []
     let t := withTwin (fun t => { t with resync := some ⟨[], false, true, []⟩ }) (pair 1 6)
     takeTwinReply (answered v t) 0x0714 = some (v, t) ∧ t.twin.resync = some ⟨[], false, true, []⟩ ∧ v.status = St.ok) ∧
    (let v := answer 0x0208 St.ok (zeros 8)
     let w : EpochWait := ⟨req 0x0208 [], 1, 0, true, false, 0⟩
     let t := { pair 2 6 with fab := { (pair 2 6).fab with syncs := [w] } }
     takeTwinReply (answered v t) 0x0208 = some (v, t) ∧ t.fab.syncs = [w] ∧ w.both = true ∧ w.twinDone = false ∧ v.status = St.ok) := by
  and_intros
  all_goals decide +kernel
theorem witness_RelayReplies : (let v : TwinReply := ⟨0x0801, 1, St.ok, [], true⟩; let x : Relay := ⟨req 0x0801 [], 0⟩
    let s := { answered v (pair 2 6) with icp := { (answered v (pair 2 6)).icp with relays := [x] } }
    up s = true ∧ s.icp.twinReplies = [v] ∧ v.relayed = true ∧ s.icp.relays = [x] ∧ x.req.opcode = v.opcode ∧ x.req.seq = v.seq ∧ v.status ≠ St.accepted) := by decide +kernel

/-- `topo` with Mover instance 4095 bound to vSwitch 0, in a state, with a ring of 2^4 slots, and selected. -/
def mover (state : Nat) (f : Inst → Inst) : State := (fields [(Reg.MV_INST_BIND 4095, Fld.MV_INST_BIND_VALID, 1), (Reg.INST_STATUS 4095, Fld.INST_STATUS_STATE, state),
  (Reg.MVPF_INST_SEL 0, Fld.MVPF_INST_SEL_INSTANCE, 4095), (Reg.MV_CTRL, Fld.MV_CTRL_ENG_EN, 65535)] topo).modInst 4095 (fun i => f { i with setup := patch i.setup 8 [4#8] })
/-- A descriptor that copies 64 bytes. -/
def copy (phase : DescPhase) (wait : EngWait) : Desc := ⟨0, zeros 64, phase, 0, 0, 0, 0, wait, 0, 0⟩
theorem witness_MoverEngines :
    (let s := mover Im.enabled id; up s = true ∧ vswOn s 0 = true ∧ instVsw s 4095 = some 0 ∧ (16 + 2 ^ 32 - headOf s 4095) % 2 ^ 32 ≤ 2 ^ (s.inst 4095).ringLog2 ∧
      2 ^ (s.inst 4095).ringLog2 < (17 + 2 ^ 32 - headOf s 4095) % 2 ^ 32) ∧
    (let s := mover Im.enabled (fun i => { i with fetching := true }); let t := mvCtxEnd s (16 + 4095)
     up s = true ∧ (t.inst 4095).fetching = true ∧ instState t 4095 = Im.enabled ∧ aget t.mover.orphans (16 + 4095) = none) ∧
    (let s := mover Im.enabled (fun i => { i with descs := [copy .pending .none] })
     up s = true ∧ mode s ≠ 5 ∧ engFree s 15 = true ∧ nextDesc s = some (4095, copy .pending .none)) ∧ nextDesc topo = none ∧
    (let s := mover Im.enabled (fun i => { i with descs := [copy (.running 15) (.read 0 64)] })
     let t := mvCtxEnd s 15
     up s = true ∧ engDesc t 15 = some (4095, copy (.running 15) (.read 0 64)) ∧ instVsw t 4095 = some 0 ∧ (copy (.running 15) (.read 0 64)).wait = .read 0 64) ∧
    (let s := { topo with mover := { topo.mover with orphans := [(15, 4095)] } }; let t := mvCtxEnd s 15
     up s = true ∧ engDesc t 15 = none ∧ aget t.mover.orphans 15 = some 4095) := by decide +kernel
theorem witness_MoverTranslation :
    (let d := copy (.running 15) (.xlat 4096 true)
     let s := mover Im.enabled (fun i => { i with descs := [d] })
     up s = true ∧ engDesc s 15 = some (4095, d) ∧ instVsw s 4095 = some 0 ∧ d.wait = .xlat 4096 true ∧ (d.stopping ≠ 3 ∨ d.done ≠ 0)) ∧
    (up topo = true ∧ vswOn topo 0 = true ∧ aget topo.mover.prg (0 * 512 + 511) = none) ∧
    (let d := copy (.parked (some 511)) .none
     let t := mover Im.enabled (fun i => { i with descs := [d] })
     let s := { t with mover := { t.mover with prg := [(511, (4095, 0))] } }
     up s = true ∧ vswOn s 0 = true ∧ aget s.mover.prg (0 * 512 + 511) = some (4095, 0) ∧ (s.inst 4095).descs.find? (fun d => d.slot == 0) = some d) ∧
    (let s := mover Im.enabled (fun i => { i with ringWait := .xlat 4096 true })
     up s = true ∧ (s.inst 4095).ringWait = .xlat 4096 true ∧ instVsw s 4095 = some 0 ∧ instState s 4095 = Im.enabled) ∧
    (let t := mover Im.enabled (fun i => { i with ringWait := .parked (some 511) 4096 true })
     let s := { t with mover := { t.mover with prg := [(511, (4095, ringSlot))] } }
     up s = true ∧ vswOn s 0 = true ∧ aget s.mover.prg (0 * 512 + 511) = some (4095, ringSlot) ∧ (s.inst 4095).descs.find? (fun d => d.slot == ringSlot) = none) ∧
    (let s := { topo with mover := { topo.mover with invals := [⟨0, 31, []⟩] } }; up s = true ∧ s.mover.invals = [⟨0, 31, []⟩]) := by decide +kernel
theorem witness_MoverInstances :
    (let s := mover 1 id; up s = true ∧ vswOn s 0 = true ∧ instVsw s 4095 = some 0 ∧ getF s (Reg.MVPF_INST_SEL 0) Fld.MVPF_INST_SEL_INSTANCE = 4095 ∧
      instState s 4095 = 1 ∧ 4 ≤ (s.inst 4095).ringLog2 ∧ (s.inst 4095).ringLog2 ≤ 16 ∧ isSet s (Reg.INST_STATUS 4095) Fld.INST_STATUS_MB_OUT_BUSY = false ∧
      (s.inst 4095).mbWait = []) ∧ (let s := mover 1 (fun i => { i with setup := patch i.setup 8 [16#8] }); (s.inst 4095).ringLog2 = 16) ∧
    (∀ k ∈ [Im.disabled, Im.quiesced, Im.error], instState (mover k id) 4095 = k ∧ 4 ≤ ((mover k id).inst 4095).ringLog2 ∧ ((mover k id).inst 4095).ringLog2 ≤ 16) ∧ instState (mover Im.enabled id) 4095 = Im.enabled ∧
    (let s := mover Im.quiescing id; instState s 4095 = Im.quiescing ∧ (s.inst 4095).descs = [] ∧ (s.inst 4095).recs = [] ∧ instReads s 4095 = false ∧ instWrites s 4095 = false ∧ (s.inst 4095).byCtrl = false) ∧
    (let s := mover 1 (fun i => { i with mbWait := [[1#8]] }); up s = true ∧ instVsw s 4095 = some 0 ∧ (s.inst 4095).mbWait = [1#8] :: []) ∧
    (let s := mover 1 (fun i => { i with relay := some (req 0x0321 []) }); up s = true ∧ instVsw s 4095 = some 0 ∧ (s.inst 4095).relay = some (req 0x0321 [])) := by decide +kernel
theorem witness_MoverWaitsEnd :
    (let d : Dirty := ⟨8, 0, 0, false, false, some (req 0x0303 [], 2)⟩
     let s := mover Im.enabled (fun i => { i with dirty := some d }); up s = true ∧ (s.inst 4095).dirty = some d ∧ d.harvest = some (req 0x0303 [], 2)) ∧
    (let q : MvQuiesce := ⟨req 0x0302 [], 0, 1, 0⟩
     let s := { topo with mover := { topo.mover with quiesces := [q] } }; up s = true ∧ s.mover.quiesces = q :: []) := by decide +kernel

/-- A state in which a request waits for a decoder. -/
def asked (d : Decoder) (r : IcpReq) (s : State) : State := setDecoderQ s [r] d
/-- The state in which the decoder has begun it. -/
def begun (d : Decoder) (r : IcpReq) (s : State) : State :=
  { setDecoderQ s [] d with icp := { (setDecoderQ s [] d).icp with running := s.icp.running ++ [r] } }
/-- The part serves ICP commands, and no MODE_ACTIVATE or FW_ACTIVATE keeps one back. -/
def serves (s : State) : Bool := up s && !s.pwr.coresHeld && s.pwr.act.isNone && !s.twin.fwAfter && s.pwr.warmReq.isNone

theorem begins_asked (d : Decoder) (r : IcpReq) (s : State) (h : (up s && !s.pwr.coresHeld) = true) : Begins (asked d r s) d r.opcode r (begun d r s) := by
  simp only [Bool.and_eq_true, Bool.not_eq_true'] at h
  obtain ⟨hu, hc⟩ := h
  have hu' : ∀ q, up (setDecoderQ s q d) = true := by
    intro q; cases d <;> exact hu
  have hc' : (setDecoderQ s [r] d).pwr.coresHeld = false := by cases d <;> exact hc
  refine ⟨?_, ?_⟩
  · cases d <;> simp [decoderUp, asked, hu', hc']
  · cases d <;> simp [icpTake, served, nextReq, asked, begun, decoderQ, setDecoderQ, hc] <;> cases r.flags.testBit 1 <;> simp

theorem runs_asked (d : Decoder) (r : IcpReq) (s : State) (h : serves s = true) : Runs (asked d r s) d r.opcode r (begun d r s) := by
  refine ⟨begins_asked d r s ?_, ?_⟩
  · simp only [serves, Bool.and_eq_true] at h ⊢
    exact h.1.1.1
  simp only [serves, Bool.and_eq_true, Bool.not_eq_true', Option.isNone_iff_eq_none] at h
  obtain ⟨⟨⟨⟨-, -⟩, ha⟩, hf⟩, hw⟩ := h
  cases d <;> simp [actBusy, begun, setDecoderQ, ha, hf, hw]

/-- `topo` with the ring of vSwitch 0 enabled, of 2^2 slots. -/
def ringed : State := wr topo (Reg.ICP_RING_CFG 0) (BitVec.ofNat 64 (2 ^ 31 + 2 * 256 + 2))
theorem witness_RingCommands :
    (let s := wr topo Reg.ICP_MGR 1; up s = true ∧ vswOn s 0 = true ∧ (rd s Reg.ICP_MGR).getLsbD 0 = true ∧ ringOn s 0 = false) ∧
    (up ringed = true ∧ ringOn ringed 0 = true ∧ sqSize ringed 0 < diff32 (BitVec.toNat 5#32) (rd ringed (Reg.ICP_SQ_HEAD 0)).toNat ∧
      diff32 (BitVec.toNat 4#32) (rd ringed (Reg.ICP_SQ_HEAD 0)).toNat ≤ sqSize ringed 0) ∧
    (let s := { ringed with icp := { ringed.icp with fetching := [0] } }; up s = true ∧ s.icp.fetching = [0] ∧ (List.replicate 4096 0#8).length = 4096) ∧
    (let t := ringed.modFunc 0 fnMgmt (fun f => { f with command := 4 })
     let s := { t with icp := { t.icp with cplWait := [(0, [[1#8]])] } }
     up s = true ∧ agetD s.icp.cplWait 0 [] = [[1#8]] ∧ ringOn s 0 = true ∧ cqFull s 0 = false ∧ (s.func 0 fnMgmt).command.testBit 2 = true) := by
  and_intros
  all_goals decide +kernel
theorem witness_MctpCommands : up topo = true ∧ mctpUp topo 32 = true ∧ topo.icp.mctpParts = [] ∧
    (let p : McPart := ⟨32, 9, 7, 0x7E, [], 0⟩
     let s := { topo with time := ms 100, icp := { topo.icp with mctpParts := [p] } }
     up s = true ∧ mctpUp s 32 = true ∧ s.icp.mctpParts = [p] ∧ p.chan = 32 ∧ p.src = 9 ∧ p.tag = 7 ∧ s.time ≤ p.started + ms 100) ∧ 0 < 1 ∧ 254 < 255 := by
  and_intros
  all_goals decide +kernel
/-- `topo` booted, with an SPDM connection on DOE of vSwitch 0. -/
def connected (n : Nat) : State := let s := setF topo Reg.BOOT_STATUS Fld.BOOT_STATUS_READY 1
  { s with icp := { s.icp with spdmConn := [(spdmKey (.doe 0), n)] } }
/-- The certificate of slot 0 is a constant of Config that no proof can look into: the witness takes it as given. -/
theorem witness_SpdmCommands : (∀ n ∈ [1, 2, 3], up (connected n) = true ∧ spdmUp (connected n) (.doe 0) = true ∧ n ≤ agetD (connected n).icp.spdmConn (spdmKey (.doe 0)) 0) ∧
    (Config.certFor (connected 3).flash.identity (Config.mldsaPublic (identitySeed (connected 3))) = true → slot0 (connected 3) = true) ∧
    0 < (certChain (connected 3)).length ∧ (zeros 32).length = 32 ∧ 1 ≤ 6 ∧ 6 ≤ 6 ∧ up topo = true ∧ spdmUp topo (.doe 0) = false := by
  and_intros
  · decide +kernel
  · exact fun h => h
  · simp only [certChain, List.length_append]
    exact Nat.lt_of_lt_of_le (by decide : 0 < (zeros 2).length) (by omega)
  all_goals decide +kernel
theorem witness_UrgentBegunFirst : nextReq [req 0x0101 [], { req 0x0102 [] with flags := 3 }] = some { req 0x0102 [] with flags := 3 } ∧
    nextReq [req 0x0101 [], req 0x0102 []] = some (req 0x0101 []) := by decide +kernel
/-- A command of the BMC that its decoder begins in a state which serves commands, with what is asked of the request and of the state in which it runs. -/
theorem asks {P : State → IcpReq → State → Prop} (d : Decoder) (opcode : Nat) (p : List Byte) (s : State) (h : serves s = true)
    (hp : P (asked d (req opcode p) s) (req opcode p) (begun d (req opcode p) s)) : ∃ s r t, Runs s d opcode r t ∧ P s r t :=
  ⟨_, _, _, runs_asked d (req opcode p) s h, hp⟩
/-- The same of a command that R329 does not keep back. -/
theorem begs {P : State → IcpReq → State → Prop} (d : Decoder) (opcode : Nat) (p : List Byte) (s : State) (h : (up s && !s.pwr.coresHeld) = true)
    (hp : P (asked d (req opcode p) s) (req opcode p) (begun d (req opcode p) s)) : ∃ s r t, Begins s d opcode r t ∧ P s r t :=
  ⟨_, _, _, begins_asked d (req opcode p) s h, hp⟩

theorem witness_DeviceCommands_info : ∃ s r t, Runs s .fw 0x0101 r t ∧ mode t = 3 := asks .fw 0x0101 [] topo (by decide +kernel) (by decide +kernel)
theorem witness_DeviceCommands_release : ∃ s r t, Runs s .fw 0x0102 r t ∧ num r.payload 4 1 = 1 :=
  asks .fw 0x0102 [1, 0, 0, 0, 1, 0] topo (by decide +kernel) (by decide +kernel)
theorem witness_DeviceCommands_quiesce : ∃ s r t, Runs s .fw 0x0102 r t ∧ num r.payload 4 1 = 0 ∧ bitAt r.payload 5 0 = false :=
  asks .fw 0x0102 [1, 0, 0, 0, 0, 0] topo (by decide +kernel) (by decide +kernel)
theorem witness_DeviceCommands_quiesced : (let s := { topo with icp := { topo.icp with quiesces := [⟨req 0x0102 [], 1⟩] } }
    up s = true ∧ s.icp.quiesces = [⟨req 0x0102 [], 1⟩]) := by decide +kernel
theorem witness_DeviceCommands_port : ∃ s r t, Runs s .fw 0x0110 r t ∧ num r.payload 1 1 = 3 ∧ num r.payload 0 1 < 64 ∧ isPcie t (num r.payload 0 1) = true ∧
    isFenced t ⟨Uk.port, num r.payload 0 1⟩ = false ∧ (t.port (num r.payload 0 1)).slotCmd = none :=
  asks .fw 0x0110 [2, 3] topo (by decide +kernel) (by decide +kernel)
theorem witness_DeviceCommands_eye : ∃ s r t, Runs s .fw 0x0120 r t ∧ num r.payload 0 1 < 16 ∧ num r.payload 1 1 < 16 :=
  asks .fw 0x0120 [15, 15] topo (by decide +kernel) (by decide +kernel)
/-- A part with one PCIe port, 63, in tile 15, its link down. -/
def single : State := fields [(Reg.TILE_CFG 15, Fld.TILE_CFG_EN 0, 1), (Reg.TILE_CFG 15, Fld.TILE_CFG_PORT 0, 63)] (ready 1)
theorem witness_DeviceCommands_calibrate : ∃ s r t, Runs s .fw 0x0121 r t ∧ num r.payload 0 1 = 15 ∧
    (let w := runAges (((List.range 4).filter (slotOn (sendReply t r St.accepted ([BitVec.ofNat 8 15] ++ zeros 7)) 15)).foldl (fun s i => slotDown s 15 i)
      (sendReply t r St.accepted ([BitVec.ofNat 8 15] ++ zeros 7))) 15
     let c := (setF w (Reg.TILE_STATUS 15) Fld.TILE_STATUS_CAL_DONE 0).modTile 15 (fun x => { x with coef := [] })
     isFenced c ⟨Uk.tile, 15⟩ = false ∧ tilePorts c 15 ≠ [] ∧ (w.tile 15).calFor = none) :=
  asks .fw 0x0121 [15] single (by decide +kernel) (by decide +kernel)
theorem witness_DeviceCommands_bist : ∃ s r t, Runs s .fw 0x0122 r t ∧ num r.payload 0 1 = 2 := asks .fw 0x0122 [2] topo (by decide +kernel) (by decide +kernel)

/-- `topo` with a unit fenced: the large MPU, 0, or another one. -/
def mpuFenced (n : Nat) : State := { topo with fcu := { topo.fcu with units := [⟨⟨Uk.mpu, n⟩, 0, false, true, none⟩] } }
theorem witness_TableCommands_bind : ∀ n ∈ [0, 1], ∃ s r t, Runs s .fw 0x0201 r t ∧ tableWaits s = false ∧ mode t ≠ 4 ∧ tableRefused t 2 true r.payload = none ∧
    tableDenied t 2 r.payload = if n = 0 then some (tableAddr 2 0) else none := by
  intro n h
  refine asks .fw 0x0201 ([1, 0] ++ zeros 6 ++ zeros 24) (mpuFenced n) ?_ ?_ <;> (revert n; decide +kernel)
theorem witness_TableCommands_fam : ∀ n ∈ [0, 1], ∃ s r t, Runs s .fw 0x0202 r t ∧ tableWaits s = false ∧ mode t ≠ 4 ∧ tableRefused t 0 true r.payload = none ∧
    tableDenied t 0 r.payload = if n = 0 then some (tableAddr 0 0) else none := by
  intro n h
  refine asks .fw 0x0202 ([1, 0] ++ zeros 6 ++ zeros 40) (mpuFenced n) ?_ ?_ <;> (revert n; decide +kernel)
theorem witness_TableCommands_route : ∀ n ∈ [0, 1], ∃ s r t, Runs s .fw 0x0203 r t ∧ tableWaits s = false ∧ mode t ≠ 4 ∧ tableRefused t 1 true r.payload = none ∧
    tableDenied t 1 r.payload = if n = 0 then some (tableAddr 1 0) else none := by
  intro n h
  refine asks .fw 0x0203 ([1, 0] ++ zeros 6 ++ zeros 72) (mpuFenced n) ?_ ?_ <;> (revert n; decide +kernel)
theorem witness_TableCommands_bindRefused : ∃ s r t, Runs s .fw 0x0201 r t ∧ tableWaits s = false ∧ mode t ≠ 4 ∧ tableRefused t 2 true r.payload = some 0 :=
  asks .fw 0x0201 ([1, 0] ++ zeros 6 ++ List.replicate 24 0xFF) topo (by decide +kernel) (by decide +kernel)
theorem witness_TableCommands_famRefused : ∃ s r t, Runs s .fw 0x0202 r t ∧ tableWaits s = false ∧ mode t ≠ 4 ∧ tableRefused t 0 true r.payload = some 0 :=
  asks .fw 0x0202 ([1, 0] ++ zeros 6 ++ List.replicate 40 0xFF) topo (by decide +kernel) (by decide +kernel)
theorem witness_TableCommands_routeRefused : ∃ s r t, Runs s .fw 0x0203 r t ∧ tableWaits s = false ∧ mode t ≠ 4 ∧ tableRefused t 1 true r.payload = some 0 :=
  asks .fw 0x0203 ([1, 0] ++ zeros 6 ++ List.replicate 72 0xFF) topo (by decide +kernel) (by decide +kernel)
theorem witness_TableCommands_read : ∃ s r t, Runs s .fw 0x0204 r t ∧ tableWaits s = false ∧ mode t ≠ 4 ∧ num r.payload 0 1 = 2 ∧ bitAt r.payload 1 0 = false ∧
    num r.payload 4 4 = 4095 ∧ num r.payload 4 4 < 4096 :=
  asks .fw 0x0204 [2, 0, 0, 0, 0xFF, 0x0F, 0, 0, 63, 0] topo (by decide +kernel) (by decide +kernel)
theorem witness_TableCommands_sync : ∃ s r t, Runs s .fw 0x0208 r t ∧ tableWaits s = false ∧ mode t ≠ 4 ∧ num r.payload 0 4 ≤ epoch t :=
  asks .fw 0x0208 (natLe 4 0) topo (by decide +kernel) (by decide +kernel)

/-- `topo` with a region of 2^20 bytes for dirty logs. -/
def dirtied : State := setF topo Reg.MV_DIRTY_REGION Fld.MV_DIRTY_REGION_SIZE_LOG2 20
theorem witness_MoverAndOrbitCommands_bind : ∃ s r t, Runs s .fw 0x0301 r t ∧ rangeBad (num r.payload 0 2) (num r.payload 2 2) = false ∧ num r.payload 4 1 < 32 ∧
    vswOn t (num r.payload 4 1) = true ∧ bitAt r.payload 6 0 = false ∧ num r.payload 2 2 = 1 ∧ (∀ i, i < 1 → instState t (num r.payload 0 2 + i) ≠ Im.enabled ∧
      instState t (num r.payload 0 2 + i) ≠ Im.quiescing ∧ (t.inst (num r.payload 0 2 + i)).dirty = none) :=
  asks .fw 0x0301 [0xFF, 0x0F, 1, 0, 0, 0, 0] topo (by decide +kernel) (by decide +kernel)
theorem witness_MoverAndOrbitCommands_resume : ∃ s r t, Runs s .fw 0x0302 r t ∧ rangeBad (num r.payload 0 2) (num r.payload 2 2) = false ∧
    (num r.payload 4 1).testBit 1 = true := asks .fw 0x0302 [0xFF, 0x0F, 1, 0, 2, 0] topo (by decide +kernel) (by decide +kernel)
theorem witness_MoverAndOrbitCommands_dirty : ∃ s r t, Runs s .fw 0x0303 r t ∧ num r.payload 0 1 = 0 ∧ num r.payload 1 1 ≤ 1 ∧ num r.payload 2 2 < 4096 ∧
    num r.payload 8 8 % 4096 = 0 ∧ num r.payload 16 8 % 8 = 0 ∧ 1 ≤ num r.payload 4 4 ∧ num r.payload 4 4 ≤ 2 ^ 28 ∧ (t.inst (num r.payload 2 2)).dirty = none ∧
    dirtyPlace (t.modInst (num r.payload 2 2) (fun i => { i with dirty := none }))
      (Dirty.bytes { pages := num r.payload 4 4, iovaBase := num r.payload 8 8, ofs := 0, lost := false, outOfRange := false, harvest := none }) = some 0 :=
  asks .fw 0x0303 ([0, 0, 0xFF, 0x0F, 1, 0, 0, 0] ++ zeros 16) dirtied (by decide +kernel) (by decide +kernel)
/-- A command from the mailbox of instance 4095. -/
def tenant (opcode : Nat) : IcpReq := { req opcode [] with chan := Ch.mailbox 4095 }
theorem witness_MoverAndOrbitCommands_tenant : ∀ op ∈ [0x0320, 0x0321], Runs (asked .fw (tenant op) topo) .fw op (tenant op) (begun .fw (tenant op) topo) ∧
    ((begun .fw (tenant op) topo).inst ((tenant op).chan - 128)).relay = none := by
  intro op h
  have : (tenant op).opcode = op := rfl
  refine ⟨runs_asked .fw (tenant op) topo (by decide +kernel), ?_⟩
  revert op
  decide +kernel
theorem witness_MoverAndOrbitCommands_orbit : ∃ s r t, Runs s .fw 0x0401 r t ∧ num r.payload 0 4 = 0 ∧ num r.payload 4 1 ≤ 1 :=
  asks .fw 0x0401 [0, 0, 0, 0, 1] topo (by decide +kernel) (by decide +kernel)

theorem witness_EnergyAndSafetyCommands_slotOff : ∃ s r t, Runs s .sp 0x0501 r t ∧ num r.payload 0 1 = 31 ∧ num r.payload 0 1 < 32 ∧ num r.payload 1 1 = 1 ∧
    hostOwned t (num r.payload 0 1) = false ∧ egvState t (num r.payload 0 1) ≠ 1 ∧ t.egv.queue.any (fun q => q.slot == num r.payload 0 1) = false :=
  asks .sp 0x0501 [31, 1] topo (by decide +kernel) (by decide +kernel)
theorem witness_EnergyAndSafetyCommands_set : ∃ s r t, Runs s .sp 0x0502 r t ∧ num r.payload 0 1 = 0xFF ∧ 1 ≤ num r.payload 1 1 ∧ num r.payload 1 1 ≤ 8 ∧
    num r.payload 2 2 = 0 ∧ num r.payload 4 4 = 0 ∧ num r.payload 8 4 = 4000000 ∧ 1000 ≤ num r.payload 8 4 ∧ num r.payload 8 4 ≤ 4000000 :=
  asks .sp 0x0502 ([0xFF, 8, 0, 0] ++ natLe 4 0 ++ natLe 4 4000000) topo (by decide +kernel) (by decide +kernel)
theorem witness_EnergyAndSafetyCommands_status : ∃ s r t, Runs s .sp 0x0503 r t ∧ num r.payload 0 1 < 32 ∧ egvState t (num r.payload 0 1) = 0 :=
  asks .sp 0x0503 [31] topo (by decide +kernel) (by decide +kernel)
theorem witness_EnergyAndSafetyCommands_read : ∃ s r t, Runs s .sp 0x0601 r t ∧ num r.payload 0 1 ≤ 4 ∧ t.fcu.recs = [] :=
  asks .sp 0x0601 [4] topo (by decide +kernel) (by decide +kernel)
/-- `topo` with a unit that has faults uncleared or is fenced. -/
def faulted (classes : Nat) (fenced : Bool) : State := { topo with fcu := { topo.fcu with units := [⟨⟨Uk.port, 2⟩, classes, false, fenced, none⟩] } }
theorem witness_EnergyAndSafetyCommands_clear : ∃ s r t, Runs s .sp 0x0602 r t ∧ num r.payload 0 1 < 4 ∧ (UnitId.ofCode (num r.payload 4 4)).code = num r.payload 4 4 ∧
    (unitState t (UnitId.ofCode (num r.payload 4 4))).classes.testBit (num r.payload 0 1) = true ∧ isFenced t (UnitId.ofCode (num r.payload 4 4)) = false :=
  asks .sp 0x0602 ([3, 0, 0, 0] ++ natLe 4 (UnitId.code ⟨Uk.port, 2⟩)) (faulted 8 false) (by decide +kernel) (by decide +kernel)
theorem witness_EnergyAndSafetyCommands_fence : ∃ s r t, Runs s .sp 0x0603 r t ∧ num r.payload 0 1 = 0 ∧ (UnitId.ofCode (num r.payload 4 4)).code = num r.payload 4 4 ∧
    fencible (UnitId.ofCode (num r.payload 4 4)) = true ∧ isFenced t (UnitId.ofCode (num r.payload 4 4)) = true :=
  asks .sp 0x0603 ([0, 0, 0, 0] ++ natLe 4 (UnitId.code ⟨Uk.port, 2⟩)) (faulted 0 true) (by decide +kernel) (by decide +kernel)
theorem witness_EnergyAndSafetyCommands_reset : ∃ s r t, Runs s .sp 0x0604 r t ∧ num r.payload 0 1 = 0 ∧ mode t ≠ 4 := asks .sp 0x0604 [0] topo (by decide +kernel) (by decide +kernel)
theorem witness_EnergyAndSafetyCommands_inject : ∃ s r t, Runs s .sp 0x0605 r t ∧ (UnitId.ofCode (num r.payload 0 4)).code = num r.payload 0 4 ∧
    hasSite (UnitId.ofCode (num r.payload 0 4)) 2 = true ∧ num r.payload 4 2 / 4096 = 2 ∧ t.fcu.injections = [] :=
  asks .sp 0x0605 (natLe 4 (UnitId.code ⟨Uk.port, 63⟩) ++ natLe 2 8192 ++ [1]) topo (by decide +kernel) (by decide +kernel)

theorem witness_PairCommands_auto : ∃ s r t, Runs s .sp 0x0701 r t ∧ num r.payload 0 1 = 3 ∧ mode t = 4 := asks .sp 0x0701 [3, 3] (pair 2 6) (by decide +kernel) (by decide +kernel)
theorem witness_PairCommands_hello : ∃ s r t, Begins s .tma 0x0710 r t ∧ mode t = 4 := begs .tma 0x0710 [] (pair 2 6) (by decide +kernel) (by decide +kernel)
theorem witness_PairCommands_badCrc : ∃ s r t, Begins s .tma 0x0711 r t ∧ isFenced t ⟨Uk.cvu, 7⟩ = false ∧
    (cvTwinCheck t (txnRecords (num r.payload 4 1) (r.payload.drop 12)) (num r.payload 8 4) (num r.raw 10 1 % 16)).1 = false :=
  begs .tma 0x0711 (natLe 4 77 ++ [0, 0, 0, 0] ++ natLe 4 1 ++ zeros 8) (pair 2 6) (by decide +kernel) (by decide +kernel)
theorem witness_PairCommands_vote : ∃ s r t, Begins s .tma 0x0711 r t ∧ isFenced t ⟨Uk.cvu, 7⟩ = false ∧ t.fcu.injections = [] ∧ num r.payload 8 4 < 2 ^ 32 ∧
    (let c := cvTwinCheck t (txnRecords (num r.payload 4 1) (r.payload.drop 12)) (num r.payload 8 4) (num r.raw 10 1 % 16)
     c.1 = true ∧ num r.payload 4 1 ≤ 3 ∧ twinState c.2 = 2 ∧ c.2.twin.staged = none ∧ c.2.pwr.act = none ∧ c.2.twin.coord = none ∧
     txnVote c.2 (num r.payload 4 1) (r.payload.drop 12) = (St.ok, 0)) :=
  begs .tma 0x0711 (natLe 4 77 ++ [0, 0, 0, 0] ++ natLe 4 (crc32c (zeros 40)) ++ ([1, 0] ++ zeros 6 ++ zeros 40)) (setF (pair 2 6) Reg.FAB_ID Fld.FAB_ID_NODE 0) (by decide +kernel) (by decide +kernel)
theorem witness_PairCommands_commit : ∀ abort ∈ [true, false], ∃ s r t, Begins s .tma 0x0712 r t ∧ t.twin.staged = some ⟨77, 0, zeros 8⟩ ∧ 77 = num r.payload 0 4 ∧
    bitAt r.payload 4 0 = abort ∧ (⟨77, 0, zeros 8⟩ : StagedTxn).kind ≠ 3 := by
  intro abort _
  refine begs .tma 0x0712 (natLe 4 77 ++ natLe 1 (b2n abort)) (withTwin (fun t => { t with staged := some ⟨77, 0, zeros 8⟩ }) (pair 2 6)) (by decide +kernel) ?_
  cases abort <;> decide +kernel
theorem witness_PairCommands_query : ∃ s r t, Begins s .tma 0x0713 r t ∧ t.twin.staged = none := begs .tma 0x0713 (natLe 4 77) (pair 2 6) (by decide +kernel) (by decide +kernel)
theorem witness_PairCommands_sync : ∀ table ∈ [0, 1, 2], ∃ s r t, Begins s .tma 0x0714 r t ∧ num r.payload 0 1 = table ∧ table ≤ 2 ∧ num r.payload 1 1 = 0 ∧ t.twin.resync = none ∧
    (syncRecs table r.payload).length = 1 ∧
    ∀ e ∈ syncRecs table r.payload, e.1 < (match table with | 0 => 131072 | 1 => 16384 | _ => 4096) ∧ syncOwned t table 0 e.2 = true := by
  intro table h
  refine begs .tma 0x0714 (natLe 1 table ++ [0, 1, 0, 1, 0, 0, 0, 0xFF, 0x0F, 0, 0] ++ zeros 64) (pair 1 6) (by decide +kernel) ?_
  revert table
  decide +kernel
theorem witness_PairCommands_syncForeign : ∀ table ∈ [0, 1], ∃ s r t, Begins s .tma 0x0714 r t ∧ num r.payload 0 1 = table ∧ table ≤ 2 ∧ num r.payload 1 1 = 1 ∧
    ∃ e, e ∈ syncRecs table r.payload ∧ syncOwned t table (num r.payload 1 1) e.2 = false := by
  intro table h
  refine begs .tma 0x0714 (natLe 1 table ++ [1, 1, 0, 1, 0, 0, 0, 0xFF, 0x0F, 0, 0] ++ zeros 64) (pair 1 6) (by decide +kernel) ?_
  refine ⟨by revert table; decide +kernel, by revert table; decide +kernel, by revert table; decide +kernel, (4095, zeros (16 * (2 - table))), by revert table; decide +kernel, by revert table; decide +kernel⟩
theorem witness_PairCommands_handover : ∃ s r t, Begins s .sp 0x0715 r t ∧ num r.payload 0 1 = 0 ∧ twinState t = 2 := begs .sp 0x0715 [0] (pair 2 6) (by decide +kernel) (by decide +kernel)
theorem witness_TakeoverByRole :
    (∃ s r t, Runs s .sp 0x0701 r t ∧ num r.payload 0 1 = 2 ∧ twinState t = 4 ∧ twinLive t = false ∧ hbLost t = true) ∧
    (∃ s r t, Runs s .sp 0x0701 r t ∧ num r.payload 0 1 = 2 ∧ ¬(twinState t = 4 ∧ twinLive t = false ∧ hbLost t = true)) :=
  ⟨asks .sp 0x0701 [2, 0] (setF (pair 4 0) Reg.TWIN_STATUS Fld.TWIN_STATUS_HB_ALIVE 0) (by decide +kernel) (by decide +kernel),
   asks .sp 0x0701 [2, 0] (pair 4 0) (by decide +kernel) (by decide +kernel)⟩

/-- The base configuration 1 for mode 5 without a record, signed with the key in OTP slot 0. -/
def configImage : List Byte :=
  let head := [0x0F, 0x0C, 0x56, 0x47, 1, 0, 5, 0] ++ natLe 4 1 ++ natLe 4 0 ++ natLe 4 0 ++ natLe 4 32 ++ zeros 4
  head ++ natLe 4 (crc32c head) ++ zeros 3736
/-- A firmware image of one section, of one byte, signed with the same key. -/
def firmwareImage : List Byte :=
  [0x60, 0x25, 0x46, 0x4D, 1, 0, 1, 0] ++ natLe 4 1 ++ natLe 4 0 ++ natLe 4 80 ++ natLe 4 4097 ++ zeros 8 ++
    ([1, 0, 0, 0] ++ natLe 4 4096 ++ natLe 4 1 ++ natLe 4 0 ++ zeros 32) ++ zeros 3736 ++ zeros 280 ++ [0]
/-- A part in mode 1 whose flash holds both, the firmware staged. -/
def stored : State := { wr (ready 1) Reg.STAGE_STATUS (BitVec.ofNat 64 (4097 * 2 ^ 32 + 4097)) with
  flash := { Flash.blank with bank0 := { Flash.blank.bank0 with slots := [(0, configImage)] }, bank1 := { Flash.blank.bank1 with fw := firmwareImage } },
  otp := { Otp.blank with keyProg := 1, keyDigest := [(0, Config.sha3 (zeros 1312))] },
  pwr := { (ready 1).pwr with staging := { (ready 1).pwr.staging with active := true }, keptKeys := [(0, zeros 1312)] } }

/-- What an image is signed over, and the signature, are checked by a constant of Config: the witnesses take it that it verifies, and that the hash of the
section is the one the manifest names. -/
theorem config_authentic (s : State) (ho : s.otp = stored.otp) (hf : getF s Reg.OTP_STATE Fld.OTP_STATE_CFG_FLOOR = 0)
    (h : Config.mldsaVerify (Config.sha3 (zeros 1312)) (imgObj configImage) (zeros 2420) = true) : imageBad s 0 configImage = 0 := by
  have h1 : headerBad 0 configImage = false := by decide +kernel
  have h2 : lengthBad 0 configImage = false := by decide +kernel
  have h3 : imgBlk configImage = zeros 3736 := by decide +kernel
  have h4 : sigPub (zeros 3736) = zeros 1312 := by decide +kernel
  have h5 : sigSig (zeros 3736) = zeros 2420 := by decide +kernel
  have h6 : sigSlot (zeros 3736) = 0 := by decide +kernel
  have h7 : keyOk s (zeros 3736) = true := by
    simp only [keyOk, h4, h6, ho]
    simp [stored, Otp.blank, agetD, aget]
  simp [imageBad, h1, h2, h3, h7, sigOk, h4, h5, h, hf]

theorem witness_ServiceCommands_identity : ∃ s r t, Runs s .fw 0x0801 r t ∧ num r.payload 0 1 = 0 ∧ mode t = 3 := asks .fw 0x0801 [0] topo (by decide +kernel) (by decide +kernel)
theorem witness_ServiceCommands_revoke (h : Config.mldsaVerify (Config.sha3 (zeros 1312)) ([3, 0, 0, 0] ++ zeros 8) (zeros 2420) = true) :
    ∃ s r t, Runs s .sp 0x0802 r t ∧ num r.payload 0 1 < 4 ∧ setBit t.otp.keyRevoked (num r.payload 0 1) % 16 ≠ 15 ∧
      aget t.pwr.keptKeys (num r.payload 1 1) = some (zeros 1312) ∧ num r.payload 4 8 = t.otp.serial ∧ t.otp.keyRevoked.testBit (num r.payload 1 1) = false ∧
      Config.mldsaVerify (Config.sha3 (zeros 1312)) (r.payload.take 12) ((r.payload.drop 12).take 2420) = true := by
  refine asks .sp 0x0802 (([3, 0, 0, 0] ++ zeros 8) ++ zeros 2420) stored (by decide +kernel) ?_
  refine ⟨by decide +kernel, by decide +kernel, by decide +kernel, by decide +kernel, by decide +kernel, ?_⟩
  have h1 : (req 0x0802 (([3, 0, 0, 0] ++ zeros 8) ++ zeros 2420)).payload.take 12 = [3, 0, 0, 0] ++ zeros 8 := by decide +kernel
  have h2 : ((req 0x0802 (([3, 0, 0, 0] ++ zeros 8) ++ zeros 2420)).payload.drop 12).take 2420 = zeros 2420 := by decide +kernel
  rw [h1, h2, h]
theorem witness_ServiceCommands_stage : ∃ s r t, Runs s .fw 0x0901 r t ∧ num r.payload 0 4 = 0 ∧ (r.payload.drop 8).length ≤ num r.payload 4 4 ∧
    num r.payload 4 4 = 4194304 ∧ num r.payload 4 4 ≤ 4194304 ∧ mode t = 3 :=
  asks .fw 0x0901 (natLe 4 0 ++ natLe 4 4194304 ++ [1, 2, 3]) topo (by decide +kernel) (by decide +kernel)
theorem witness_ServiceCommands_activate (h : Config.mldsaVerify (Config.sha3 (zeros 1312)) (firmwareImage.take 80) (zeros 2420) = true) (hd : Config.sha3 [0] = 0) :
    ∀ auth ∈ [true, false], ∃ s r t, Runs s .sp 0x0902 r t ∧ bitAt r.payload 0 0 = auth ∧ mode t ≠ 4 ∧ activateCheck t = St.ok := by
  intro auth _
  refine asks .sp 0x0902 (natLe 1 (b2n auth)) stored (by decide +kernel) ?_
  generalize hr : req 0x0902 (natLe 1 (b2n auth)) = r
  have hb : bitAt r.payload 0 0 = auth := by subst hr; cases auth <;> decide +kernel
  have hm : mode stored ≠ 4 := by decide +kernel
  have hc : curBank stored = 0 := by decide +kernel
  have hs : stagingBusy stored = false := by decide +kernel
  have hl : selNow stored = none := by decide +kernel
  refine ⟨hb, hm, ?_⟩
  have hi : stagedImage (begun .sp r stored) = firmwareImage := by
    show (bankOf stored (1 - curBank stored)).fw = firmwareImage
    rw [hc]
    all_goals rfl
  have h0 : stagingBusy (begun .sp r stored) = false := hs
  have h1 : (firmwareImage.drop (fwMlen firmwareImage)).take sigLen = zeros 3736 := by decide +kernel
  have h4 : sigPub (zeros 3736) = zeros 1312 := by decide +kernel
  have h5 : sigSig (zeros 3736) = zeros 2420 := by decide +kernel
  have h6 : sigSlot (zeros 3736) = 0 := by decide +kernel
  have h7 : keyOk (begun .sp r stored) (zeros 3736) = true := by
    simp only [keyOk, h4, h6]
    simp [stored, Otp.blank, agetD, aget, begun, setDecoderQ]
  have h8 : firmwareImage.take (fwMlen firmwareImage) = firmwareImage.take 80 := by decide +kernel
  have h9 : sigOk (firmwareImage.take 80) (zeros 3736) = true := by rw [sigOk, h4, h5, h]
  have h10 : sectionsBad firmwareImage = false := by decide +kernel
  have h11 : fwSections firmwareImage = [(1, 4096, 1, 0, 48)] := by decide +kernel
  have h12 : (firmwareImage.drop 4096).take 1 = [0] := by decide +kernel
  have h13 : num firmwareImage 48 32 = 0 := by decide +kernel
  have h14 : ¬(num firmwareImage 0 4 ≠ 0x4D462560 ∨ num firmwareImage 4 1 ≠ 1 ∨ fwCount firmwareImage = 0 ∨ 16 < fwCount firmwareImage ∨
    fwMlen firmwareImage ≠ 32 + 48 * fwCount firmwareImage ∨ 4194304 < fwTotal firmwareImage) := by decide +kernel
  have h15 : ¬fwSvn firmwareImage < (begun .sp r stored).otp.fwArb := by
    have : fwSvn firmwareImage = 0 := by decide +kernel
    simp [this, begun, setDecoderQ, stored, Otp.blank]
  have he : fwErr (begun .sp r stored) firmwareImage = 0 := by
    simp only [fwErr, h1, if_neg h14, h7, h8, h9, if_neg h15, h10, h11]
    simp [h12, h13]
    exact hd
  have hfl : floorFails (begun .sp r stored) (fwFloor firmwareImage) = false := by
    have hl' : selNow (begun .sp r stored) = none := hl
    simp [floorFails, hl']
  have ha : (begun .sp r stored).pwr.staging.active = true := by rfl
  simp [activateCheck, ha, h0, hi, he, hfl]
theorem witness_ServiceCommands_store : ∃ s r t, Runs s .fw 0x0903 r t ∧ num r.payload 0 4 = 0 ∧ (r.payload.drop 8).length < num r.payload 4 4 ∧ num r.payload 4 4 ≤ 327680 ∧
    t.pwr.staging.cfg = none ∧ freeSlot t = some 0 :=
  asks .fw 0x0903 (natLe 4 0 ++ natLe 4 327680 ++ [1, 2, 3]) topo (by decide +kernel) (by decide +kernel)
theorem witness_ServiceCommands_busy : ∃ s r t, Begins s .sp 0x0904 r t ∧ nextReq (served s .sp) = some r ∧ modeWaits s r = false ∧ modeBusy t = true :=
  begs .sp 0x0904 [1, 0] (withPwr (fun p => { p with warmReq := some (9, 0, 0) }) topo) (by decide +kernel) (by decide +kernel)
/-- The stored configuration 1 is allowed in mode 5, and affects no vSwitch, where its signature verifies. -/
theorem config_allowed (s : State) (ho : s.otp = stored.otp) (hf : s.flash = stored.flash) (hr : s.regs = stored.regs) (hc : s.pwr.staging.cfg = none)
    (h : Config.mldsaVerify (Config.sha3 (zeros 1312)) (imgObj configImage) (zeros 2420) = true) :
    findImage s 0 1 = some configImage ∧ namedConfig s 5 1 0 = ((0, 0), some configImage, none) := by
  have hfl : getF s Reg.OTP_STATE Fld.OTP_STATE_CFG_FLOOR = 0 := by
    have : getF stored Reg.OTP_STATE Fld.OTP_STATE_CFG_FLOOR = 0 := by decide +kernel
    simpa only [getF, rd, hr] using this
  have hcb : curBank s = 0 := by
    have : curBank stored = 0 := by decide +kernel
    simpa only [curBank, getF, rd, hr] using this
  have h1 : (imgKind configImage == 0 && imgId configImage == 1) = true := by decide +kernel
  have hfi : findImage s 0 1 = some configImage := by
    simp [findImage, hcb, bankOf, hf, stored, Flash.blank, hc, h1]
  refine ⟨hfi, ?_⟩
  have hb : configBad 5 configImage none = (0, 0) := by decide +kernel
  simp [namedConfig, hfi, config_authentic s ho hfl h, hb]
theorem next_single (r : IcpReq) : nextReq [r] = some r := by cases h : r.flags.testBit 1 <;> simp [nextReq, h]
theorem witness_ServiceCommands_mode (h : Config.mldsaVerify (Config.sha3 (zeros 1312)) (imgObj configImage) (zeros 2420) = true) :
    ∀ dry ∈ [true, false], ∃ s r t, Begins s .sp 0x0904 r t ∧ nextReq (served s .sp) = some r ∧ modeWaits s r = false ∧ modeBusy t = false ∧ num r.payload 0 1 ≤ 5 ∧ mode t ≠ 4 ∧
      num r.payload 12 4 = 0 ∧ num r.payload 16 4 = 0 ∧ modeCheck t (num r.payload 0 1) (num r.payload 4 4) (num r.payload 8 4) = (St.ok, 0, 0, 0) ∧ bitAt r.payload 1 0 = dry := by
  intro dry _
  refine begs .sp 0x0904 ([5] ++ natLe 1 (b2n dry) ++ [0, 0] ++ natLe 4 1 ++ natLe 4 0 ++ zeros 8) stored (by decide +kernel) ?_
  generalize hq : ([5] ++ natLe 1 (b2n dry) ++ [0, 0] ++ natLe 4 1 ++ natLe 4 0 ++ zeros 8 : List Byte) = q
  have h1 : num q 0 1 = 5 := by subst hq; cases dry <;> decide +kernel
  have h2 : num q 4 4 = 1 := by subst hq; cases dry <;> decide +kernel
  have h3 : num q 8 4 = 0 := by subst hq; cases dry <;> decide +kernel
  have h4 : num q 12 4 = 0 := by subst hq; cases dry <;> decide +kernel
  have h5 : num q 16 4 = 0 := by subst hq; cases dry <;> decide +kernel
  have h6 : bitAt q 1 0 = dry := by subst hq; cases dry <;> decide +kernel
  have hm : mode stored ≠ 4 := by decide +kernel
  have hv : vswitches stored = [] := by decide +kernel
  have hi : (rd stored Reg.GLB_CONFIG_ID).toNat = 0 := by decide +kernel
  have hn : namedConfig (begun .sp (req 0x0904 q) stored) 5 1 0 = ((0, 0), some configImage, none) := (config_allowed (begun .sp (req 0x0904 q) stored) rfl rfl rfl rfl h).2
  have hv' : vswitches (begun .sp (req 0x0904 q) stored) = [] := hv
  have hi' : (rd (begun .sp (req 0x0904 q) stored) Reg.GLB_CONFIG_ID).toNat = 0 := hi
  have hc : modeCheck (begun .sp (req 0x0904 q) stored) 5 1 0 = (St.ok, 0, 0, 0) := by
    simp [modeCheck, hn, hi', cfgAffected, hv', vswMask, notQuiesced, bitsOf]
    all_goals rfl
  refine ⟨next_single _, ?_, rfl, ?_, hm, h4, h5, ?_, h6⟩
  · simp [modeWaits, asked, setDecoderQ, stored, ready, State.reset, Icp.reset, setF, wr]
  · show num q 0 1 ≤ 5
    omega
  · show modeCheck _ (num q 0 1) (num q 4 4) (num q 8 4) = _
    rw [h1, h2, h3, hc]
/-- A MODE_ACTIVATE to mode 5, accepted and voted on. -/
def accepted (config : Nat) (s : State) : State := withPwr (fun p => { p with act := some ⟨req 0x0904 [], 5, 0, config, 0, 0, true, false⟩ }) s
theorem witness_ServiceCommands_applyFails : up (accepted 9 stored) = true ∧ (accepted 9 stored).pwr.act = some ⟨req 0x0904 [], 5, 0, 9, 0, 0, true, false⟩ ∧
    (namedConfig (accepted 9 stored) 5 9 0).1.1 ≠ 0 ∧ (accepted 9 stored).twin.coord = none := by
  have h : findImage (accepted 9 stored) 0 9 = none := by decide +kernel
  refine ⟨by decide +kernel, by decide +kernel, ?_, by decide +kernel⟩
  simp [namedConfig, h]
theorem witness_ServiceCommands_applied (h : Config.mldsaVerify (Config.sha3 (zeros 1312)) (imgObj configImage) (zeros 2420) = true) :
    let s := accepted 1 stored
    up s = true ∧ s.pwr.act = some ⟨req 0x0904 [], 5, 0, 1, 0, 0, true, false⟩ ∧ namedConfig s 5 1 0 = ((0, 0), some configImage, none) ∧ s.twin.coord = none ∧ mode s ≠ 4 ∧
    (∀ p, p < 64 → portChanged s (cfgRegs s (recsOf (some configImage) ++ recsOf none)) p = false) ∧
    (∀ n, n < 16 → rd s (Reg.TILE_CFG n) = rd (cfgRegs s (recsOf (some configImage) ++ recsOf none)) (Reg.TILE_CFG n)) :=
  ⟨by decide +kernel, by decide +kernel, (config_allowed (accepted 1 stored) rfl rfl rfl rfl h).2, by decide +kernel, by decide +kernel, by decide +kernel, by decide +kernel⟩
theorem witness_ServiceCommands_select (h : Config.mldsaVerify (Config.sha3 (zeros 1312)) (imgObj configImage) (zeros 2420) = true) :
    ∃ s r t, Runs s .sp 0x0905 r t ∧ bitAt r.payload 1 0 = false ∧ selCheck t (num r.payload 0 1) (num r.payload 4 4) (num r.payload 8 4) = St.ok := by
  refine asks .sp 0x0905 ([5, 0, 0, 0] ++ natLe 4 1 ++ natLe 4 0) stored (by decide +kernel) ?_
  generalize hq : ([5, 0, 0, 0] ++ natLe 4 1 ++ natLe 4 0 : List Byte) = q
  have h1 : num q 0 1 = 5 := by subst hq; decide +kernel
  have h2 : num q 4 4 = 1 := by subst hq; decide +kernel
  have h3 : num q 8 4 = 0 := by subst hq; decide +kernel
  have h4 : bitAt q 1 0 = false := by subst hq; decide +kernel
  have hfl : getF stored Reg.OTP_STATE Fld.OTP_STATE_CFG_FLOOR = 0 := by decide +kernel
  have hfl' : getF (begun .sp (req 0x0905 q) stored) Reg.OTP_STATE Fld.OTP_STATE_CFG_FLOOR = 0 := hfl
  have hm : imgMode configImage = 5 := by decide +kernel
  refine ⟨h4, ?_⟩
  show selCheck _ (num q 0 1) (num q 4 4) (num q 8 4) = _
  rw [h1, h2, h3]
  simp [selCheck, (config_allowed (begun .sp (req 0x0905 q) stored) rfl rfl rfl rfl h).1, config_authentic (begun .sp (req 0x0905 q) stored) rfl hfl' h, hm]
theorem witness_ServiceCommands_flash : ∃ s r t, Runs s .fw 0x0906 r t ∧ num r.payload 0 1 = 1 ∧ stagingBusy t = false := asks .fw 0x0906 [1] topo (by decide +kernel) (by decide +kernel)
theorem witness_ServiceCommands_eclipse : ∃ s r t, Runs s .fw 0x0A01 r t ∧ s.bg.eclBusy = none ∧ num r.payload 0 1 = 1 ∧ num r.payload 0 1 ≤ 1 ∧ bitAt r.payload 1 0 = false :=
  asks .fw 0x0A01 [1, 0] topo (by decide +kernel) (by decide +kernel)

theorem witness_RegisterCommands_read : ∀ off ∈ [0x0B0FFFFC, 0x0B200000], ∃ s r t, Runs s .fw 0x0A10 r t ∧ num r.payload 0 4 = off ∧ off % 4 = 0 ∧ 1 ≤ num r.payload 4 2 ∧ num r.payload 4 2 ≤ 1016 ∧
    (off + 4 * num r.payload 4 2 ≤ 0x0B100000 ∨ 0x0B200000 ≤ off) ∧ mode t = 3 := by
  intro off h
  refine asks .fw 0x0A10 (natLe 4 off ++ natLe 2 1) topo (by decide +kernel) ?_
  revert off
  decide +kernel
theorem witness_RegisterCommands_readBad : ∃ s r t, Runs s .fw 0x0A10 r t ∧ num r.payload 0 4 % 4 = 0 ∧ num r.payload 4 2 = 1017 ∧ mode t = 3 :=
  asks .fw 0x0A10 (natLe 4 0 ++ natLe 2 1017) topo (by decide +kernel) (by decide +kernel)
theorem witness_RegisterCommands_write : ∃ s r t, Runs s .fw 0x0A11 r t ∧ num r.payload 0 4 % 4 = 0 ∧ num r.payload 4 2 = 2 ∧ (∀ i, i < 2 → regForbidden (num r.payload 0 4 + 4 * i) = false) ∧ mode t = 3 :=
  asks .fw 0x0A11 (natLe 4 0x00500000 ++ natLe 2 2 ++ zeros 8) topo (by decide +kernel) (by decide +kernel)
theorem witness_RegisterCommands_writeBad : ∃ s r t, Runs s .fw 0x0A11 r t ∧ num r.payload 4 2 = 1 ∧ regForbidden (num r.payload 0 4 + 4 * 0) = true ∧ mode t = 3 :=
  asks .fw 0x0A11 (natLe 4 0x00100000 ++ natLe 2 1 ++ zeros 4) topo (by decide +kernel) (by decide +kernel)

theorem witness_ObserveCommands :
    (let s := fields [(Reg.ORBIT_CFG, Fld.ORBIT_CFG_PERIOD, 100)] topo
     up s = true ∧ s.pwr.coresHeld = false ∧ orbitPeriod s ≠ 0 ∧ orbitDenied s ((bitsOf 9 (rd s Reg.ORBIT_SETS).toNat).flatMap orbitSet) = none) ∧
    (let s := withPwr (fun p => { p with coresHeld := true }) topo; up s = true ∧ s.pwr.coresHeld = true) ∧
    (configured asleep = true ∧ dormant asleep = true) ∧ (configured topo = true ∧ dormant topo = false) ∧
    (let s := setF topo Reg.ECL_ARM Fld.ECL_ARM_IN_EN 1; isSet s Reg.ECL_ARM Fld.ECL_ARM_IN_EN = true ∧ s.bg.eclDeaf ≤ s.time ∧ s.bg.eclBusy = none) ∧
    (let s := { setF topo Reg.ECL_ARM Fld.ECL_ARM_IN_EN 1 with bg := { topo.bg with eclBusy := some (0, 0) } }
     configured s = true ∧ isSet s Reg.ECL_ARM Fld.ECL_ARM_IN_EN = true ∧ s.bg.eclBusy ≠ none ∧ fastUp s = true ∧ s.bg.eclBusy = some (0, 0) ∧ s.bg.eclWait = none) ∧
    isSet (setF topo Reg.ECL_ARM Fld.ECL_ARM_IN_EN 0) Reg.ECL_ARM Fld.ECL_ARM_IN_EN = false ∧
    (13 ∈ allBanks ∧ isSet topo (Reg.PC_SEL 13 7) Fld.PC_SEL_TRIG = false) := by
  and_intros
  all_goals decide +kernel
/-- `topo` with COMET and the sampler enabled, each with its ring of 2^10 records. -/
def rings : State := fields [(Reg.COMET_CTRL, Fld.COMET_CTRL_EN, 1), (Reg.COMET_CTRL, Fld.COMET_CTRL_HOLDOFF, 1), (Reg.SMP_CTRL, Fld.SMP_CTRL_EN, 1),
  (Reg.SMP_CTRL, Fld.COMET_CTRL_HOLDOFF, 1)] topo
/-- A COMET record of a TLP at port 2. -/
def comet : CometRec := ⟨zeros 14, 16, 0, zeros 44, 2⟩
/-- A finished sampler entry. -/
def sample : Sample := ⟨0, none, 2, false, false, 2, false, false, 0, 0, 0, false, 0, 0, 0, 0, none, 0, [], true⟩
theorem witness_ObserveCommands_comet : let s := { rings with cong := { rings.cong with staging := [comet] } }
    let u := subShared { s with cong := { s.cong with staging := [] } } 2 3 1
    up s = true ∧ s.cong.staging = comet :: [] ∧ isFenced s ⟨Uk.comet, 0⟩ = false ∧ (comet.bytes ((comet.seq + 4294967296 - u.cong.cometNext) % 4294967296)).length = 64 ∧
    (ringPut u cometRing (comet.bytes ((comet.seq + 4294967296 - u.cong.cometNext) % 4294967296))).1 = true := by decide +kernel
theorem witness_ObserveCommands_holdoff :
    (let s := { wr rings Reg.COMET_WR_PTR 1 with time := us 1 }; up s = true ∧ ringHoldoff s cometRing s.cong.cometLast s.cong.cometTold = true) ∧
    (let s := { wr rings Reg.SMP_RING_WR 1 with time := us 1 }; up s = true ∧ ringHoldoff s smpRing s.cong.smpLast s.cong.smpTold = true) := by decide +kernel
theorem witness_ObserveCommands_spill : let s := { rings with cong := { rings.cong with smpDone := [5], smpEntries := [(5, sample)] } }
    up s = true ∧ s.cong.smpDone = 5 :: [] ∧ aget s.cong.smpEntries 5 = some sample ∧ isFenced s ⟨Uk.sampler, 0⟩ = false ∧ ddrOk s = true ∧ smpRing.full s = false ∧
    (let x := smpAdmit s sample.inPort
     x.1 = true ∧ (ringPut { x.2 with cong := { x.2.cong with smpDone := [], smpEntries := adel x.2.cong.smpEntries 5 } } smpRing sample.bytes).1 = true) ∧
    (let t := addShared s sample.inPort 3 262144; up t = true ∧ t.cong.smpDone = 5 :: [] ∧ aget t.cong.smpEntries 5 = some sample ∧ (smpAdmit t sample.inPort).1 = false) := by decide +kernel
/-- A COMET record is 64 bytes at the address of the next slot. -/
theorem witness_FramesOfRows : (comet.bytes 0).length = 64 ∧ (ringPut rings cometRing (comet.bytes 0)).1 = true ∧ (ringPut rings smpRing sample.bytes).1 = true ∧ sample.bytes.length = 64 ∧
    Reg.COMET_CTRL ≠ Reg.SMP_CTRL ∧ (req 0x0101 []).chan < 128 ∧ 3 ≠ 4 := by decide +kernel

/-- A write of core 1 that lands (`lands_of`). -/
def lands (s : State) (k : Nat) (w : Word) : Bool :=
  accessUp s core1 && s.half.isEmpty && (crsCheck s core1 (crsOffset k) .write).1 == 0 && !mpuLocked s k && !spwAttempt s 1 k w (wholeMask k)
theorem check_free (s : State) (m : Master) (off : Nat) (a : Rwx) (h : (crsCheck s m off a).1 = 0) : crsCheck s m off a = (0, s) := by
  unfold crsCheck at h ⊢
  simp only at h ⊢
  split
  · next h1 => rw [if_pos h1] at h; exact absurd h (by simp)
  · next h1 =>
    rw [if_neg h1] at h
    split
    · next h2 => rw [if_pos h2] at h; exact absurd h (by simp)
    · next h2 =>
      rw [if_neg h2] at h
      split
      · next h3 => rw [if_pos h3] at h; exact absurd h (by simp)
      · next h3 =>
        rw [if_neg h3] at h
        split
        · rfl
        · next u hu =>
          rw [hu] at h
          simp only at h
          split
          · rfl
          · next h4 =>
            rw [if_neg h4] at h
            simp only at h
            split at h <;> exact absurd h (by simp)
theorem lands_of {s : State} {k : Nat} {w : Word} (h : lands s k w = true) : Lands s core1 k w := by
  simp only [lands, Bool.and_eq_true, Bool.not_eq_true', List.isEmpty_iff, beq_iff_eq] at h
  exact ⟨⟨h.1.1.1.1, h.1.1.1.2, check_free _ _ _ _ h.1.1.2⟩, Or.inl h.1.2, h.2⟩
theorem witness_LogAndRingRegisters :
    (∀ mask : Fin 4, Lands topo core1 Reg.ECL_STATUS (low32 (Fld.ECL_STATUS_VALID_B.set (Fld.ECL_STATUS_VALID_A.set 0 (mask.val % 2)) (mask.val / 2)))) ∧
    (∀ bank ∈ allBanks, bank ≠ 13 → accessUp topo core1 = true ∧ topo.half = [] ∧ crsCheck topo core1 (bankBase bank) .write = (0, topo)) ∧
    (Lands topo core1 Reg.COMET_CTRL (low32 (Fld.COMET_CTRL_EN.set 0 1)) ∧ isSet topo Reg.COMET_CTRL Fld.COMET_CTRL_EN = false) ∧
    Lands topo core1 Reg.COMET_CTRL (low32 (Fld.COMET_CTRL_EN.set 0 0)) ∧ Lands topo core1 Reg.COMET_RD_PTR (low32 0) ∧
    (Lands topo core1 Reg.SMP_CTRL (low32 (Fld.SMP_CTRL_EN.set 0 1)) ∧ isSet topo Reg.SMP_CTRL Fld.SMP_CTRL_EN = false) ∧ Lands topo core1 Reg.SMP_RING_RD (low32 0) ∧
    (let s := wr rings Reg.COMET_WR_PTR 1023; 1023 < cometRing.cap s ∧ (1023 + cometRing.cap s - (rd s Reg.COMET_RD_PTR).toNat % cometRing.cap s) % cometRing.cap s ≤ cometRing.unread s ∧
      cometRing.full (wr s cometRing.rdPtr (BitVec.ofNat 64 1023)) = false ∧ cometRing.cap s ≤ 1024) ∧
    (cometRing.unread rings < (1 + cometRing.cap rings - (rd rings Reg.COMET_RD_PTR).toNat % cometRing.cap rings) % cometRing.cap rings) ∧
    (∀ v : Fin 32, Lands topo core1 (Reg.PFL_PTR v) (low32 0)) ∧ Lands topo core1 Reg.SB_ERR_PTR (low32 0) ∧
    Lands topo core1 (Reg.SB_POLL 255) (Fld.SB_POLL_EN.set 0 0) ∧ Fld.SB_POLL_EN.get (Fld.SB_POLL_EN.set 0 0) = 0 ∧ isSet topo (Reg.SB_POLL 255) Fld.SB_POLL_EN = false := by
  refine ⟨fun mask => lands_of (by revert mask; decide +kernel), fun bank hb h13 => ⟨by decide +kernel, by decide +kernel, check_free _ _ _ _ ?_⟩, ⟨lands_of (by decide +kernel), by decide +kernel⟩,
    lands_of (by decide +kernel), lands_of (by decide +kernel), ⟨lands_of (by decide +kernel), by decide +kernel⟩, lands_of (by decide +kernel), by decide +kernel, by decide +kernel,
    fun v => lands_of (by revert v; decide +kernel), lands_of (by decide +kernel), lands_of (by decide +kernel), by decide +kernel, by decide +kernel⟩
  revert bank
  decide +kernel
/-- A poll of the slowest entry of a bus, written enabled, and one that overloads the bus. -/
theorem witness_LogAndRingRegisters_poll : ∃ fast slow : Word,
    (Lands topo core1 (Reg.SB_POLL 255) slow ∧ Fld.SB_POLL_EN.get slow = 1 ∧ busLoad topo (Fld.SB_POLL_BUS.get slow) 255 slow ≤ 800000000 ∧
      topo.sb.legacyBus.contains (Fld.SB_POLL_BUS.get slow) = false) ∧
    (Lands topo core1 (Reg.SB_POLL 255) fast ∧ Fld.SB_POLL_EN.get fast = 1 ∧ 800000000 < busLoad topo (Fld.SB_POLL_BUS.get fast) 255 fast) := by
  refine ⟨Fld.SB_POLL_LEGACY.set (Fld.SB_POLL_PERIOD.set (Fld.SB_POLL_EN.set 0 1) 0) 1, Fld.SB_POLL_PERIOD.set (Fld.SB_POLL_EN.set 0 1) 65535, ⟨lands_of ?_, ?_, ?_, ?_⟩, ⟨lands_of ?_, ?_, ?_⟩⟩
  all_goals decide +kernel

/-- A write through an access register in a state: it lands, and the MPU of the table lets it through. -/
def opens (s u : State) (k : Nat) (v : Word) (ofs : Nat) (a : Rwx) : Bool := lands s k v && mpuAllows u 0 (0x8000000000 + ofs) a 1 1
/-- The access register as it is written: the index 0 with an operation in bits 31:28 or its field. -/
def acc (f : Field) (op : Nat) : Word := low32 (f.set 0 op)
theorem witness_TableAccessRegisters_fam : (∀ op ∈ [0, 1], lands topo Reg.FAM_ACC (acc Fld.FAM_ACC_OP op) = true ∧
      opens topo (accStore topo Reg.FAM_ACC (acc Fld.FAM_ACC_OP op) 0x0C01FFFF) Reg.FAM_ACC (acc Fld.FAM_ACC_OP op) (32 * ((acc Fld.FAM_ACC_OP op).toNat % 131072)) (if op = 0 then .read else .write) = true) ∧
    1 ≤ core1.id.val ∧ core1.id.val ≤ 4 ∧
    (let u := accStore topo Reg.FAM_ACC (acc Fld.FAM_ACC_OP 1) 0x0C01FFFF
     let b := getData u (fun k => Reg.FAM_DATA k) 4
     ownerTable u (famRead b).owner = some true ∧ (famLiveStep u (famNext u) ((acc Fld.FAM_ACC_OP 1).toNat % 131072, b)).isSome) ∧
    (let s := wr topo (Reg.FAM_DATA 2) 0x8000
     let u := accStore s Reg.FAM_ACC (acc Fld.FAM_ACC_OP 1) 0x0C01FFFF
     let b := getData u (fun k => Reg.FAM_DATA k) 4
     lands s Reg.FAM_ACC (acc Fld.FAM_ACC_OP 1) = true ∧ ownerTable u (famRead b).owner = some true ∧ famLiveStep u (famNext u) ((acc Fld.FAM_ACC_OP 1).toNat % 131072, b) = none) ∧
    (let s := setF (pair 2 6) Reg.FAB_ID Fld.FAB_ID_NODE 5
     let u := accStore s Reg.FAM_ACC (acc Fld.FAM_ACC_OP 1) 0x0C01FFFF
     lands s Reg.FAM_ACC (acc Fld.FAM_ACC_OP 1) = true ∧ ownerTable u (famRead (getData u (fun k => Reg.FAM_DATA k) 4)).owner ≠ some true) := by
  and_intros
  all_goals decide +kernel
theorem witness_TableAccessRegisters_bind : (∀ op ∈ [0, 1], lands topo Reg.BIND_ACC (acc Fld.BIND_ACC_OP op) = true ∧
      opens topo (accStore topo Reg.BIND_ACC (acc Fld.BIND_ACC_OP op) 0x0C003FFF) Reg.BIND_ACC (acc Fld.BIND_ACC_OP op) (0xC00000 + 16 * ((acc Fld.BIND_ACC_OP op).toNat % 16384)) (if op = 0 then .read else .write) = true) ∧
    (let u := accStore topo Reg.BIND_ACC (acc Fld.BIND_ACC_OP 1) 0x0C003FFF
     2 ≤ mode u ∧ mode u ≤ 4 ∧ ownerTable u (bindRead (getData u (fun k => Reg.BIND_DATA k) 2)).owner = some true ∧ (bindLiveStep u true (bindNext u) ((acc Fld.BIND_ACC_OP 1).toNat % 16384, getData u (fun k => Reg.BIND_DATA k) 2)).isSome) ∧
    (lands (ready 1) Reg.BIND_ACC (acc Fld.BIND_ACC_OP 1) = true ∧ mode (accStore (ready 1) Reg.BIND_ACC (acc Fld.BIND_ACC_OP 1) 0x0C003FFF) ≤ 1) := by
  and_intros
  all_goals decide +kernel
theorem witness_TableAccessRegisters_others :
    (∀ op ∈ [0, 1], opens topo (accStore topo Reg.ROUTE_ACC (acc Fld.ROUTE_ACC_OP op) 0x0C000FFF) Reg.ROUTE_ACC (acc Fld.ROUTE_ACC_OP op) (0xC40000 + 64 * ((acc Fld.ROUTE_ACC_OP op).toNat % 4096)) (if op = 0 then .read else .write) = true) ∧
    (∀ op ∈ [0, 1], opens topo (accStore topo Reg.TBL_ACC (acc Fld.TBL_ACC_OP op) 0x3C00FFFF) Reg.TBL_ACC (acc Fld.TBL_ACC_OP op) (0xF00000 + 64 * ((acc Fld.TBL_ACC_OP op).toNat % 65536)) (if op = 0 then .read else .write) = true ∧
      Fld.TBL_ACC_TABLE.get (acc Fld.TBL_ACC_OP op) = 0 ∧ (acc Fld.TBL_ACC_OP op).toNat % 65536 < 16384) ∧
    (let s := wr topo (Reg.TBL_DATA 1) (BitVec.ofNat 64 (4128 + 4128 * 2 ^ 32))
     let u := accStore s Reg.TBL_ACC (acc Fld.TBL_ACC_OP 1) 0x3C00FFFF
     opens s u Reg.TBL_ACC (acc Fld.TBL_ACC_OP 1) 0xF00000 .write = true ∧ (meterWritten u (getData u (fun k => Reg.TBL_DATA k) 8)).isSome) ∧
    lands topo (Reg.METER_MAP 63) (low32 0) = true ∧
    (opens topo (accStore topo Reg.CTX_ACC (low32 0) 0x0C03FFFF) Reg.CTX_ACC (low32 0) 0x400000 .read = true ∧ accOp (low32 0) = 0 ∧ (low32 0).toNat % 262144 ≠ 0x3FFFF) ∧
    (lands topo Reg.CTX_ACC (acc Fld.FAM_ACC_OP 1) = true ∧ accOp (acc Fld.FAM_ACC_OP 1) ≠ 0) ∧
    (opens topo (accStore topo Reg.TWIN_SHADOW_ACC (low32 0) 0x3C01FFFF) Reg.TWIN_SHADOW_ACC (low32 0) 0x1000000 .read = true ∧ Fld.TWIN_SHADOW_ACC_TABLE.get (low32 0) = 0) ∧
    (lands topo (Reg.TILE_COEF_ACC 15) (acc Fld.TILE_COEF_ACC_CLR 0) = true ∧ bitsAt (acc Fld.TILE_COEF_ACC_CLR 0).toNat 0 3 ≤ 5) ∧
    lands topo (Reg.TILE_COEF_ACC 15) (acc Fld.TILE_COEF_ACC_CLR 1) = true := by
  and_intros
  all_goals decide +kernel
/-- A write by a master that may not write table entries. -/
theorem witness_TableAccessRegisters_foreign : Lands topo ⟨5, 1, 0⟩ Reg.FAM_ACC (acc Fld.FAM_ACC_OP 1) ∧ (5 ≤ (⟨5, 1, 0⟩ : Master).id.val ∧ (⟨5, 1, 0⟩ : Master).id.val ≠ 11) :=
  ⟨⟨⟨by decide +kernel, by decide +kernel, check_free _ _ _ _ (by decide +kernel)⟩, Or.inl (by decide +kernel), by decide +kernel⟩, by decide +kernel⟩
theorem witness_LinkAndPortRegisters_link : let k := Reg.CZ_CTRL 4
    let on := setF topo k Fld.CZ_CTRL_TRAIN_EN 1
    let w := rd topo k
    (let v := low32 (Fld.CZ_CTRL_RESET_REQ.set w 1); lands topo k v = true ∧ getF topo k Fld.CZ_CTRL_TRAIN_EN = Fld.CZ_CTRL_TRAIN_EN.get v) ∧
    (let v := low32 (Fld.CZ_CTRL_TRAIN_EN.set w 0); lands on k v = true ∧ Fld.CZ_CTRL_RESET_REQ.get v = 0 ∧ isSet on k Fld.CZ_CTRL_TRAIN_EN = true) ∧
    (let off := setF topo k Fld.CZ_CTRL_TRAIN_EN 0; let v := low32 (Fld.CZ_CTRL_TRAIN_EN.set w 1)
     lands off k v = true ∧ Fld.CZ_CTRL_RESET_REQ.get v = 0 ∧ isSet off k Fld.CZ_CTRL_TRAIN_EN = false) ∧
    (let v := low32 (Fld.CZ_CTRL_OFFER_R.set w (3 - Fld.CZ_CTRL_OFFER_R.get w)); lands topo k v = true ∧ Fld.CZ_CTRL_RESET_REQ.get v = 0 ∧
      getF topo k Fld.CZ_CTRL_TRAIN_EN = Fld.CZ_CTRL_TRAIN_EN.get v) ∧
    lands topo (Reg.CZ_STORED 4) (low32 (Fld.CZ_STORED_CLEAR.set 0 1)) = true := by
  and_intros
  all_goals decide +kernel
theorem witness_LinkAndPortRegisters_port : let k := Reg.PORT_CTRL 2
    let kept := fun v : Word => getF topo k Fld.PORT_CTRL_PERST_FORCE = Fld.PORT_CTRL_PERST_FORCE.get v ∧ getF topo k Fld.PORT_CTRL_DISABLE = Fld.PORT_CTRL_DISABLE.get v
    (let v := low32 (Fld.PORT_CTRL_RETRAIN.set 0 1); lands topo k v = true ∧ kept v ∧ Fld.PORT_CTRL_RELEASE.get v = 0) ∧
    (let v := low32 (Fld.PORT_CTRL_RELEASE.set 0 1); lands topo k v = true ∧ kept v ∧ Fld.PORT_CTRL_RETRAIN.get v = 0) ∧
    (let v := low32 (Fld.PORT_CTRL_PERST_FORCE.set 0 1); lands topo k (low32 (Fld.PORT_CTRL_RELEASE.set (Fld.PORT_CTRL_RETRAIN.set v 0) 0)) = true ∧
      getF topo k Fld.PORT_CTRL_DISABLE = Fld.PORT_CTRL_DISABLE.get v ∧ getF topo k Fld.PORT_CTRL_PERST_FORCE ≠ Fld.PORT_CTRL_PERST_FORCE.get v) ∧
    (let v := low32 (Fld.PORT_CTRL_DISABLE.set 0 1); lands topo k v = true ∧ getF topo k Fld.PORT_CTRL_PERST_FORCE = Fld.PORT_CTRL_PERST_FORCE.get v ∧
      getF topo k Fld.PORT_CTRL_DISABLE ≠ Fld.PORT_CTRL_DISABLE.get v ∧ Fld.PORT_CTRL_RELEASE.get v = 0 ∧ Fld.PORT_CTRL_RETRAIN.get v = 0) := by
  and_intros
  all_goals decide +kernel

/-- An access of core 1. -/
def access (off bytes : Nat) : Access := ⟨core1, .crs, off, bytes, false⟩
/-- An access of core 1 to Chip Register Space that the checks of a state let through. -/
def free (s : State) (a : Access) : Bool :=
  accessUp s a.by_ && a.space == .crs && spaceUp s a.space && !inBridge a.offset && (exportRead s a.offset a.bytes).isNone && (crsCheck s a.by_ a.offset .read).1 == 0 &&
    (crsCheck s a.by_ a.offset .write).1 == 0
theorem witness_RegisterAccess : (∀ x ∈ [(access (crsOffset Reg.PWR_CTRL) 4, Reg.PWR_CTRL, 32, false), (access (crsOffset (Reg.HOST_TIME_OFS 31)) 8, Reg.HOST_TIME_OFS 31, 64, false),
        (access (crsOffset (Reg.HOST_TIME_OFS 31)) 4, Reg.HOST_TIME_OFS 31, 64, false), (access (crsOffset (Reg.HOST_TIME_OFS 31) + 4) 4, Reg.HOST_TIME_OFS 31, 64, true)],
      free topo x.1 = true ∧ topo.half = [] ∧ x.1.offset % x.1.bytes = 0 ∧ (crsAt x.1.offset).map (fun h => (h.key, h.fam.width, h.high)) = some x.2) ∧
    (∀ b ∈ [true, false], let s := { topo with half := [⟨core1.id.val, Reg.HOST_TIME_OFS 31, b, 7⟩] }
      free s (access (crsOffset (Reg.HOST_TIME_OFS 31) + 4) 4) = true ∧ s.half = [⟨1, Reg.HOST_TIME_OFS 31, b, 7⟩] ∧ 7 < 2 ^ 32) ∧
    (let a := access 0x0FFFFFFC 4; free topo a = true ∧ crsAt a.offset = none ∧ ringMirror a.offset = none) ∧
    (let a : Access := ⟨⟨13, 0, 0⟩, .mgmtBar0 0, 0x80400, 4, false⟩
     accessUp topo a.by_ = true ∧ a.space ≠ .crs ∧ spaceUp topo a.space = true ∧ (barReg topo a.space a.offset).map (fun h => (h.key, h.fam.width)) = some (Reg.PFL_PTR 0, 32)) ∧
    (let a : Access := ⟨⟨5, 1, 0⟩, .crs, 0x00108000, 4, false⟩; accessUp topo a.by_ = true ∧ a.offset % 4 = 0 ∧ inBridge a.offset = false ∧ (crsCheck topo a.by_ a.offset .write).1 = 1 ∧
      (crsCheck topo a.by_ a.offset .read).1 = 1) ∧
    (let s := { topo with fcu := { topo.fcu with units := [⟨⟨Uk.mgmt, 0⟩, 0, true, false, none⟩] } }
     accessUp s core1 = true ∧ (crsCheck s core1 (crsOffset Reg.PWR_CTRL) .write).1 = 2 ∧ (crsCheck s core1 (crsOffset Reg.PWR_CTRL) .read).1 = 2) := by
  and_intros
  all_goals decide +kernel
/-- A write of a register without a rule of its own, one of a field that only the SP may write, and one of a locked region of an MPU. -/
theorem witness_RegisterAccess_commit : (∀ k ∈ [Reg.LD_PERIOD, Reg.PWR_CTRL], let w : Word := low32 (BitVec.allOnes 64)
      (accWrite topo 1 k w).isNone ∧ (ringWrite topo 1 k w 0xFFFFFFFF#64).isNone ∧ (barRegWrite topo k w 0xFFFFFFFF#64).isNone ∧ (unitWrite topo 1 k w 0xFFFFFFFF#64).isNone ∧ cvuOf k = none ∧
      spwAttempt topo 1 k w 0xFFFFFFFF#64 = decide (k = Reg.PWR_CTRL) ∧ mpuLocked topo k = false ∧ (famOf k).isSome ∧ isLog k = false) ∧
    (let t := spwRecord topo 1 (crsOffset Reg.PWR_CTRL); (accWrite t 1 Reg.PWR_CTRL 0xFF).isNone ∧ (unitWrite t 1 Reg.PWR_CTRL 0xFF 0xFFFFFFFF#64).isNone) ∧
    (core1.id.val ≠ 0 ∧ mpuLocked (setF topo (Reg.MPU_RBASE 15 1) Fld.MPU_RBASE_LOCK 1) (Reg.MPU_RATTR 15 1) = true) ∧
    (∀ b ∈ [0, 1], isSet (setF topo Reg.SP_SPW_LOG Fld.SP_SPW_LOG_VALID b) Reg.SP_SPW_LOG Fld.SP_SPW_LOG_VALID = decide (b = 1)) := by
  and_intros
  all_goals decide +kernel
/-- `topo` with a check-value unit on. -/
def checking : State := fields [(Reg.CVU_OWNER 7, Fld.CVU_OWNER_ANY, 1), (Reg.CV_CTRL 7, Fld.CV_CTRL_EN, 1)] topo
theorem witness_SafetyRegisters :
    spUp topo = true ∧ (withPwr (fun p => { p with faultNLow := true }) topo).pwr.faultNLow = true ∧
    (let s := { withPwr (fun p => { p with faultNLow := true, faultNSince := 0 }) topo with edge := 500 }; faultNHeld s = false ∧ s.pwr.faultNSince + 500 ≤ s.edge) ∧
    (cvOwner checking 7 1 = true ∧ isFenced checking ⟨Uk.cvu, 7⟩ = false ∧ lands checking (Reg.CV_DATA8 7) (low32 0xFF) = true ∧ lands checking (Reg.CV_DATA32 7) (low32 0) = true ∧
      isSet checking (Reg.CV_CTRL 7) Fld.CV_CTRL_EN = true) ∧
    (let s := setF checking (Reg.CV_CTRL 7) Fld.CV_CTRL_EN 0; lands s (Reg.CV_DATA16 7) (low32 0) = true ∧ isSet s (Reg.CV_CTRL 7) Fld.CV_CTRL_EN = false ∧ cvOwner s 7 1 = true) ∧
    lands checking (Reg.CV_CTRL 7) (low32 (Fld.CV_CTRL_INIT.set (rd checking (Reg.CV_CTRL 7)) 1)) = true ∧
    (lands checking (Reg.CV_END 7) (low32 0) = true ∧ Fld.CV_END_CHECK.get (low32 0) = 0 ∧ isSet checking (Reg.CV_CTRL 7) Fld.CV_CTRL_ALIVE_EN = false) ∧
    lands checking (Reg.CV_STATE 7) 0 = true ∧ lands topo (Reg.CV_END 7) (low32 0) = true ∧
    (let s := fields [(Reg.CVU_OWNER 7, Fld.CVU_OWNER_MASTER, 2), (Reg.CVU_OWNER 7, Fld.CVU_OWNER_ANY, 0)] topo; cvOwner s 7 1 = false ∧ lands s (Reg.CV_END 7) (low32 0) = true) ∧
    (∀ u : Fin 23, lands topo (Reg.MPU_COMMIT u) 1 = true) ∧ (∀ u : Fin 23, (crsCheck topo core1 (crsOffset (Reg.MPU_DRAIN u)) .read).1 = 0) := by
  and_intros
  all_goals decide +kernel
/-- `topo` with the journal's reserve below four sectors: only its head is erased, and sector 5 not. -/
def nearlyFull : State := { topo with flash := { topo.flash with journal := (List.range 12).map (fun k => (k, { JSector.blank with erased := k == 0 })) } }
theorem witness_BackgroundCommands :
    (let s := { setF topo Reg.DDR_STATUS Fld.DDR_STATUS_READY 1 with ddr := { topo.ddr with fillNext := 1791 } }
     up s = true ∧ isSet s Reg.DDR_STATUS Fld.DDR_STATUS_READY = true ∧ s.ddr.fillNext < 1792) ∧
    (let s := setF topo Reg.BG_CTRL Fld.BG_CTRL_LD_EN 1; up s = true ∧ isSet s Reg.BG_CTRL Fld.BG_CTRL_LD_EN = true ∧ ddrOk s = true ∧ agetD s.bg.ldPos 5 0 + 1 < launderWords 5) ∧
    (let s := { setF topo Reg.BG_CTRL Fld.BG_CTRL_LD_EN 1 with bg := { topo.bg with ldPos := [(0, launderWords 0 - 1)] } }
     up s = true ∧ isSet s Reg.BG_CTRL Fld.BG_CTRL_LD_EN = true ∧ launderWords 0 ≤ agetD s.bg.ldPos 0 0 + 1) ∧
    isSet (setF topo Reg.BG_CTRL Fld.BG_CTRL_LD_EN 0) Reg.BG_CTRL Fld.BG_CTRL_LD_EN = false ∧ topo.fcu.injections = [] ∧
    (up nearlyFull = true ∧ nearlyFull.bg.erasing = none ∧ jnlReserve nearlyFull < 4 ∧ jnlFind nearlyFull (fun x => !x.erased) (jnlSectors - 1) (jnlHead nearlyFull + 1) = some 1) ∧
    (let s := { nearlyFull with bg := { nearlyFull.bg with erasing := some 5 } }; up s = true ∧ s.bg.erasing = some 5 ∧ s.bg.jbuf = []) ∧
    (let r : JRec := ⟨1, 0, 0, 0, 0, [], []⟩
     let s := { modSector topo (jnlHead topo) (fun x => { x with headed := true }) with bg := { topo.bg with jbuf := [r] } }
     up s = true ∧ s.bg.jbuf = r :: [] ∧ (headReady s).isSome = true ∧ (jSector s (jnlHead s)).headed = true ∧ !(jSector s (jnlHead s)).retired ∧ !(jSector s (jnlHead s)).full) ∧
    (let s := setF topo Reg.BOOT_STATUS Fld.BOOT_STATUS_READY 1; up s = true ∧ isSet s Reg.BOOT_STATUS Fld.BOOT_STATUS_READY = true) := by
  and_intros
  all_goals decide +kernel

/-- A state in which a command waits. -/
theorem witness_StepRunsFrontCommand : { topo with pending := [Instr.aonRead] }.pending = Instr.aonRead :: [] ∧ topo.pending = [] := by decide +kernel
/-- The hypotheses of the invariant are met by the step of the first command of a boot from the state after reset. -/
theorem witness_SoundPreserved : ∃ t, Sound State.reset ∧ step { State.reset with pending := [Instr.porNDeassert 0] } = .next t ∧ Sound { State.reset with pending := [Instr.porNDeassert 0] } :=
  ⟨_, ⟨by decide +kernel, fun h => absurd h (by decide +kernel)⟩, rfl, ⟨by decide +kernel, fun h => absurd h (by decide +kernel)⟩⟩
theorem witness_IdleStateRests : Idle State.reset := by
  refine ⟨rfl, rfl, rfl, rfl, rfl, rfl, by decide +kernel, ?_, by decide +kernel, by decide +kernel, rfl, rfl, ?_, by decide +kernel, by decide +kernel, by decide +kernel⟩
  · intro b x q _ h
    simp [sbQ, State.reset, agetD, aget] at h
  · intro i h
    exact absurd h (by simp [State.reset, Hosts.reset])
theorem witness_MemoryReadsWhatWasWritten : Memory.wf [(0x37FFFFFFF, 1#8)] = true ∧ Memory.wf (memWrite [(0x37FFFFFFF, 1#8)] 0x37FFFFFFF [0#8]) = true ∧
    memWrite [(0x37FFFFFFF, 1#8)] 0x37FFFFFFF [0#8] = [] := by decide +kernel
theorem witness_RegistersAndFields : Regs.wf topo.regs = true ∧ Fld.COMET_RING_BASE_BASE.lsb + Fld.COMET_RING_BASE_BASE.width ≤ 64 ∧
    (Fld.CZ_STATUS_STATE.lsb + Fld.CZ_STATUS_STATE.width ≤ 64 ∧ (⟨63, 1⟩ : Field).lsb + (⟨63, 1⟩ : Field).width ≤ 64) := by decide +kernel
/-- A FAM entry with every field at its greatest value. -/
def famMost : FamEnt := ⟨2 ^ 64 - 4096, 2 ^ 64 - 4096, 3, 63, true, 63, 4095, 4095, 31, true, true, true, true, true, 2 ^ 16 - 1, 4095, 2 ^ 32 - 1⟩
/-- A binding entry with every field at its greatest value. -/
def bindMost : BindEnt := ⟨2 ^ 16 - 1, 3, 63, true, 31, 63, 255, true, 4095⟩
theorem witness_TableEntriesReadBack : famMost.bytes.length = 32 ∧ famReservedSet famMost.bytes = false ∧ famRead famMost.bytes = famMost ∧ bindMost.bytes.length = 16 ∧
    bindRead bindMost.bytes = bindMost := by decide +kernel
theorem witness_WantReply : ∀ flags ∈ [0, 1], inSession topo { req 0x0101 [] with flags := flags } = true ∧
    (flags.testBit 0 = decide (flags = 1) ∧ Ch.bmc ≠ Ch.twin ∧ Ch.bmc ≠ Ch.relay ∧ Ch.bmc < 128) := by decide +kernel
theorem witness_SlotsOfTile : slotExists 2 3 = true ∧ slotOn topo 2 0 = true ∧ 15 ∈ slotLanes topo 2 0 ∧
    (let s := { topo with time := ms 1000000000 }; 15 ∈ lanesInUse s 2 ∧ levelOf s (laneAge s 2 15) (pressPeriod s 2) = 2 ∧ pressLevel s 2 15 < 2) := by decide +kernel
theorem witness_CheckValueAlgorithms : 3 < 4 ∧ 2 ^ 64 - 1 < 2 ^ cvWidth 3 ∧ 2 ^ 16 - 1 < 2 ^ cvWidth 2 := by decide +kernel
theorem witness_LockedSidebandAccess : ∀ off ∈ [0x0B000000, 0x0B100000, 0x0B1FFFFF], let a : Access := ⟨core1, .crs, off, 1, true⟩
    fastUp topo = true ∧ a.space = .crs ∧ inBridge a.offset = true ∧ (crsCheck topo a.by_ a.offset .read).1 = 0 := by decide +kernel

/-! ## Ill-formed operands -/

def okAccess : Access := ⟨⟨0, 0, 0⟩, .crs, 0, 4, false⟩
def okTlp : Tlp := ⟨.memRead, .byAddress, 0, false, false, false, 0, 0, 0, 0, 0, 0, 0, [], false, false, false, false, false, 0, []⟩
def okFrame : Frame := ⟨0, 0, 0, true, true, false, 0, 0, 0, none, none, 0, .part []⟩
def okParam : Param := ⟨0, false, 0, 0, 0, 0, 0, false, 0, 0, 0, 0, 0⟩
def okCfg : CfgReq := ⟨false, false, 0, 0, 0, 0, 0, 0, 0, 0⟩
def okFault : FaultReq := ⟨0, .contained, ⟨0, 0⟩, 0, false⟩

/-- The operands that the tests below vary are well formed themselves. -/
theorem test_wf_operands : okAccess.wf = true ∧ okTlp.wf = true ∧ okFrame.wf = true ∧ okParam.wf = true ∧ okCfg.wf = true ∧ okFault.wf = true := by decide
theorem test_ill_unit : (⟨256, 0⟩ : UnitId).wf = false ∧ (⟨0, 65536⟩ : UnitId).wf = false := by decide
theorem test_ill_fault : { okFault with source := 65536 }.wf = false ∧ { okFault with unit := ⟨256, 0⟩ }.wf = false ∧ { okFault with detail := 4294967296 }.wf = false := by decide
theorem test_ill_access : { okAccess with bytes := 3 }.wf = false ∧ { okAccess with offset := 268435456 }.wf = false := by decide
theorem test_ill_tlp : { okTlp with tc := 8 }.wf = false ∧ { okTlp with tag := 16384 }.wf = false ∧ { okTlp with addr := 18446744073709551616 }.wf = false ∧
    { okTlp with destId := 65536 }.wf = false ∧ { okTlp with reqId := 65536 }.wf = false ∧ { okTlp with cplId := 65536 }.wf = false ∧ { okTlp with status := 8 }.wf = false ∧
    { okTlp with len := 4097 }.wf = false ∧ { okTlp with be := 16 }.wf = false ∧ { okTlp with data := List.replicate 4097 0 }.wf = false := by decide +kernel
theorem test_ill_frame : { okFrame with type := 16 }.wf = false ∧ { okFrame with vc := 8 }.wf = false ∧ { okFrame with pool := 4 }.wf = false ∧ { okFrame with seq := 4096 }.wf = false ∧
    { okFrame with ack := 4096 }.wf = false ∧ { okFrame with len := 257 }.wf = false ∧ { okFrame with session := 256 }.wf = false := by decide
theorem test_ill_param : { okParam with node := 4096 }.wf = false ∧ { okParam with port := 64 }.wf = false ∧ { okParam with widths := 8 }.wf = false ∧ { okParam with rates := 4 }.wf = false ∧
    { okParam with session := 256 }.wf = false ∧ { okParam with ka := 64 }.wf = false ∧ { okParam with prevNode := 4096 }.wf = false ∧ { okParam with prevSession := 256 }.wf = false ∧
    { okParam with prevRxLast := 4096 }.wf = false ∧ { okParam with prevPort := 64 }.wf = false ∧ { okParam with laneOk := 65536 }.wf = false := by decide
theorem test_ill_config_request : { okCfg with bus := 256 }.wf = false ∧ { okCfg with dev := 32 }.wf = false ∧ { okCfg with fn := 8 }.wf = false ∧ { okCfg with reg := 1024 }.wf = false ∧
    { okCfg with be := 16 }.wf = false ∧ { okCfg with data := 4294967296 }.wf = false ∧ { okCfg with tag := 16384 }.wf = false ∧ { okCfg with reqId := 65536 }.wf = false := by decide
theorem test_ill_results : (SbResult.failed 256).wf = false ∧ (AtsResult.granted 18446744073709551616 0 true true).wf = false ∧
    (AtsResult.granted 0 18446744073709551616 true true).wf = false ∧ (SpdmVia.mctp 0 256 0).wf = false ∧ (SpdmVia.mctp 0 0 8).wf = false := by decide
theorem test_ill_dllp : (Dllp.ack 4096).wf = false ∧ (Dllp.nak 4096).wf = false ∧ (Dllp.updateFc 8 .posted 0 0).wf = false ∧ (Dllp.updateFc 0 .posted 65536 0).wf = false ∧
    (Dllp.updateFc 0 .posted 0 65536).wf = false ∧ (Dllp.initFc .posted 65536 0 0 0).wf = false ∧ (Dllp.initFc .posted 0 65536 0 0).wf = false ∧
    (Dllp.initFc .posted 0 0 4 0).wf = false ∧ (Dllp.initFc .posted 0 0 0 4).wf = false := by decide
theorem test_ill_margin : (MarginCmd.stepTiming false 64).wf = false ∧ (MarginCmd.stepVoltage false 128).wf = false := by decide
/-- A TLP frame that is not aborted has FIRST exactly where it opens a TLP. -/
theorem test_ill_segment : { okFrame with type := 1 }.wf = false ∧ { okFrame with type := 1, first := false }.wf = true ∧
    { okFrame with type := 1, body := .tlp ⟨0, 0, 0, 0, 0, 0, 0, false, false, 0, none, false, 0, 0, 0⟩ okTlp, first := false }.wf = false := by decide

/-- Commands whose operands are at the start of their ranges are well formed. -/
theorem test_wf_commands_1 : ([
  .backgroundLevelChange 0,
  .keepaliveRx 0 0 0 0,
  .ackBlockRx 0 0 false,
  .creditRx 0 0 0 0,
  .replayBlockRx 0 0,
  .resetBlockRx 0 0 0,
  .resumeRx 0 0 0,
  .trainSetRx 0 0 0,
  .trainHoldRx 0 0 0 0,
  .trainFomRx 0 0 0,
  .trainDoneRx 0 0 0 0,
  .paramRx 0 okParam,
  .czTrainStateExit 0 ⟨0, 0, 0⟩,
  .czDetectRetry 0 0,
  .controlBlockUnknown 0 0,
  .frameRx 0 okFrame false,
  .timeReqRx 0 0,
  .timeT2Rx 0 0 0,
  .timeHiRx 0 0 0,
  .timeT3Rx 0 0 0,
  .tlpIngress 0 okTlp .whole,
  .pacingRelease 0,
  .sprayCounterTimeout 0 0,
  .incPeriodEnd 0] : List Instr).map Instr.wf = List.replicate 24 true := by decide +kernel

/-- Commands whose operands are at the start of their ranges are well formed. -/
theorem test_wf_commands_2 : ([
  .frcRetire 0,
  .contextSweep 0,
  .quarantineExpiry 0 0,
  .pcieDlUp 0 0 0 false false 0,
  .pcieRateChange 0 0 0,
  .ltrRx 0 0 0,
  .intxMessageRx 0 0 0 false,
  .errorMessageRx 0 0 0,
  .configRequest 0 okCfg,
  .acsControlWrite 0 0 0 0,
  .bmeClear 0 0,
  .flrEndpoint 0 0,
  .secondaryBusReset 0 0,
  .dpcTriggerStatusClear 0 0,
  .linkDisableWrite 0 0 false,
  .retrainLinkWrite 0 0 0,
  .slotPowerOnRequest 0 0,
  .slotPowerOffRequest 0 0,
  .slotIndicatorWrite 0 0 0 0,
  .priAtsDisable 0 0,
  .egvAccumulatorRead 0 0,
  .sbWindowWrite okAccess 0,
  .sbWindowRead okAccess,
  .sbTransferDone 0 (.done 0)] : List Instr).map Instr.wf = List.replicate 24 true := by decide +kernel

/-- Commands whose operands are at the start of their ranges are well formed. -/
theorem test_wf_commands_3 : ([
  .sbLockedAccess okAccess,
  .descriptorFetchDone 0 false (List.replicate 64 0),
  .moverReadCompletion 0 false [],
  .atsTranslationCompletion (.ring 4095) .error,
  .prgResponseRx 0 0 0,
  .invalidateRequestRx 0 0 0 0 0,
  .invalidateComplete 0 0,
  .instSetupWrite 0 0 [],
  .mbReplyWrite 0 0 false,
  .icpRingEnable 0 0 0,
  .icpSlotFetchDone 0 false [],
  .mctpMessageRx 0 0 0 false false false 0 [],
  .mctpReassemblyTimeout 0 0 0,
  .setEndpointId 0 0 0,
  .getEndpointId 0 0,
  .getMctpVersionSupport 0 0,
  .getMessageTypeSupport 0 0,
  .doeDiscovery 0 0,
  .spdmGetVersion (.doe 0),
  .spdmGetCapabilities (.doe 0),
  .spdmNegotiateAlgorithms (.doe 0),
  .spdmGetDigests (.doe 0),
  .spdmGetCertificate (.doe 0) 0 0 0,
  .spdmChallenge (.doe 0) 0 (List.replicate 32 0)] : List Instr).map Instr.wf = List.replicate 24 true := by decide +kernel

/-- Commands whose operands are at the start of their ranges are well formed. -/
theorem test_wf_commands_4 : ([
  .spdmGetMeasurements (.doe 0) 0 false (List.replicate 32 0),
  .spdmUnsupportedRequest (.doe 0) 0,
  .faultRaised okFault,
  .correctableWindowExpiry ⟨0, 0⟩ 0,
  .counterCarry 0 0,
  .pcFreeze ⟨0, 0, 0⟩ 0 false,
  .pcClear ⟨0, 0, 0⟩ 0,
  .readClearField okAccess,
  .registerWrite okAccess 0,
  .dllpRx 0 .pmEnterL1,
  .laneTest 0 0,
  .ptmRequestRx ⟨0, 0⟩,
  .marginCommand 0 ⟨0, .stepTiming true 63⟩] : List Instr).map Instr.wf = List.replicate 13 true := by decide +kernel

/-- Commands with one operand just past its range are refused. -/
theorem test_ill_commands_1 : ([
  .backgroundLevelChange 512,
  .keepaliveRx 0 4096 0 0,
  .keepaliveRx 0 0 256 0,
  .keepaliveRx 0 0 0 4096,
  .ackBlockRx 0 4096 false,
  .creditRx 0 8 0 0,
  .creditRx 0 0 4 0,
  .creditRx 0 0 0 65536,
  .replayBlockRx 0 4096,
  .resetBlockRx 0 4096 0,
  .resetBlockRx 0 0 256,
  .resumeRx 0 4096 0,
  .resumeRx 0 0 256,
  .trainSetRx 0 16 0,
  .trainSetRx 0 0 16777216,
  .trainHoldRx 0 16 0 0,
  .trainHoldRx 0 0 16777216 0,
  .trainHoldRx 0 0 0 256,
  .trainFomRx 0 16 0,
  .trainFomRx 0 0 16777216,
  .trainDoneRx 0 16 0 0,
  .trainDoneRx 0 0 16777216 0,
  .trainDoneRx 0 0 0 256,
  .paramRx 0 { okParam with node := 4096 }] : List Instr).map Instr.wf = List.replicate 24 false := by decide +kernel

/-- Commands with one operand just past its range are refused. -/
theorem test_ill_commands_2 : ([
  .czTrainStateExit 0 ⟨65536, 0, 0⟩,
  .czTrainStateExit 0 ⟨0, 4096, 0⟩,
  .czTrainStateExit 0 ⟨0, 0, 64⟩,
  .czDetectRetry 0 65536,
  .controlBlockUnknown 0 256,
  .frameRx 0 { okFrame with vc := 8 } false,
  .timeReqRx 0 256,
  .timeT2Rx 0 256 0,
  .timeT2Rx 0 0 281474976710656,
  .timeHiRx 0 256 0,
  .timeHiRx 0 0 65536,
  .timeT3Rx 0 256 0,
  .timeT3Rx 0 0 281474976710656,
  .tlpIngress 0 { okTlp with tc := 8 } .whole,
  .pacingRelease 65536,
  .sprayCounterTimeout 65536 0,
  .sprayCounterTimeout 0 8,
  .incPeriodEnd 65536,
  .frcRetire 65536,
  .contextSweep 262144,
  .quarantineExpiry 0 16384,
  .pcieDlUp 0 0 17 false false 0,
  .pcieRateChange 0 0 17,
  .ltrRx 0 65536 0,
  .ltrRx 0 0 65536,
  .intxMessageRx 0 65536 0 false] : List Instr).map Instr.wf = List.replicate 26 false := by decide +kernel

/-- Commands with one operand just past its range are refused. -/
theorem test_ill_commands_3 : ([
  .intxMessageRx 0 0 4 false,
  .errorMessageRx 0 65536 0,
  .errorMessageRx 0 0 3,
  .configRequest 0 { okCfg with dev := 32 },
  .acsControlWrite 0 64 0 0,
  .acsControlWrite 0 0 65536 0,
  .acsControlWrite 0 0 0 18446744073709551616,
  .bmeClear 0 72,
  .flrEndpoint 0 65536,
  .secondaryBusReset 0 64,
  .dpcTriggerStatusClear 0 64,
  .linkDisableWrite 0 64 false,
  .retrainLinkWrite 0 64 0,
  .retrainLinkWrite 0 0 16,
  .slotPowerOnRequest 0 64,
  .slotPowerOffRequest 0 64,
  .slotIndicatorWrite 0 64 0 0,
  .priAtsDisable 0 8,
  .egvAccumulatorRead 0 4294967296,
  .sbWindowWrite { okAccess with bytes := 3 } 0,
  .sbWindowRead { okAccess with bytes := 3 },
  .sbTransferDone 0 (.failed 256),
  .sbLockedAccess { okAccess with bytes := 3 },
  .descriptorFetchDone 0 false (List.replicate 63 0)] : List Instr).map Instr.wf = List.replicate 24 false := by decide +kernel

/-- Commands with one operand just past its range are refused. -/
theorem test_ill_commands_4 : ([
  .moverReadCompletion 0 false (List.replicate 4097 0),
  .atsTranslationCompletion (.ring 4095) (.granted 0 18446744073709551616 true true),
  .prgResponseRx 0 512 0,
  .prgResponseRx 0 0 16,
  .invalidateRequestRx 0 1048576 0 0 0,
  .invalidateRequestRx 0 0 18446744073709551616 0 0,
  .invalidateRequestRx 0 0 0 18446744073709551616 0,
  .invalidateRequestRx 0 0 0 0 32,
  .invalidateComplete 0 32,
  .instSetupWrite 0 64 [],
  .instSetupWrite 0 0 (List.replicate 65 0),
  .mbReplyWrite 0 257 false,
  .icpRingEnable 0 32 0,
  .icpRingEnable 0 0 32,
  .icpSlotFetchDone 0 false (List.replicate 4097 0),
  .mctpMessageRx 0 256 0 false false false 0 [],
  .mctpMessageRx 0 0 8 false false false 0 [],
  .mctpMessageRx 0 0 0 false false false 128 [],
  .mctpMessageRx 0 0 0 false false false 0 (List.replicate 65 0),
  .mctpReassemblyTimeout 0 256 0,
  .mctpReassemblyTimeout 0 0 8,
  .setEndpointId 0 8 0,
  .setEndpointId 0 0 256,
  .getEndpointId 0 8] : List Instr).map Instr.wf = List.replicate 24 false := by decide +kernel

/-- Commands with one operand just past its range are refused. -/
theorem test_ill_commands_5 : ([
  .getMctpVersionSupport 0 8,
  .getMessageTypeSupport 0 8,
  .doeDiscovery 0 256,
  .spdmGetVersion (.mctp 0 256 0),
  .spdmGetCapabilities (.mctp 0 256 0),
  .spdmNegotiateAlgorithms (.mctp 0 256 0),
  .spdmGetDigests (.mctp 0 256 0),
  .spdmGetCertificate (.mctp 0 256 0) 0 0 0,
  .spdmGetCertificate (.doe 0) 256 0 0,
  .spdmGetCertificate (.doe 0) 0 65536 0,
  .spdmGetCertificate (.doe 0) 0 0 65536,
  .spdmChallenge (.mctp 0 256 0) 0 (List.replicate 32 0),
  .spdmChallenge (.doe 0) 256 (List.replicate 32 0),
  .spdmChallenge (.doe 0) 0 (List.replicate 31 0),
  .spdmGetMeasurements (.mctp 0 256 0) 0 false (List.replicate 32 0),
  .spdmGetMeasurements (.doe 0) 256 false (List.replicate 32 0),
  .spdmGetMeasurements (.doe 0) 0 false (List.replicate 31 0),
  .spdmUnsupportedRequest (.mctp 0 256 0) 0,
  .spdmUnsupportedRequest (.doe 0) 256,
  .faultRaised { okFault with source := 65536 },
  .correctableWindowExpiry ⟨256, 0⟩ 0,
  .correctableWindowExpiry ⟨0, 0⟩ 65536,
  .counterCarry 256 0,
  .pcFreeze ⟨0, 0, 0⟩ 256 false] : List Instr).map Instr.wf = List.replicate 24 false := by decide +kernel

/-- Commands with one operand just past its range are refused. -/
theorem test_ill_commands_6 : ([
  .pcClear ⟨0, 0, 0⟩ 256,
  .readClearField { okAccess with bytes := 3 },
  .registerWrite { okAccess with bytes := 3 } 0,
  .dllpRx 0 (.ack 4096),
  .laneTest 0 65536,
  .ptmRequestRx ⟨0, 65536⟩,
  .marginCommand 0 ⟨0, .stepTiming true 64⟩] : List Instr).map Instr.wf = List.replicate 7 false := by decide +kernel

/-! ## The physical coding of Calez links: expected values by hand from R168–R171 and R176 -/

/-- R170: a codeword, its last data symbol 1 and every other 0, is the generator, so it vanishes at α^0 to α^9 (Horner's scheme). -/
theorem test_rs_roots : ∀ i ∈ List.range 10, (List.replicate 159 0 ++ [1] ++ rsParity (List.replicate 159 0 ++ [1])).foldl (fun a c => gfMul a (gfPow i) ^^^ c) 0 = 0 := by
  decide +kernel
/-- R169: the first bit comes out of x^58 + x^39 + 1 again after 39 and after 58 bits. -/
theorem test_scrambler_impulse : (scramble 0 1).1 = 1 + 2 ^ 39 + 2 ^ 58 := by decide +kernel
/-- R170: the Gray table. -/
theorem test_pam4_levels : pam4 [0, 0, 0, 1, 1, 1, 1, 0] = [-3, -1, 1, 3] := by decide
/-- R171: LANE in bits 15:12, AM in bit 11, CW_SEQ in bits 10:0; the codeword sends it from bit 15 down. -/
theorem test_marker : marker 15 16384 true = 0xF800 ∧ (codeword 0xC000 (List.replicate 24 (true, 0)) 0).1.take 2 = [1, -3] ∧
    (codeword 0 (List.replicate 24 (true, 0)) 0).1.length = 850 := by decide +kernel
/-- R174: a RESET block of node 0x123 with REASON 6. -/
theorem test_reset_block : wireBlock (.reset 0x123 6) = (true, 0x06012366) := by decide +kernel
/-- R176: a 16-byte header; 256 bytes of payload fill 35 blocks. -/
theorem test_frame_blocks : (dataBlocks (frameBytes false { okFrame with len := 256 })).length = 35 ∧
    (frameHdr { okFrame with type := 1, vc := 2, pool := 1, seq := 0x123, ack := 0x456, cr0 := some (3, 2, 0x1234) }).take 10 =
      [0x12, 0x70, 0x23, 0x61, 0x45, 0, 0, 0x33, 0x34, 0x12] := by decide +kernel
end Sys2Proof.Tests
end

section
/-!
Fields of a register bit by bit, the canonical form of the register file, and the state after reset (O52, O48).
-/
namespace Sys2Proof.Machine

/-! ### Fields of a register, bit by bit -/

theorem Field.testBit_get (f : Field) (w : Word) (i : Nat) : (f.get w).testBit i = (decide (i < f.width) && w.getLsbD (f.lsb + i)) := by
  simp [Field.get, BitVec.getLsbD, Nat.testBit_div_two_pow, Nat.add_comm]

theorem Field.getLsbD_mask (f : Field) (i : Nat) :
    f.mask.getLsbD i = (decide (i < 64) && decide (f.lsb ≤ i ∧ i < f.lsb + f.width)) := by
  simp only [Field.mask, BitVec.getLsbD_shiftLeft, BitVec.getLsbD_ofNat, Nat.testBit_two_pow_sub_one]
  grind

/-- Inside a field stand the bits of what was put into it, outside the bits of before. -/
theorem Field.getLsbD_set (f : Field) (w : Word) (v i : Nat) (hi : i < 64) :
    (f.set w v).getLsbD i = if f.lsb ≤ i ∧ i < f.lsb + f.width then v.testBit (i - f.lsb) else w.getLsbD i := by
  simp only [Field.set, BitVec.getLsbD_or, BitVec.getLsbD_and, BitVec.getLsbD_not, Field.getLsbD_mask, BitVec.getLsbD_ofNat,
    Nat.testBit_mul_two_pow, Nat.testBit_mod_two_pow, hi]
  split <;> rename_i h <;> grind

theorem Field.get_set_self {f : Field} (w : Word) (v : Nat) (h : f.lsb + f.width ≤ 64) : f.get (f.set w v) = v % 2 ^ f.width := by
  refine Nat.eq_of_testBit_eq fun i => ?_
  rw [Field.testBit_get, Nat.testBit_mod_two_pow]
  by_cases hi : i < f.width
  · rw [Field.getLsbD_set _ _ _ _ (by omega), if_pos (by omega), Nat.add_sub_cancel_left]
  · simp [hi]

theorem Field.get_set_disjoint {f g : Field} (w : Word) (v : Nat) (h : g.lsb + g.width ≤ f.lsb ∨ f.lsb + f.width ≤ g.lsb) :
    g.get (f.set w v) = g.get w := by
  refine Nat.eq_of_testBit_eq fun i => ?_
  simp only [Field.testBit_get]
  by_cases hi : i < g.width ∧ g.lsb + i < 64
  · rw [Field.getLsbD_set _ _ _ _ hi.2, if_neg (by omega)]
  · by_cases hw : i < g.width
    · rw [BitVec.getLsbD_of_ge _ _ (by omega), BitVec.getLsbD_of_ge _ _ (by omega)]
    · simp [hw]

/-! ### The register file -/

theorem regs_wf_iff {r : Assoc Word} : Regs.wf r = true ↔ rising r = true ∧ ∀ e ∈ r, e.2 ≠ resetOf e.1 := by
  simp [Regs.wf, List.all_eq_true]

/-- A register file keeps its canonical form when a register is written. -/
theorem regs_wf_aset {r : Assoc Word} (k : Nat) (v : Word) (h : Regs.wf r = true) : Regs.wf (aset (resetOf k) r k v) = true := by
  obtain ⟨hr, hd⟩ := regs_wf_iff.mp h
  rw [regs_wf_iff, aset]
  split
  · exact ⟨rising_adel k hr, fun e he => hd e (List.mem_filter.mp he).1⟩
  · rename_i hv
    refine ⟨rising_aput k v hr, fun e he => ?_⟩
    rcases mem_aput he with rfl | he
    · exact hv
    · exact hd e he

theorem wr_onlyRegs (s : State) (k : Nat) (v : Word) : OnlyRegs s (wr s k v) := rfl

/-- Settles O52: a write to the register file is `aset` of a table (`rd_wr`, `regs_wf_aset`); a field put into a word is told bit by bit
(`Field.getLsbD_set`). -/
theorem registersAndFields : Obligations.RegistersAndFields :=
  ⟨fun s k v h => ⟨regs_wf_aset k v h, wr_onlyRegs s k v, (rd_wr s k · v)⟩,
   fun _ w v h => ⟨Field.get_set_self w v h, fun _ hg => Field.get_set_disjoint w v hg⟩⟩

/-! ### The state after reset -/

/-- Nothing is listed in the register file after reset. -/
theorem rd_reset (k : Nat) : rd State.reset k = resetOf k := rfl

theorem getF_reset (k : Nat) (f : Field) : getF State.reset k f = f.get (resetOf k) := rfl

theorem memGet_reset (a : Nat) : memGet State.reset.mem a = 0#8 := rfl

/-- After reset no fault stands and the TERMINAL latch is clear. -/
theorem sound_reset : Sound State.reset :=
  ⟨fun h => absurd h (by decide), fun h => absurd h (by decide)⟩

theorem resetOf_czStatus (n : Fin 32) : resetOf (Reg.CZ_STATUS n) = 0#64 := by
  revert n
  decide +kernel

theorem resetOf_portStatus (p : Fin 64) : resetOf (Reg.PORT_STATUS p) = 0#64 := by
  revert p
  decide +kernel

/-- Settles O48: every register reads as its family's reset value, and the rest of the state after reset is empty. -/
theorem resetState : Obligations.ResetState :=
  ⟨sound_reset, memory_wf_nil, regs_wf_nil, rd_reset, by decide +kernel, rfl, rfl, rfl, rfl, rfl,
   fun n => by rw [czState, getF_reset, resetOf_czStatus]; rfl, fun p => by rw [ltssm, getF_reset, resetOf_portStatus]; rfl, memGet_reset⟩

end Sys2Proof.Machine
end

section
/-!
What shared operations leave unchanged: LPDDR4X outside a write, interrupts, records of a ring, replies, plain register writes (O55).
-/
namespace Sys2Proof.Machine

/-! ### Bytes read back from LPDDR4X -/

theorem memRead_succ (m : List Host.Cell) (a n : Nat) : memRead m a (n + 1) = memGet m a :: memRead m (a + 1) n := by
  simp [memRead, List.range_succ_eq_map, Function.comp_def, Nat.add_assoc, Nat.add_comm 1]

/-- A byte above the last one written reads as before. -/
theorem memGet_memWrite_above {m : List Host.Cell} {a x : Nat} {bs : List Byte} (h : a + bs.length ≤ x) : memGet (memWrite m a bs) x = memGet m x := by
  induction bs generalizing m a with
  | nil => rfl
  | cons b bs ih =>
    rw [List.length_cons] at h
    rw [memWrite, ih (by omega), memGet_memPut, if_neg (by omega)]

/-- A byte outside those written reads as before. -/
theorem memGet_memWrite_outside {m : List Host.Cell} {a x : Nat} {bs : List Byte} (h : x < a ∨ a + bs.length ≤ x) :
    memGet (memWrite m a bs) x = memGet m x :=
  h.elim (memGet_memWrite_below bs) memGet_memWrite_above

theorem memRead_memWrite (m : List Host.Cell) (a : Nat) (bs : List Byte) : memRead (memWrite m a bs) a bs.length = bs := by
  induction bs generalizing m a with
  | nil => rfl
  | cons b bs ih =>
    rw [List.length_cons, memRead_succ, memWrite, ih, memGet_memWrite_below _ (Nat.lt_succ_self a), memGet_memPut, if_pos rfl]

/-! ### Interrupts, and checks of LPDDR4X accesses -/

/-- An MSI-X vector is sent or held as pending: nothing else changes. -/
theorem msix_changes (s : State) (v fn vec : Nat) : ∃ h o, msix s v fn vec = { s with hosts := h, out := o } := by
  unfold msix
  dsimp only
  split
  · exact ⟨s.hosts, s.out, rfl⟩
  · split
    · exact ⟨_, s.out, rfl⟩
    · exact ⟨s.hosts, _, rfl⟩

theorem msixManagers_changes (s : State) (vec : Nat) : ∃ h o, msixManagers s vec = { s with hosts := h, out := o } := by
  unfold msixManagers forEach
  generalize managers s = vs
  induction vs generalizing s with
  | nil => exact ⟨s.hosts, s.out, rfl⟩
  | cons v vs ih =>
    obtain ⟨h, o, hm⟩ := msix_changes s v 0 vec
    rw [List.foldl_cons, hm]
    exact ih _

theorem ringThresh_changes (s : State) (r : RingRegs) (before : Nat) : ∃ h o, (ringThresh s r before).2 = { s with hosts := h, out := o } := by
  unfold ringThresh
  dsimp only
  split
  · exact msixManagers_changes s r.vector
  · exact ⟨s.hosts, s.out, rfl⟩

/-- An access that the LPDDR4X controller lets through fills its block at most. -/
theorem ddrAccess_allowed {s t : State} {a : Nat} {k : Rwx} {master priv : Nat} (h : ddrAccess s a k master priv = (true, t)) :
    ∃ d, t = { s with ddr := d } := by
  unfold ddrAccess at h
  split at h
  · exact absurd h (by simp)
  · split at h
    · exact absurd h (by simp)
    · split at h
      · obtain rfl : ddrFill s a = t := congrArg Prod.snd h
        unfold ddrFill
        dsimp only
        split
        · exact ⟨s.ddr, rfl⟩
        · exact ⟨_, rfl⟩
      · exact absurd h (by simp)

/-! ### Records in the rings of COMET and the sampler -/

/-- The registers of a ring writer that place its records, apart from those that a record changes. -/
structure RingRegs.Separate (r : RingRegs) : Prop where
  base_rdPtr : r.base ≠ r.rdPtr
  base_status : r.base ≠ r.status
  size_rdPtr : r.size ≠ r.rdPtr
  size_status : r.size ≠ r.status
  wrPtr_rdPtr : r.wrPtr ≠ r.rdPtr
  wrPtr_status : r.wrPtr ≠ r.status

theorem ringWriter_separate {r : RingRegs} (h : r = cometRing ∨ r = smpRing) : r.Separate := by
  rcases h with rfl | rfl <;> constructor <;> decide

/-- The address of the next record follows from three registers. -/
theorem RingRegs.addr_congr {r : RingRegs} {s t : State} (hb : rd t r.base = rd s r.base) (hz : rd t r.size = rd s r.size)
    (hw : rd t r.wrPtr = rd s r.wrPtr) : r.addr t = r.addr s := by
  simp only [RingRegs.addr, getF, hb, hz, hw]

theorem RingRegs.cap_congr {r : RingRegs} {s t : State} (hz : rd t r.size = rd s r.size) : r.cap t = r.cap s := by
  simp only [RingRegs.cap, getF, hz]

/-- A record that pushes the oldest one out of a full ring: RD_PTR moves on and OVERRUN is set (R94). -/
def ringOverrun (s : State) (r : RingRegs) : State :=
  if r.full s then
    setF (wr s r.rdPtr (BitVec.ofNat 64 (((rd s r.rdPtr).toNat + 1) % r.cap s))) r.status Fld.COMET_STATUS_OVERRUN 1 else s

/-- The bytes of a record are stored at the ring's next slot and WR_PTR moves on. -/
def ringStore (s : State) (r : RingRegs) (b : List Byte) : State :=
  let s := { s with mem := memWrite s.mem (r.addr s) b }
  wr s r.wrPtr (BitVec.ofNat 64 (((rd s r.wrPtr).toNat + 1) % r.cap s))

/-- A ring that a record has filled stops, unless it wraps (R94). -/
def ringStop (s : State) (r : RingRegs) (wrap : Bool) : State := if r.full s && !wrap then setF s r.status Fld.COMET_STATUS_STOPPED 1 else s

/-- A record that is written passes the check of its address; what follows is what `ringOverrun`, `ringStore`, `ringStop` and `ringThresh` do. -/
theorem ringPut_written {s t : State} {r : RingRegs} {b : List Byte} {told : Bool} (h : ringPut s r b = (true, told, t)) :
    ∃ u, ddrAccess s (r.addr s) .write r.master 1 = (true, u) ∧
      t = (ringThresh (ringStop (ringStore (ringOverrun u r) r b) r (isSet s r.ctrl Fld.COMET_CTRL_WRAP)) r (r.unread u)).2 := by
  unfold ringPut at h
  dsimp only at h
  split at h
  · exact absurd (congrArg Prod.fst h) (by simp)
  · split at h
    · exact absurd (congrArg Prod.fst h) (by simp)
    · split at h
      · exact absurd (congrArg Prod.fst h) (by simp)
      · rename_i u hu
        exact ⟨u, hu, (congrArg (fun x => x.2.2) h).symm⟩

/-- What the storing of a record may change: registers, LPDDR4X and its fill, and by interrupts the vectors held and what is sent. -/
def OnlyRecord (s t : State) : Prop := ∃ r m d h o, t = { s with regs := r, mem := m, ddr := d, hosts := h, out := o }

theorem OnlyRecord.trans {s t u : State} (h : OnlyRecord s t) (h' : OnlyRecord t u) : OnlyRecord s u := by
  obtain ⟨_, _, _, _, _, rfl⟩ := h
  obtain ⟨_, _, _, _, _, rfl⟩ := h'
  exact ⟨_, _, _, _, _, rfl⟩

theorem OnlyRegs.mem {s t : State} (h : OnlyRegs s t) : t.mem = s.mem := (congrArg State.mem h).trans rfl

theorem OnlyRegs.onlyRecord {s t : State} (h : OnlyRegs s t) : OnlyRecord s t := ⟨_, _, _, _, _, h⟩

theorem ringOverrun_onlyRegs (s : State) (r : RingRegs) : OnlyRegs s (ringOverrun s r) := by
  unfold ringOverrun
  split <;> rfl

theorem rd_ringOverrun {s : State} {r : RingRegs} {k : Nat} (hr : k ≠ r.rdPtr) (hs : k ≠ r.status) : rd (ringOverrun s r) k = rd s k := by
  unfold ringOverrun
  split
  · rw [rd_setF, if_neg hs, rd_wr_ne hr]
  · rfl

theorem ringStop_onlyRegs (s : State) (r : RingRegs) (wrap : Bool) : OnlyRegs s (ringStop s r wrap) := by
  unfold ringStop
  split <;> rfl

theorem rd_ringStop {s : State} {r : RingRegs} {wrap : Bool} {k : Nat} (hs : k ≠ r.status) : rd (ringStop s r wrap) k = rd s k := by
  unfold ringStop
  split
  · rw [rd_setF, if_neg hs]
  · rfl

theorem ringStore_onlyRecord (s : State) (r : RingRegs) (b : List Byte) : OnlyRecord s (ringStore s r b) := ⟨_, _, _, _, _, rfl⟩

theorem ringStore_mem (s : State) (r : RingRegs) (b : List Byte) : (ringStore s r b).mem = memWrite s.mem (r.addr s) b := rfl

theorem rd_ringStore_wrPtr (s : State) (r : RingRegs) (b : List Byte) :
    rd (ringStore s r b) r.wrPtr = BitVec.ofNat 64 (((rd s r.wrPtr).toNat + 1) % r.cap s) := rd_wr_self _ _ _

/-- What a record that is written changes: its bytes at the ring's next slot, WR_PTR, and nothing outside `OnlyRecord` (R93, R94). -/
theorem ringPut_stores {s t : State} {r : RingRegs} {b : List Byte} {told : Bool} (hr : r.Separate) (h : ringPut s r b = (true, told, t)) :
    OnlyRecord s t ∧ t.mem = memWrite s.mem (r.addr s) b ∧ rd t r.wrPtr = BitVec.ofNat 64 (((rd s r.wrPtr).toNat + 1) % r.cap s) := by
  obtain ⟨u, hacc, rfl⟩ := ringPut_written h
  obtain ⟨d, rfl⟩ := ddrAccess_allowed hacc
  generalize hu : ({ s with ddr := d } : State) = u
  have hsu : OnlyRecord s u := hu ▸ ⟨_, _, _, _, _, rfl⟩
  have rdu (k : Nat) : rd u k = rd s k := hu ▸ rfl
  generalize hv : ringOverrun u r = v
  have huv : OnlyRegs u v := hv ▸ ringOverrun_onlyRegs u r
  have rdv {k : Nat} (h1 : k ≠ r.rdPtr) (h2 : k ≠ r.status) : rd v k = rd s k := by rw [← hv, rd_ringOverrun h1 h2, rdu]
  have hmem : v.mem = s.mem := huv.mem.trans (hu ▸ rfl)
  have hsize := rdv hr.size_rdPtr hr.size_status
  have hwr := rdv hr.wrPtr_rdPtr hr.wrPtr_status
  have haddr : r.addr v = r.addr s := RingRegs.addr_congr (rdv hr.base_rdPtr hr.base_status) hsize hwr
  generalize hx : ringStop (ringStore v r b) r (isSet s r.ctrl Fld.COMET_CTRL_WRAP) = x
  have hvx : OnlyRegs (ringStore v r b) x := hx ▸ ringStop_onlyRegs _ _ _
  have hxm : x.mem = memWrite s.mem (r.addr s) b := by rw [hvx.mem, ringStore_mem, haddr, hmem]
  have hxw : rd x r.wrPtr = BitVec.ofNat 64 (((rd s r.wrPtr).toNat + 1) % r.cap s) := by
    rw [← hx, rd_ringStop hr.wrPtr_status, rd_ringStore_wrPtr, hwr, RingRegs.cap_congr hsize]
  obtain ⟨hosts, out, ht⟩ := ringThresh_changes x r (r.unread u)
  rw [ht]
  exact ⟨((hsu.trans huv.onlyRecord).trans (ringStore_onlyRecord v r b)).trans (hvx.onlyRecord.trans ⟨_, _, _, _, _, rfl⟩), hxm, hxw⟩

/-- The bytes of a record stand at the ring's next slot, every byte outside it as before. -/
theorem ringPut_memory {s t : State} {r : RingRegs} {b : List Byte} {told : Bool} (hr : r.Separate) (h : ringPut s r b = (true, told, t)) :
    memRead t.mem (r.addr s) b.length = b ∧ ∀ x, x < r.addr s ∨ r.addr s + b.length ≤ x → memGet t.mem x = memGet s.mem x := by
  obtain ⟨-, hm, -⟩ := ringPut_stores hr h
  rw [hm]
  exact ⟨memRead_memWrite _ _ _, fun _ => memGet_memWrite_outside⟩

/-- COMET's oldest staged record goes to its ring, and COMET's own state tells that it has (R93). -/
theorem cometWrite_written {s u w : State} {c : CometRec} {rest : List CometRec} {told : Bool} (hc : s.cong.staging = c :: rest)
    (hf : isFenced s ⟨Uk.comet, 0⟩ = false) (hu : u = subShared { s with cong := { s.cong with staging := rest } } c.port 3 1)
    (hw : ringPut u cometRing (c.bytes ((c.seq + 4294967296 - u.cong.cometNext) % 4294967296)) = (true, told, w)) :
    cometWrite s = { w with cong := { w.cong with cometNext := (c.seq + 1) % 4294967296, cometLast := w.time, cometTold := told } } := by
  subst hu
  unfold cometWrite
  simp only [hc, hf, hw, Bool.false_eq_true, if_false]

/-! ### Replies -/

theorem Untouched.refl (s : State) : Untouched s s := by constructor <;> rfl

theorem Untouched.trans {s t u : State} (h : Untouched s t) (h' : Untouched t u) : Untouched s u where
  mem := h'.mem.trans h.mem
  flash := h'.flash.trans h.flash
  otp := h'.otp.trans h.otp
  pwr := h'.pwr.trans h.pwr
  fcu := h'.fcu.trans h.fcu
  core := h'.core.trans h.core
  cong := h'.cong.trans h.cong
  fab := h'.fab.trans h.fab
  twin := h'.twin.trans h.twin
  links := h'.links.trans h.links
  tiles := h'.tiles.trans h.tiles
  ports := h'.ports.trans h.ports
  hosts := h'.hosts.trans h.hosts
  time := h'.time.trans h.time
  pending := h'.pending.trans h.pending

/-- Registers, ICP, the Mover and what is sent: what carries a reply. -/
theorem untouched_of_carriers (s : State) (r : Assoc Word) (o : List Out) (i : Icp) (m : Mover) :
    Untouched s { s with regs := r, out := o, icp := i, mover := m } := by constructor <;> rfl

theorem instInterrupt_untouched (s : State) (n e : Nat) : Untouched s (instInterrupt s n e) := by
  unfold instInterrupt
  dsimp only
  split <;> exact untouched_of_carriers s _ _ _ _

theorem deliver_untouched (s : State) (c tag : Nat) (p : List Byte) : Untouched s (deliver s c tag p) := by
  unfold deliver
  split
  · split <;> exact untouched_of_carriers s _ _ _ _
  · split
    · exact untouched_of_carriers s _ _ _ _
    · split
      · exact untouched_of_carriers s _ _ _ _
      · dsimp only
        split
        · exact untouched_of_carriers s _ _ _ _
        · exact (untouched_of_carriers s _ _ _ _).trans (instInterrupt_untouched _ _ _)

/-- Only a mailbox of the Mover shows an arriving packet in a register. -/
theorem deliver_regs {s : State} {c tag : Nat} {p : List Byte} (h : c < 128) : (deliver s c tag p).regs = s.regs := by
  unfold deliver
  split
  · split <;> rfl
  · split
    · rfl
    · rfl

theorem sendReply_untouched (s : State) (r : IcpReq) (status : Nat) (p : List Byte) : Untouched s (sendReply s r status p) := by
  unfold sendReply
  dsimp only
  split
  · exact (untouched_of_carriers s _ _ _ _).trans (deliver_untouched _ _ _ _)
  · exact Untouched.refl s

theorem sendReply_regs {s : State} {r : IcpReq} {status : Nat} {p : List Byte} (h : r.chan < 128) : (sendReply s r status p).regs = s.regs := by
  unfold sendReply
  dsimp only
  split
  · exact deliver_regs h
  · rfl

theorem reply_untouched (s : State) (r : IcpReq) (status : Nat) (p : List Byte) : Untouched s (reply s r status p) := by
  unfold reply
  dsimp only
  split
  · exact untouched_of_carriers s _ _ _ _
  · exact (sendReply_untouched s r status p).trans (untouched_of_carriers _ _ _ _ _)

theorem reply_regs {s : State} {r : IcpReq} {status : Nat} {p : List Byte} (h : r.chan < 128) : (reply s r status p).regs = s.regs := by
  unfold reply
  dsimp only
  split
  · rfl
  · exact sendReply_regs h

/-! ### Frames -/

theorem regPlain_onlyRegs (s : State) (m k : Nat) (w mask : Word) : OnlyRegs s (regPlain s m k w mask) := by
  unfold regPlain
  split <;> rfl

theorem rd_regPlain_ne {s : State} {m k j : Nat} {w mask : Word} (h : j ≠ k) : rd (regPlain s m k w mask) j = rd s j := by
  unfold regPlain
  split
  · rfl
  · exact rd_wr_ne h

theorem frames : Clauses.Frames :=
  ⟨fun s m k w mask => ⟨regPlain_onlyRegs s m k w mask, fun _ => rd_regPlain_ne⟩,
   fun s r st p => ⟨reply_untouched s r st p, reply_regs⟩,
   fun _ _ _ _ _ hr hb h => hb ▸ ringPut_memory (ringWriter_separate hr) h,
   fun s n f _ => ⟨rfl, rfl, fun m hm => (link_modLink s n m f).trans (if_neg hm)⟩⟩

theorem recordStoreFrame : Clauses.RecordStoreFrame := by
  intro s u c rest told w hup hc hf hu hb hw
  have hsep := ringWriter_separate (.inl rfl : cometRing = cometRing ∨ cometRing = smpRing)
  have hregs : u.regs = s.regs := by rw [hu]; rfl
  have hmem : u.mem = s.mem := by rw [hu]; rfl
  have haddr : cometRing.addr u = cometRing.addr s := RingRegs.addr_congr (rd_congr hregs _) (rd_congr hregs _) (rd_congr hregs _)
  have hcap : cometRing.cap u = cometRing.cap s := RingRegs.cap_congr (rd_congr hregs _)
  obtain ⟨⟨_, _, _, _, _, hframe⟩, -, hptr⟩ := ringPut_stores hsep hw
  obtain ⟨-, hout⟩ := ringPut_memory hsep hw
  rw [hb, haddr, hmem] at hout
  rw [rd_congr hregs, hcap] at hptr
  refine ⟨cometWrite s, whenUp_up hup cometWrite, ?_⟩
  rw [cometWrite_written hc hf hu hw]
  refine ⟨hptr, hout, ?_, ?_, ?_⟩ <;> rw [hframe, hu] <;> rfl

/-- Settles O55: a plain register write is one `wr`, a reply is sent with what its channel carries (`deliver_untouched`), and a record is one
`memWrite` of 64 bytes at the ring's next slot (`ringPut_stores`). -/
theorem framesOfRows : Obligations.FramesOfRows := ⟨frames, recordStoreFrame⟩

end Sys2Proof.Machine
end

section
/-!
Accesses to registers: through Chip Register Space and the BARs, whole or by halves, turned away or carried out (O45).
-/
namespace Sys2Proof.Machine

/-! ### What a write leaves of each bit -/

/-- One bit: whether it lies in an RW1C field, in one that the master may write, in the access; written and old value. -/
theorem storedBit_eq : ∀ w1c rw mask w old : Bool, ((old && !(rw && mask) || w && (rw && mask)) && !(w1c && mask && w)) =
    if w1c && mask && w then false else if rw && mask then w else old := by decide

theorem getLsbD_storedBits (f : Family) (m : Nat) (old w mask : Word) (i : Nat) :
    (storedBits f m old w mask).getLsbD i =
      if (f.maskOf (fun a => a == .rw1c)).getLsbD i && mask.getLsbD i && w.getLsbD i then false
      else if (f.maskOf (fun a => a == .rw || a == .rws || (a == .spw && m == 0))).getLsbD i && mask.getLsbD i then w.getLsbD i
      else old.getLsbD i := by
  by_cases hi : i < 64
  · simp only [storedBits, BitVec.getLsbD_and, BitVec.getLsbD_or, BitVec.getLsbD_not, hi, decide_true, Bool.true_and]
    exact storedBit_eq _ _ _ _ _
  · simp [BitVec.getLsbD_of_ge _ _ (Nat.le_of_not_lt hi)]

theorem regPlain_of_family {s : State} {m k : Nat} {w mask : Word} {f : Family} (hf : famOf k = some f) (hl : isLog k = false) :
    regPlain s m k w mask = wr s k (stored k (storedBits f m (rd s k) w mask)) := by
  simp only [regPlain, hf, hl, Bool.false_and, Bool.false_eq_true, if_false]

/-! ### A write that only the SP may make, and one without a rule of its own -/

theorem regCommit_locked {s : State} {m k : Nat} {w mask : Word} {off : Nat} (hm : m ≠ 0) (hl : mpuLocked s k = true) :
    regCommit s m k w mask off = spwRecord s m off := by
  rw [regCommit, if_pos (by simp [hl, hm])]

theorem regCommit_plain {s t : State} {m k : Nat} {w mask : Word} {off : Nat} (ht : t = if spwAttempt s m k w mask then spwRecord s m off else s)
    (hc : cvuOf k = none) (ha : accWrite t m k w = none) (hr : ringWrite t m k w mask = none) (hb : barRegWrite t k w mask = none)
    (hu : unitWrite t m k w mask = none) (hl : mpuLocked s k = false ∨ m = 0) : regCommit s m k w mask off = regPlain t m k w mask := by
  subst ht
  have hfree : ¬(mpuLocked s k && m != 0) = true := by
    rcases hl with h | h <;> simp [h]
  rw [regCommit, if_neg hfree]
  simp only [hc, ha, hr, hb, hu]

theorem spwRecord_first {s : State} {m off : Nat} (h : isSet s Reg.SP_SPW_LOG Fld.SP_SPW_LOG_VALID = false) :
    spwRecord s m off =
      detect (bump (setF (setF (setF s Reg.SP_SPW_LOG Fld.SP_SPW_LOG_MASTER m) Reg.SP_SPW_LOG Fld.SP_SPW_LOG_OFFSET off)
        Reg.SP_SPW_LOG Fld.SP_SPW_LOG_VALID 1) Reg.SP_SPW_CNT) 0x0010 .corrected Uk.master m (m % 16 * 2 ^ 32 + off % 2 ^ 32) := by
  simp only [spwRecord, h, Bool.false_eq_true, if_false]

theorem spwRecord_second {s : State} {m off : Nat} (h : isSet s Reg.SP_SPW_LOG Fld.SP_SPW_LOG_VALID = true) :
    spwRecord s m off =
      detect (bump (setF s Reg.SP_SPW_LOG Fld.SP_SPW_LOG_SECOND 1) Reg.SP_SPW_CNT) 0x0010 .corrected Uk.master m
        (m % 16 * 2 ^ 32 + off % 2 ^ 32) := by
  simp only [spwRecord, h, if_true]

/-! ### Halves of 64-bit registers (R449) -/

section Halves
variable {s : State} {m k x : Nat} {h : RegHit}

theorem half_cleared (hn : s.half = []) : { s with half := [] } = s := by
  rw [← hn]

theorem halfOther_of_none (hn : s.half = []) : halfOther s m k = s := by
  simp only [halfOther, hn, List.filter_nil, half_cleared hn]

/-- The value that a master holds of a register outlasts its next access to it. -/
theorem halfOther_of_own {b : Bool} (hh : s.half = [⟨m, k, b, x⟩]) : halfOther s m k = s := by
  simp [halfOther, hh]
  rw [← hh]

theorem halfGet_of_none {b : Bool} (hn : s.half = []) : halfGet s m k b = none := by
  simp [halfGet, hn]

theorem halfGet_of_own {b : Bool} (hh : s.half = [⟨m, k, b, x⟩]) : halfGet s m k b = some x := by
  simp [halfGet, hh]

theorem halfDrop_of_own {b : Bool} (hh : s.half = [⟨m, k, b, x⟩]) : halfDrop s m b = { s with half := [] } := by
  simp [halfDrop, hh]

/-! A read of a register: the value and the state after it. -/

theorem regGet_32 (hn : s.half = []) (hw : h.fam.width = 32) (bytes : Nat) :
    regGet s m h bytes = ((regView s h.key).toNat, clearOnRead s h.key) := by
  simp only [regGet, halfOther_of_none hn, hw, true_or, if_true]

theorem regGet_64_whole (hn : s.half = []) : regGet s m h 8 = ((regView s h.key).toNat, clearOnRead s h.key) := by
  simp only [regGet, halfOther_of_none hn, or_true, if_true]

theorem regGet_low (hn : s.half = []) (hw : h.fam.width = 64) (hl : h.high = false) :
    regGet s m h 4 = ((regView s h.key).toNat % 2 ^ 32, halfPut (clearOnRead s h.key) m h.key false ((regView s h.key).toNat / 2 ^ 32)) := by
  simp [regGet, halfOther_of_none hn, hw, hl]

theorem regGet_high (hn : s.half = []) (hw : h.fam.width = 64) (hl : h.high = true) :
    regGet s m h 4 = ((regView s h.key).toNat / 2 ^ 32, clearRead s h.key 0xFFFFFFFF00000000#64) := by
  simp [regGet, halfOther_of_none hn, halfGet_of_none hn, hw, hl]

theorem regGet_captured (hh : s.half = [⟨m, h.key, false, x⟩]) (hw : h.fam.width = 64) (hl : h.high = true) :
    regGet s m h 4 = (x, { s with half := [] }) := by
  simp [regGet, halfOther_of_own hh, halfGet_of_own hh, halfDrop_of_own hh, hw, hl]

/-! A write of a register. -/

theorem regPut_32 (hn : s.half = []) (hw : h.fam.width = 32) (bytes v off : Nat) :
    regPut s m h bytes v off = regCommit s m h.key (BitVec.ofNat 64 (v % 2 ^ 32)) 0xFFFFFFFF#64 off := by
  simp only [regPut, halfOther_of_none hn, hw, if_true]

theorem regPut_64_whole (hn : s.half = []) (hw : h.fam.width = 64) (v off : Nat) :
    regPut s m h 8 v off = regCommit s m h.key (BitVec.ofNat 64 v) (BitVec.allOnes 64) off := by
  simp [regPut, halfOther_of_none hn, hw]

theorem regPut_low (hn : s.half = []) (hw : h.fam.width = 64) (hl : h.high = false) (v off : Nat) :
    regPut s m h 4 v off = halfPut s m h.key true (v % 2 ^ 32) := by
  simp [regPut, halfOther_of_none hn, hw, hl]

theorem regPut_high (hn : s.half = []) (hw : h.fam.width = 64) (hl : h.high = true) (v off : Nat) :
    regPut s m h 4 v off = regCommit s m h.key (BitVec.ofNat 64 (v % 2 ^ 32 * 2 ^ 32)) 0xFFFFFFFF00000000#64 off := by
  simp [regPut, halfOther_of_none hn, halfGet_of_none hn, hw, hl]

theorem regPut_held (hh : s.half = [⟨m, h.key, true, x⟩]) (hw : h.fam.width = 64) (hl : h.high = true) (v off : Nat) :
    regPut s m h 4 v off = regCommit { s with half := [] } m h.key (BitVec.ofNat 64 (v % 2 ^ 32 * 2 ^ 32 + x)) (BitVec.allOnes 64) (off - 4) := by
  simp [regPut, halfOther_of_own hh, halfGet_of_own hh, halfDrop_of_own hh, hw, hl]

theorem reaches_4 (off : Nat) : reaches h off 4 = (off % 4 == 0) := rfl

theorem reaches_8 (off : Nat) : reaches h off 8 = (off % 8 == 0 && !h.high && h.fam.width == 64) := rfl

end Halves

/-! ### Accesses in Chip Register Space -/

theorem inWindow_of_not_inBridge {off : Nat} (h : inBridge off = false) : inWindow off = false := by
  simp only [inBridge, inWindow, Bool.and_eq_false_iff, decide_eq_false_iff_not] at h ⊢
  omega

section Crs
variable {s t : State} {a : Access} {h : RegHit} {c : Nat}

theorem accessRead_crs (hs : a.space = .crs) (hb : inBridge a.offset = false) :
    accessRead s a = emit (crsGet s a.by_ a.offset a.bytes).2.2
      (.readData a.by_ (BitVec.ofNat 64 (crsGet s a.by_ a.offset a.bytes).1) (crsGet s a.by_ a.offset a.bytes).2.1) := by
  simp only [accessRead, hs, hb, inWindow_of_not_inBridge hb, Bool.false_and, Bool.false_eq_true, if_false]

/-- A read that reaches a register answers the low bytes of its value. -/
theorem accessRead_register (hs : a.space = .crs) (hb : inBridge a.offset = false) (he : exportRead s a.offset a.bytes = none)
    (hc : crsCheck s a.by_ a.offset .read = (0, s)) (ha : crsAt a.offset = some h) (hr : reaches h a.offset a.bytes = true) :
    accessRead s a = emit (regGet s a.by_.id.val h a.bytes).2
      (.readData a.by_ (BitVec.ofNat 64 ((regGet s a.by_.id.val h a.bytes).1 % 2 ^ (8 * a.bytes))) false) := by
  rw [accessRead_crs hs hb]
  simp only [crsGet, hc, he, ha, hr, if_true]

theorem accessRead_nothing (hs : a.space = .crs) (hb : inBridge a.offset = false) (he : exportRead s a.offset a.bytes = none)
    (hc : crsCheck s a.by_ a.offset .read = (0, s)) (ha : crsAt a.offset = none) (hr : ringMirror a.offset = none) :
    accessRead s a = emit s (.readData a.by_ 0 false) := by
  rw [accessRead_crs hs hb]
  simp only [crsGet, hc, he, ha, hr]
  rfl

/-- A read that a check turns away answers 0, wherever it was to go. -/
theorem accessRead_denied (hs : a.space = .crs) (hc : crsCheck s a.by_ a.offset .read = (c, t)) (h0 : c ≠ 0) :
    accessRead s a = emit t (.readData a.by_ 0 (c == 2)) := by
  obtain ⟨c, rfl⟩ := Nat.exists_eq_succ_of_ne_zero h0
  simp only [accessRead, hs, crsGet, hc]
  split
  · rfl
  · split <;> rfl

theorem accessWrite_crs (hs : a.space = .crs) (w : Word) :
    accessWrite s a w = if (crsPut s a w.toNat).1 then emit (crsPut s a w.toNat).2 (.writeErr a.by_) else (crsPut s a w.toNat).2 := by
  simp only [accessWrite, hs]
  split
  · next h => simp [h]
  · next h => simp [h]

theorem accessWrite_register (hs : a.space = .crs) (hb : inBridge a.offset = false) (hc : crsCheck s a.by_ a.offset .write = (0, s))
    (ha : crsAt a.offset = some h) (hr : reaches h a.offset a.bytes = true) (w : Word) :
    accessWrite s a w = regPut s a.by_.id.val h a.bytes (w.toNat % 2 ^ (8 * a.bytes)) a.offset := by
  rw [accessWrite_crs hs]
  simp [crsPut, hc, ha, hr, hb, inWindow_of_not_inBridge hb]

theorem accessWrite_nothing (hs : a.space = .crs) (hb : inBridge a.offset = false) (hc : crsCheck s a.by_ a.offset .write = (0, s))
    (ha : crsAt a.offset = none) (w : Word) : accessWrite s a w = s := by
  rw [accessWrite_crs hs]
  simp [crsPut, hc, ha, hb, inWindow_of_not_inBridge hb]

theorem accessWrite_discarded (hs : a.space = .crs) (hc : crsCheck s a.by_ a.offset .write = (1, t)) (w : Word) : accessWrite s a w = t := by
  rw [accessWrite_crs hs]
  simp [crsPut, hc]

theorem accessWrite_error (hs : a.space = .crs) (hc : crsCheck s a.by_ a.offset .write = (2, t)) (w : Word) :
    accessWrite s a w = emit t (.writeErr a.by_) := by
  rw [accessWrite_crs hs]
  simp [crsPut, hc]

/-! ### Accesses at the BARs of the part's own functions -/

theorem accessRead_bar (hs : a.space ≠ .crs) (ha : barReg s a.space a.offset = some h) (hr : reaches h a.offset a.bytes = true) :
    accessRead s a = emit (regGet s 13 h a.bytes).2 (.readData a.by_ (BitVec.ofNat 64 (regGet s 13 h a.bytes).1) false) := by
  unfold accessRead
  split
  · next hcrs => exact absurd hcrs hs
  · simp only [barGet, ha, hr, if_true]

theorem accessWrite_bar (hs : a.space ≠ .crs) (ha : barReg s a.space a.offset = some h) (hr : reaches h a.offset a.bytes = true) (w : Word) :
    accessWrite s a w = regPut s 13 h a.bytes w.toNat a.offset := by
  unfold accessWrite
  split
  · next hcrs => exact absurd hcrs hs
  · simp only [barPut, ha, hr, if_true]

/-! ### The commands that carry accesses -/

theorem exec_readClearField (hup : accessUp s a.by_ = true) (hs : spaceUp s a.space = true) (ht : accessRead s a = t) :
    exec (.readClearField a) s = .next (after t) := by
  subst ht
  show finish _ = _
  rw [hup, hs, finish_eq]
  rfl

theorem exec_registerWrite {w : Word} (hup : accessUp s a.by_ = true) (hs : spaceUp s a.space = true) (ht : accessWrite s a w = t) :
    exec (.registerWrite a w) s = .next (after t) := by
  subst ht
  show finish _ = _
  rw [hup, hs, finish_eq]
  rfl

theorem spaceUp_crs (hs : a.space = .crs) : spaceUp s a.space = true := by rw [hs]; rfl

end Crs

/-! ### Each access of R449 to a register -/

section Reads
variable {s : State} {a : Access} {h : RegHit} {x : Nat} (hs : a.space = .crs) (hb : inBridge a.offset = false)
  (he : exportRead s a.offset a.bytes = none) (hc : crsCheck s a.by_ a.offset .read = (0, s)) (ha : crsAt a.offset = some h)
include hs hb he hc ha

theorem accessRead_32 (hn : s.half = []) (hw : h.fam.width = 32) (h4 : a.bytes = 4) (ho : a.offset % 4 = 0) :
    accessRead s a = emit (clearOnRead s h.key) (.readData a.by_ (low32 (regView s h.key)) false) := by
  rw [accessRead_register hs hb he hc ha (by simp [h4, reaches_4, ho]), regGet_32 hn hw, h4]
  rfl

theorem accessRead_whole (hn : s.half = []) (hw : h.fam.width = 64) (hl : h.high = false) (h8 : a.bytes = 8) (ho : a.offset % 8 = 0) :
    accessRead s a = emit (clearOnRead s h.key) (.readData a.by_ (regView s h.key) false) := by
  rw [accessRead_register hs hb he hc ha (by simp [h8, reaches_8, ho, hl, hw]), h8, regGet_64_whole hn, Nat.mod_eq_of_lt (regView s h.key).isLt,
    BitVec.ofNat_toNat, BitVec.setWidth_eq]

theorem accessRead_low (hn : s.half = []) (hw : h.fam.width = 64) (hl : h.high = false) (h4 : a.bytes = 4) (ho : a.offset % 4 = 0) :
    accessRead s a = emit (halfPut (clearOnRead s h.key) a.by_.id.val h.key false ((regView s h.key).toNat / 2 ^ 32))
      (.readData a.by_ (low32 (regView s h.key)) false) := by
  rw [accessRead_register hs hb he hc ha (by simp [h4, reaches_4, ho]), h4, regGet_low hn hw hl, Nat.mod_mod]
  rfl

theorem accessRead_high (hn : s.half = []) (hw : h.fam.width = 64) (hl : h.high = true) (h4 : a.bytes = 4) (ho : a.offset % 4 = 0) :
    accessRead s a = emit (clearRead s h.key 0xFFFFFFFF00000000#64)
      (.readData a.by_ (BitVec.ofNat 64 ((regView s h.key).toNat / 2 ^ 32)) false) := by
  have hv : (regView s h.key).toNat / 2 ^ 32 < 2 ^ (8 * 4) := by
    have := (regView s h.key).isLt
    omega
  rw [accessRead_register hs hb he hc ha (by simp [h4, reaches_4, ho]), h4, regGet_high hn hw hl, Nat.mod_eq_of_lt hv]

theorem accessRead_captured (hh : s.half = [⟨a.by_.id.val, h.key, false, x⟩]) (hx : x < 2 ^ 32) (hw : h.fam.width = 64) (hl : h.high = true)
    (h4 : a.bytes = 4) (ho : a.offset % 4 = 0) :
    accessRead s a = emit { s with half := [] } (.readData a.by_ (BitVec.ofNat 64 x) false) := by
  rw [accessRead_register hs hb he hc ha (by simp [h4, reaches_4, ho]), h4, regGet_captured hh hw hl, Nat.mod_eq_of_lt hx]

end Reads

section Writes
variable {s : State} {a : Access} {h : RegHit} {x : Nat} (hs : a.space = .crs) (hb : inBridge a.offset = false)
  (hc : crsCheck s a.by_ a.offset .write = (0, s)) (ha : crsAt a.offset = some h)
include hs hb hc ha

theorem accessWrite_32 (hn : s.half = []) (hw : h.fam.width = 32) (h4 : a.bytes = 4) (ho : a.offset % 4 = 0) (w : Word) :
    accessWrite s a w = regCommit s a.by_.id.val h.key (low32 w) 0xFFFFFFFF#64 a.offset := by
  rw [accessWrite_register hs hb hc ha (by simp [h4, reaches_4, ho]), h4, regPut_32 hn hw, Nat.mod_mod]
  rfl

theorem accessWrite_whole (hn : s.half = []) (hw : h.fam.width = 64) (hl : h.high = false) (h8 : a.bytes = 8) (ho : a.offset % 8 = 0) (w : Word) :
    accessWrite s a w = regCommit s a.by_.id.val h.key w (BitVec.allOnes 64) a.offset := by
  rw [accessWrite_register hs hb hc ha (by simp [h8, reaches_8, ho, hl, hw]), h8, regPut_64_whole hn hw, Nat.mod_eq_of_lt w.isLt,
    BitVec.ofNat_toNat, BitVec.setWidth_eq]

theorem accessWrite_low (hn : s.half = []) (hw : h.fam.width = 64) (hl : h.high = false) (h4 : a.bytes = 4) (ho : a.offset % 4 = 0) (w : Word) :
    accessWrite s a w = halfPut s a.by_.id.val h.key true (w.toNat % 2 ^ 32) := by
  rw [accessWrite_register hs hb hc ha (by simp [h4, reaches_4, ho]), h4, regPut_low hn hw hl, Nat.mod_mod]

theorem accessWrite_high (hn : s.half = []) (hw : h.fam.width = 64) (hl : h.high = true) (h4 : a.bytes = 4) (ho : a.offset % 4 = 0) (w : Word) :
    accessWrite s a w = regCommit s a.by_.id.val h.key (BitVec.ofNat 64 (w.toNat % 2 ^ 32 * 2 ^ 32)) 0xFFFFFFFF00000000#64 a.offset := by
  rw [accessWrite_register hs hb hc ha (by simp [h4, reaches_4, ho]), h4, regPut_high hn hw hl, Nat.mod_mod]

theorem accessWrite_held (hh : s.half = [⟨a.by_.id.val, h.key, true, x⟩]) (hw : h.fam.width = 64) (hl : h.high = true) (h4 : a.bytes = 4)
    (ho : a.offset % 4 = 0) (w : Word) :
    accessWrite s a w = regCommit { s with half := [] } a.by_.id.val h.key (BitVec.ofNat 64 (w.toNat % 2 ^ 32 * 2 ^ 32 + x)) (BitVec.allOnes 64)
      (a.offset - 4) := by
  rw [accessWrite_register hs hb hc ha (by simp [h4, reaches_4, ho]), h4, regPut_held hh hw hl, Nat.mod_mod]

end Writes

section Bars
variable {s : State} {a : Access} {h : RegHit} (hs : a.space ≠ .crs) (ha : barReg s a.space a.offset = some h) (hn : s.half = [])
  (hw : h.fam.width = 32) (h4 : a.bytes = 4) (ho : a.offset % 4 = 0)
include hs ha hn hw h4 ho

theorem accessRead_bar_32 : accessRead s a = emit (clearOnRead s h.key) (.readData a.by_ (regView s h.key) false) := by
  rw [accessRead_bar hs ha (by simp [h4, reaches_4, ho]), regGet_32 hn hw, BitVec.ofNat_toNat, BitVec.setWidth_eq]

theorem accessWrite_bar_32 (w : Word) : accessWrite s a w = regCommit s 13 h.key (low32 w) 0xFFFFFFFF#64 a.offset := by
  rw [accessWrite_bar hs ha (by simp [h4, reaches_4, ho]), regPut_32 hn hw]
  rfl

end Bars

/-- R449: an access that no check turns away is one to the register at its offset, of 32 bits, of 64, or of one half. -/
theorem registerAccess : Clauses.RegisterAccess := by
  intro s a hup m
  have readAs {t : State} (hs : a.space = .crs) := exec_readClearField (t := t) hup (spaceUp_crs hs)
  have writeAs {t : State} {w : Word} (hs : a.space = .crs) := exec_registerWrite (t := t) (w := w) hup (spaceUp_crs hs)
  refine ⟨?carried, ?reads, ?writes, ?bars, ?discarded, ?error, ?denied, ?locked, ?plain, ?stored, ?recorded⟩
  case carried => exact fun hs => ⟨exec_readClearField hup hs rfl, fun w => exec_registerWrite hup hs rfl⟩
  case reads =>
    intro hs hb he hc
    refine ⟨fun h ha hn => ⟨?_, ?_, ?_, ?_⟩, ?_, ?_⟩
    · exact fun hw h4 ho => readAs hs (accessRead_32 hs hb he hc ha hn hw h4 ho)
    · exact fun hw hl h8 ho => readAs hs (accessRead_whole hs hb he hc ha hn hw hl h8 ho)
    · exact fun hw hl h4 ho => readAs hs (accessRead_low hs hb he hc ha hn hw hl h4 ho)
    · exact fun hw hl h4 ho => readAs hs (accessRead_high hs hb he hc ha hn hw hl h4 ho)
    · exact fun h x ha hh hx hw hl h4 ho => readAs hs (accessRead_captured hs hb he hc ha hh hx hw hl h4 ho)
    · exact fun ha hr => readAs hs (accessRead_nothing hs hb he hc ha hr)
  case writes =>
    intro w hs hb hc
    refine ⟨fun h ha hn => ⟨?_, ?_, ?_, ?_⟩, ?_, ?_⟩
    · exact fun hw h4 ho => writeAs hs (accessWrite_32 hs hb hc ha hn hw h4 ho w)
    · exact fun hw hl h8 ho => writeAs hs (accessWrite_whole hs hb hc ha hn hw hl h8 ho w)
    · exact fun hw hl h4 ho => writeAs hs (accessWrite_low hs hb hc ha hn hw hl h4 ho w)
    · exact fun hw hl h4 ho => writeAs hs (accessWrite_high hs hb hc ha hn hw hl h4 ho w)
    · exact fun h x ha hh hw hl h4 ho => writeAs hs (accessWrite_held hs hb hc ha hh hw hl h4 ho w)
    · exact fun ha => writeAs hs (accessWrite_nothing hs hb hc ha w)
  case bars =>
    exact fun h hs hup' ha hw h4 ho hn => ⟨exec_readClearField hup hup' (accessRead_bar_32 hs ha hn hw h4 ho),
      fun w => exec_registerWrite hup hup' (accessWrite_bar_32 hs ha hn hw h4 ho w)⟩
  case discarded => exact fun w t hs hc => writeAs hs (accessWrite_discarded hs hc w)
  case error => exact fun w t hs hc => writeAs hs (accessWrite_error hs hc w)
  case denied => exact fun t c hs hc h0 => readAs hs (accessRead_denied hs hc h0)
  case locked => exact fun k w mask off hm hl => regCommit_locked hm hl
  case plain => exact fun k w mask off t ht hc ha hr hb hu hl => regCommit_plain ht hc ha hr hb hu hl
  case stored => exact fun k w mask f hf hl => regPlain_of_family hf hl
  case recorded => exact fun off => ⟨spwRecord_first, spwRecord_second⟩

/-- Settles O45: each access is told by the register that it reaches and the half that its master holds (`regGet_low`, `regPut_held` and the
others), and what is stored bit by bit (`getLsbD_storedBits`). -/
theorem registerAccessAndBits : Obligations.RegisterAccessAndBits := ⟨registerAccess, getLsbD_storedBits⟩

end Sys2Proof.Machine
end

section
/-!
A step runs the front command (O47); reports, snapshots, counters, COMET and the sampler (O42).
-/
namespace Sys2Proof.Machine

/-! ### One step -/

theorem step_command {s : State} {c : Instr} {rest : List Instr} (h : s.pending = c :: rest) : step s = exec c { s with pending := rest } := by
  simp only [step, h]

theorem step_tick {s : State} (h : s.pending = []) : step s = .next (tick s) := by
  simp only [step, h]

/-- Settles O47: the two cases of the queue (`step_command`, `step_tick`). -/
theorem stepRunsFrontCommand : Obligations.StepRunsFrontCommand := fun _ => ⟨fun _ _ => step_command, step_tick⟩

/-! ### Fields of the register file -/

theorem getF_wr_ne {s : State} {k j : Nat} {v : Word} (f : Field) (h : j ≠ k) : getF (wr s k v) j f = getF s j f := by
  rw [getF, rd_wr_ne h, getF]

theorem getF_setF_ne {s : State} {k j : Nat} {f : Field} {v : Nat} (g : Field) (h : j ≠ k) : getF (setF s k f v) j g = getF s j g :=
  getF_wr_ne g h

theorem getF_setF_self (s : State) (k : Nat) {f : Field} (v : Nat) (h : f.lsb + f.width ≤ 64) : getF (setF s k f v) k f = v % 2 ^ f.width := by
  rw [getF, setF, rd_wr_self, Field.get_set_self _ _ h]

theorem getF_setF_disjoint (s : State) (k : Nat) {f g : Field} (v : Nat) (h : g.lsb + g.width ≤ f.lsb ∨ f.lsb + f.width ≤ g.lsb) :
    getF (setF s k f v) k g = getF s k g := by
  rw [getF, setF, rd_wr_self, Field.get_set_disjoint _ _ h, getF]

/-! ### Operations on registers alone -/

theorem OnlyRegs.trans {s t u : State} (h : OnlyRegs s t) (h' : OnlyRegs t u) : OnlyRegs s u := by
  unfold OnlyRegs at h h' ⊢
  rw [h', h]

theorem OnlyRegs.out {s t : State} (h : OnlyRegs s t) : t.out = s.out := (congrArg State.out h).trans rfl

theorem OnlyRegs.bg {s t : State} (h : OnlyRegs s t) : t.bg = s.bg := (congrArg State.bg h).trans rfl

theorem forEach_onlyRegs {α : Type} {f : State → α → State} (hf : ∀ s a, OnlyRegs s (f s a)) (l : List α) (s : State) :
    OnlyRegs s (forEach l s f) := by
  unfold forEach
  induction l generalizing s with
  | nil => rfl
  | cons a l ih => exact (hf s a).trans (ih (f s a))

theorem snapBank_onlyRegs (s : State) (bank b : Nat) : OnlyRegs s (snapBank s bank b) :=
  ((wr_onlyRegs s _ _).trans (forEach_onlyRegs (fun u _ => wr_onlyRegs u _ _) _ _)).trans (wr_onlyRegs _ _ _)

/-! ### ORBIT -/

/-- While the management cores are held ORBIT stops (R18). -/
theorem orbitReport_held {s : State} (h : s.pwr.coresHeld = true) : orbitReport s = s := by
  rw [orbitReport, if_pos (by simp [h])]

/-- A report whose sets master 10 may read is delivered where DEST says, and ORBIT's age begins anew (R413, R415). -/
theorem orbitReport_delivered {s : State} (hh : s.pwr.coresHeld = false) (hp : orbitPeriod s ≠ 0)
    (hd : orbitDenied s ((bitsOf 9 (rd s Reg.ORBIT_SETS).toNat).flatMap orbitSet) = none) :
    let u := { s with bg := { s.bg with orbitSeq := s.bg.orbitSeq + 1 } }
    let b := orbitBytes s (s.bg.orbitSeq + 1) (bitsOf 9 (rd s Reg.ORBIT_SETS).toNat)
    let w := if isSet s Reg.ORBIT_CFG Fld.ORBIT_CFG_DEST then orbitToSlot u (s.bg.orbitSeq + 1) b else orbitToHost u (s.bg.orbitSeq + 1) b
    orbitReport s = setBgLevel { w with bg := { w.bg with
      since := aput w.bg.since 17 (max s.time (agetD s.bg.since 17 s.time + ms (orbitPeriod s))) } } 17 0 := by
  rw [orbitReport, if_neg (by simp [hh, hp])]
  simp only [hd]

/-! ### ECLIPSE -/

theorem eclTrigger_idle {s : State} (h : s.bg.eclBusy = none) (source : Nat) : eclTrigger s source = eclFire s (2 ^ source) := by
  simp only [eclTrigger, h]

/-- A trigger between a latch edge and its AON latch waits for that latch (R417). -/
theorem eclTrigger_busy {s : State} (h : s.bg.eclBusy ≠ none) (source : Nat) :
    eclTrigger s source = { s with bg := { s.bg with eclWait := some (setBit (s.bg.eclWait.getD 0) source) } } := by
  obtain ⟨x, hx⟩ := Option.ne_none_iff_exists'.mp h
  simp only [eclTrigger, hx]

/-- ECLIPSE_IN wakes a dormant part; else it triggers a snapshot if it is armed and not deaf. -/
theorem exec_eclipseInRise {s : State} (hc : configured s = true) :
    exec .eclipseInRise s = .next (after (if dormant s then dormantWake s .eclipseIn
      else if isSet s Reg.ECL_ARM Fld.ECL_ARM_IN_EN && decide (s.bg.eclDeaf ≤ s.time) then eclTrigger s 1 else s)) := by
  show execEclipseInRise s = _
  rw [execEclipseInRise, whenConfigured_up hc]

/-- The counter banks of the AON domain latch into snapshot bank `b`. -/
def snapAonBanks (s : State) (b : Nat) : State := forEach (allBanks.filter aonBank) s (fun s k => snapBank s k b)

theorem snapAonBanks_onlyRegs (s : State) (b : Nat) : OnlyRegs s (snapAonBanks s b) :=
  forEach_onlyRegs (fun u k => snapBank_onlyRegs u k b) _ s

/-- A snapshot ends: bank `b` is VALID and BUSY is clear. -/
def eclEnd (s : State) (b : Nat) : State :=
  let u := setF s Reg.ECL_STATUS (if b = 0 then Fld.ECL_STATUS_VALID_A else Fld.ECL_STATUS_VALID_B) 1
  setF { u with bg := { u.bg with eclBusy := none } } Reg.ECL_STATUS Fld.ECL_STATUS_BUSY 0

@[simp] theorem eclEnd_bg (s : State) (b : Nat) : (eclEnd s b).bg = { s.bg with eclBusy := none } := rfl
@[simp] theorem eclEnd_mem (s : State) (b : Nat) : (eclEnd s b).mem = s.mem := rfl
@[simp] theorem eclEnd_out (s : State) (b : Nat) : (eclEnd s b).out = s.out := rfl

theorem getF_eclEnd_busy (s : State) (b : Nat) : getF (eclEnd s b) Reg.ECL_STATUS Fld.ECL_STATUS_BUSY = 0 :=
  getF_setF_self _ _ 0 (by decide)

theorem getF_eclEnd_valid (s : State) (b : Nat) :
    getF (eclEnd s b) Reg.ECL_STATUS (if b = 0 then Fld.ECL_STATUS_VALID_A else Fld.ECL_STATUS_VALID_B) = 1 := by
  unfold eclEnd
  split
  · exact (getF_setF_disjoint _ _ 0 (by decide)).trans (getF_setF_self _ _ 1 (by decide))
  · exact (getF_setF_disjoint _ _ 0 (by decide)).trans (getF_setF_self _ _ 1 (by decide))

theorem msixManagers_bg (s : State) (vec : Nat) : (msixManagers s vec).bg = s.bg := by
  obtain ⟨h, o, hm⟩ := msixManagers_changes s vec
  rw [hm]

/-- With no trigger waiting the AON latch ends with vector 5 (R417). -/
theorem eclAonLatch_nothingWaits {s : State} {b : Nat × Nat} (hb : s.bg.eclBusy = some b) (hw : s.bg.eclWait = none) :
    eclAonLatch s = msixManagers (eclEnd (snapAonBanks s b.1) b.1) 5 := by
  have hwait : (msixManagers (eclEnd (snapAonBanks s b.1) b.1) 5).bg.eclWait = none := by
    rw [msixManagers_bg, eclEnd_bg, (snapAonBanks_onlyRegs s b.1).bg, hw]
  unfold eclEnd snapAonBanks at hwait ⊢
  simp only [eclAonLatch, hb, hwait]

/-! ### Counters -/

theorem pcSel_ne_pcCtrl (bank i : Nat) : Reg.PC_SEL bank i ≠ Reg.PC_CTRL bank := by
  simp only [Reg.PC_SEL, Reg.PC_CTRL]
  omega

theorem pcSel_ne_pcCnt (bank i : Nat) : Reg.PC_SEL bank i ≠ Reg.PC_CNT bank i := by
  simp only [Reg.PC_SEL, Reg.PC_CNT]
  omega

theorem pcCtrl_ne_pcCnt (bank i : Nat) : Reg.PC_CTRL bank ≠ Reg.PC_CNT bank i := by
  simp only [Reg.PC_CTRL, Reg.PC_CNT]
  omega

/-- A counter without TRIG that carries out of bit 47 wraps and sets its bit of OVF (R422). -/
theorem pcCarry_untriggered {s : State} {bank i : Nat} (h : isSet s (Reg.PC_SEL bank i) Fld.PC_SEL_TRIG = false) (c : Nat) :
    pcCarry s bank i c = setF (wr s (Reg.PC_CNT bank i) (BitVec.ofNat 64 c)) (Reg.PC_CTRL bank) Fld.PC_CTRL_OVF
      (setBit (getF s (Reg.PC_CTRL bank) Fld.PC_CTRL_OVF) i) := by
  rw [isSet] at h
  simp only [pcCarry, isSet, getF_setF_ne _ (pcSel_ne_pcCtrl bank i), getF_wr_ne _ (pcSel_ne_pcCnt bank i),
    getF_wr_ne _ (pcCtrl_ne_pcCnt bank i), h, Bool.false_and, Bool.false_eq_true, if_false]

theorem exec_counterCarry {s : State} {bank : Nat} (hf : fastUp s = true) (hb : bank ∈ allBanks) (i : Fin 8) :
    exec (.counterCarry bank i) s = .next (after (pcCarry s bank i 0)) := by
  refine (whenFast_up hf _).trans ?_
  rw [if_pos (List.contains_iff_mem.mpr hb)]

/-! ### HOLDOFF of the rings, and the sampler's spill -/

theorem cometHoldoff_due {s : State} (h : ringHoldoff s cometRing s.cong.cometLast s.cong.cometTold = true) :
    cometHoldoff s = msixManagers { s with cong := { s.cong with cometTold := true } } 6 := if_pos h

theorem smpHoldoff_due {s : State} (h : ringHoldoff s smpRing s.cong.smpLast s.cong.smpTold = true) :
    smpHoldoff s = msixManagers { s with cong := { s.cong with smpTold := true } } 7 := if_pos h

section Spill
variable {s u w : State} {i : Nat} {rest : List Nat} {e : Sample} {told : Bool} (hi : s.cong.smpDone = i :: rest)
  (he : aget s.cong.smpEntries i = some e) (hf : isFenced s ⟨Uk.sampler, 0⟩ = false) (hd : ddrOk s = true) (hr : smpRing.full s = false)
  (hu : u = { (smpAdmit s e.inPort).2 with cong := { (smpAdmit s e.inPort).2.cong with
    smpDone := rest, smpEntries := adel (smpAdmit s e.inPort).2.cong.smpEntries i } })
include hi he hf hd hr hu

/-- The oldest completed entry, admitted, goes to the sampler's ring (R427). -/
theorem smpSpill_written (ha : (smpAdmit s e.inPort).1 = true) (hw : ringPut u smpRing e.bytes = (true, told, w)) :
    smpSpill s = { w with cong := { w.cong with smpLast := w.time, smpTold := told } } := by
  subst hu
  simp [smpSpill, hi, he, hf, hd, hr, ha, hw]

/-- One that is not admitted is lost and counted (R64, R427). -/
theorem smpSpill_lost (ha : (smpAdmit s e.inPort).1 = false) : smpSpill s = bump u Reg.SMP_LOST_CNT := by
  subst hu
  simp [smpSpill, hi, he, hf, hd, hr, ha]

end Spill

/-- Settles O42: each command runs its operation in a part that is up (`whenUp_up` and the others), and what the operation does under the
hypotheses of its clause is a lemma about it (`orbitReport_delivered`, `eclAonLatch_nothingWaits`, `pcCarry_untriggered`, `smpSpill_written`
and the others). -/
theorem observeCommands : Obligations.ObserveCommands := by
  intro s
  refine ⟨?held, ?report, ?wake, ?trigger, ?unarmed, ?latch, ?carry, ?record, ?holdoff, ?smpHoldoff, ?spill⟩
  case held => exact fun hup hh => (whenUp_up hup _).trans (by rw [orbitReport_held hh])
  case report => exact fun hup hh hp hd => (whenUp_up hup _).trans (by rw [orbitReport_delivered hh hp hd])
  case wake => exact fun hc hd => by rw [exec_eclipseInRise hc, if_pos hd]
  case trigger =>
    intro hc hd hin hdeaf
    have hrun : exec .eclipseInRise s = .next (after (eclTrigger s 1)) := by
      rw [exec_eclipseInRise hc, if_neg (by simp [hd]), if_pos (by simp [hin, hdeaf])]
    exact ⟨fun hb => by rw [hrun, eclTrigger_idle hb, Nat.pow_one], fun hb => by rw [hrun, eclTrigger_busy hb]⟩
  case unarmed => exact fun hc hd hin => by rw [exec_eclipseInRise hc, if_neg (by simp [hd]), if_neg (by simp [hin])]
  case latch =>
    intro hf b hb hw
    have hregs := snapAonBanks_onlyRegs s b.1
    exact ⟨eclEnd (snapAonBanks s b.1) b.1, (whenFast_up hf _).trans (by rw [eclAonLatch_nothingWaits hb hw]), getF_eclEnd_valid _ _,
      getF_eclEnd_busy _ _, by rw [eclEnd_bg], by rw [eclEnd_mem, hregs.mem], by rw [eclEnd_out, hregs.out]⟩
  case carry => exact fun hf bank i hb ht => by rw [exec_counterCarry hf hb, pcCarry_untriggered ht, BitVec.ofNat_eq_ofNat]
  case record => exact fun hup c rest told w hc hf hw => (whenUp_up hup _).trans (by rw [cometWrite_written hc hf rfl hw])
  case holdoff => exact fun hup h => (whenUp_up hup _).trans (by rw [cometHoldoff_due h])
  case smpHoldoff => exact fun hup h => (whenUp_up hup _).trans (by rw [smpHoldoff_due h])
  case spill =>
    exact fun hup i rest e told w hi he hf hd hr =>
      ⟨fun ha hw => (whenUp_up hup _).trans (by rw [smpSpill_written hi he hf hd hr rfl ha hw]),
       fun ha => (whenUp_up hup _).trans (by rw [smpSpill_lost hi he hf hd hr rfl ha])⟩

end Sys2Proof.Machine
end

section
/-!
ICP commands of identity, firmware, configurations, mode changes and registers (O41).
-/
namespace Sys2Proof.Machine

/-! ### Identity and keys (R343) -/

theorem getIdentity_device {t : State} {r : IcpReq} (h : num r.payload 0 1 = 0) :
    getIdentity r t = (let pub := fit 1312 (Config.mldsaPublic (identitySeed t))
      reply t r St.ok (natLe 1 0 ++ [0#8] ++ natLe 2 1312 ++ zeros 4 ++ pub ++ natLe 32 (Config.sha3 pub))) := by
  simp only [getIdentity, h, Nat.not_lt_zero, if_false, if_true]

/-- A revocation that leaves a slot in use, signed for this part with a kept key that is not revoked, sets the slot's fuse. -/
theorem otpRevoke_verified {t : State} {r : IcpReq} {pub : List Byte} (hslot : num r.payload 0 1 < 4)
    (hleft : setBit t.otp.keyRevoked (num r.payload 0 1) % 16 ≠ 15) (hkey : aget t.pwr.keptKeys (num r.payload 1 1) = some pub)
    (hserial : num r.payload 4 8 = t.otp.serial) (hsigner : t.otp.keyRevoked.testBit (num r.payload 1 1) = false)
    (hverify : Config.mldsaVerify (Config.sha3 pub) (r.payload.take 12) ((r.payload.drop 12).take 2420) = true) :
    otpRevoke r t = reply (setF { t with otp := { t.otp with keyRevoked := setBit t.otp.keyRevoked (num r.payload 0 1) } } Reg.OTP_STATE
      Fld.OTP_STATE_KEY_REVOKED (setBit t.otp.keyRevoked (num r.payload 0 1))) r St.ok [] := by
  have hallowed : ¬(3 < num r.payload 0 1 ∨ setBit t.otp.keyRevoked (num r.payload 0 1) % 16 = 15) := by omega
  simp only [otpRevoke, if_neg hallowed, hkey]
  rw [if_pos ⟨hserial, by simp [hsigner, hverify]⟩]

/-! ### Flash banks -/

/-- A bank that changes leaves everything outside the flash, and the journal. -/
theorem modBank_frame (s : State) (b : Nat) (f : Bank → Bank) :
    modBank s b f = { s with flash := (modBank s b f).flash } ∧ (modBank s b f).flash.journal = s.flash.journal := by
  unfold modBank
  split <;> exact ⟨rfl, rfl⟩

@[simp] theorem modBank_pwr (s : State) (b : Nat) (f : Bank → Bank) : (modBank s b f).pwr = s.pwr := by
  rw [(modBank_frame s b f).1]

@[simp] theorem modBank_otp (s : State) (b : Nat) (f : Bank → Bank) : (modBank s b f).otp = s.otp := by
  rw [(modBank_frame s b f).1]

@[simp] theorem modBank_journal (s : State) (b : Nat) (f : Bank → Bank) : (modBank s b f).flash.journal = s.flash.journal :=
  (modBank_frame s b f).2

/-! ### Firmware (R442, R443) -/

/-- The first piece of a stream opens the staging of the inactive bank. -/
theorem fwStage_first {t : State} {r : IcpReq} (h0 : num r.payload 0 4 = 0) (hfits : (r.payload.drop 8).length ≤ num r.payload 4 4)
    (htotal : num r.payload 4 4 ≤ 4194304) :
    fwStage r t = (let w := modBank t (1 - curBank t) (fun b => { b with fw := areaWrite b.fw 0 (r.payload.drop 8) })
      reply (wr { w with pwr := { w.pwr with staging := { w.pwr.staging with active := true } } } Reg.STAGE_STATUS
        (BitVec.ofNat 64 ((r.payload.drop 8).length * 2 ^ 32 + num r.payload 4 4))) r St.ok []) := by
  have hallowed : ¬(num r.payload 4 4 < (r.payload.drop 8).length ∨ 4194304 < num r.payload 4 4) := by omega
  simp only [fwStage, h0, Nat.zero_add, ne_eq, not_true_eq_false, false_and, or_false, if_neg hallowed, setStaged, modBank_pwr]

/-- Outside mode 4 an activation that passes its checks is a dry run or goes ahead. -/
theorem fwActivate_passes {t : State} {r : IcpReq} (hm : mode t ≠ 4) (hc : activateCheck t = St.ok) :
    fwActivate r t = if bitAt r.payload 0 0 then reply t r St.ok [] else activateGo t r := by
  simp only [fwActivate, hm, hc, false_and, if_false, ne_eq, not_true_eq_false]

theorem activateGo_keeps (t : State) (r : IcpReq) :
    (activateGo t r).pwr.warmReq = some (t.pwr.warmReq.getD (0x0A, 0, 0)) ∧ (activateGo t r).flash.journal = t.flash.journal ∧
      (activateGo t r).otp = t.otp := by
  have h := sendReply_untouched t r St.accepted []
  simp only [activateGo, bankWrite, modBank_pwr, modBank_journal, modBank_otp, h.pwr, h.flash, h.otp, and_self]

/-! ### Configurations, the stored selection and FLASH_MAINT (R344, R441) -/

/-- A free image slot holds no bytes. -/
theorem slotBytes_freeSlot {t : State} {k : Nat} (h : freeSlot t = some k) : slotBytes t k = [] := by
  have hnone := List.find?_some h
  rw [Option.isNone_iff_eq_none] at hnone
  simp only [slotBytes, agetD, hnone, Option.getD_none]

/-- The first piece of a stream that goes on, with no other stream open, is put into the free slot. -/
theorem configStore_first {t : State} {r : IcpReq} {k : Nat} (h0 : num r.payload 0 4 = 0) (hmore : (r.payload.drop 8).length < num r.payload 4 4)
    (htotal : num r.payload 4 4 ≤ 327680) (hnone : t.pwr.staging.cfg = none) (hk : freeSlot t = some k) :
    configStore r t = (let w := putSlot t k (r.payload.drop 8)
      reply { w with pwr := { w.pwr with staging := { w.pwr.staging with cfg := some (k, num r.payload 4 4) } } } r St.ok []) := by
  simp only [configStore, h0, Nat.zero_add, if_neg (Nat.not_lt.mpr (Nat.le_of_lt hmore)), if_true, hnone, hk, if_neg (Nat.not_lt.mpr htotal),
    slotBytes_freeSlot hk, List.nil_append, if_neg (Nat.ne_of_lt hmore)]

theorem selectionWrite_primary {t : State} {r : IcpReq} (honce : bitAt r.payload 1 0 = false)
    (hcheck : selCheck t (num r.payload 0 1) (num r.payload 4 4) (num r.payload 8 4) = St.ok) :
    selectionWrite r t = reply (selWrite t ⟨num r.payload 0 1, false, num r.payload 4 4, num r.payload 8 4, num r.payload 12 1, num r.payload 16 4,
      num r.payload 20 4, 0⟩) r St.ok [] := by
  simp only [selectionWrite, honce, hcheck, Bool.false_eq_true, if_false, ne_eq, not_true_eq_false]

/-- OP 1 of FLASH_MAINT changes nothing: ACCEPTED, then OK. -/
theorem flashMaint_headers {t : State} {r : IcpReq} (hop : num r.payload 0 1 = 1) (hfree : stagingBusy t = false) :
    flashMaint r t = reply (sendReply t r St.accepted []) r St.ok [] := by
  simp [flashMaint, hop, hfree]

/-! ### Mode changes (R49, R329) -/

/-- MODE_ACTIVATE at the head of the SP's decoder, held back by no earlier command of the firmware, is carried out. -/
theorem exec_modeActivate {s t : State} {r : IcpReq} (hb : Begins s .sp 0x0904 r t) (hr : nextReq (served s .sp) = some r)
    (hw : modeWaits s r = false) : exec .modeActivate s = .next (after (modeActivate r t)) := by
  show execModeActivate s = _
  rw [execModeActivate, whenUp_up hb.up]
  simp only [hr, hw, Bool.false_eq_true, if_false, icpCommand_begins hb]

theorem modeActivate_busy {t : State} (r : IcpReq) (h : modeBusy t = true) : modeActivate r t = modeReject t r St.busy 0 0 0 := by
  simp only [modeActivate, h, if_true]

/-- Outside mode 4 a MODE_ACTIVATE that names nothing for a partner and passes its checks is a dry run or begins. -/
theorem modeActivate_passes {t : State} {r : IcpReq} {affected : Nat} (hfree : modeBusy t = false) (hmode : num r.payload 0 1 ≤ 5)
    (hm : mode t ≠ 4) (hconfig : num r.payload 12 4 = 0) (hoverlay : num r.payload 16 4 = 0)
    (hc : modeCheck t (num r.payload 0 1) (num r.payload 4 4) (num r.payload 8 4) = (St.ok, 0, 0, affected)) :
    modeActivate r t = if bitAt r.payload 1 0 then reply t r St.ok (modePayload affected 0 0)
      else modeBegin { t with pwr := { t.pwr with
        act := some ⟨r, num r.payload 0 1, num r.payload 1 1, num r.payload 4 4, num r.payload 8 4, affected, false, false⟩ } } := by
  have hm4 : (mode t == 4) = false := beq_false_of_ne hm
  simp only [modeActivate, hfree, if_neg (Nat.not_lt.mpr hmode), hm4, hconfig, hoverlay, hc, Bool.false_and, bne_self_eq_false, Bool.or_self,
    Bool.and_false, Bool.false_eq_true, if_false, ne_eq, not_true_eq_false]

/-- A MODE_ACTIVATE whose requester has had no answer begins: ACT_BUSY, the affected vSwitches held, ACCEPTED (R49). -/
theorem modeBegin_untold {t : State} {a : ModeAct} (ha : t.pwr.act = some a) (hn : a.told = false) :
    modeBegin t = sendReply ((bitsOf 32 a.affected).foldl (fun s v => s.modVsw v (fun x => { x with modeHeld := true }))
      (setF { t with pwr := { t.pwr with act := some { a with voted := true } } } Reg.GLB_MODE_STATUS Fld.GLB_MODE_STATUS_ACT_BUSY 1))
      a.req St.accepted (natLe 4 a.affected ++ zeros 4) := by
  simp only [modeBegin, ha, hn, Bool.false_eq_true, if_false, forEach]

section Apply
variable {s : State} {a : ModeAct} {why : Nat × Nat} {b o : Option (List Byte)} (hact : s.pwr.act = some a)
  (hnamed : namedConfig s a.mode a.configId a.overlayId = (why, b, o)) (hvoted : a.voted = true) (htold : a.told = false)
  (hcoord : s.twin.coord = none)
include hact hnamed hvoted htold hcoord

/-- A mode change whose images fail when it is to be applied ends with fault 0x0501. -/
theorem modeApply_fails (hwhy : why.1 ≠ 0) :
    modeApply s = reply (detect (modeAbort s) 0x0501 .contained Uk.icp 0 0x0904) a.req St.internal (zeros 8) := by
  simp [modeApply, hact, hnamed, hvoted, htold, hcoord, hwhy]

/-- A mode change between modes other than 4 that no port and no tile notices: the fields that the configuration in force set are reset, the new
records applied, and the epoch advances (R40, R49, R163). -/
theorem modeApply_applies (hwhy : why.1 = 0) (hm : mode s ≠ 4) (ham : a.mode ≠ 4) (hpersist : a.flags.testBit 1 = false)
    (hports : ∀ p, p < 64 → portChanged s (cfgRegs s (recsOf b ++ recsOf o)) p = false)
    (htiles : ∀ n, n < 16 → rd s (Reg.TILE_CFG n) = rd (cfgRegs s (recsOf b ++ recsOf o)) (Reg.TILE_CFG n)) :
    let c := (inForce s).foldl recReset s
    let d := setMode (applyRecs c (recsOf b ++ recsOf o)) a.mode 3 false (isSet c Reg.GLB_MODE_STATUS Fld.GLB_MODE_STATUS_ONCE_USED) (recsOf b ++ recsOf o)
    let e := setConfigIds (modeFabric (frcsEnd d) (mode s)) b o
    let f := epochNow { e with pwr := { e.pwr with sel := ⟨b, o, 3, 0, 0, false, e.pwr.sel.once⟩ } }
    modeApply s = reply (journalConfig (modeAbort (flagRecheck f (fun h => decide (stampOf f h < epoch f))))) a.req St.ok (modePayload a.affected 0 0) := by
  have hchanged : (List.range 64).filter (portChanged s (cfgRegs s (recsOf b ++ recsOf o))) = [] :=
    List.filter_eq_nil_iff.mpr fun p hp => by simp [hports p (List.mem_range.mp hp)]
  have hmoved : (List.range 16).filter (fun n => rd s (Reg.TILE_CFG n) != rd (cfgRegs s (recsOf b ++ recsOf o)) (Reg.TILE_CFG n)) = [] :=
    List.filter_eq_nil_iff.mpr fun n hn => by simp [← htiles n (List.mem_range.mp hn)]
  simp only [modeApply, hact, hnamed, hvoted, htold, hcoord, hwhy, hchanged, hmoved, hm, ham, hpersist, Option.any_none, Bool.not_true, Bool.or_self,
    Bool.false_eq_true, if_false, ne_eq, not_true_eq_false, false_and, List.filter_nil, forEach, List.foldl_nil]

end Apply

/-! ### ECLIPSE_TRIGGER (R345) -/

theorem icpRun_runs {s t : State} {d : Decoder} {o : Nat} {r : IcpReq} (h : Runs s d o r t) (f : IcpReq → State → State) :
    icpRun s d o f = f r t := by
  obtain ⟨hb, hfree⟩ := h
  rw [icpRun, icpCommand_begins hb, if_neg (by simp [hfree])]

theorem eclipseCmd_alone {t : State} {r : IcpReq} (hbank : num r.payload 0 1 ≤ 1) (halone : bitAt r.payload 1 0 = false) :
    eclipseCmd r t = reply (eclLatch t (num r.payload 0 1) 1 false true) r St.ok (natLe 8 t.time) := by
  simp only [eclipseCmd, if_neg (Nat.not_lt.mpr hbank), halone, Bool.false_and, Bool.false_eq_true, if_false]

/-- While no snapshot is being taken, an ECLIPSE_TRIGGER is carried out. -/
theorem exec_eclipseTrigger {s t : State} {r : IcpReq} (hidle : s.bg.eclBusy = none) (h : Runs s .fw 0x0A01 r t) :
    exec .eclipseTrigger s = .next (after (eclipseCmd r t)) := by
  show execEclipseTrigger s = _
  rw [execEclipseTrigger, whenUp_up h.1.up, eclipseCommand, if_neg (by simp [hidle]), icpRun_runs h]

theorem serviceCommands : Clauses.ServiceCommands := by
  intro s t r
  refine ⟨?identity, ?revoke, ?stage, ?activate, ?store, ?mode, ?applied, ?select, ?flash, ?eclipse⟩
  case identity => exact fun h hk => (whenUp_icpRun h _).trans (by rw [getIdentity_device hk])
  case revoke =>
    exact fun pub h hslot hleft hkey hserial hsigner hverify =>
      (whenUp_icpRun h _).trans (by rw [otpRevoke_verified hslot hleft hkey hserial hsigner hverify])
  case stage => exact fun h h0 hfits htotal => (whenUp_icpRun h _).trans (by rw [fwStage_first h0 hfits htotal])
  case activate =>
    intro h hm hc
    have hrun : exec .fwActivate s = .next (after (fwActivate r t)) := whenUp_icpRun h _
    rw [fwActivate_passes hm hc] at hrun
    exact ⟨fun hdry => by rw [hrun, if_pos hdry],
      fun hdry => ⟨activateGo t r, by rw [hrun, if_neg (by simp [hdry])], activateGo_keeps t r⟩⟩
  case store => exact fun k h h0 hmore htotal hnone hk => (whenUp_icpRun h _).trans (by rw [configStore_first h0 hmore htotal hnone hk])
  case mode =>
    intro hb hr hw
    rw [exec_modeActivate hb hr hw]
    refine ⟨fun hbusy => by rw [modeActivate_busy r hbusy], fun hfree hmode hm hconfig hoverlay affected hc => ?_⟩
    rw [modeActivate_passes hfree hmode hm hconfig hoverlay hc]
    exact ⟨fun hdry => by rw [if_pos hdry, modePayload], fun hdry => by rw [if_neg (by simp [hdry]), modeBegin_untold rfl rfl]⟩
  case applied =>
    intro a why b o hup hact hnamed hvoted htold hcoord
    exact ⟨fun hwhy => (whenUp_up hup _).trans (by rw [modeApply_fails hact hnamed hvoted htold hcoord hwhy]),
      fun hwhy hm ham hpersist hports htiles =>
        (whenUp_up hup _).trans (by rw [modeApply_applies hact hnamed hvoted htold hcoord hwhy hm ham hpersist hports htiles, modePayload])⟩
  case select => exact fun h honce hcheck => (whenUp_icpRun h _).trans (by rw [selectionWrite_primary honce hcheck])
  case flash => exact fun h hop hfree => (whenUp_icpRun h _).trans (by rw [flashMaint_headers hop hfree])
  case eclipse => exact fun hidle h hbank halone => by rw [exec_eclipseTrigger hidle h, eclipseCmd_alone hbank halone]

/-! ### REG_READ and REG_WRITE (R345) -/

section Registers
variable {t : State} {r : IcpReq}

theorem regReadCmd_refused (h : num r.payload 0 4 % 4 ≠ 0 ∨ num r.payload 4 2 = 0 ∨ 1016 < num r.payload 4 2) :
    regReadCmd r t = refuse t r St.notPermitted := if_pos h

/-- Words that lie before or beyond the transfer window are read at once. -/
theorem regReadCmd_outsideWindow (hoff : num r.payload 0 4 % 4 = 0) (hlow : 1 ≤ num r.payload 4 2) (hhigh : num r.payload 4 2 ≤ 1016)
    (hout : num r.payload 0 4 + 4 * num r.payload 4 2 ≤ 0x0B100000 ∨ 0x0B200000 ≤ num r.payload 0 4) :
    let x := crsSpan regMaster 0 (4 * num r.payload 4 2 + 1) (num r.payload 0 4) (4 * num r.payload 4 2) t
    regReadCmd r t = reply x.2.2 r St.ok (fit 8 r.payload ++ x.1) := by
  have hallowed : ¬(num r.payload 0 4 % 4 ≠ 0 ∨ num r.payload 4 2 = 0 ∨ 1016 < num r.payload 4 2) := by omega
  have hwindow : ¬(num r.payload 0 4 < 0x0B200000 ∧ 0x0B100000 < num r.payload 0 4 + 4 * num r.payload 4 2) := by omega
  simp only [regReadCmd, if_neg hallowed, if_neg hwindow]

/-- Some word of a REG_WRITE is one that it never writes. -/
theorem any_regForbidden_iff (off n : Nat) :
    (List.range n).any (fun i => regForbidden (off + 4 * i)) = true ↔ ∃ i, i < n ∧ regForbidden (off + 4 * i) = true := by
  simp only [List.any_eq_true, List.mem_range]

theorem regWriteCmd_refused (h : ∃ i, i < num r.payload 4 2 ∧ regForbidden (num r.payload 0 4 + 4 * i) = true) :
    regWriteCmd r t = refuse t r St.notPermitted := if_pos (.inr ((any_regForbidden_iff _ _).mpr h))

theorem regWriteCmd_allowed (hoff : num r.payload 0 4 % 4 = 0)
    (hown : ∀ i, i < num r.payload 4 2 → regForbidden (num r.payload 0 4 + 4 * i) = false) :
    regWriteCmd r t = reply (crsWriteSpan regMaster 0 (num r.payload 4 2 + 1) (num r.payload 0 4)
      (fit (4 * num r.payload 4 2) (r.payload.drop 8)) t).2 r St.ok (fit 6 r.payload ++ zeros 2) := by
  refine if_neg (not_or.mpr ⟨not_not_intro hoff, fun h => ?_⟩)
  obtain ⟨i, hi, hf⟩ := (any_regForbidden_iff _ _).mp h
  exact absurd (hown i hi) (by simp [hf])

end Registers

theorem registerCommands : Clauses.RegisterCommands := by
  intro s t r off n
  refine ⟨?read, ?readRefused, ?write, ?writeRefused⟩
  case read => exact fun h hoff hlow hhigh hout => (whenUp_icpRun h _).trans (by rw [regReadCmd_outsideWindow hoff hlow hhigh hout]; rfl)
  case readRefused => exact fun h hbad => (whenUp_icpRun h _).trans (by rw [regReadCmd_refused hbad])
  case write => exact fun h hoff hown => (whenUp_icpRun h _).trans (by rw [regWriteCmd_allowed hoff hown]; rfl)
  case writeRefused => exact fun h hbad => (whenUp_icpRun h _).trans (by rw [regWriteCmd_refused hbad])

/-- Settles O41: a decoder that begins a request runs its command on the state in which it is outstanding (`whenUp_icpRun`,
`exec_modeActivate`), and what the command does under the hypotheses of its clause is a lemma about it. -/
theorem serviceAndRegisterCommands : Obligations.ServiceAndRegisterCommands := ⟨serviceCommands, registerCommands⟩

end Sys2Proof.Machine
end

section
/-!
The switch core: what the egress scheduler of a port picks, and the commands that let a TLP in and out (O16, O17).
-/
namespace Sys2Proof.Machine

/-! ### What the scheduler picks (R65) -/

/-- What a VC offers is the head of one of its VOQs, eligible. -/
theorem vcHead_some {s : State} {p v c : Nat} {h : Held} (hv : vcHead s p v = some (c, h)) :
    (voq s p v c).head? = some h ∧ eligible s p h = true := by
  rw [vcHead] at hv
  obtain ⟨d, -, hd⟩ := List.mem_filterMap.mp (List.mem_of_find?_eq_some hv)
  obtain ⟨g, hg, heq⟩ := Option.map_eq_some_iff.mp hd
  obtain ⟨rfl, rfl⟩ := Prod.mk.inj heq
  have heligible := List.find?_some hv
  exact ⟨hg, heligible⟩

/-- What the scheduler of a port picks is what its VC offers; another VC than VC7 is asked only when VC7 offers nothing. -/
theorem schedPick_some {s u : State} {p v c : Nat} {h : Held} (hs : schedPick s p = some (v, c, h, u)) :
    vcHead s p v = some (c, h) ∧ (v = 7 ∨ vcHead s p 7 = none) := by
  unfold schedPick at hs
  split at hs
  case h_1 h7 =>
    cases hs
    exact ⟨h7, .inl rfl⟩
  case h_2 h7 =>
    split at hs
    · cases hs
    · split at hs
      · obtain ⟨x, hx, heq⟩ := Option.map_eq_some_iff.mp hs
        cases heq
        exact ⟨hx, .inr h7⟩
      · cases hs

theorem schedulerPick : Clauses.SchedulerPick := by
  intro s u p v c h hs
  obtain ⟨hv, h7⟩ := schedPick_some hs
  exact ⟨fun hoffers => h7.resolve_right (Option.isSome_iff_ne_none.mp hoffers), vcHead_some hv⟩

theorem classRoundRobin : Clauses.ClassRoundRobin
  | 0, _ => ⟨2, 1, rfl, by decide⟩
  | 1, _ => ⟨0, 2, rfl, by decide⟩
  | 2, _ => ⟨1, 0, rfl, by decide⟩

/-- Settles O17: the scheduler turns away from VC7 only when VC7 offers nothing (`schedPick_some`), a VC offers an eligible head
(`vcHead_some`), and each of the three orders of the classes ends with the class served last. -/
theorem schedulerOrder : Obligations.SchedulerOrder := ⟨schedulerPick, classRoundRobin⟩

/-! ### TLPs that enter and leave (R52, R65) -/

/-- In a part that is up a TLP on a PCIe port whose link is up enters the stages. -/
theorem exec_tlpIngress {s : State} {p : Fin 64} (hup : up s = true) (hp : isPcie s p.val = true) (hl : portUp s p.val = true)
    (t : Tlp) (a : Arrival) : exec (.tlpIngress p t a) s = .next (after (ingress s p.val t a)) := by
  show execTlpIngress p t a s = _
  rw [execTlpIngress, finish_eq, if_pos hup, if_pos (by rw [hp, hl, Bool.and_self])]

/-- In a part that is up the scheduler of the port runs. -/
theorem exec_egressSchedule {s : State} (hup : up s = true) (p : Fin 64) : exec (.egressSchedule p) s = .next (after (egress s p.val)) := by
  show execEgressSchedule p s = _
  rw [execEgressSchedule, whenUp_up hup]

/-- A head that is not to be checked again and whose cells are read without error departs, with the cells of its VOQ as the depth; its
class is then the one served last. -/
theorem egress_departs {s u : State} {p v c : Nat} {h : Held} (hs : schedPick (countWaits s p) p = some (v, c, h, u))
    (hr : h.recheck = false) (hb : h.bad = 0) :
    egress s p = (let w := setVoq u p v c ((voq u p v c).drop 1)
      depart { w with core := { w.core with lastCls := aput w.core.lastCls (p * 8 + v) c } } p h (voqCells u p v c)) := by
  unfold egress
  simp only [hs, hr, Bool.false_eq_true, if_false, egressRead, if_pos hb]

/-- A port whose scheduler picks nothing only counts what waits. -/
theorem egress_none {s : State} {p : Nat} (hs : schedPick (countWaits s p) p = none) : egress s p = countWaits s p := by
  unfold egress
  simp only [hs]

/-- Settles O16: both commands run their operation in a part that is up (`exec_tlpIngress`, `exec_egressSchedule`); the scheduler's operation
is told by what it picks (`egress_departs`, `egress_none`). -/
theorem coreTraffic : Obligations.CoreTraffic := by
  intro s p hup
  refine ⟨?enters, ?departs, ?empty⟩
  case enters => exact fun t a hp hl => exec_tlpIngress hup hp hl t a
  case departs => exact fun v c h u hs hr hb => by rw [exec_egressSchedule hup, egress_departs hs hr hb]
  case empty => exact fun hs => by rw [exec_egressSchedule hup, egress_none hs]

end Sys2Proof.Machine
end

section
/-!
The bytes of FAM and binding entries, and the entries that they decode to (O53).
-/
namespace Sys2Proof.Machine

/-! ### Little-endian numbers and the bytes in which they stand (R7) -/

@[simp] theorem length_natLe (n v : Nat) : (natLe n v).length = n := by
  induction n generalizing v with
  | zero => rfl
  | succ n ih => rw [natLe, List.length_cons, ih]

theorem leNat_natLe (n v : Nat) : leNat (natLe n v) = v % 256 ^ n := by
  induction n generalizing v with
  | zero => rw [natLe, leNat, Nat.pow_zero, Nat.mod_one]
  | succ n ih => rw [natLe, leNat, ih, BitVec.toNat_ofNat, Nat.pow_succ' (n := n), Nat.mod_mul]

theorem leNat_lt (bs : List Byte) : leNat bs < 256 ^ bs.length := by
  induction bs with
  | nil => exact Nat.one_pos
  | cons b bs ih =>
    rw [leNat, List.length_cons, Nat.pow_succ']
    omega

theorem natLe_leNat (bs : List Byte) : natLe bs.length (leNat bs) = bs := by
  induction bs with
  | nil => rfl
  | cons b bs ih =>
    have hdiv : (b.toNat + 256 * leNat bs) / 256 = leNat bs := by omega
    have hbyte : BitVec.ofNat 8 (b.toNat + 256 * leNat bs) = b := BitVec.eq_of_toNat_eq (by rw [BitVec.toNat_ofNat]; omega)
    rw [leNat, List.length_cons, natLe, hdiv, hbyte, ih]

theorem num_lt (bs : List Byte) (o n : Nat) : num bs o n < 256 ^ n :=
  Nat.lt_of_lt_of_le (leNat_lt _) (Nat.pow_le_pow_right (by decide) (List.length_take_le _ _))

@[simp] theorem length_zeros (n : Nat) : (zeros n).length = n := List.length_replicate

/-- The first number of a string reads as it was put there. -/
theorem num_natLe_append (n v : Nat) (bs : List Byte) : num (natLe n v ++ bs) 0 n = v % 256 ^ n := by
  rw [num, List.drop_zero, List.take_left' (length_natLe n v), leNat_natLe]

theorem num_natLe (n v : Nat) : num (natLe n v) 0 n = v % 256 ^ n := by
  rw [← List.append_nil (natLe n v), num_natLe_append]

/-- A number that stands beyond the first part of a string is read from the rest. -/
theorem num_append_right {as bs : List Byte} {o n : Nat} (h : as.length ≤ o) : num (as ++ bs) o n = num bs (o - as.length) n := by
  rw [num, num, List.drop_append, List.drop_eq_nil_of_le h, List.nil_append]

/-- The bytes from an offset on are those of the number that stands there, and the rest. -/
theorem natLe_num_append_drop {bs : List Byte} {o n : Nat} (h : o + n ≤ bs.length) : natLe n (num bs o n) ++ bs.drop (o + n) = bs.drop o := by
  have hlen : ((bs.drop o).take n).length = n := by rw [List.length_take, List.length_drop]; omega
  have hnum := natLe_leNat ((bs.drop o).take n)
  rw [hlen] at hnum
  rw [num, hnum, ← List.drop_drop, List.take_append_drop]

/-! ### Fields packed in a byte (R113, R132) -/

theorem b2n_testBit (x i : Nat) : b2n (x.testBit i) = x / 2 ^ i % 2 := by
  rw [Nat.testBit_eq_decide_div_mod_eq, b2n]
  rcases Nat.mod_two_eq_zero_or_one (x / 2 ^ i) with h | h <;> simp [h]

/-- A field of two bits above one of six. -/
theorem bitsAt_pack_2_6 {k p : Nat} (hk : k < 4) (hp : p < 64) : bitsAt ((k * 64 + p) % 256) 6 2 = k ∧ bitsAt ((k * 64 + p) % 256) 0 6 = p := by
  simp only [bitsAt]
  omega

theorem pack_bitsAt_2_6 {x : Nat} (hx : x < 256) : bitsAt x 6 2 * 64 + bitsAt x 0 6 = x := by
  simp only [bitsAt]
  omega

/-- A flag in bit 7 above a field of at most six bits. -/
theorem testBit_pack_flag (v : Bool) {p : Nat} (hp : p < 64) : ((b2n v * 128 + p) % 256).testBit 7 = v := by
  rw [Nat.testBit_eq_decide_div_mod_eq]
  cases v <;> simp only [b2n, decide_eq_true_eq, decide_eq_false_iff_not, if_true, if_false, Bool.false_eq_true] <;> omega

theorem bitsAt_pack_flag (v : Bool) {p n : Nat} (hp : p < 2 ^ n) (hn : 2 ^ n ∣ 128) : bitsAt ((b2n v * 128 + p) % 256) 0 n = p := by
  have h256 : 2 ^ n ∣ 256 := Nat.dvd_trans hn (by decide)
  rw [bitsAt, Nat.pow_zero, Nat.div_one, Nat.mod_mod_of_dvd _ h256, Nat.add_mod, Nat.mod_eq_zero_of_dvd (Nat.dvd_mul_left_of_dvd hn _), Nat.zero_add, Nat.mod_mod,
    Nat.mod_eq_of_lt hp]

theorem pack_flag_bitsAt {x : Nat} (hx : x < 256) (h6 : x.testBit 6 = false) : b2n (x.testBit 7) * 128 + bitsAt x 0 6 = x := by
  have hz : x / 2 ^ 6 % 2 = 0 := by rw [← b2n_testBit, h6]; rfl
  rw [b2n_testBit, bitsAt]
  omega

/-- Five flags in the low bits of a byte. -/
theorem testBit_pack_flags : ∀ r w a x n : Bool,
    let f := (b2n r + 2 * b2n w + 4 * b2n a + 8 * b2n x + 16 * b2n n) % 256
    f.testBit 0 = r ∧ f.testBit 1 = w ∧ f.testBit 2 = a ∧ f.testBit 3 = x ∧ f.testBit 4 = n := by decide

theorem pack_flags_testBit {x : Nat} (hx : x < 256) (hr : bitsAt x 5 3 = 0) :
    b2n (x.testBit 0) + 2 * b2n (x.testBit 1) + 4 * b2n (x.testBit 2) + 8 * b2n (x.testBit 3) + 16 * b2n (x.testBit 4) = x := by
  simp only [b2n_testBit, bitsAt] at hr ⊢
  omega

/-! ### FAM entries (R132) -/

/-- Every field of a FAM entry fits the bits that its bytes have for it, windows and bases at 4 KiB. -/
structure FamEnt.Fits (e : FamEnt) : Prop where
  win_aligned : e.win % 4096 = 0
  win : e.win < 2 ^ 64
  remoteBase_aligned : e.remoteBase % 4096 = 0
  remoteBase : e.remoteBase < 2 ^ 64
  kind : e.kind < 4
  size : e.size < 64
  port : e.port < 64
  node : e.node < 4096
  nodeMask : e.nodeMask < 4096
  vsw : e.vsw < 32
  proxyRid : e.proxyRid < 2 ^ 16
  owner : e.owner < 4096
  user : e.user < 2 ^ 32

theorem famRead_fits (b : List Byte) : (famRead b).Fits where
  win_aligned := Nat.mul_mod_left _ _
  win := Nat.lt_of_le_of_lt (Nat.div_mul_le_self _ _) (num_lt b 0 8)
  remoteBase_aligned := Nat.mul_mod_left _ _
  remoteBase := Nat.lt_of_le_of_lt (Nat.div_mul_le_self _ _) (num_lt b 8 8)
  kind := Nat.mod_lt _ (by decide)
  size := Nat.mod_lt _ (by decide)
  port := Nat.mod_lt _ (by decide)
  node := Nat.mod_lt _ (by decide)
  nodeMask := Nat.mod_lt _ (by decide)
  vsw := Nat.mod_lt _ (by decide)
  proxyRid := num_lt b 24 2
  owner := Nat.mod_lt _ (by decide)
  user := num_lt b 28 4

/-- What stands where in the 32 bytes of an entry. -/
theorem FamEnt.num_bytes (e : FamEnt) :
    num e.bytes 0 8 = e.win % 2 ^ 64 ∧ num e.bytes 8 8 = e.remoteBase % 2 ^ 64 ∧ num e.bytes 16 1 = (e.kind * 64 + e.size) % 256 ∧
    num e.bytes 17 1 = (b2n e.valid * 128 + e.port) % 256 ∧ num e.bytes 18 2 = e.node % 2 ^ 16 ∧ num e.bytes 20 2 = e.nodeMask % 2 ^ 16 ∧
    num e.bytes 22 1 = e.vsw % 256 ∧
    num e.bytes 23 1 = (b2n e.read + 2 * b2n e.write + 4 * b2n e.atomic + 8 * b2n e.xlat + 16 * b2n e.noSpray) % 256 ∧
    num e.bytes 24 2 = e.proxyRid % 2 ^ 16 ∧ num e.bytes 26 2 = e.owner % 2 ^ 16 ∧ num e.bytes 28 4 = e.user % 2 ^ 32 := by
  simp only [FamEnt.bytes, List.append_assoc, num_append_right, num_natLe_append, num_natLe, length_natLe, Nat.reduceLeDiff, Nat.reduceSub, Nat.reducePow,
    Nat.le_refl, Nat.sub_self, and_self]

theorem famRead_bytes {e : FamEnt} (h : e.Fits) : famRead e.bytes = e := by
  obtain ⟨hwin, hbase, hkind, hvalid, hnode, hmask, hvsw, hflags, hrid, howner, huser⟩ := e.num_bytes
  have ⟨hread, hwrite, hatomic, hxlat, hspray⟩ := testBit_pack_flags e.read e.write e.atomic e.xlat e.noSpray
  have ⟨hk, hs⟩ := bitsAt_pack_2_6 h.kind h.size
  rw [famRead]
  simp only [byteBits, bitAt, hwin, hbase, hkind, hvalid, hnode, hmask, hvsw, hflags, hrid, howner, huser, hk, hs, hread, hwrite, hatomic, hxlat, hspray,
    testBit_pack_flag e.valid h.port, bitsAt_pack_flag e.valid (n := 6) h.port (by decide)]
  cases e
  cases h
  simp only [bitsAt, FamEnt.mk.injEq, true_and] at *
  omega

/-- The numbers of a string whose reserved fields are 0 are packed again as they stood. -/
theorem bytes_famRead_eq {b : List Byte} (h : famReservedSet b = false) :
    (famRead b).bytes = natLe 8 (num b 0 8) ++ (natLe 8 (num b 8 8) ++ (natLe 1 (num b 16 1) ++ (natLe 1 (num b 17 1) ++ (natLe 2 (num b 18 2) ++
      (natLe 2 (num b 20 2) ++ (natLe 1 (num b 22 1) ++ (natLe 1 (num b 23 1) ++ (natLe 2 (num b 24 2) ++ (natLe 2 (num b 26 2) ++
      natLe 4 (num b 28 4)))))))))) := by
  simp only [famReservedSet, Bool.or_eq_false_iff, bne_eq_false_iff_eq, decide_eq_false_iff_not, Nat.not_le] at h
  obtain ⟨⟨⟨⟨⟨⟨⟨hwin, hbase⟩, hbit⟩, hnode⟩, hmask⟩, hvsw⟩, hflags⟩, howner⟩ := h
  have hwhole {x : Nat} (hx : x % 4096 = 0) : x / 4096 * 4096 = x := Nat.div_mul_cancel (Nat.dvd_of_mod_eq_zero hx)
  have hv : bitsAt (num b 22 1) 0 5 = num b 22 1 := by
    have := num_lt b 22 1
    simp only [byteBits, bitsAt] at hvsw ⊢
    omega
  simp only [FamEnt.bytes, famRead, hwhole hwin, hwhole hbase, Nat.mod_eq_of_lt hnode, Nat.mod_eq_of_lt hmask, Nat.mod_eq_of_lt howner, byteBits, bitAt, hv,
    pack_bitsAt_2_6 (num_lt b 16 1), pack_flag_bitsAt (num_lt b 17 1) hbit, pack_flags_testBit (num_lt b 23 1) hflags, List.append_assoc]

theorem bytes_famRead {b : List Byte} (hlen : b.length = 32) (h : famReservedSet b = false) : (famRead b).bytes = b := by
  have hchunk {o n : Nat} (hle : o + n ≤ 32) : natLe n (num b o n) ++ b.drop (o + n) = b.drop o := natLe_num_append_drop (hlen ▸ hle)
  have hend : natLe 4 (num b 28 4) = b.drop 28 := by
    rw [← hchunk (o := 28) (n := 4) (by decide), List.drop_eq_nil_of_le (hlen ▸ (by decide : 32 ≤ 28 + 4)), List.append_nil]
  rw [bytes_famRead_eq h, hend]
  rw [hchunk (o := 26) (by decide), hchunk (o := 24) (by decide), hchunk (o := 23) (by decide), hchunk (o := 22) (by decide), hchunk (o := 20) (by decide),
    hchunk (o := 18) (by decide), hchunk (o := 17) (by decide), hchunk (o := 16) (by decide), hchunk (o := 8) (by decide), hchunk (o := 0) (by decide),
    List.drop_zero]

/-! ### Binding entries (R113) -/

/-- Every field of a binding entry fits the bits that its bytes have for it. -/
structure BindEnt.Fits (e : BindEnt) : Prop where
  devRid : e.devRid < 2 ^ 16
  kind : e.kind < 4
  port : e.port < 64
  vsw : e.vsw < 32
  bridge : e.bridge < 64
  hostDevfn : e.hostDevfn < 256
  owner : e.owner < 4096

theorem bindRead_fits (b : List Byte) : (bindRead b).Fits where
  devRid := num_lt b 0 2
  kind := Nat.mod_lt _ (by decide)
  port := Nat.mod_lt _ (by decide)
  vsw := Nat.mod_lt _ (by decide)
  bridge := Nat.mod_lt _ (by decide)
  hostDevfn := num_lt b 5 1
  owner := Nat.mod_lt _ (by decide)

/-- What stands where in the 16 bytes of an entry. -/
theorem BindEnt.num_bytes (e : BindEnt) :
    num e.bytes 0 2 = e.devRid % 2 ^ 16 ∧ num e.bytes 2 1 = (e.kind * 64 + e.port) % 256 ∧ num e.bytes 3 1 = (b2n e.valid * 128 + e.vsw) % 256 ∧
    num e.bytes 4 1 = e.bridge % 256 ∧ num e.bytes 5 1 = e.hostDevfn % 256 ∧ num e.bytes 6 1 = b2n e.pfShared % 256 ∧
    num e.bytes 8 2 = e.owner % 2 ^ 16 := by
  simp only [BindEnt.bytes, List.append_assoc, num_append_right, num_natLe_append, length_natLe, length_zeros, Nat.reduceLeDiff, Nat.reduceSub,
    Nat.reducePow, Nat.le_refl, Nat.sub_self, and_self]

theorem bindRead_bytes {e : BindEnt} (h : e.Fits) : bindRead e.bytes = e := by
  obtain ⟨hrid, hkind, hvalid, hbridge, hdevfn, hshared, howner⟩ := e.num_bytes
  have ⟨hk, hp⟩ := bitsAt_pack_2_6 h.kind h.port
  have hpf : (b2n e.pfShared % 256).testBit 0 = e.pfShared := by cases e.pfShared <;> rfl
  rw [bindRead]
  simp only [byteBits, bitAt, hrid, hkind, hvalid, hbridge, hdevfn, hshared, howner, hk, hp, hpf,
    testBit_pack_flag e.valid (Nat.lt_trans h.vsw (by decide)), bitsAt_pack_flag e.valid (n := 5) h.vsw (by decide)]
  cases e
  cases h
  simp only [bitsAt, BindEnt.mk.injEq, true_and] at *
  omega

/-- Settles O53: the bytes of an entry hold its fields packed (`FamEnt.num_bytes`, `BindEnt.num_bytes`), and what is read always fits
its fields (`famRead_fits`, `bindRead_fits`). -/
theorem tableEntriesReadBack : Obligations.TableEntriesReadBack :=
  ⟨fun _ => bytes_famRead, fun b => famRead_bytes (famRead_fits b), fun b => bindRead_bytes (bindRead_fits b),
   fun _ h1 h2 h3 h4 h5 h6 h7 h8 h9 h10 h11 h12 h13 => famRead_bytes ⟨h1, h2, h3, h4, h5, h6, h7, h8, h9, h10, h11, h12, h13⟩,
   fun _ h1 h2 h3 h4 h5 h6 h7 => bindRead_bytes ⟨h1, h2, h3, h4, h5, h6, h7⟩⟩

end Sys2Proof.Machine
end

section
/-!
What a host writes at the functions of its vSwitch, and its configuration requests (O24).
-/
namespace Sys2Proof.Machine

/-! ### What a host writes at a function (R103, R119, R124, R125, R244, R254, R285, R303, R307) -/

theorem fnBridge_ne_mover (k : Nat) : fnBridge k ≠ fnMover := by
  simp only [fnBridge, fnMover]
  omega

theorem fnBridge_ne_up (k : Nat) : fnBridge k ≠ fnUp := by
  simp only [fnBridge, fnUp]
  omega

/-- In a part that is up a host's write to a function that it reaches takes effect. -/
theorem whenUp_reached {s : State} {v fn : Nat} (hup : up s = true) (hr : hostReaches s v fn = true) (f : State → State) :
    whenUp s (fun s => if hostReaches s v fn then f s else s) = .next (after (f s)) := by
  rw [whenUp_up hup, if_pos hr]

/-- Of the functions of a vSwitch only the Mover PF has more to do when its Bus Master Enable is cleared. -/
theorem bmeClear_of_ne_mover {s : State} {v fn : Nat} (h : fn ≠ fnMover) :
    bmeClear s v fn = s.modFunc v fn (fun f => { f with command := clearBit f.command 2 }) := by
  rw [bmeClear, if_neg h]

theorem setD3_mover_entry {s : State} {v : Nat} (h : (s.func v fnMover).d3hot = false) :
    setD3 s v fnMover true = mvBmeClear (s.modFunc v fnMover (fun f => { f with d3hot := true })) v := by
  simp only [setD3, h, Bool.not_false, beq_self_eq_true, Bool.and_self, if_true]

theorem flrHost_hit {s : State} {v rid j : Nat} {e : BindEnt}
    (hj : (bridges s v).find? (fun k => isComposed s v k && (s.func v (fnBridge k)).secBus == rid / 256 % 256 && rid / 256 % 256 != 0) = some j)
    (he : devfnHit s v j (rid % 256) = some e) (hg : guarded s e = false) : flrHost s v rid = emit s (.flr e.port e.devRid) := by
  simp only [flrHost, hj, he, flrBound, hg, Bool.false_eq_true, if_false]

theorem busReset_bridge (s : State) (v k : Nat) : busReset s v (fnBridge k) = secondaryReset s v k := by
  rw [busReset, if_neg (fnBridge_ne_up k), Nat.add_sub_cancel_left]

theorem linkDisable_first {s : State} {v k : Nat} (hd : isDirect s v k = true) (hl : (s.func v (fnBridge k)).linkDisabled = false) :
    linkDisable s v k true =
      portDisabled (s.modFunc v (fnBridge k) (fun f => { f with linkDisabled := true })) (bridgePort s v k) 0x06 false := by
  simp only [linkDisable, hd, hl, Bool.not_true, Bool.not_false, Bool.and_self, Bool.false_eq_true, if_false, if_true]

theorem slotPower_direct {s : State} {v k : Nat} (hd : isDirect s v k = true) (power : Nat) (ind : Option (Nat × Nat)) :
    slotPower s v k power ind = slotControl s v k power ind := by
  rw [slotPower, if_pos hd]

/-- Where no enable of the Mover PF was set, none is lost. -/
theorem pfEnables_of_none {s : State} {v enables : Nat} (h0 : (s.func v fnMover).ats = 0) (h8 : enables < 8) :
    pfEnables s v enables = s.modFunc v fnMover (fun f => { f with ats := enables }) := by
  have hlost : ((List.range 3).any fun _ => false) = false := rfl
  simp only [pfEnables, h0, Nat.zero_testBit, Bool.false_and, hlost, Bool.false_eq_true, if_false, Nat.mod_eq_of_lt h8]

theorem hostWrites : Clauses.HostWrites := by
  intro s v k hup hk hon hlink hdirect hfn
  have hreach {fn : Nat} (h : fn ∈ [fnUp, fnMgmt, fnMover, fnBridge k]) : hostReaches s v.val fn = true := by
    rw [hostReaches, hon, hlink, hfn fn h]; rfl
  have hUp : hostReaches s v.val fnUp = true := hreach (by simp)
  have hMgmt : hostReaches s v.val fnMgmt = true := hreach (by simp)
  have hMover : hostReaches s v.val fnMover = true := hreach (by simp)
  have hBridge : hostReaches s v.val (fnBridge k) = true := hreach (by simp)
  refine ⟨?config, ?acs, ?bme, ?d3, ?flr, ?flrMover, ?flrMgmt, ?busReset, ?dpc, ?linkDisable, ?retrain, ?slotOn, ?slotOff, ?indicators, ?enables⟩
  case config =>
    intro r
    show execConfigRequest v r s = _
    rw [execConfigRequest, finish_eq, if_pos hup, hostConfig, hon, hlink]
    rfl
  case acs => exact fun acs vec => whenUp_reached hup hBridge (acsChange · v.val (fnBridge k) acs vec)
  case bme =>
    intro hb
    show execBmeClear v (fnBridge k) s = _
    rw [execBmeClear, whenUp_up hup, if_pos (by rw [hBridge, hb, Bool.and_self]), bmeClear_of_ne_mover (fnBridge_ne_mover k)]
  case d3 => exact fun h => setD3_mover_entry h ▸ whenUp_reached hup hMover (setD3 · v.val fnMover true)
  case flr => exact fun rid j e hj he hg => flrHost_hit hj he hg ▸ whenUp_reached hup hUp (flrHost · v.val rid)
  case flrMover => exact whenUp_reached hup hMover (flrOwn · v.val fnMover)
  case flrMgmt => exact whenUp_reached hup hMgmt (flrOwn · v.val fnMgmt)
  case busReset => exact busReset_bridge s v.val k ▸ whenUp_reached hup hBridge (busReset · v.val (fnBridge k))
  case dpc => exact fun _ => whenUp_reached hup hBridge (dpcClear · v.val k)
  case linkDisable => exact fun h => linkDisable_first hdirect h ▸ whenUp_reached hup hBridge (linkDisable · v.val k true)
  case retrain =>
    intro speed
    show execRetrainLinkWrite v k speed s = _
    rw [execRetrainLinkWrite]
    simp only [if_pos hk]
    exact whenUp_reached hup hBridge (fun s => retrainFn (targetSpeed s v.val (fnBridge k) speed) v.val (fnBridge k))
  case slotOn => exact slotPower_direct hdirect 1 none ▸ whenUp_reached hup hBridge (slotPower · v.val k 1 none)
  case slotOff => exact slotPower_direct hdirect 2 none ▸ whenUp_reached hup hBridge (slotPower · v.val k 2 none)
  case indicators =>
    exact fun attn power => slotPower_direct hdirect 0 (some (attn.val, power.val)) ▸
      whenUp_reached hup hBridge (slotPower · v.val k 0 (some (attn.val, power.val)))
  case enables => exact fun h0 e h8 => pfEnables_of_none h0 h8 ▸ whenUp_reached hup hMover (pfEnables · v.val e)

/-! ### Configuration requests (R103, R109, R127) -/

/-- A TLP that carries a configuration request is one of its two kinds. -/
theorem isCfg_op {t : Tlp} (h : isCfg t = true) : ∃ type1, t.op = .cfgRead type1 ∨ t.op = .cfgWrite type1 := by
  unfold isCfg at h
  split at h
  · exact ⟨_, .inl ‹_›⟩
  · exact ⟨_, .inr ‹_›⟩
  · exact absurd h Bool.false_ne_true

theorem lookup_cfg {t : Tlp} (h : isCfg t = true) (s : State) (v : Nat) (o : Origin) : lookup s v o t = routeCfg s v o t := by
  obtain ⟨b, hop | hop⟩ := isCfg_op h <;> rw [lookup, hop]

theorem routeCfg_own {s : State} {v : Nat} {t : Tlp} (h1 : (cfgOf t).type1 = false) (hdev : (cfgOf t).dev = 0) (hfn : (cfgOf t).fn < 3)
    (hex : fnExists s v (cfgOf t).fn = true) : routeCfg s v .host t = .cfg := by
  unfold routeCfg
  simp only [h1, hdev, hfn, hex, ne_eq, not_true_eq_false, if_false, Bool.not_false, and_self, if_true, ite_self]

/-- Stage 4 lets a host's configuration request to a function of the part pass. -/
theorem checkFail_cfg {s : State} {v : Nat} {h : Held} (hc : isCfg h.tlp = true) (hr : refuses s v = false) : checkFail s v .host h .cfg = none := by
  simp only [checkFail, refused, hc, hr, if_true, Bool.false_and, Bool.false_eq_true, if_false, acsEntry, entryBlocks]

theorem request_cfg {s : State} {v : Nat} {h : Held} (hc : isCfg h.tlp = true) (h1 : (cfgOf h.tlp).type1 = false) (hdev : (cfgOf h.tlp).dev = 0)
    (hfn : (cfgOf h.tlp).fn < 3) (hex : fnExists s v (cfgOf h.tlp).fn = true) (hr : refuses s v = false)
    (hctx : ctxLacks s { h with org := some .host } = false) :
    request s v .host h = deliverFn s { h with org := some .host } (.cfg v (cfgOf h.tlp)) := by
  have hop : h.tlp.op ≠ .memReadLocked := by
    obtain ⟨b, hop | hop⟩ := isCfg_op hc <;> rw [hop] <;> simp
  have hpass : serviceAllows h.tlp .cfg = true := hc
  have hcheck : checkFail s v .host { h with org := some .host } .cfg = none := checkFail_cfg hc hr
  simp only [request, lookup_cfg hc, routeCfg_own h1 hdev hfn hex, hpass, hop, hctx, hcheck, not_true_eq_false, and_false, Bool.false_eq_true, if_false]

theorem cfgRequest_unready {s : State} {v : Nat} (hv : vswReady s v = false) (r : CfgReq) (h : Held) :
    cfgRequest s v r h = cfgAnswer s v fnUp h 2 [] := by
  simp only [cfgRequest, hv, Bool.not_false, if_true]

theorem cfgRequest_own {s : State} {v : Nat} {r : CfgReq} (hv : vswReady s v = true) (h1 : r.type1 = false) (h : Held) :
    cfgRequest s v r h = cfgOwn s v r.fn r h := by
  simp only [cfgRequest, hv, h1, Bool.not_true, Bool.not_false, Bool.false_eq_true, if_false, if_true]

theorem cfgOwn_read {r : CfgReq} (hw : r.write = false) (s : State) (v fn : Nat) (h : Held) :
    cfgOwn s v fn r h = cfgAnswer s v fn h 0 (natLe 4 (cfgRead s v fn r.reg)) := by
  simp only [cfgOwn, hw, Bool.false_eq_true, if_false]

theorem cfgOwn_write {r : CfgReq} (hw : r.write = true) (s : State) (v fn : Nat) (h : Held) :
    cfgOwn s v fn r h = cfgAnswer (cfgWrite s v fn r.reg r.be r.data) v fn h 0 [] := by
  simp only [cfgOwn, hw, if_true]

theorem configurationRequests : Clauses.ConfigurationRequests := by
  intro s v h r
  refine ⟨?passes, ?retry, ?answers⟩
  case passes => exact request_cfg
  case retry => exact fun hv => cfgRequest_unready hv r h
  case answers =>
    intro hv h1
    have howns : localDo s (.cfg v r h) = cfgOwn s v r.fn r h := cfgRequest_own hv h1 h
    exact ⟨fun hw => howns.trans (cfgOwn_read hw s v r.fn h), fun hw => howns.trans (cfgOwn_write hw s v r.fn h)⟩

/-- Settles O24: a host's write meets a function that it reaches (`whenUp_reached`), and its configuration request stage 3 routes to the
function itself (`routeCfg_own`), stage 4 lets it pass (`checkFail_cfg`), and the function answers it (`cfgRequest_own`). -/
theorem hostCommands : Obligations.HostCommands := ⟨hostWrites, configurationRequests⟩

end Sys2Proof.Machine
end

section
/-!
Contexts that end and tags given out (O20), epochs and rule changes (O21), and the ICP commands of tables and epochs (O37).
-/
namespace Sys2Proof.Machine

/-! ### A context that ends (R149, R150) -/

/-- A context is taken out of the table, and the generation of its ID goes up by one modulo 16. -/
def ctxRemove (s : State) (i : Nat) (c : CtxEnt) : State :=
  { s with fab := { s.fab with ctxs := adel s.fab.ctxs i, gens := aset 0 s.fab.gens i ((c.gen + 1) % 16) } }

/-- When a tag of a port that is quarantined now is free again: after QUAR_TIME, 0 acting as 1. -/
def tagFreeAt (s : State) (p : Nat) : Nat := s.time + ms (max 1 (getF s (Reg.CTX_PORT_CFG p) Fld.CTX_PORT_CFG_QUAR_TIME))

/-- A tag of a port is quarantined. -/
def quarantineTag (s : State) (p tag : Nat) : State :=
  { s with fab := { s.fab with quarantine := aput s.fab.quarantine (p * 16384 + tag) (tagFreeAt s p) } }

section ContextFree
variable {s : State} {i : Nat} {c : CtxEnt} (h : ctx s i = some c)
include h

/-- A remapped tag of a PCIe port that no completion freed is quarantined. -/
theorem ctxFree_quarantines {tag : Nat} (htag : c.outTag = some tag) (hport : c.outCalez = false) :
    ctxFree s i false = quarantineTag (ctxRemove s i c) c.outPort tag := by
  simp only [ctxFree, h, htag, hport, Bool.or_self, Bool.false_eq_true, if_false]
  rfl

/-- Its completions free a context's tag at once. -/
theorem ctxFree_byCompletion : ctxFree s i true = ctxRemove s i c := by
  simp only [ctxFree, h, Bool.true_or, if_true]
  split <;> rfl

/-- A context that ends is removed, and beyond that the quarantine changes at most. -/
theorem ctxFree_removes (byCpl : Bool) :
    ∃ q, ctxFree s i byCpl = { ctxRemove s i c with fab := { (ctxRemove s i c).fab with quarantine := q } } := by
  simp only [ctxFree, h]
  split
  · split <;> exact ⟨_, rfl⟩
  · exact ⟨_, rfl⟩

end ContextFree

theorem contextEnds : Clauses.ContextEnds := by
  intro s i c byCpl h
  obtain ⟨q, hremoved⟩ := ctxFree_removes h byCpl
  refine ⟨?gone, ?others, ?generation, ?quarantined, ?freed, ?regs, ?mem, ?core, ?out⟩
  case gone => rw [hremoved]; exact aget_adel_self _ _
  case others => exact fun j hj => by rw [hremoved]; exact aget_adel_ne hj
  case generation => rw [hremoved]; exact (agetD_aset _ _ _ _ _).trans (if_pos rfl)
  case quarantined =>
    rintro tag htag rfl hport
    rw [ctxFree_quarantines h htag hport]
    exact aget_aput_self _ _ _
  case freed =>
    rintro rfl
    rw [ctxFree_byCompletion h]
    rfl
  all_goals rw [hremoved]; rfl

/-! ### A tag given out (R147) -/

/-- The tags that open contexts hold at a PCIe port. -/
def usedTags (s : State) (p : Nat) : List Nat := s.fab.ctxs.filterMap (fun e => if e.2.outPort = p ∧ !e.2.outCalez then e.2.outTag else none)

theorem mem_usedTags {s : State} {e : Nat × CtxEnt} {p tag : Nat} (he : e ∈ s.fab.ctxs) (hp : e.2.outPort = p) (hc : e.2.outCalez = false)
    (ht : e.2.outTag = some tag) : tag ∈ usedTags s p :=
  List.mem_filterMap.mpr ⟨e, he, by simp [hp, hc, ht]⟩

theorem freeTag_eq (s : State) (p : Nat) : freeTag s p =
    (List.range (tagPool s p)).find? (fun t => !(usedTags s p).contains t && (aget s.fab.quarantine (p * 16384 + t)).isNone) := rfl

theorem freeTag_is_free {s : State} {p tag : Nat} (h : freeTag s p = some tag) :
    tag < tagPool s p ∧ tag ∉ usedTags s p ∧ aget s.fab.quarantine (p * 16384 + tag) = none := by
  rw [freeTag_eq] at h
  have hfree := List.find?_some h
  obtain ⟨hunused, hquar⟩ := Bool.and_eq_true_iff.mp hfree
  exact ⟨List.mem_range.mp (List.mem_of_find?_eq_some h), by simpa using hunused, Option.isNone_iff_eq_none.mp hquar⟩

theorem freeTagUnused : Clauses.FreeTagUnused := by
  intro s p tag h
  obtain ⟨hpool, hunused, hquar⟩ := freeTag_is_free h
  exact ⟨hpool, hquar, fun e he hp hc ht => hunused (mem_usedTags he hp hc ht)⟩

/-- Settles O20: what the end of a context changes is its removal (`ctxRemove`) and, for a remapped tag, `quarantineTag`; a free tag is the
first of the pool that no context's tag and no quarantine excludes. -/
theorem contextsAndTags : Obligations.ContextsAndTags := ⟨contextEnds, freeTagUnused⟩

/-! ### Epochs and rule changes (R161, R162, R164) -/

theorem slotHolds_eq_false {s : State} : slotHolds s = false ↔ epochCount s ((epoch s + 1) % 4) = 0 := bne_eq_false_iff_eq

theorem ruleChange_now {s : State} {c : RuleChange} (hw : s.fab.waiting = []) (hs : epochCount s ((epoch s + 1) % 4) = 0) :
    ruleChange s c = ruleApply s c := by
  simp only [ruleChange, hw, slotHolds_eq_false.mpr hs, List.isEmpty_nil, Bool.not_false, Bool.and_self, if_true]

theorem ruleChange_waits {s : State} {c : RuleChange} (h : s.fab.waiting ≠ [] ∨ epochCount s ((epoch s + 1) % 4) ≠ 0) :
    ruleChange s c = { s with fab := { s.fab with waiting := s.fab.waiting ++ [c] } } := by
  refine if_neg fun hnow => ?_
  rw [Bool.and_eq_true, List.isEmpty_iff, Bool.not_eq_true', slotHolds_eq_false] at hnow
  exact h.elim (· hnow.1) (· hnow.2)

theorem ruleChangesInOrder : Clauses.RuleChangesInOrder := fun _ _ => ⟨ruleChange_now, ruleChange_waits⟩

/-- The only change that waits is made when its slot drains. -/
theorem slotDrained_last {s : State} {c : RuleChange} (h : s.fab.waiting = [c]) :
    slotDrained s = ruleApply { s with fab := { s.fab with waiting := [] } } c := by
  simp only [slotDrained, h, List.length_nil, ruleDrain]

theorem syncExpiry_oldest {s : State} {e : Nat}
    (h : (((queuedHeld s).filter (fun h => h.flaggable && !h.uncounted && decide (stampOf s h < epoch s))).map (stampOf s)).min? = some e) :
    syncExpiry s = flagRecheck s (fun h => !h.uncounted && stampOf s h == e) := by
  simp only [syncExpiry, h]

/-- The only EPOCH_SYNC that waits, for this part alone, replies once its target is reached. -/
theorem syncDone_last {s : State} {w : EpochWait} (hw : s.fab.syncs = [w]) (hs : synced s w.target = true) (hb : w.both = false) :
    syncDone s = reply { s with fab := { s.fab with syncs := [] } } w.req St.ok
      (natLe 4 (epoch s) ++ natLe 4 (min 0xFFFFFFFF (s.fab.flagged - w.from_ + w.twinFlagged))) := by
  have hfind : s.fab.syncs.find? (fun w => synced s w.target && (!w.both || w.twinDone)) = some w := by
    rw [hw]
    exact List.find?_cons_of_pos (by simp [hs, hb])
  simp only [syncDone, hfind]
  rw [syncReply, hw, List.erase_cons_head]
  rfl

theorem epochCommands : Clauses.EpochCommands := by
  intro s hup
  refine ⟨?drained, ?limit, ?reply⟩
  case drained => exact fun c hc => (whenUp_up hup _).trans (by rw [slotDrained_last hc])
  case limit => exact fun e he => (whenUp_up hup _).trans (by rw [syncExpiry_oldest he])
  case reply => exact fun w hw hs hb => (whenUp_up hup _).trans (by rw [syncDone_last hw hs hb])

/-- Settles O21: each epoch row runs its operation in a part that is up, on the only entry of its queue or the oldest epoch left, and
`ruleChange` branches on the queue and on the slot alone. -/
theorem epochsAndRules : Obligations.EpochsAndRules := ⟨epochCommands, ruleChangesInOrder⟩

/-! ### Table commands and EPOCH_SYNC outside mode 4 (R164, R165, R338, R339, R454) -/

theorem tableStore_denied {s : State} {kind a : Nat} {p : List Byte} (h : tableDenied s kind p = some a) (coord : Bool) (req : Option IcpReq) :
    tableStore s kind coord req p = tableFail s kind a req := by
  simp only [tableStore, h]

section TableCommands
variable {t : State} {r : IcpReq} (hm : mode t ≠ 4)
include hm

/-- A record that is refused ends the command before the table store is reached. -/
theorem tableWrite_refused {kind i : Nat} (h : tableRefused t kind true r.payload = some i) :
    tableWrite kind r t = reply t r St.notPermitted (tablePayload t r.opcode i) := by
  simp only [tableWrite, hm, h, ne_eq, not_false_eq_true, if_true]

/-- With no record refused the command goes to the table store. -/
theorem tableWrite_checked {kind : Nat} (h : tableRefused t kind true r.payload = none) :
    tableWrite kind r t = tableStore t kind true (some r) r.payload := by
  simp only [tableWrite, hm, h, ne_eq, not_false_eq_true, if_true]

theorem tableStore_allowed {kind : Nat} {coord : Bool} {req : Option IcpReq} {p : List Byte} (h : tableDenied t kind p = none) :
    tableStore t kind coord req p = liveApply t kind coord req p := by
  simp only [tableStore, h, if_neg hm]

/-- An EPOCH_SYNC whose target lies not beyond the epoch in force waits behind those that wait. -/
theorem epochSync_waits (h : num r.payload 0 4 ≤ epoch t) :
    epochSync r t = { t with fab := { t.fab with syncs := t.fab.syncs ++
      [⟨r, if num r.payload 0 4 = 0 then epoch t else num r.payload 0 4, t.fab.flagged, false, false, 0⟩] } } := by
  have hm4 : (mode t == 4) = false := beq_false_of_ne hm
  simp only [epochSync, hm, hm4, if_neg (Nat.not_lt.mpr h), Bool.false_and, Bool.false_eq_true, false_and, if_false]

end TableCommands

/-- A table command that no transaction of the pair holds back is carried out. -/
theorem whenUp_tableCommand {s t : State} {r : IcpReq} {o : Nat} (hw : tableWaits s = false) (h : Runs s .fw o r t) (kind : Nat) :
    whenUp s (fun s => tableCommand s o kind) = .next (after (tableWrite kind r t)) := by
  rw [whenUp_up h.1.up, tableCommand, if_neg (by simp [hw]), icpRun_runs h]

/-- What a table command of any kind does outside mode 4: applied, denied by the large MPU, or refused at a record. -/
theorem tableCommand_outcomes {s t : State} {r : IcpReq} {o : Nat} (hw : tableWaits s = false) (hm : mode t ≠ 4) (h : Runs s .fw o r t) (kind : Nat) :
    let x := whenUp s (fun s => tableCommand s o kind)
    (tableRefused t kind true r.payload = none → tableDenied t kind r.payload = none → x = .next (after (liveApply t kind true (some r) r.payload))) ∧
    (∀ a, tableRefused t kind true r.payload = none → tableDenied t kind r.payload = some a → x = .next (after (tableFail t kind a (some r)))) ∧
    ∀ i, tableRefused t kind true r.payload = some i → x = .next (after (reply t r St.notPermitted (tablePayload t r.opcode i))) := by
  dsimp only
  rw [whenUp_tableCommand hw h]
  exact ⟨fun hr hd => by rw [tableWrite_checked hm hr, tableStore_allowed hm hd],
    fun a hr hd => by rw [tableWrite_checked hm hr, tableStore_denied hd],
    fun i hr => by rw [tableWrite_refused hm hr]⟩

/-- Route entries are read from the live table, at most 63 in one reply. -/
theorem tableRead_routes {t : State} {r : IcpReq} (htable : num r.payload 0 1 = 2) (hlive : bitAt r.payload 1 0 = false)
    (hfirst : num r.payload 4 4 < 4096) :
    tableRead r t = (let n := min (num r.payload 8 2) (min 63 (4096 - num r.payload 4 4))
      reply t r St.ok (natLe 2 n ++ zeros 6 ++ (List.range n).flatMap (fun i => routeBytes t (num r.payload 4 4 + i)))) := by
  have hallowed : ¬(5 < 2 ∨ 4096 ≤ num r.payload 4 4 ∨ (false = true ∧ (2 < 2 ∨ mode t ≠ 4))) := by
    simp [Nat.not_le.mpr hfirst]
  simp only [tableRead, htable, hlive, tableShape, tableEntry]
  exact if_neg hallowed

/-- Settles O37: the three table writes are one command over the kind of table (`tableCommand_outcomes`), of which every record is checked
(`tableWrite_refused`) before the table store is reached (`tableWrite_checked`). -/
theorem tableCommands : Obligations.TableCommands := by
  intro s t r hw hm
  refine ⟨?bind, ?fam, ?route, ?read, ?sync⟩
  case bind => exact fun h => tableCommand_outcomes hw hm h 2
  case fam => exact fun h => tableCommand_outcomes hw hm h 0
  case route => exact fun h => tableCommand_outcomes hw hm h 1
  case read => exact fun h htable hlive hfirst => (whenUp_icpRun h _).trans (by rw [tableRead_routes htable hlive hfirst])
  case sync => exact fun h htarget => (whenUp_icpRun h _).trans (by rw [epochSync_waits hm htarget])

end Sys2Proof.Machine
end

section
/-!
Changes of a Calez link's state and what they leave as it reads, and the PARAM result of two offers (O14).
-/
namespace Sys2Proof.Machine

/-! ### The table of links -/

/-- Of two writes of one key the second stands. -/
theorem aput_aput {α : Type} (t : Assoc α) (k : Nat) (v w : α) : aput (aput t k v) k w = aput t k w := by
  induction t with
  | nil => simp [aput]
  | cons e t ih =>
    obtain ⟨a, x⟩ := e
    rcases Nat.lt_trichotomy k a with h | rfl | h
    · simp [aput, h]
    · simp [aput]
    · simp [aput, Nat.not_lt.mpr (Nat.le_of_lt h), Nat.ne_of_gt h, ih]

@[simp] theorem link_modLink_self (s : State) (n : Nat) (f : Link → Link) : (s.modLink n f).link n = f (s.link n) := by
  rw [link_modLink, if_pos rfl]

/-- Two changes of one link are one change. -/
theorem modLink_modLink (s : State) (n : Nat) (f g : Link → Link) : (s.modLink n f).modLink n g = s.modLink n (fun l => g (f l)) := by
  rw [State.modLink, link_modLink_self]
  simp only [State.modLink, State.setLink, aput_aput]

/-! ### What a change of a link leaves as it reads -/

section Reads
variable (s : State) (n m : Nat) (f : Link → Link)

@[simp] theorem getF_modLink (k : Nat) (x : Field) : getF (s.modLink n f) k x = getF s k x := rfl
@[simp] theorem isSet_modLink (k : Nat) (x : Field) : isSet (s.modLink n f) k x = isSet s k x := rfl
@[simp] theorem czState_modLink : czState (s.modLink n f) m = czState s m := rfl
@[simp] theorem czActive_modLink : czActive (s.modLink n f) m = czActive s m := rfl
@[simp] theorem czLive_modLink : czLive (s.modLink n f) m = czLive s m := rfl
@[simp] theorem czPort_modLink : czPort (s.modLink n f) m = czPort s m := rfl
@[simp] theorem nodeId_modLink : nodeId (s.modLink n f) = nodeId s := rfl
@[simp] theorem voqsEmpty_modLink : voqsEmpty (s.modLink n f) m = voqsEmpty s m := rfl

end Reads

theorem czActive_of_state {s : State} {n : Nat} (h : czState s n = 6) : czActive s n = true := beq_iff_eq.mpr h

theorem czState_of_active {s : State} {n : Nat} (h : czActive s n = true) : czState s n = 6 := beq_iff_eq.mp h

theorem czLive_of_active {s : State} {n : Nat} (h : czActive s n = true) : czLive s n = true := by
  simp [czLive, czState_of_active h]

/-- A command that a part carries out while it is up: its effect, then what follows inside the part. -/
theorem exec_up {i : Instr} {s t : State} (f : State → State) (hrow : exec i s = whenUp s f) (hup : up s = true) (ht : f s = t) :
    exec i s = .next (after t) := by rw [hrow, whenUp_up hup, ht]

/-! ### PARAM (R196) -/

/-- The group of lanes that both sides offer at a width and both found usable: the lowest aligned one. -/
def offeredGroup (a b : Param) (width c : Nat) : Option (Nat × Nat) :=
  if !(a.widths.testBit (c - 1) && b.widths.testBit (c - 1)) then none
  else
    let w := codeWidth c
    ((List.range (width / w)).find? (fun j => bitsAt (a.laneOk &&& b.laneOk) (j * w) w == 2 ^ w - 1)).map (fun j => (c, j * w))

/-- The highest rate that both sides offer. -/
def offeredRate (a b : Param) : Option Nat :=
  if a.rates.testBit 1 && b.rates.testBit 1 then some 1 else if a.rates.testBit 0 && b.rates.testBit 0 then some 0 else none

theorem paramResult_eq (a b : Param) (width : Nat) : paramResult a b width =
    match [3, 2, 1].findSome? (offeredGroup a b width), offeredRate a b with
    | some (c, j), some r => some (c, j, r)
    | _, _ => none := rfl

theorem offeredGroup_comm (a b : Param) (width : Nat) : offeredGroup a b width = offeredGroup b a width := by
  funext c
  simp only [offeredGroup, Bool.and_comm (b.widths.testBit _), Nat.and_comm b.laneOk]

theorem offeredRate_comm (a b : Param) : offeredRate a b = offeredRate b a := by
  simp only [offeredRate, Bool.and_comm (b.rates.testBit _)]

/-- Settles O14: each side's offer enters the lanes, the widths and the rates only through a conjunction of the two. -/
theorem paramResultSymmetric : Obligations.ParamResultSymmetric := fun a b width => by
  rw [paramResult_eq, offeredGroup_comm, offeredRate_comm, paramResult_eq]

/-- A group of ones in a mask is a run of set bits. -/
theorem testBit_of_bitsAt_ones {v lo w : Nat} (h : bitsAt v lo w = 2 ^ w - 1) {i : Nat} (hi : i < w) : v.testBit (lo + i) = true := by
  have hbit : (bitsAt v lo w).testBit i = true := by rw [h, Nat.testBit_two_pow_sub_one, decide_eq_true hi]
  simpa [bitsAt, Nat.testBit_mod_two_pow, Nat.testBit_div_two_pow, hi, Nat.add_comm] using hbit

theorem offeredGroup_some {a b : Param} {width c x base : Nat} (h : offeredGroup a b width x = some (c, base)) :
    c = x ∧ a.widths.testBit (c - 1) = true ∧ b.widths.testBit (c - 1) = true ∧ base % codeWidth c = 0 ∧ base + codeWidth c ≤ width ∧
    ∀ i, i < codeWidth c → (a.laneOk &&& b.laneOk).testBit (base + i) = true := by
  unfold offeredGroup at h
  split at h
  case isTrue => cases h
  case isFalse hw =>
    obtain ⟨j, hj, heq⟩ := Option.map_eq_some_iff.mp h
    obtain ⟨rfl, rfl⟩ := Prod.mk.inj heq
    obtain ⟨ha, hb⟩ := Bool.and_eq_true_iff.mp (by simpa using hw)
    have hfit : (j + 1) * codeWidth x ≤ width :=
      Nat.le_trans (Nat.mul_le_mul_right _ (List.mem_range.mp (List.mem_of_find?_eq_some hj))) (Nat.div_mul_le_self _ _)
    have hones := List.find?_some hj
    rw [beq_iff_eq] at hones
    exact ⟨rfl, ha, hb, Nat.mul_mod_left _ _, by rwa [Nat.succ_mul] at hfit, fun i => testBit_of_bitsAt_ones hones⟩

theorem offeredRate_some {a b : Param} {r : Nat} (h : offeredRate a b = some r) :
    r ≤ 1 ∧ a.rates.testBit r = true ∧ b.rates.testBit r = true := by
  unfold offeredRate at h
  split at h
  case isTrue h1 =>
    cases h
    exact ⟨Nat.le_refl 1, Bool.and_eq_true_iff.mp h1⟩
  case isFalse =>
    split at h
    · cases h
      exact ⟨Nat.zero_le 1, Bool.and_eq_true_iff.mp ‹_›⟩
    · cases h

theorem paramResult_some {a b : Param} {width c base rate : Nat} (h : paramResult a b width = some (c, base, rate)) :
    (∃ x ∈ [3, 2, 1], offeredGroup a b width x = some (c, base)) ∧ offeredRate a b = some rate := by
  rw [paramResult_eq] at h
  split at h
  case h_1 hg hr =>
    cases h
    exact ⟨List.exists_of_findSome?_eq_some hg, hr⟩
  case h_2 => cases h

theorem paramResultOffered : Clauses.ParamResultOffered := by
  intro a b width c base rate h
  obtain ⟨⟨x, hx, hg⟩, hr⟩ := paramResult_some h
  obtain ⟨rfl, haw, hbw, halign, hfit, hlanes⟩ := offeredGroup_some hg
  obtain ⟨hle, har, hbr⟩ := offeredRate_some hr
  have hcode : 1 ≤ c ∧ c ≤ 3 := by
    simp only [List.mem_cons, List.not_mem_nil, or_false] at hx
    omega
  refine ⟨hcode.1, hcode.2, haw, hbw, hle, har, hbr, halign, hfit, fun i hi => ?_⟩
  rw [← Bool.and_eq_true_iff, ← Nat.testBit_and]
  exact hlanes i hi

end Sys2Proof.Machine
end

section
/-!
Calez links: acknowledgement and replay, the blocks and frames that arrive, and the ends of a link (O10, O12, O9, O11).
-/
namespace Sys2Proof.Machine

/-! ### Acknowledgement (R185) -/

/-- An ACK of the `k`-th frame after the first of those unacknowledged covers `k + 1` frames, whatever SEQ the first one has. -/
theorem ackCovers_eq {first ack k : Nat} (hf : first < 4096) (hk : k < 2047) (h : ack = (first + k) % 4096) :
    (ack % 4096 + 4096 + 1 - first) % 4096 = k + 1 := by omega

theorem czAckTo_covers {s : State} {n ack k : Nat} {x : Stored} {r : List Stored} (hu : (s.link n).unacked = x :: r)
    (hc : (ack % 4096 + 4096 + 1 - x.frame.seq) % 4096 = k + 1) (hk : k < (s.link n).unacked.length) :
    czAckTo s n ack = czGo (s.modLink n (fun l => { l with unacked := l.unacked.drop (k + 1), ackMoved := s.time, replays := 0 })) n := by
  unfold czAckTo
  simp only [hu] at hk ⊢
  rw [hc, if_neg (by omega), if_neg (Nat.succ_ne_zero k)]

/-- Settles O10: SEQ counts modulo 4096, so an ACK of one of at most 2047 unacknowledged frames tells how many it covers (`ackCovers_eq`). -/
theorem ackCoversOldestFrames : Obligations.AckCoversOldestFrames := by
  intro s n ack k hk hlen _ hack
  obtain ⟨x, r, hu, hseq, hack⟩ := hack
  exact czAckTo_covers hu (ackCovers_eq hseq (by omega) hack) hk

/-! ### RESET (R189, R193) -/

/-- The fields of CZ_STATUS that RESET clears. -/
def clearStatus (s : State) (n : Nat) : State :=
  setCz (setCz (setCz (setCz s n Fld.CZ_STATUS_STATE Cz.reset) n Fld.CZ_STATUS_WIDTH 0) n Fld.CZ_STATUS_RATE 0) n Fld.CZ_STATUS_REVERSED 0

theorem clearStatus_shows (s : State) (n : Nat) :
    ∀ f ∈ [Fld.CZ_STATUS_STATE, Fld.CZ_STATUS_WIDTH, Fld.CZ_STATUS_RATE, Fld.CZ_STATUS_REVERSED],
      getF (clearStatus s n) (Reg.CZ_STATUS n) f = 0 := by
  simp only [List.forall_mem_cons, List.not_mem_nil, false_imp_iff, implies_true, and_true, clearStatus, setCz]
  refine ⟨?state, ?width, ?rate, getF_setF_self _ _ 0 (by decide)⟩
  case rate => rw [getF_setF_disjoint _ _ _ (by decide), getF_setF_self _ _ 0 (by decide), Nat.zero_mod]
  case width => rw [getF_setF_disjoint _ _ _ (by decide), getF_setF_disjoint _ _ _ (by decide), getF_setF_self _ _ 0 (by decide), Nat.zero_mod]
  case state =>
    rw [getF_setF_disjoint _ _ _ (by decide), getF_setF_disjoint _ _ _ (by decide), getF_setF_disjoint _ _ _ (by decide),
      getF_setF_self _ _ Cz.reset (by decide), Nat.zero_mod]

/-- Settles O12: `enterReset` clears the fields of CZ_STATUS (`clearStatus_shows`), then sends the RESET block, then changes the link alone. -/
theorem calezResetEntered : Obligations.CalezResetEntered := by
  intro s n reason
  have hclear := clearStatus_shows (lanesDown (pressAbandonPort s (czPort s n)) (czPort s n)) n
  simp only [List.forall_mem_cons] at hclear
  obtain ⟨hstate, hwidth, hrate, hreversed, -⟩ := hclear
  dsimp only [enterReset]
  rw [link_modLink_self]
  exact ⟨hstate, hwidth, hrate, hreversed, ⟨_, _, rfl⟩, rfl, rfl, rfl, rfl⟩

/-! ### What an ACTIVE link reports (R181, R184, R187) -/

theorem keepaliveSend_active {s : State} {n : Nat} (h : czActive s n = true) : keepaliveSend s n = { s with
    links := aput s.links n { s.link n with unreported := 0 },
    out := s.out ++ [.block n (.keepalive (nodeId s) (getF s (Reg.CZ_STATUS n) Fld.CZ_STATUS_SESSION) (((s.link n).nextRx + 4095) % 4096))] } :=
  if_pos h

theorem creditRefresh_active {s : State} {n : Nat} (h : czActive s n = true) : creditRefresh s n = { s with
    out := s.out ++ (s.link n).rxLimit.map (fun x => .block n (.credit (x.1 / 4) (x.1 % 4) x.2)) } := if_pos h

theorem calezReportsLeave : Clauses.CalezReportsLeave := by
  intro s n hup hact
  refine ⟨?keepalive, ?credits, fun hu => ?ack⟩
  case keepalive => exact exec_up (fun s => keepaliveSend s n.val) rfl hup (keepaliveSend_active hact)
  case credits => exact exec_up (fun s => creditRefresh s n.val) rfl hup (creditRefresh_active hact)
  case ack =>
    exact exec_up (fun s => if czActive s n.val && (s.link n.val).unreported != 0 then sendAck s n.val false else s) rfl hup
      (if_pos (by simp [hact, hu]))

/-! ### Control blocks that arrive (R175, R181, R183, R185, R187, R200) -/

section Blocks
variable {s : State} {n : Nat} (hact : czActive s n = true)
include hact

theorem keepaliveRx_own {node session ack : Nat} (hn : node % 4096 = getF s (Reg.CZ_PEER n) Fld.CZ_PEER_PEER_NODE)
    (hs : session % 256 = getF s (Reg.CZ_PEER n) Fld.CZ_PEER_PEER_SESSION) :
    keepaliveRx s n node session ack = czAckTo (s.modLink n (fun l => { l with discarding := false, lastValid := s.time })) n ack := by
  simp only [keepaliveRx, czControl, czActive_modLink, hact, getF_modLink, hn, hs, if_true, Bool.not_true, Bool.false_eq_true, if_false,
    modLink_modLink, modLink_time]

theorem keepaliveRx_other {node session : Nat} (ack : Nat) (hn : node % 4096 ≠ getF s (Reg.CZ_PEER n) Fld.CZ_PEER_PEER_NODE)
    (hs : session % 256 ≠ getF s (Reg.CZ_PEER n) Fld.CZ_PEER_PEER_SESSION) : keepaliveRx s n node session ack = czControl s n := by
  simp only [keepaliveRx, czControl, czActive_modLink, hact, getF_modLink, hn, hs, Bool.not_true, Bool.false_eq_true, if_false]

theorem ackBlock_ack (ack : Nat) : ackBlock s n ack false = czAckTo (czControl s n) n ack := by
  simp only [ackBlock, czControl, czActive_modLink, hact, Bool.not_true, Bool.false_and, Bool.false_eq_true, if_false]

theorem ackBlock_nak {ack : Nat} (h : czActive (czAckTo (czControl s n) n ack) n = true) :
    ackBlock s n ack true = czReplay (czAckTo (czControl s n) n ack) n := by
  rw [czControl] at h
  simp only [ackBlock, czControl, czActive_modLink, hact, h, Bool.not_true, Bool.true_and, Bool.false_eq_true, if_false, if_true]

theorem creditRx_control {vc pool limit : Nat} (hv : vc < 8) (hp : pool < 4) (hl : limit < 65536) :
    creditRx (czControl s n) n vc pool limit =
      czGo (s.modLink n (fun l => { l with discarding := false, limit := aput l.limit (vc * 4 + pool) limit })) n := by
  simp only [creditRx, czControl, czLive_modLink, czLive_of_active hact, if_true, modLink_modLink, Nat.mod_eq_of_lt hv, Nat.mod_eq_of_lt hp,
    Nat.mod_eq_of_lt hl]

theorem resetBlock_active : resetBlock s n = czDown (czControl s n) n 0x06 := by
  simp only [resetBlock, czControl, czLive_modLink, czLive_of_active hact, if_true]

end Blocks

theorem calezBlocksArrive : Clauses.CalezBlocksArrive := by
  intro s n hup hact
  refine ⟨?own, ?other, ?ack, ?nak, ?credit, ?replay, ?unknown, ?reset⟩
  case own =>
    exact fun node session ack hn hs => exec_up (fun s => keepaliveRx s n.val node session ack) rfl hup (keepaliveRx_own hact hn hs)
  case other =>
    exact fun node session ack hn hs => exec_up (fun s => keepaliveRx s n.val node session ack) rfl hup (keepaliveRx_other hact ack hn hs)
  case ack => exact fun ack => exec_up (fun s => ackBlock s n.val ack false) rfl hup (ackBlock_ack hact ack)
  case nak => exact fun ack h => exec_up (fun s => ackBlock s n.val ack true) rfl hup (ackBlock_nak hact h)
  case credit =>
    exact fun vc pool limit hv hp hl => exec_up (fun s => creditRx (czControl s n.val) n.val vc pool limit) rfl hup (creditRx_control hact hv hp hl)
  case replay => exact fun first => exec_up (fun s => czControl s n.val) rfl hup rfl
  case unknown =>
    exact fun type => exec_up (fun s => if czLive s n.val then bump (czControl s n.val) (Reg.CZ_UNKNOWN_CNT n.val) else s) rfl hup
      (if_pos (czLive_of_active hact))
  case reset => exact fun node reason => exec_up (fun s => resetBlock s n.val) rfl hup (resetBlock_active hact)

/-! ### Frames that arrive (R183, R184) -/

/-- What becomes of a frame of the session by how far its SEQ lies beyond NEXT_RX. -/
def frameBySeq (s : State) (n : Nat) (f : Frame) (d : Nat) : State :=
  if d = 0 then frameAccept s n f
  else if d < 2048 then czNak s n
  else if d = 2048 then czDown s n 0x04
  else sendAck (bump s (Reg.CZ_DUP_CNT n)) n false

theorem frameBySeq_cases (s : State) (n : Nat) (f : Frame) (d : Nat) :
    (d = 0 → frameBySeq s n f d = frameAccept s n f) ∧ (0 < d → d < 2048 → frameBySeq s n f d = czNak s n) ∧
    (d = 2048 → frameBySeq s n f d = czDown s n 0x04) ∧
    (2048 < d → frameBySeq s n f d = sendAck (bump s (Reg.CZ_DUP_CNT n)) n false) :=
  ⟨fun hz => if_pos hz, fun hpos hlt => (if_neg (Nat.ne_of_gt hpos)).trans (if_pos hlt),
    fun heq => (if_neg (by omega)).trans ((if_neg (by omega)).trans (if_pos heq)),
    fun hgt => (if_neg (by omega)).trans ((if_neg (by omega)).trans (if_neg (by omega)))⟩

section Frames
variable {s : State} {n : Nat} {f : Frame} (hact : czActive s n = true) (hd : (s.link n).discarding = false)
include hact hd

theorem frameRx_broken : frameRx s n f false = correctable ((bump s (Reg.CZ_CRC_ERR_CNT n)).modLink n (fun l => { l with discarding := true }))
    ⟨Uk.calez, n⟩ 0 1 0x0200 := by
  simp only [frameRx, hact, hd, Bool.not_true, Bool.not_false, Bool.or_self, Bool.false_eq_true, if_false, if_true]

theorem frameRx_otherSession (hs : f.session % 256 ≠ getF s (Reg.CZ_PEER n) Fld.CZ_PEER_PEER_SESSION) :
    frameRx s n f true = s.modLink n (fun l => { l with discarding := true, lastValid := s.time }) := by
  simp only [frameRx, hact, hd, hs, Bool.not_true, Bool.or_self, Bool.false_eq_true, if_false, ne_eq, not_false_eq_true, if_true]

/-- A frame of the session without credit returns: its ACK is taken, then it goes by its SEQ, unless the ACK took the link down. -/
theorem frameRx_session {t : State} (hs : f.session % 256 = getF s (Reg.CZ_PEER n) Fld.CZ_PEER_PEER_SESSION) (h0 : f.cr0 = none) (h1 : f.cr1 = none)
    (ht : czAckTo (s.modLink n (fun l => { l with lastValid := s.time, lastFrame := s.time })) n f.ack = t) (hta : czActive t n = true) :
    frameRx s n f true = frameBySeq t n f ((f.seq % 4096 + 4096 - (t.link n).nextRx) % 4096) := by
  simp only [frameRx, hact, hd, hs, h0, h1, ht, hta, Bool.not_true, Bool.or_self, Bool.false_eq_true, if_false, ne_eq, not_true_eq_false]
  rfl

end Frames

theorem calezFrameArrives : Clauses.CalezFrameArrives := by
  intro s n f hup hact hd h0 h1
  refine ⟨?broken, ?other, ?session⟩
  case broken => exact exec_up (fun s => frameRx s n.val f false) rfl hup (frameRx_broken hact hd)
  case other => exact fun hs => exec_up (fun s => frameRx s n.val f true) rfl hup (frameRx_otherSession hact hd hs)
  case session =>
    intro hs t d hta
    have hrun {u : State} (hu : frameRx s n.val f true = u) : exec (.frameRx n f true) s = .next (after u) :=
      exec_up (fun s => frameRx s n.val f true) rfl hup hu
    have hgo := frameRx_session hact hd hs h0 h1 rfl hta
    obtain ⟨hnext, hlater, hfar, hearlier⟩ := frameBySeq_cases t n.val f d
    exact ⟨fun h => hrun (hgo.trans (hnext h)), fun h h' => hrun (hgo.trans (hlater h h')), fun h => hrun (hgo.trans (hfar h)),
      fun h => hrun (hgo.trans (hearlier h))⟩

end Sys2Proof.Machine
end

section
/-!
Calez links: what takes an accepted frame, replay, and the events that take a link down (O9, O11).
-/
namespace Sys2Proof.Machine

/-! ### What takes an accepted frame (R90, R142, R156, R157, R177–R179, R190, R205, R327) -/

theorem getF_congr {s t : State} (h : s.regs = t.regs) (k : Nat) (f : Field) : getF s k f = getF t k f := congrArg f.get (rd_congr h k)

theorem mode_congr {s t : State} (h : s.regs = t.regs) : mode s = mode t := getF_congr h _ _

theorem nodeId_congr {s t : State} (h : s.regs = t.regs) : nodeId s = nodeId t := by
  rw [nodeId, nodeId, mode_congr h, getF_congr h]

theorem serving_congr {s t : State} (h : s.regs = t.regs) : serving s = serving t := by
  rw [serving, serving, mode_congr h, twinState, twinState, getF_congr h]

theorem czReturn_regs (s : State) (n vc pool c : Nat) : (czReturn s n vc pool c).regs = s.regs := by
  unfold czReturn
  split <;> rfl

theorem addressed_here {s : State} {dst : Nat} (h : dst = nodeId s) (f : Frame) (here served : State → State) :
    addressed s dst f here served = here s := if_pos h

/-- The port of a link follows from the register that divides its tile. -/
theorem czPort_congr {s t : State} {n : Nat} (h : rd t (Reg.TILE_CFG (n / 4)) = rd s (Reg.TILE_CFG (n / 4))) : czPort t n = czPort s n := by
  unfold czPort linkPort slotCalez slotOn tileSplit slotPort isSet getF
  rw [h]

theorem tileCfg_ne_czAbortCnt (t n : Nat) : Reg.TILE_CFG t ≠ Reg.CZ_ABORT_CNT n := by
  simp only [Reg.TILE_CFG, Reg.CZ_ABORT_CNT]
  omega

/-- The oldest accepted frame of a link is taken. -/
def popRx (s : State) (n : Nat) (r : List Frame) : State := s.modLink n (fun l => { l with rxq := r })

/-- An abort frame is counted, and what has come of an ICP packet is dropped where it is one of type 5. -/
def abortCounted (s : State) (n : Nat) (f : Frame) : State :=
  let a := bump s (Reg.CZ_ABORT_CNT n)
  if f.type = 5 then a.modLink n (fun l => { l with icpPart := [] }) else a

theorem czPort_abortCounted (s : State) (n : Nat) (f : Frame) : czPort (abortCounted s n f) n = czPort s n := by
  refine czPort_congr ?_
  unfold abortCounted
  dsimp only
  split <;> exact rd_wr_ne (tileCfg_ne_czAbortCnt _ _)

/-- The oldest accepted frame of a link is taken, and the credits of a frame of VC7 go back. -/
def popVc7 (s : State) (n : Nat) (r : List Frame) : State := czReturn (popRx s n r) n 7 0 4

theorem popVc7_regs (s : State) (n : Nat) (r : List Frame) : (popVc7 s n r).regs = s.regs := czReturn_regs _ _ _ _ _

theorem nodeId_popVc7 (s : State) (n : Nat) (r : List Frame) : nodeId (popVc7 s n r) = nodeId s := nodeId_congr (popVc7_regs s n r)

section Taken
variable {s : State} {n : Nat} {f : Frame} {r : List Frame} (hq : (s.link n).rxq = f :: r)
include hq

theorem takeFrame_head {α : Type} {g : Frame → Option α} {a : α} (hg : g f = some a) : takeFrame s n g = some (f, a, popRx s n r) := by
  simp only [takeFrame, hq, hg, popRx]

theorem takeVc7_head {α : Type} {g : FrameBody → Option α} {a : α} (hg : g f.body = some a) : takeVc7 s n g = some (f, a, popVc7 s n r) := by
  rw [takeVc7, takeFrame_head hq hg, popVc7]

theorem tlpFrameRx_first {h : FabHdr} {x : Tlp} (hb : f.body = .tlp h x) :
    tlpFrameRx s n = fabricIngress (popRx s n r) n h x f.vc (!f.last) := by
  rw [tlpFrameRx, takeFrame_head hq (a := some (h, x)) (by rw [hb])]

theorem tlpFrameRx_rest {b : List Byte} (hb : f.body = .part b) :
    tlpFrameRx s n = restEnd (popRx s n r) (czPort s n) (some f.vc) true := by
  rw [tlpFrameRx, takeFrame_head hq (a := none) (by rw [hb])]
  rfl

theorem abortFrameRx_head (ha : f.abort = true) :
    abortFrameRx s n = restEnd (abortCounted (popRx s n r) n f) (czPort s n) (some f.vc) false := by
  have hport : czPort (abortCounted (popRx s n r) n f) n = czPort s n := czPort_abortCounted _ _ _
  rw [abortFrameRx, takeFrame_head hq (a := ()) (if_pos ha), ← hport]
  rfl

theorem testFrameRx_head {e : Nat} {b : List Byte} (hb : f.body = .test e b) : testFrameRx s n =
    (let c := comet (popRx s n r) 0 (czPort s n) s.time (testHeld (popRx s n r) n b) 0 false
     czReturn (if isSet c (Reg.CZ_CTRL n) Fld.CZ_CTRL_TEST_EN then bumpN c (Reg.CZ_TEST_ERR n) e else c) n 7 0 4) := by
  rw [testFrameRx, takeFrame_head hq (a := (e, b)) (by rw [hb])]
  rfl

theorem feedbackRx_here {i : Nat} {es : List FeedbackEntry} (hb : f.body = .feedback i (nodeId s) es) : feedbackRx s n =
    es.foldl (fun s e => fbApply s e.frc e.cn e.worst e.path e.ack e.ackValid) (bump (popVc7 s n r) Reg.CC_FB_RX_CNT) := by
  rw [feedbackRx, takeVc7_head hq (a := (nodeId s, es)) (by rw [hb])]
  exact addressed_here (nodeId_popVc7 s n r).symm f _ _

theorem routeAdvRx_notServing {a : Nat} {es : List AdvEntry} (hb : f.body = .routeAdv a es) (hs : serving s = false) :
    routeAdvRx s n = advReceive (popVc7 s n r) (czPort (popVc7 s n r) n) a es := by
  have hu : serving (popVc7 s n r) = false := (serving_congr (popVc7_regs s n r)).trans hs
  have hall : es.filter (fun _ => true) = es := List.filter_eq_self.mpr fun _ _ => rfl
  have hnone : es.any (fun _ => false) = false := List.any_eq_false.mpr fun _ _ => Bool.false_ne_true
  rw [routeAdvRx, takeVc7_head hq (a := (a, es)) (by rw [hb])]
  simp only [hu, Bool.false_and, Bool.not_false, hall, hnone, Bool.false_eq_true, if_false]

theorem ferRx_here {x : FerFrame} (hb : f.body = .fer x) (ha : x.ack = false) (hx : x.toNode = nodeId s) : ferRx s n = ferTake (popVc7 s n r) x := by
  rw [ferRx, takeVc7_head hq (a := x) (by simp [hb, ha])]
  exact addressed_here (hx.trans (nodeId_popVc7 s n r).symm) f _ _

theorem ferAckRx_here {x : FerFrame} (hb : f.body = .fer x) (ha : x.ack = true) (hx : x.toNode = nodeId s) :
    ferAckRx s n = ferAckTake (popVc7 s n r) x := by
  rw [ferAckRx, takeVc7_head hq (a := x) (by simp [hb, ha])]
  exact addressed_here (hx.trans (nodeId_popVc7 s n r).symm) f _ _

/-- On the twin link in mode 4 an ICP packet is a reply or a request by bit 7 of its byte 1. -/
theorem icpFrameRx_twin {p : List Byte} (hb : f.body = .icp p) (hm : mode s = 4) (ht : isTwinLink s n = true) : icpFrameRx s n =
    if bitAt p 1 7 then twinReplyIn (popRx s n r) p
    else icpArrive (popRx s n r) (if bitAt p 9 6 then Ch.relay else Ch.twin) 0 p.length p := by
  have hm' : mode (popRx s n r) = 4 := hm
  have ht' : isTwinLink (popRx s n r) n = true := ht
  rw [icpFrameRx, takeFrame_head hq (a := p) (by rw [hb])]
  simp [hm', ht']

theorem resolveRx_known {x : Resolve} {m : Nat} (hb : f.body = .resolve x) (hx : x.toNode = nodeId s)
    (hm : resolveLink (popVc7 s n r) x = some m) : resolveRx s n = endedResolve (popVc7 s n r) m x.rxLast := by
  rw [resolveRx, takeVc7_head hq (a := x) (by rw [hb])]
  refine (addressed_here (hx.trans (nodeId_popVc7 s n r).symm) f _ _).trans ?_
  rw [hm]

end Taken

theorem calezFrameTaken : Clauses.CalezFrameTaken := by
  intro s n f r hup hq
  refine ⟨?first, ?rest, ?abort, ?test, ?feedback, ?routeAdv, ?fer, ?ferAck, ?icp, ?resolve⟩
  case first => exact fun h x hb => exec_up (fun s => tlpFrameRx s n.val) rfl hup (tlpFrameRx_first hq hb)
  case rest => exact fun b hb => exec_up (fun s => tlpFrameRx s n.val) rfl hup (tlpFrameRx_rest hq hb)
  case abort => exact fun ha => exec_up (fun s => abortFrameRx s n.val) rfl hup (abortFrameRx_head hq ha)
  case test => exact fun e b hb => exec_up (fun s => testFrameRx s n.val) rfl hup (testFrameRx_head hq hb)
  case feedback => exact fun i es hb => exec_up (fun s => feedbackRx s n.val) rfl hup (feedbackRx_here hq hb)
  case routeAdv => exact fun a es hb hs => exec_up (fun s => routeAdvRx s n.val) rfl hup (routeAdvRx_notServing hq hb hs)
  case fer => exact fun x hb ha hx => exec_up (fun s => ferRx s n.val) rfl hup (ferRx_here hq hb ha hx)
  case ferAck => exact fun x hb ha hx => exec_up (fun s => ferAckRx s n.val) rfl hup (ferAckRx_here hq hb ha hx)
  case icp =>
    intro p hb hm ht
    have hrun {u : State} (hu : icpFrameRx s n.val = u) : exec (.icpFrameRx n) s = .next (after u) :=
      exec_up (fun s => icpFrameRx s n.val) rfl hup hu
    have hgo := icpFrameRx_twin hq hb hm ht
    exact ⟨fun h => hrun (hgo.trans (if_pos h)), fun h => hrun (hgo.trans (if_neg (by simp [h])))⟩
  case resolve => exact fun x m hb hx hm => exec_up (fun s => resolveRx s n.val) rfl hup (resolveRx_known hq hb hx hm)

/-- Settles O9: the blocks a link sends and takes, a frame by its CRC, SESSION and SEQ (`frameRx_session`), and the row that takes the oldest
accepted frame (`takeFrame_head`, `takeVc7_head`). -/
theorem calezBlocks : Obligations.CalezBlocks := ⟨calezReportsLeave, calezBlocksArrive, calezFrameArrives, calezFrameTaken⟩

/-! ### Operations that leave device time alone -/

theorem forEach_time {α : Type} {f : State → α → State} (hf : ∀ s a, (f s a).time = s.time) (l : List α) (s : State) :
    (forEach l s f).time = s.time := by
  unfold forEach
  induction l generalizing s with
  | nil => rfl
  | cons a l ih => exact (ih (f s a)).trans (hf s a)

theorem OnlyRegs.time {s t : State} (h : OnlyRegs s t) : t.time = s.time := (congrArg State.time h).trans rfl

theorem ite_time {c : Prop} [Decidable c] {a b : State} {k : Nat} (ha : a.time = k) (hb : b.time = k) : (if c then a else b).time = k := by
  split <;> assumption

theorem withBg_time (s : State) (x : Background) : ({ s with bg := x } : State).time = s.time := rfl

/-- Each stage of the latch is made opaque once its time is known, so that no check unfolds the registers written before it. -/
theorem eclLatch_time (s : State) (b sources : Nat) (paired named : Bool) : (eclLatch s b sources paired named).time = s.time := by
  unfold eclLatch
  extract_lets banks stamped echo seq skew recorded _ latched busy next alternated
  have hrecorded : recorded.time = s.time := (wr_time _ _ _).trans ((wr_time _ _ _).trans
    (forEach_time (fun u k => (snapBank_onlyRegs u k b).time) _ s))
  clear_value recorded
  have hbusy : busy.time = s.time := (setF_time _ _ _ _).trans ((withBg_time recorded _).trans hrecorded)
  clear_value busy
  have halternated : alternated.time = s.time := ite_time ((setF_time _ _ _ _).trans hbusy) hbusy
  clear_value alternated
  exact ite_time ((emit_time _ _).trans ((withBg_time alternated _).trans halternated)) halternated

theorem eclTrigger_time (s : State) (source : Nat) : (eclTrigger s source).time = s.time := by
  unfold eclTrigger
  split
  · rfl
  · exact ite_time (setF_time _ _ _ _) (eclLatch_time _ _ _ _ _)

theorem pcAdd_time (s : State) (bank i n : Nat) : (pcAdd s bank i n).time = s.time := by
  refine ite_time (wr_time _ _ _) ?_
  unfold pcCarry
  exact ite_time ((eclTrigger_time _ _).trans ((setF_time _ _ _ _).trans (wr_time _ _ _))) ((setF_time _ _ _ _).trans (wr_time _ _ _))

@[simp] theorem pcLink_time (s : State) (n ev : Nat) : (pcLink s n ev).time = s.time :=
  forEach_time (fun s i => ite_time (pcAdd_time s _ i 1) rfl) _ s

/-! ### Replay (R185) -/

/-- How often in a row replay has begun at the oldest unacknowledged frame, once it begins again. -/
def replaysNow (l : Link) (first : Nat) : Nat := if l.replays ≠ 0 ∧ l.replayAt = first then l.replays + 1 else 1

/-- A replay is counted and its time taken. -/
def replayCounted (s : State) (n first k : Nat) : State :=
  (pcLink (bump s (Reg.CZ_REPLAY_CNT n)) n 0x103).modLink n (fun l => { l with replays := k, replayAt := first, ackMoved := s.time })

theorem czReplay_eq {s : State} {n : Nat} {x : Stored} {r : List Stored} (hu : (s.link n).unacked = x :: r) :
    czReplay s n =
      let t := replayCounted s n x.frame.seq (replaysNow (s.link n) x.frame.seq)
      if 4 ≤ replaysNow (s.link n) x.frame.seq then czDown t n 0x03
      else emits t (.block n (.replay x.frame.seq) :: (x :: r).map (fun y => .frame n y.frame)) := by
  simp only [czReplay, hu, replayCounted, replaysNow, pcLink_time, bump_time]
  rfl

theorem calezReplay : Clauses.CalezReplay := by
  intro s n x r hup hact hu l c t again
  have hrun {u : State} (h : czReplay s n.val = u) : exec (.replayTimeout n) s = .next (after u) :=
    exec_up (fun s => if czActive s n.val then czReplay s n.val else s) rfl hup ((if_pos hact).trans h)
  have hbelow {k : Nat} (hk : replaysNow l x.frame.seq = k) (h : k < 4) : again k := by
    subst hk
    exact hrun ((czReplay_eq hu).trans (if_neg (Nat.not_le.mpr h)))
  refine ⟨fun hfirst => ?_, fun hpos hsame hlt => ?_, fun hsame hge => ?_⟩
  · exact hbelow (if_neg fun hagain => hfirst.elim hagain.1 (· hagain.2)) (by decide)
  · exact hbelow (if_pos ⟨hpos, hsame⟩) (by omega)
  · have hk : replaysNow l x.frame.seq = l.replays + 1 := if_pos ⟨by omega, hsame⟩
    have hgo := czReplay_eq hu
    rw [hk] at hgo
    exact hrun (hgo.trans (if_pos (by omega)))

/-! ### The events that take a link down (R172, R173, R188, R203) -/

/-- Of the sixteen codewords that a lane had uncorrectable, at least one and at most sixteen are counted now, all where none was before. -/
theorem uncorrLimit_counts (s : State) (n : Nat) :
    ∃ k, 1 ≤ k ∧ k ≤ 16 ∧ ((s.link n).uncorr = [] → k = 16) ∧
      uncorrLimit s n = bumpN { s with free := s.free + 1 } (Reg.CZ_FEC_UNCORR_CNT n) k := by
  refine ⟨16 - (draw s 4).1 % (min 15 (uncorrRecent (draw s 4).2 n).length + 1), ?least, Nat.sub_le _ _, fun hnone => ?all, rfl⟩
  case least => exact Nat.sub_pos_of_lt (Nat.lt_of_lt_of_le (Nat.mod_lt _ (Nat.succ_pos _)) (Nat.succ_le_succ (Nat.min_le_left 15 _)))
  case all =>
    have hrecent : uncorrRecent (draw s 4).2 n = [] := by
      show ((s.link n).uncorr.filter _) = []
      rw [hnone, List.filter_nil]
    rw [hrecent]
    exact congrArg (16 - ·) (Nat.mod_one _)

theorem calezDownReasons : Clauses.CalezDownReasons := by
  intro s n hup
  refine ⟨fun h6 => ?active, fun h8 => ?wake⟩
  case active =>
    have hact : czActive s n.val = true := czActive_of_state h6
    obtain ⟨k, hlow, hhigh, hall, hcount⟩ := uncorrLimit_counts s n.val
    refine ⟨?timeout, ?align, k, hlow, hhigh, hall, ?uncorr⟩
    case timeout => exact exec_up (fun s => if czActive s n.val then czDown s n.val Dn.timeout else s) rfl hup (if_pos hact)
    case align => exact exec_up (fun s => if czActive s n.val then czDown s n.val Dn.align else s) rfl hup (if_pos hact)
    case uncorr =>
      exact exec_up (fun s => if czActive s n.val then czDown (uncorrLimit s n.val) n.val Dn.uncorr else s) rfl hup
        ((if_pos hact).trans (by rw [hcount]; rfl))
  case wake => exact exec_up (fun s => if czState s n.val = Cz.waking then czDown s n.val Dn.wake else s) rfl hup (if_pos h8)

/-- Settles O11: a replay counts how often it begins at one frame (`replaysNow`), and each event of a link is one `czDown` with its reason. -/
theorem calezDown : Obligations.CalezDown := ⟨calezReplay, calezDownReasons⟩

end Sys2Proof.Machine
end

section
/-!
Calez links: QUIET, equalisation and training (O13).
-/
namespace Sys2Proof.Machine

/-! ### QUIET and the wake (R201, R203) -/

@[simp] theorem czActive_control (s : State) (n : Nat) : czActive (czControl s n) n = czActive s n := rfl

theorem quietAsked_control (s : State) (n : Nat) : ((czControl s n).link n).quietAsked = (s.link n).quietAsked := by
  rw [czControl, link_modLink_self]

/-- A control block changes neither what waits on the link nor what is unacknowledged. -/
theorem quietOk_control (s : State) (n : Nat) : quietOk (czControl s n) n = quietOk s n := by
  simp only [quietOk, czControl, czActive_modLink, isSet_modLink, getF_modLink, isTwinLink, link_modLink_self, czPort_modLink, voqsEmpty_modLink]

theorem quietIdle_control (s : State) (n : Nat) : quietIdle (czControl s n) n = quietIdle s n := by
  simp only [quietIdle, czControl, link_modLink_self, getF_modLink, modLink_time]

theorem quietExpiry_asks {s : State} {n : Nat} (hok : quietOk s n = true) (hq : (s.link n).quietAsked = false) :
    quietExpiry s n = emit (s.modLink n (fun l => { l with quietAsked := true })) (.block n (.quiet 0)) :=
  if_pos (by rw [hok, hq]; rfl)

section Handshake
variable {s : State} {n : Nat} (hact : czActive s n = true)
include hact

theorem quietReq_asked (hq : (s.link n).quietAsked = true) : quietReq s n = enterQuiet (czControl s n) n := by
  simp only [quietReq, czActive_control, hact, quietAsked_control, hq, Bool.not_true, Bool.false_eq_true, if_false, if_true]

theorem quietAck_asked (hq : (s.link n).quietAsked = true) : quietAck s n = enterQuiet (czControl s n) n :=
  if_pos (by rw [czActive_control, hact, quietAsked_control, hq]; rfl)

theorem quietOff_asked (hq : (s.link n).quietAsked = true) : quietOff s n = czGo (s.modLink n (fun l => { l with quietAsked := false })) n :=
  if_pos (by rw [hact, hq]; rfl)

theorem quietOff_control (hq : (s.link n).quietAsked = true) :
    quietOff (czControl s n) n = czGo (s.modLink n (fun l => { l with discarding := false, quietAsked := false })) n := by
  rw [quietOff_asked ((czActive_control s n).trans hact) ((quietAsked_control s n).trans hq), czControl, modLink_modLink]

/-- A REQ that this side has not crossed is granted if this side could ask too, else rejected. -/
theorem quietReq_unasked (hq : (s.link n).quietAsked = false) : quietReq s n =
    if quietOk s n && quietIdle s n then enterQuiet (emit (czControl s n) (.block n (.quiet 1))) n else emit (czControl s n) (.block n (.quiet 2)) := by
  simp only [quietReq, czActive_control, hact, quietAsked_control, hq, quietOk_control, quietIdle_control, Bool.not_true, Bool.false_eq_true, if_false]

end Handshake

theorem quietWake_quiet {s : State} {n : Nat} (h : czState s n = 7) : quietWake s n =
    (let w := (setF (portWake (pressAbandonPort s (czPort s n)) (czPort s n)) (Reg.CZ_STATUS n) Fld.CZ_STATUS_STATE 8).modLink n
       (fun l => { l with resumed := false })
     if tilePower s (n / 4) = 2 then emit w (.beacon n) else w) := by
  simp only [quietWake, h, setCzState, setCz, beq_iff_eq]
  rfl

theorem quietWake_other {s : State} {n : Nat} (h : czState s n ≠ 7) : quietWake s n = s := if_pos (bne_iff_ne.mpr h)

/-- A RESUME is answered by this side's own, unless that has gone out. -/
def resumeAnswered (s : State) (n : Nat) : State := if (s.link n).resumed then s else resumeSend s n

theorem resumeAnswered_time (s : State) (n : Nat) : (resumeAnswered s n).time = s.time := ite_time rfl rfl

section Resume
variable {s : State} {n : Nat} (h8 : czState s n = 8)
include h8

theorem quietWake_control_waking : quietWake (czControl s n) n = czControl s n :=
  quietWake_other (by rw [czControl, czState_modLink, h8]; decide)

theorem resumeRx_own {session : Nat} (hs : session % 256 = getF s (Reg.CZ_PEER n) Fld.CZ_PEER_PEER_SESSION) (ack : Nat) :
    resumeRx s n ack session = czGo (czAckTo ((setF (resumeAnswered (czControl s n) n) (Reg.CZ_STATUS n) Fld.CZ_STATUS_STATE 6).modLink n
      (fun l => { l with lastValid := s.time, lastFrame := s.time, ackMoved := s.time })) n ack) n := by
  have hstate : czState (czControl s n) n = 8 := h8
  have hpeer : getF (czControl s n) (Reg.CZ_PEER n) Fld.CZ_PEER_PEER_SESSION = session % 256 := hs.symm
  have htime : (setCzState (resumeAnswered (czControl s n) n) n Cz.active).time = s.time :=
    (setF_time _ _ _ _).trans (resumeAnswered_time (czControl s n) n)
  rw [resumeAnswered, setCzState, setCz] at htime
  simp only [resumeRx, quietWake_control_waking h8, hstate, hpeer, setCzState, setCz, htime, bne_self_eq_false, Bool.false_eq_true, if_false, ne_eq,
    not_true_eq_false, resumeAnswered]

theorem resumeRx_other {session : Nat} (hs : session % 256 ≠ getF s (Reg.CZ_PEER n) Fld.CZ_PEER_PEER_SESSION) (ack : Nat) :
    resumeRx s n ack session = czDown (czControl s n) n 0x04 := by
  have hstate : czState (czControl s n) n = 8 := h8
  have hpeer : session % 256 ≠ getF (czControl s n) (Reg.CZ_PEER n) Fld.CZ_PEER_PEER_SESSION := hs
  simp only [resumeRx, quietWake_control_waking h8, hstate, bne_self_eq_false, Bool.false_eq_true, if_false]
  exact if_pos hpeer

end Resume

theorem resumeAnswered_control (s : State) (n : Nat) : resumeAnswered (czControl s n) n =
    if (s.link n).resumed then czControl s n
    else emit ((czControl s n).modLink n (fun l => { l with resumed := true }))
      (.block n (.resume (((s.link n).nextRx + 4095) % 4096) (getF s (Reg.CZ_STATUS n) Fld.CZ_STATUS_SESSION))) := by
  simp only [resumeAnswered, resumeSend, czControl, link_modLink_self, czAck, getF_modLink]

theorem calezQuiet : Clauses.CalezQuiet := by
  intro s n hup d
  refine ⟨fun hact => ⟨?expiry, fun hq => ⟨?crossed, ?ack, ?reject, ?silent⟩, ?granted, ?rejected⟩, ?wake, ?resume, ?stale⟩
  case expiry => exact fun hok hq => exec_up (fun s => quietExpiry s n.val) rfl hup (quietExpiry_asks hok hq)
  case crossed => exact exec_up (fun s => quietReq s n.val) rfl hup (quietReq_asked hact hq)
  case ack => exact exec_up (fun s => quietAck s n.val) rfl hup (quietAck_asked hact hq)
  case reject => exact exec_up (fun s => quietOff (czControl s n.val) n.val) rfl hup (quietOff_control hact hq)
  case silent => exact exec_up (fun s => quietOff s n.val) rfl hup (quietOff_asked hact hq)
  case granted =>
    exact fun hq hok hidle => exec_up (fun s => quietReq s n.val) rfl hup ((quietReq_unasked hact hq).trans (if_pos (by rw [hok, hidle]; rfl)))
  case rejected =>
    exact fun hq hok => exec_up (fun s => quietReq s n.val) rfl hup ((quietReq_unasked hact hq).trans (if_neg (by simp [hok])))
  case wake => exact fun h7 => exec_up (fun s => quietWake s n.val) rfl hup (quietWake_quiet h7)
  case resume =>
    intro ack session h8 hs r
    have hr : resumeAnswered (czControl s n.val) n.val = r := resumeAnswered_control s n.val
    exact exec_up (fun s => resumeRx s n.val ack session) rfl hup (hr ▸ resumeRx_own h8 hs ack)
  case stale => exact fun ack session h8 hs => exec_up (fun s => resumeRx s n.val ack session) rfl hup (resumeRx_other h8 hs ack)

/-! ### Equalisation (R268–R270) -/

section Equalisation
variable {s : State} {n : Nat} (h4 : czState s n = 4)
include h4

/-- A TRAIN block of the EQ state, of a link of which only equalisation's own tables have changed. -/
theorem trainBlock_eq (f : Link → Link) (lane op arg : Nat) :
    trainBlock (s.modLink n f) n lane op arg = .train lane 4 (czPort s n) op arg (nodeId s) := by
  rw [trainBlock, czState_modLink, h4, czPort_modLink, nodeId_modLink]

section Setting
variable {arg : Nat} (ha : arg < 2 ^ 24)
include ha

theorem trainSet_legal (hl : eqLegal arg = true) (lane : Nat) : trainSet s n lane arg =
    emit (s.modLink n (fun l => { l with eqTx := aput l.eqTx lane arg })) (.block n (.train lane 4 (czPort s n) 0 arg (nodeId s))) := by
  simp only [trainSet, h4, Nat.mod_eq_of_lt ha, hl, trainBlock_eq h4, ownTx, link_modLink_self, agetD_aput, bne_self_eq_false,
    Bool.false_eq_true, if_false, if_true]

theorem trainSet_illegal (hl : eqLegal arg = false) (lane : Nat) : trainSet s n lane arg =
    emit s (.block n (.train lane 4 (czPort s n) 0 (ownTx s n lane) (nodeId s))) := by
  simp only [trainSet, h4, Nat.mod_eq_of_lt ha, hl, trainBlock, bne_self_eq_false, Bool.false_eq_true, if_false]

theorem trainHold_leader (hl : isSet s (Reg.CZ_STATUS n) Fld.CZ_STATUS_LEAD = true) (lane snr : Nat) :
    trainHold s n lane arg snr = eqLead (s.modLink n (fun l => { l with eqPeer := aput l.eqPeer lane arg })) n lane := by
  simp only [trainHold, h4, Nat.mod_eq_of_lt ha, hl, bne_self_eq_false, Bool.false_eq_true, if_false, if_true]

theorem trainHold_same (hl : isSet s (Reg.CZ_STATUS n) Fld.CZ_STATUS_LEAD = false) {lane : Nat} (hp : aget (s.link n).eqPeer lane = some arg)
    (snr : Nat) : trainHold s n lane arg snr = s := by
  simp only [trainHold, h4, Nat.mod_eq_of_lt ha, hl, hp, bne_self_eq_false, Bool.false_eq_true, if_false, if_true]

theorem trainHold_changed (hl : isSet s (Reg.CZ_STATUS n) Fld.CZ_STATUS_LEAD = false) {lane : Nat} (hp : aget (s.link n).eqPeer lane ≠ some arg)
    (snr : Nat) : trainHold s n lane arg snr =
      emit (s.modLink n (fun l => { l with eqPeer := aput l.eqPeer lane arg,
                                           eqCnt := aput l.eqCnt lane ((agetD (s.link n).eqCnt lane 0 + 1) % 256) }))
        (.block n (.train lane 4 (czPort s n) 2 ((agetD (s.link n).eqCnt lane 0 + 1) % 256 * 65536 + min 0xFFFF snr) (nodeId s))) := by
  simp only [trainHold, h4, Nat.mod_eq_of_lt ha, hl, hp, trainBlock_eq h4, bne_self_eq_false, Bool.false_eq_true, if_false]

/-- The SNR that the partner measured is kept, and the leader goes on. -/
theorem trainFom_kept (lane : Nat) : trainFom s n lane arg =
    (let t := s.modLink n (fun l => { l with eqFom := aput l.eqFom lane arg })
     if isSet s (Reg.CZ_STATUS n) Fld.CZ_STATUS_LEAD then eqLead t n lane else t) := by
  simp only [trainFom, h4, Nat.mod_eq_of_lt ha, isSet_modLink, bne_self_eq_false, Bool.false_eq_true, if_false]

theorem trainDone_first {lane : Nat} (hd : (s.link n).eqDone.contains lane = false) (snr : Nat) : trainDone s n lane arg snr =
    emit (s.modLink n (fun l => { l with eqPeer := aput l.eqPeer lane arg, eqDone := (s.link n).eqDone ++ [lane],
                                         laneOk := if snr < eqCrit s n then clearBit (s.link n).laneOk lane else (s.link n).laneOk }))
      (.block n (.train lane 4 (czPort s n) 3 (ownTx s n lane) (nodeId s))) := by
  simp only [trainDone, h4, Nat.mod_eq_of_lt ha, hd, trainBlock_eq h4, ownTx, link_modLink_self, bne_self_eq_false, Bool.false_eq_true, Bool.not_false,
    if_false, if_true]
  rfl

end Setting
end Equalisation

theorem calezEqualisation : Clauses.CalezEqualisation := by
  intro s n lane arg snr hup h4 ha l block
  have hfom {t : State} (ht : trainFom s n.val lane arg = t) : exec (.trainFomRx n lane arg) s = .next (after t) :=
    exec_up (fun s => trainFom s n.val lane arg) rfl hup ht
  refine ⟨?legal, ?illegal, fun hl => ⟨?hold, ?fom⟩, ?same, ?changed, ?follower, ?done⟩
  case legal => exact fun h => exec_up (fun s => trainSet s n.val lane arg) rfl hup (trainSet_legal h4 ha h lane)
  case illegal => exact fun h => exec_up (fun s => trainSet s n.val lane arg) rfl hup (trainSet_illegal h4 ha h lane)
  case hold => exact exec_up (fun s => trainHold s n.val lane arg snr) rfl hup (trainHold_leader h4 ha hl lane snr)
  case fom => exact hfom ((trainFom_kept h4 ha lane).trans (if_pos hl))
  case same => exact fun hp hl => exec_up (fun s => trainHold s n.val lane arg snr) rfl hup (trainHold_same h4 ha hl hp snr)
  case changed => exact fun hp hl => exec_up (fun s => trainHold s n.val lane arg snr) rfl hup (trainHold_changed h4 ha hl hp snr)
  case follower => exact fun hl => hfom ((trainFom_kept h4 ha lane).trans (if_neg (by simp [hl])))
  case done => exact fun hd => exec_up (fun s => trainDone s n.val lane arg snr) rfl hup (trainDone_first h4 ha hd snr)

/-! ### Training (R192, R193, R196) -/

section Exits
variable {s : State} {n : Nat} (lanes node port : Nat)

theorem trainExit_reset (h : czState s n = 0) (hm : czMayTrain s n = true) :
    trainExit s n lanes node port = setCzState (pressAbandonPort s (czPort s n)) n Cz.detect := by
  simp only [trainExit, h, hm, if_true]

theorem trainExit_detect (h : czState s n = 1) : trainExit s n lanes node port = detectDone s n lanes := by
  simp only [trainExit, h]

/-- LOCK from a training point, in the first pass, is left with any lanes of the port. -/
theorem trainExit_lock (h : czState s n = 2) (hs : (s.link n).atStart = false) (hp : getF s (Reg.CZ_STATUS n) Fld.CZ_STATUS_PASS = 0) :
    trainExit s n lanes node port = lockDone s n ((s.link n).laneOk &&& lanes &&& (2 ^ czLanes s n - 1)) := by
  simp only [trainExit, h, hs, hp, Nat.lt_irrefl, decide_false, Bool.or_self, Bool.false_eq_true, if_false, laneMask, Nat.pow_zero, Nat.mul_one]

theorem trainExit_align (h : czState s n = 3) : trainExit s n lanes node port = alignDone s n node port := by
  simp only [trainExit, h]

theorem trainExit_eq (h : czState s n = 4) : trainExit s n lanes node port = eqDone s n lanes := by
  simp only [trainExit, h]

theorem trainExit_wake (h : czState s n = 8) : trainExit s n lanes node port = resumeSend s n := by
  simp only [trainExit, h]

end Exits

/-- The follower ends EQ with no block of its own. -/
theorem eqDone_follower {s : State} {n : Nat} (h : isSet s (Reg.CZ_STATUS n) Fld.CZ_STATUS_LEAD = false) (lanes : Nat) :
    eqDone s n lanes = enterParam (s.modLink n (fun l => { l with laneOk := l.laneOk &&& lanes })) n := by
  simp only [eqDone, isSet_modLink, h, Bool.false_eq_true, if_false]

/-- LOCK at the start point that times out leaves that point aside. -/
theorem trainTimeout_start {s : State} {n : Nat} (hlock : czState s n = 2) (hs : (s.link n).atStart = true) :
    trainTimeout s n = restartTraining (s.modLink n (fun l => { l with skipStart := true })) n :=
  (if_neg (by omega)).trans (congrArg (restartTraining · n) (if_pos ⟨hlock, hs⟩))

section Restart
variable {s : State} {n : Nat} (h2 : 2 ≤ czState s n) (h5 : czState s n ≤ 5)
include h2 h5

theorem trainTimeout_point (h : czState s n ≠ 2 ∨ (s.link n).atStart = false) : trainTimeout s n = restartTraining s n :=
  (if_neg (by omega)).trans (congrArg (restartTraining · n)
    (if_neg fun hstart => h.elim (· hstart.1) fun hpoint => Bool.false_ne_true (hpoint.symm.trans hstart.2)))

theorem signalLoss_training : signalLoss s n = restartTraining s n := if_pos ⟨h2, h5⟩

end Restart

/-- With no ended session to settle, PARAM goes on from the partner's blocks. -/
theorem paramRx_kept {s : State} {n : Nat} (h5 : czState s n = 5) (he : (s.link n).ended = none) (p : Param) :
    paramRx s n p = paramGo (s.modLink n (fun l => { l with param := some p })) n := by
  simp only [paramRx, h5, link_modLink_self, he, bne_self_eq_false, Bool.false_eq_true, if_false]

theorem calezTraining : Clauses.CalezTraining := by
  intro s n hup
  have hexit {lanes node port : Nat} {t : State} (ht : trainExit s n.val lanes node port = t) :
      exec (.czTrainStateExit n ⟨lanes, node, port⟩) s = .next (after t) :=
    exec_up (fun s => trainExit s n.val lanes node port) rfl hup ht
  have htimeout {t : State} (ht : trainTimeout s n.val = t) : exec (.czTrainStateTimeout n) s = .next (after t) :=
    exec_up (fun s => trainTimeout s n.val) rfl hup ht
  refine ⟨?reset, ?detect, ?lock, ?align, ?eq, ?wake, fun h2 h5 => ⟨?start, ?point, ?loss⟩, ?param⟩
  case reset => exact fun lanes node port h hm => hexit (trainExit_reset lanes node port h hm)
  case detect =>
    exact fun lanes node port h => ⟨hexit (trainExit_detect lanes node port h), exec_up (fun s => detectRetry s n.val lanes) rfl hup (if_pos h)⟩
  case lock => exact fun lanes node port h hs hp => hexit (trainExit_lock lanes node port h hs hp)
  case align => exact fun lanes node port h => hexit (trainExit_align lanes node port h)
  case eq => exact fun lanes node port h => ⟨hexit (trainExit_eq lanes node port h), fun hl => eqDone_follower hl lanes⟩
  case wake => exact fun lanes node port h => hexit (trainExit_wake lanes node port h)
  case start => exact fun hlock hs => htimeout (trainTimeout_start hlock hs)
  case point => exact fun h => htimeout (trainTimeout_point h2 h5 h)
  case loss => exact exec_up (fun s => signalLoss s n.val) rfl hup (signalLoss_training h2 h5)
  case param => exact fun p h he => exec_up (fun s => paramRx s n.val p) rfl hup (paramRx_kept h he p)

/-- Settles O13: each command of QUIET, of equalisation and of training runs one operation on the state of its link, and the result of
PARAM is told by its two halves (`paramResult_some`). -/
theorem calezTrainingSteps : Obligations.CalezTrainingSteps := ⟨calezQuiet, calezEqualisation, calezTraining, paramResultOffered⟩

end Sys2Proof.Machine
end

section
/-!
Calez links: RESOLVE and the time exchange (O15).
-/
namespace Sys2Proof.Machine

/-! ### RESOLVE (R190, R191) -/

theorem resolveSend_due {s : State} {n : Nat} {pv : PrevRx} (hp : (s.link n).prev = some pv) (hl : 0 < pv.left) : resolveSend s n =
    sendToNode (s.modLink n (fun l => { l with prev := some { pv with left := pv.left - 1 } })) pv.node
      (vc7Frame 6 16 (.resolve ⟨nodeId s, pv.node, czPort s n, pv.port, pv.session, pv.rxLast⟩)) := by
  simp only [resolveSend, hp, Nat.ne_of_gt hl, nodeId_modLink, czPort_modLink, if_false]

theorem calezResolve : Clauses.CalezResolve := by
  intro s n hup
  refine ⟨?send, ?limit⟩
  case send => exact fun pv hp hl => exec_up (fun s => resolveSend s n.val) rfl hup (resolveSend_due hp hl)
  case limit => exact exec_up (fun s => resolveTimeout s n.val) rfl hup rfl

/-! ### The time exchange (R98, R174) -/

/-- The offset that a complete exchange tells (R98): half the difference of the two ways. -/
def timeOffset (s : State) (lo hi t3 : Nat) : Int :=
  ((hi * 2 ^ 48 + lo : Nat) - (s.cong.t1 : Int) - ((s.time : Int) - nearest48 (t3 % 2 ^ 48) (hi * 2 ^ 48 + lo))) / 2

/-- A complete exchange is counted, its answers are dropped, and its offset shows in TIME_STATUS. -/
def exchangeShown (s : State) (n : Nat) (off : Int) : State :=
  let s := { s with cong := { s.cong with t4 := s.time } }
  let s := { bump s (Reg.CZ_TIME_EXCH_CNT n) with cong := { s.cong with t2lo := none, t2hi := none } }
  setF (setF s Reg.TIME_STATUS Fld.TIME_STATUS_OFFSET (max (-32768) (min 32767 off) % 65536).toNat) Reg.TIME_STATUS Fld.TIME_STATUS_COARSE 0

/-- Device time follows an offset: stepped beyond the threshold, else slewed. -/
def timeFollows (s : State) (off : Int) : State :=
  let th : Nat := max 1 (getF s Reg.TIME_CTRL Fld.TIME_CTRL_STEP_TH) * 1600
  let good := if off.natAbs < 256 then s.cong.goodExch + 1 else 0
  let s := { s with cong := { s.cong with goodExch := good } }
  if th < off.natAbs then
    let s := { s with time := ((s.time : Int) + off).toNat, cong := { s.cong with goodExch := 0 } }
    setF s Reg.TIME_STATUS Fld.TIME_STATUS_LOCKED 0
  else
    let (r, s) := draw s 32
    let s := { s with cong := { s.cong with slew := (r % 1001 : Nat) - 500 } }
    if 3 ≤ good then setF s Reg.TIME_STATUS Fld.TIME_STATUS_LOCKED 1 else s

theorem timeCtrl_ne_czTimeExchCnt (n : Nat) : Reg.TIME_CTRL ≠ Reg.CZ_TIME_EXCH_CNT n := by
  simp only [Reg.TIME_CTRL, Reg.CZ_TIME_EXCH_CNT]
  omega

theorem exchangeShown_time (s : State) (n : Nat) (off : Int) : (exchangeShown s n off).time = s.time := by
  rw [exchangeShown, setF_time, setF_time]
  rfl

theorem getF_exchangeShown_timeCtrl (s : State) (n : Nat) (off : Int) (f : Field) :
    getF (exchangeShown s n off) Reg.TIME_CTRL f = getF s Reg.TIME_CTRL f := by
  rw [exchangeShown, getF_setF_ne _ (by decide), getF_setF_ne _ (by decide)]
  exact getF_wr_ne f (timeCtrl_ne_czTimeExchCnt n)

theorem timeFollows_steps {s : State} {off : Int} (h : max 1 (getF s Reg.TIME_CTRL Fld.TIME_CTRL_STEP_TH) * 1600 < off.natAbs) :
    (timeFollows s off).time = ((s.time : Int) + off).toNat := by
  unfold timeFollows
  extract_lets th good counted stepped
  rw [if_pos h, setF_time]

section Exchange
variable {s : State} {n : Nat} (hact : czActive s n = true)
include hact

theorem timeDue_asks (hl : timeLink s = some n) : timeDue s = emit { s with cong := { s.cong with
    timeId := (s.cong.timeId + 1) % 256, t1 := s.time, t2lo := none, t2hi := none } } (.block n (.timeReq ((s.cong.timeId + 1) % 256))) := by
  have hquiet : czState s n ≠ 7 := by rw [czState_of_active hact]; decide
  simp only [timeDue, hl, hquiet, hact, if_false, if_true]

theorem timeReqRx_answers {id : Nat} (hid : id < 256) : timeReqRx s n id = emits (czControl s n) [.block n (.timeT2 id (s.time % 2 ^ 48)),
    .block n (.timeHi id (s.time / 2 ^ 48 % 65536)), .block n (.timeT3 id (s.time % 2 ^ 48))] := by
  simp only [timeReqRx, czActive_control, hact, Nat.mod_eq_of_lt hid, if_true]
  rfl

section Answers
variable (hid : s.cong.timeId < 256)
include hid

theorem timeT2_keeps {t2 : Nat} (ht : t2 < 2 ^ 48) :
    timeT2 s n s.cong.timeId t2 = { czControl s n with cong := { s.cong with t2lo := some t2 } } :=
  (if_pos ⟨hact, Nat.mod_eq_of_lt hid⟩).trans (by rw [Nat.mod_eq_of_lt ht]; rfl)

theorem timeHi_keeps {hi : Nat} (hh : hi < 65536) :
    timeHi s n s.cong.timeId hi = { czControl s n with cong := { s.cong with t2hi := some hi } } :=
  (if_pos ⟨hact, Nat.mod_eq_of_lt hid⟩).trans (by rw [Nat.mod_eq_of_lt hh]; rfl)

theorem timeT3_complete {lo hi : Nat} (hlo : s.cong.t2lo = some lo) (hhi : s.cong.t2hi = some hi) (t3 : Nat) :
    timeT3 s n s.cong.timeId t3 = timeFollows (exchangeShown (czControl s n) n (timeOffset s lo hi t3)) (timeOffset s lo hi t3) := by
  have hlo' : (czControl s n).cong.t2lo = some lo := hlo
  have hhi' : (czControl s n).cong.t2hi = some hi := hhi
  have hid' : (s.cong.timeId % 256 != (czControl s n).cong.timeId) = false := by
    rw [Nat.mod_eq_of_lt hid]
    exact bne_self_eq_false _
  unfold timeT3
  extract_lets d
  simp only [d, hlo', hhi', czActive_control, hact, hid', Bool.not_true, Bool.or_self, Bool.false_eq_true, if_false]
  rfl

/-- An offset beyond the threshold steps device time. -/
theorem timeT3_steps {lo hi t3 : Nat} (hlo : s.cong.t2lo = some lo) (hhi : s.cong.t2hi = some hi)
    (hoff : max 1 (getF s Reg.TIME_CTRL Fld.TIME_CTRL_STEP_TH) * 1600 < (timeOffset s lo hi t3).natAbs) :
    (timeT3 s n s.cong.timeId t3).time = ((s.time : Int) + timeOffset s lo hi t3).toNat := by
  have hth : getF (exchangeShown (czControl s n) n (timeOffset s lo hi t3)) Reg.TIME_CTRL Fld.TIME_CTRL_STEP_TH =
      getF s Reg.TIME_CTRL Fld.TIME_CTRL_STEP_TH := getF_exchangeShown_timeCtrl (czControl s n) n _ _
  rw [timeT3_complete hact hid hlo hhi, timeFollows_steps (by rwa [hth]), exchangeShown_time, czControl, modLink_time]

end Answers
end Exchange

theorem timeExchange : Clauses.TimeExchange := by
  intro s n hup hact d
  refine ⟨?due, ?request, ?t2, ?high, ?t3⟩
  case due => exact fun hl => exec_up timeDue rfl hup (timeDue_asks hact hl)
  case request => exact fun id hid => exec_up (fun s => timeReqRx s n.val id) rfl hup (timeReqRx_answers hact hid)
  case t2 => exact fun t2 ht hid => exec_up (fun t => timeT2 t n.val s.cong.timeId t2) rfl hup (timeT2_keeps hact hid ht)
  case high => exact fun hi hh hid => exec_up (fun t => timeHi t n.val s.cong.timeId hi) rfl hup (timeHi_keeps hact hid hh)
  case t3 =>
    exact fun lo hi t3 hlo hhi hid =>
      ⟨exec_up (fun t => timeT3 t n.val s.cong.timeId t3) rfl hup rfl, fun hoff => timeT3_steps hact hid hlo hhi hoff⟩

/-- Settles O15: a RESOLVE leaves while tries are left, an answer of the exchange is kept by its ID, and the last answer takes the offset
(`timeT3_complete`), by which device time steps where it lies beyond the threshold (`timeFollows_steps`). -/
theorem calezResolveAndTime : Obligations.CalezResolveAndTime := ⟨calezResolve, timeExchange⟩

end Sys2Proof.Machine
end

section
/-!
The twin pair: its heartbeat, its states and its time-outs (O27).
-/
namespace Sys2Proof.Machine

/-! ### The heartbeat (R215, R216) -/

theorem heartbeatToggle_running {s : State} (h : s.pwr.hbRun = true) : heartbeatToggle s = { s with
    pwr := { s.pwr with hbOut := !s.pwr.hbOut }, out := s.out ++ [.heartbeat (!s.pwr.hbOut)] } := if_pos h

/-- STATE shares TWIN_STATUS with the bits of the heartbeat and of the resynchronisation, and does not follow them. -/
theorem twinState_setF {s : State} {f : Field} (v : Nat) (h : f.lsb + f.width ≤ 28) : twinState (setF s Reg.TWIN_STATUS f v) = twinState s :=
  getF_setF_disjoint s _ v (.inr h)

section Mode4
variable {s : State} (hm : mode s = 4)
include hm

/-- Outside SPLIT the loss of the partner's heartbeat is shown, and nothing follows. -/
theorem heartbeatLost_unsplit (h : twinState s ≠ 4) : heartbeatLost s = setF s Reg.TWIN_STATUS Fld.TWIN_STATUS_HB_ALIVE 0 := by
  have hstate : twinState (setF s Reg.TWIN_STATUS Fld.TWIN_STATUS_HB_ALIVE 0) ≠ 4 := by rwa [twinState_setF _ (by decide)]
  simp only [heartbeatLost, hm, hstate, bne_self_eq_false, false_and, Bool.false_eq_true, if_false]

theorem heartbeatAlive_mode4 :
    heartbeatAlive s = setF (setF s Reg.TWIN_STATUS Fld.TWIN_STATUS_HB_ALIVE 1) Reg.TWIN_STATUS Fld.TWIN_STATUS_HB_FAULT 0 := by
  simp only [heartbeatAlive, hm, bne_self_eq_false, Bool.false_eq_true, if_false]

theorem heartbeatFault_due (hl : hbLost s = true) (ht : twinLive s = true) (hf : isSet s Reg.TWIN_STATUS Fld.TWIN_STATUS_HB_FAULT = false) :
    heartbeatFault s = detect (twinEvent (setF s Reg.TWIN_STATUS Fld.TWIN_STATUS_HB_FAULT 1) 5) 0x0401 .contained Uk.twin 0 0 := by
  simp only [heartbeatFault, hm, hl, ht, hf, bne_self_eq_false, Bool.not_true, Bool.or_self, Bool.false_eq_true, if_false]

/-! ### The states of the pair (R218, R227, R228, R229, R231) -/

/-- A PAIRED twin whose link goes down takes over where it may by itself, and otherwise is SPLIT. -/
theorem twinDown_paired (hl : twinLive s = false) (h2 : twinState (sessionEnd s) = 2) :
    twinDown s = if autoTakeover (sessionEnd s) then takeover (sessionEnd s) 1 else enterState (sessionEnd s) 4 2 := by
  simp only [twinDown, hm, hl, h2, bne_self_eq_false, Bool.or_self, Bool.false_eq_true, if_false]

/-- An ACTIVE twin link without a session begins one with T_HELLO. -/
theorem twinUp_newSession (hl : twinLive s = true) (hh : s.twin.helloDone = false) :
    twinUp s = twinSend { s with twin := { s.twin with txAlive := 0, rxRep := 0, relayTx := 0 } } 0x0710 (helloPayload s) := by
  simp only [twinUp, hm, hl, hh, bne_self_eq_false, Bool.not_true, Bool.or_self, Bool.false_eq_true, if_false]

/-- A joiner that waited in vain for the twin link, its partner's heartbeat alive, is SPLIT. -/
theorem joinExpiry_partnerAlive (h1 : twinState s = 1) (hj : s.twin.joinFromSplit = false) (hl : twinLive s = false) (hb : hbLost s = false) :
    joinExpiry s = joinDone (enterState s 4 6) := by
  have hauto : autoTakeover s = false := by simp only [autoTakeover, hb, Bool.false_and]
  simp only [joinExpiry, hm, h1, hj, hl, hauto, bne_self_eq_false, Bool.or_self, Bool.false_eq_true, if_false]

end Mode4

/-- A joiner of a partner that is not SERVING is PAIRED when both directions of the resynchronisation have ended. -/
theorem resyncEnd_joined {s : State} {r : Resync} (hr : s.twin.resync = some r) (hsent : r.sentAll = true) (hgot : r.gotEnd = true)
    (h1 : twinState (resyncOff s) = 1) (hp : (resyncOff s).twin.partnerState ≠ 3) :
    resyncEnd s = joinDone (enterState (resyncOff s) 2 9) := by
  simp only [resyncEnd, hr, hsent, hgot, h1, hp, Bool.and_self, Bool.not_true, Bool.false_eq_true, if_false]

theorem handbackEnd_serving {s : State} {d : Nat} (hd : s.twin.handbackDue = some d) (h3 : twinState s = 3) :
    handbackEnd s =
      twinEvent (enterState (clearTaken (epochNow { s with twin := { s.twin with handbackDue := none } }) (partner s)) 2 8) 3 := by
  simp only [handbackEnd, hd, h3, Option.isNone_some, bne_self_eq_false, Bool.or_self, Bool.false_eq_true, if_false]
  rfl

theorem handoverDrained_left {s : State} {a : Nat} (h : s.twin.leftAt = some a) :
    handoverDrained s = heartbeatStop { s with twin := { s.twin with leftAt := none } } := by
  simp only [handoverDrained, h, Option.isNone_some, Bool.false_eq_true, if_false]

/-! ### Time-outs of a transaction (R211, R212) -/

section Coordinator
variable {s : State} {c : CoordTxn} (hc : s.twin.coord = some c)
include hc

theorem twinTimeout_vote (hv : c.step = .vote) :
    twinTimeout s = txnFail (sendCommit (bump s Reg.TWIN_TO_CNT) c.txn true) St.timeout 0 := by
  simp only [twinTimeout, hc, hv]

theorem twinTimeout_settling (hs : c.step = .settling) : twinTimeout s = s := by
  simp only [twinTimeout, hc, hs]

theorem querySend_settling (hs : c.step = .settling) (hl : twinLive s = true) : querySend s = twinSend s 0x0713 (natLe 4 c.txn) := by
  simp only [querySend, hc, hs, hl, and_self, if_true]

end Coordinator

theorem stagedDiscard_staged {s : State} (h : s.twin.staged.isSome) :
    stagedDiscard s = setFate { s with twin := { s.twin with staged := none } } 3 := if_pos h

/-! ### Together -/

theorem twinHeartbeat : Clauses.TwinHeartbeat := by
  intro s
  refine ⟨fun hrun => ?toggle, fun hup hm => ⟨fun hsplit => ?lost, ?alive, fun hl ht hf => ?fault⟩⟩
  case toggle => exact (finish_eq _).trans (by rw [heartbeatToggle_running hrun])
  case lost => exact exec_up heartbeatLost rfl hup (heartbeatLost_unsplit hm hsplit)
  case alive => exact exec_up heartbeatAlive rfl hup (heartbeatAlive_mode4 hm)
  case fault => exact exec_up heartbeatFault rfl hup (heartbeatFault_due hm hl ht hf)

theorem twinPairStates : Clauses.TwinPairStates := by
  intro s hup hm
  refine ⟨fun hl h2 => ?down, fun hl hh => ?active, fun h1 hj hl hb => ?joinWait, fun r hr hsent hgot h1 hp => ?resync,
    fun d hd h3 => ?handback, fun a ha => ?drained⟩
  case down =>
    exact ⟨fun hauto => exec_up twinDown rfl hup ((twinDown_paired hm hl h2).trans (if_pos hauto)),
      fun hauto => exec_up twinDown rfl hup ((twinDown_paired hm hl h2).trans (if_neg (by simp [hauto])))⟩
  case active => exact exec_up twinUp rfl hup (twinUp_newSession hm hl hh)
  case joinWait => exact exec_up joinExpiry rfl hup (joinExpiry_partnerAlive hm h1 hj hl hb)
  case resync => exact exec_up resyncEnd rfl hup (resyncEnd_joined hr hsent hgot h1 hp)
  case handback => exact exec_up handbackEnd rfl hup (handbackEnd_serving hd h3)
  case drained => exact exec_up handoverDrained rfl hup (handoverDrained_left ha)

theorem twinTimeouts : Clauses.TwinTimeouts := by
  intro s c hup
  refine ⟨fun hc hv => ?vote, fun hc hs => ?settling, fun hc hs hl => ?query, fun h => ?staged⟩
  case vote => exact exec_up twinTimeout rfl hup (twinTimeout_vote hc hv)
  case settling => exact exec_up twinTimeout rfl hup (twinTimeout_settling hc hs)
  case query => exact exec_up querySend rfl hup (querySend_settling hc hs hl)
  case staged => exact exec_up stagedDiscard rfl hup (stagedDiscard_staged h)

/-- Settles O27: each row runs its operation in a part that is up (the toggle in any part), and what the operation does in the case of its
clause is a lemma about it (`heartbeatLost_unsplit`, `twinDown_paired`, `twinTimeout_vote` and the others). -/
theorem twinPair : Obligations.TwinPair := ⟨twinHeartbeat, twinPairStates, twinTimeouts⟩

end Sys2Proof.Machine
end

section
/-!
CVU7 and the check value of a T_PREPARE (O40).
-/
namespace Sys2Proof.Machine

/-! ### CRC-32C (R368) -/

theorem crcBit_lt {w poly r : Nat} (hp : poly < 2 ^ w) (hr : r < 2 ^ w) : crcBit poly r < 2 ^ w := by
  have hhalf : r / 2 < 2 ^ w := Nat.lt_of_le_of_lt (Nat.div_le_self r 2) hr
  unfold crcBit
  split
  · exact Nat.xor_lt_two_pow hhalf hp
  · exact hhalf

theorem crcByte_lt {w poly r : Nat} (hw : 8 ≤ w) (hp : poly < 2 ^ w) (hr : r < 2 ^ w) (b : Byte) : crcByte poly r b < 2 ^ w := by
  have hb : b.toNat < 2 ^ w := Nat.lt_of_lt_of_le b.isLt (Nat.pow_le_pow_right (by decide) hw)
  unfold crcByte
  iterate 8 apply crcBit_lt hp
  exact Nat.xor_lt_two_pow hr hb

theorem crc32cRun_lt {r : Nat} (hr : r < 2 ^ 32) (bs : List Byte) : crc32cRun r bs < 2 ^ 32 := by
  induction bs generalizing r with
  | nil => exact hr
  | cons b bs ih => exact ih (crcByte_lt (by decide) (by decide) hr b)

theorem crc32c_lt (bs : List Byte) : crc32c bs < 2 ^ 32 := Nat.xor_lt_two_pow (crc32cRun_lt (by decide) bs) (by decide)

/-! ### What the end of a message leaves of CV_RESULT and CV_EXPECT (R370) -/

theorem takeInjection_none {s : State} (h : s.fcu.injections = []) (u : UnitId) (kind : Nat) : takeInjection s u kind = (false, s) := by
  simp only [takeInjection, h, List.find?_nil]

theorem cvFail_regs (s : State) (n : Nat) (injected : Bool) : (cvFail s n injected).regs = s.regs := by
  obtain ⟨h, o, hm⟩ := msixManagers_changes s 8
  unfold cvFail
  dsimp only
  rw [hm]
  split <;> rfl

theorem ite_cvFail_regs (b : Prop) [Decidable b] (s : State) (n : Nat) (injected : Bool) : (if b then cvFail s n injected else s).regs = s.regs := by
  split
  · exact cvFail_regs s n injected
  · rfl

/-- Step 1 of R370: the result of the message. -/
def cvResulted (s : State) (n : Nat) : State := wr s (Reg.CV_RESULT n) (cvCut s n ((rd s (Reg.CV_STATE n)).toNat ^^^ cvFinal (cvAlg s n)))

/-- Step 2 of R370, where CHECK and CMP_EN ask for it: whether the result differs, whether injection acted, and the state. -/
def cvChecked (s : State) (n : Nat) (v : Word) : Bool × Bool × State :=
  if Fld.CV_END_CHECK.get v = 1 && isSet s (Reg.CV_CTRL n) Fld.CV_CTRL_CMP_EN then cvCompare s n else (false, false, s)

/-- Step 3 of R370: the alive counter is shown, and compared where ALIVE_EN asks for it. -/
def cvAliveSeen (s : State) (n a : Nat) : Bool × State :=
  if isSet s (Reg.CV_CTRL n) Fld.CV_CTRL_ALIVE_EN then cvAlive s n a else (false, setF s (Reg.CV_STATUS n) Fld.CV_STATUS_ALIVE_LAST a)

/-- The registers in which the end of a message leaves a CVU, whether or not the check has failed. -/
theorem cvEnd_regs (s : State) (n : Nat) (v : Word) : (cvEnd s n v).regs =
    (bump (cvInit (cvAliveSeen (cvChecked (cvResulted s n) n v).2.2 n (Fld.CV_END_ALIVE.get v)).2 n) (Reg.CV_MSG_CNT n)).regs :=
  ite_cvFail_regs _ _ _ _

/-- One of the two registers that step 2 of R370 compares. -/
def CvCompared (n k : Nat) : Prop := k = Reg.CV_RESULT n ∨ k = Reg.CV_EXPECT n

section Compared
variable {n k : Nat} (hk : CvCompared n k)
include hk

/-- Neither is a register that the end of a message writes beside the result. -/
theorem CvCompared.ne : k ≠ Reg.CV_STATUS n ∧ k ≠ Reg.CV_ALIVE n ∧ k ≠ Reg.CV_STATE n ∧ k ≠ Reg.CV_MSG_CNT n := by
  simp only [CvCompared, Reg.CV_RESULT, Reg.CV_EXPECT, Reg.CV_STATUS, Reg.CV_ALIVE, Reg.CV_STATE, Reg.CV_MSG_CNT] at hk ⊢
  omega

theorem rd_cvCompare {s : State} (h : s.fcu.injections = []) : rd (cvCompare s n).2.2 k = rd s k := by
  simp only [cvCompare, takeInjection_none h, Bool.false_eq_true, if_false]
  split
  · rfl
  · exact rd_wr_ne hk.ne.1

theorem rd_cvAlive (s : State) (a : Nat) : rd (cvAlive s n a).2 k = rd s k := by
  obtain ⟨hstatus, halive, -, -⟩ := hk.ne
  unfold cvAlive
  dsimp only
  split <;> simp only [rd_setF, hstatus, halive, if_false]

theorem rd_cvChecked {s : State} (h : s.fcu.injections = []) (v : Word) : rd (cvChecked s n v).2.2 k = rd s k := by
  unfold cvChecked
  split
  · exact rd_cvCompare hk h
  · rfl

theorem rd_cvAliveSeen (s : State) (a : Nat) : rd (cvAliveSeen s n a).2 k = rd s k := by
  unfold cvAliveSeen
  split
  · exact rd_cvAlive hk s a
  · exact rd_wr_ne hk.ne.1

/-- Where no injection acts, a message that ends leaves its result, and the value expected, as they are compared. -/
theorem rd_cvEnd {s : State} (h : s.fcu.injections = []) (v : Word) : rd (cvEnd s n v) k = rd (cvResulted s n) k := by
  obtain ⟨-, -, hstate, hcount⟩ := hk.ne
  rw [rd_congr (cvEnd_regs s n v), bump, rd_bumpN, if_neg hcount, cvInit, rd_wr_ne hstate, rd_cvAliveSeen hk, rd_cvChecked hk (by exact h)]

end Compared

/-! ### A message of the twin mirror agent (R213, R369) -/

theorem cvCtrl_ne_cvState (n : Nat) : Reg.CV_CTRL n ≠ Reg.CV_STATE n := by
  simp only [Reg.CV_CTRL, Reg.CV_STATE]
  omega

/-- CVU `n` is enabled for CRC-32C, its running CRC at `r`. -/
structure CvRunning (s : State) (n r : Nat) : Prop where
  enabled : isSet s (Reg.CV_CTRL n) Fld.CV_CTRL_EN = true
  alg : cvAlg s n = 0
  crc : (rd s (Reg.CV_STATE n)).toNat = r

/-- What puts a value into CV_STATE leaves the CVU as it is set. -/
theorem cvRunning_wr {s : State} {n r : Nat} (he : isSet s (Reg.CV_CTRL n) Fld.CV_CTRL_EN = true) (ha : cvAlg s n = 0) (hr : r < 2 ^ 32) :
    CvRunning (wr s (Reg.CV_STATE n) (BitVec.ofNat 64 r)) n r where
  enabled := by rwa [isSet, getF_wr_ne _ (cvCtrl_ne_cvState n)]
  alg := by rwa [cvAlg, getF_wr_ne _ (cvCtrl_ne_cvState n)]
  crc := by rw [rd_wr_self, BitVec.toNat_ofNat, Nat.mod_eq_of_lt (by omega)]

/-- The agent's setting of a CVU, and INIT (R369). -/
theorem cvInit_running (s : State) (n : Nat) {ctrl : Word} (h : Fld.CV_CTRL_ALG.get ctrl = 0) :
    CvRunning (cvInit (wr s (Reg.CV_CTRL n) (Fld.CV_CTRL_EN.set ctrl 1)) n) n 0xFFFFFFFF := by
  have halg : cvAlg (wr s (Reg.CV_CTRL n) (Fld.CV_CTRL_EN.set ctrl 1)) n = 0 := by
    rw [cvAlg, getF, rd_wr_self, Field.get_set_disjoint _ _ (by decide), h]
  have henabled : isSet (wr s (Reg.CV_CTRL n) (Fld.CV_CTRL_EN.set ctrl 1)) (Reg.CV_CTRL n) Fld.CV_CTRL_EN = true := by
    rw [isSet, getF, rd_wr_self, Field.get_set_self _ _ (by decide)]
    rfl
  rw [cvInit, halg]
  exact cvRunning_wr henabled halg (by decide)

theorem cvFeed_eq {s : State} {n r : Nat} (h : CvRunning s n r) (bs : List Byte) :
    cvFeed s n bs = wr s (Reg.CV_STATE n) (BitVec.ofNat 64 (crc32cRun r bs)) := by
  rw [cvFeed, if_pos h.enabled, h.alg, h.crc]
  rfl

theorem CvRunning.feed {s : State} {n r : Nat} (h : CvRunning s n r) (hr : r < 2 ^ 32) (bs : List Byte) :
    CvRunning (cvFeed s n bs) n (crc32cRun r bs) := by
  rw [cvFeed_eq h]
  exact cvRunning_wr h.enabled h.alg (crc32cRun_lt hr bs)

/-- The result of a message over which the CVU has run. -/
theorem CvRunning.result {s : State} {n : Nat} {bs : List Byte} (h : CvRunning s n (crc32cRun 0xFFFFFFFF bs)) :
    rd (cvResulted s n) (Reg.CV_RESULT n) = BitVec.ofNat 64 (crc32c bs) := by
  have hcut : crc32c bs % 2 ^ 32 = crc32c bs := Nat.mod_eq_of_lt (crc32c_lt bs)
  rw [cvResulted, rd_wr_self, cvCut, h.alg, h.crc]
  exact congrArg (BitVec.ofNat 64) hcut

section Message
variable {s : State} {n : Nat} {ctrl : Word} (h : Fld.CV_CTRL_ALG.get ctrl = 0) (hi : s.fcu.injections = []) (bs : List Byte) (v : Word)
include h

theorem cvMessage_running : CvRunning (cvFeed (cvInit (wr s (Reg.CV_CTRL n) (Fld.CV_CTRL_EN.set ctrl 1)) n) n bs) n (crc32cRun 0xFFFFFFFF bs) :=
  (cvInit_running s n h).feed (by decide) bs

include hi

theorem rd_cvMessage_result : rd (cvMessage s n ctrl bs v) (Reg.CV_RESULT n) = BitVec.ofNat 64 (crc32c bs) := by
  have hfed := cvFeed_eq (cvInit_running s n h) bs
  rw [cvMessage, rd_cvEnd (.inl rfl) (by rw [hfed]; exact hi), (cvMessage_running h bs).result]

theorem rd_cvMessage_expect : rd (cvMessage s n ctrl bs v) (Reg.CV_EXPECT n) = rd s (Reg.CV_EXPECT n) := by
  have hfed := cvFeed_eq (cvInit_running s n h) bs
  have hstate := (show CvCompared n (Reg.CV_EXPECT n) from .inr rfl).ne.2.2.1
  rw [cvMessage, rd_cvEnd (.inr rfl) (by rw [hfed]; exact hi), cvResulted, rd_wr_ne (by simp), hfed, rd_wr_ne hstate, cvInit, rd_wr_ne hstate,
    rd_wr_ne (by simp)]

end Message

/-- CVU7 compares TCHK with the CRC-32C over the records (R213). -/
theorem cvTwinCheck_right {s : State} (h : s.fcu.injections = []) {tchk : Nat} (ht : tchk < 2 ^ 32) (recs : List Byte) (alive : Nat) :
    (cvTwinCheck s recs tchk alive).1 = (tchk == crc32c recs) := by
  have hexpect : Reg.CV_EXPECT 7 ≠ Reg.CV_ALIVE 7 := by decide
  have hrecs := crc32c_lt recs
  simp only [cvTwinCheck]
  rw [rd_cvMessage_result (by decide) (by exact h), rd_cvMessage_expect (by decide) (by exact h), rd_setF, if_neg hexpect, rd_wr_self,
    Nat.mod_eq_of_lt ht, Bool.eq_iff_iff, beq_iff_eq, beq_iff_eq]
  constructor
  · intro heq
    have hnat := congrArg BitVec.toNat heq
    rw [BitVec.toNat_ofNat, BitVec.toNat_ofNat] at hnat
    omega
  · rintro rfl
    rfl

end Sys2Proof.Machine
end

section
/-!
The commands of the pair (O56, O40).
-/
namespace Sys2Proof.Machine

theorem Begins.opcode {s t : State} {d : Decoder} {o : Nat} {r : IcpReq} (h : Begins s d o r t) : r.opcode = o := by
  have htake := h.2
  unfold icpTake at htake
  split at htake
  · split at htake
    · next hop =>
      simp only [Option.some.injEq, Prod.mk.injEq] at htake
      exact htake.1 ▸ hop
    · exact absurd htake (by simp)
  · exact absurd htake (by simp)

section Commands
variable {t : State} {r : IcpReq}

/-! ### TWIN_ROLE (R225, R230) -/

/-- A refused TWIN_ROLE is answered by its status alone. -/
theorem refuse_twinRole (ho : r.opcode = 0x0701) (status : Nat) : refuse t r status = reply t r status [] := by
  rw [refuse, ho]
  rfl

theorem twinRole_takeover (hop : num r.payload 0 1 = 2) : twinRole r t =
    if twinState t = 4 ∧ twinLive t = false ∧ hbLost t = true then reply (takeover t 5) r St.ok [] else refuse t r St.twinDisagree := by
  simp only [twinRole, hop, Bool.not_eq_true']

theorem twinRole_auto (hop : num r.payload 0 1 = 3) : twinRole r t =
    reply (setF (setF t Reg.TWIN_CTRL Fld.TWIN_CTRL_AUTO_HANDBACK (b2n (bitAt r.payload 1 1)))
      Reg.TWIN_CTRL Fld.TWIN_CTRL_AUTO_TAKEOVER (b2n (bitAt r.payload 1 0))) r St.ok [] := by
  simp only [twinRole, hop]

/-! ### T_PREPARE (R211, R213) -/

section Prepare
variable {u : State} {right : Bool} (hf : isFenced t ⟨Uk.cvu, 7⟩ = false)
  (hc : cvTwinCheck t (txnRecords (num r.payload 4 1) (r.payload.drop 12)) (num r.payload 8 4) (num r.raw 10 1 % 16) = (right, u))
include hf hc

theorem tPrepare_badCrc (hr : right = false) : tPrepare t r =
    reply (bump (detect (bump u Reg.TWIN_CHK_ERR_CNT) 0x0403 .contained Uk.twin 0 (num r.payload 0 4)) Reg.TWIN_REFUSE_CNT) r St.badCrc
      (natLe 4 (num r.payload 0 4) ++ natLe 2 0 ++ zeros 2) := by
  subst hr
  simp only [tPrepare, hf, hc, Bool.false_eq_true, if_false, Bool.not_false, if_true]
  rfl

/-- A vote of OK stages the transaction. -/
theorem tPrepare_staged (hr : right = true) (hk : num r.payload 4 1 ≤ 3) (h2 : twinState u = 2) (hs : u.twin.staged = none) (ha : u.pwr.act = none)
    (hn : u.twin.coord = none) (hv : txnVote u (num r.payload 4 1) (r.payload.drop 12) = (St.ok, 0)) : tPrepare t r =
    reply (setTxn { u with twin := { u.twin with staged := some ⟨num r.payload 0 4, num r.payload 4 1, r.payload.drop 12⟩ } } (num r.payload 0 4) 0 1)
      r St.ok (natLe 4 (num r.payload 0 4) ++ natLe 2 0 ++ zeros 2) := by
  subst hr
  have hbeaten : u.twin.coord.map (fun c => { c with beaten := true }) = u.twin.coord := by rw [hn, Option.map_none]
  unfold tPrepare
  simp only [hf, hc, Bool.false_eq_true, if_false]
  rw [if_neg (by decide), if_neg (Nat.not_lt.mpr hk), if_neg (not_not_intro h2), if_neg (by simp [hs, ha]), if_neg (by simp [hn]), hbeaten, hv]
  rfl

end Prepare

/-! ### T_COMMIT and T_QUERY (R211, R212) -/

section Commit
variable {x : StagedTxn} (hs : t.twin.staged = some x) (hx : x.txn = num r.payload 0 4)
include hs hx

theorem tCommit_abort (ha : bitAt r.payload 4 0 = true) : tCommit t r =
    reply (setFate { t with twin := { t.twin with staged := none } } 3) r St.ok
      (natLe 4 (num r.payload 0 4) ++ natLe 4 (epoch (setFate { t with twin := { t.twin with staged := none } } 3))) := by
  have hepoch : epoch (setFate { t with twin := { t.twin with staged := none } } 3) = epoch t := congrArg BitVec.toNat (rd_wr_ne (by decide))
  rw [hepoch]
  simp only [tCommit, hs, hx, ha, Option.filter_some, beq_self_eq_true, if_true]
  rfl

theorem tCommit_applies (ha : bitAt r.payload 4 0 = false) (hk : x.kind ≠ 3) : tCommit t r =
    tableStore { t with twin := { t.twin with staged := none, applied := some (num r.payload 0 4), laterPacket := false } } x.kind false (some r) x.payload := by
  simp only [tCommit, hs, hx, ha, hk, Option.filter_some, beq_self_eq_true, if_true, Bool.false_eq_true, if_false]

end Commit

theorem tQuery_nothingStaged (h : t.twin.staged = none) : tQuery t r =
    reply t r St.ok (natLe 4 (num r.payload 0 4) ++ natLe 1 (b2n (t.twin.applied == some (num r.payload 0 4))) ++ zeros 3) := by
  simp only [tQuery, h, Option.any_none, Bool.false_eq_true, if_false]

/-! ### T_SYNC and T_HANDOVER (R228, R229, R231) -/

/-- How many entries a table has. -/
def syncTop (table : Nat) : Nat := match table with | 0 => 131072 | 1 => 16384 | _ => 4096

/-- An entry beyond the end of the table that it is for, or not owned by the twin whose table that is, refuses the T_SYNC. -/
def syncForbids (s : State) (table dest : Nat) (e : Nat × List Byte) : Bool := decide (syncTop table ≤ e.1) || !syncOwned s table dest e.2

theorem syncClear_live (s : State) (table : Nat) :
    syncClear s table 0 = { s with twin := { s.twin with syncLive := s.twin.syncLive.filter (fun e => e.1 != table) } } := by
  simp only [syncClear]

theorem syncWrite_live (s : State) (table : Nat) (es : List (Nat × List Byte)) :
    syncWrite s table 0 es = { s with twin := { s.twin with syncLive := s.twin.syncLive ++ es.map (fun e => (table, e.1, e.2)) } } := by
  simp only [syncWrite]

theorem tSync_refused {table : Nat} {e : Nat × List Byte} (htable : num r.payload 0 1 = table) (he : e ∈ syncRecs table r.payload)
    (hown : syncOwned t table (num r.payload 1 1) e.2 = false) : tSync t r = reply t r St.notPermitted [] := by
  subst htable
  have hbad : syncForbids t (num r.payload 0 1) (num r.payload 1 1) e = true := by simp [syncForbids, hown]
  exact if_pos (.inr (.inr (List.any_eq_true.mpr ⟨e, he, hbad⟩)))

theorem tSync_firstForLive {table : Nat} (htable : num r.payload 0 1 = table) (hle : table ≤ 2) (hlive : num r.payload 1 1 = 0)
    (hn : t.twin.resync = none) (hes : ∀ e ∈ syncRecs table r.payload, e.1 < syncTop table ∧ syncOwned t table 0 e.2 = true) :
    let kept := t.twin.syncLive.filter (fun e => e.1 != table)
    let u := setF { t with twin := { t.twin with syncLive := kept, resync := some ⟨[], false, bitAt r.payload 2 1, [table * 2]⟩ } }
      Reg.TWIN_STATUS Fld.TWIN_STATUS_RESYNC_BUSY 1
    tSync t r = reply { u with twin := { u.twin with syncLive := kept ++ (syncRecs table r.payload).map (fun e => (table, e.1, e.2)) } } r St.ok [] := by
  subst htable
  have hallowed : ¬(2 < num r.payload 0 1 ∨ 1 < num r.payload 1 1 ∨
      (syncRecs (num r.payload 0 1) r.payload).any (syncForbids t (num r.payload 0 1) (num r.payload 1 1)) = true) := by
    rintro (htop | hdest | hany)
    · omega
    · omega
    · obtain ⟨e, he, hbad⟩ := List.any_eq_true.mp hany
      obtain ⟨hindex, hown⟩ := hes e he
      simp [syncForbids, hlive, hown, Nat.not_le.mpr hindex] at hbad
  refine (if_neg hallowed).trans ?_
  simp only [hn, hlive, Option.getD_none, List.contains_nil, Bool.false_eq_true, if_false, List.nil_append, Bool.false_or, Nat.add_zero]
  rw [syncClear_live, syncWrite_live]
  rfl

theorem tHandover_paired (hop : num r.payload 0 1 = 0) (h2 : twinState t = 2) : tHandover t r = reply (takeover t 4) r St.ok (zeros 8) := by
  simp only [tHandover, hop, h2]

end Commands

/-! ### Together -/

/-- Settles O56: TAKEOVER is one test of the pair's state, its link and the heartbeat (`twinRole_takeover`). -/
theorem takeoverByRole : Obligations.TakeoverByRole := by
  intro s t r h hop
  have hrun : exec .twinRole s = .next (after (twinRole r t)) := whenUp_icpRun h _
  rw [hrun, twinRole_takeover hop]
  exact ⟨fun hlost => by rw [if_pos hlost], fun hlost => by rw [if_neg hlost, refuse_twinRole h.1.opcode]⟩

/-- Settles O40: a decoder that begins a request runs its command on the state in which it is outstanding (`whenUp_icpCommand`,
`whenUp_icpRun`); what CVU7 compares is `cvTwinCheck_right`, and what each command does under the hypotheses of its clause is a lemma about it. -/
theorem pairCommands : Obligations.PairCommands := by
  intro s t r txn
  refine ⟨?auto, ?hello, ?prepare, ?check, ?commit, ?query, ?sync, ?foreign, ?handover⟩
  case auto => exact fun h hop => (whenUp_icpRun h _).trans (by rw [twinRole_auto hop])
  case hello => exact fun h => whenUp_icpCommand h _
  case prepare =>
    intro right u h hf hc
    have hrun : exec .tPrepare s = .next (after (tPrepare t r)) := whenUp_icpCommand h _
    exact ⟨fun hr => by rw [hrun, tPrepare_badCrc hf hc hr],
      fun hr hk h2 hs ha hn hv => by rw [hrun, tPrepare_staged hf hc hr hk h2 hs ha hn hv]⟩
  case check => exact fun recs tchk a hi ht => cvTwinCheck_right hi ht recs a
  case commit =>
    intro x h hs hx
    have hrun : exec .tCommit s = .next (after (tCommit t r)) := whenUp_icpCommand h _
    exact ⟨fun ha => by rw [hrun, tCommit_abort hs hx ha], fun ha hk => by rw [hrun, tCommit_applies hs hx ha hk]⟩
  case query => exact fun h hs => (whenUp_icpCommand h _).trans (by rw [tQuery_nothingStaged hs])
  case sync =>
    intro table h htable hle hlive hn hes
    exact (whenUp_icpCommand h _).trans (by rw [tSync_firstForLive htable hle hlive hn hes])
  case foreign => exact fun table e h htable _ _ he hown => (whenUp_icpCommand h _).trans (by rw [tSync_refused htable he hown])
  case handover => exact fun h hop h2 => (whenUp_icpCommand h _).trans (by rw [tHandover_paired hop h2])

end Sys2Proof.Machine
end

section
/-!
The Mover: doorbells, descriptors and engines (O29).
-/
namespace Sys2Proof.Machine

/-! ### Pages and states of instances (R234–R236) -/

/-- Host software of a vSwitch that is on acts on the pages of the instances bound to it. -/
theorem exec_page {c : Instr} {s : State} {v n : Nat} (f : State → State)
    (hrow : exec c s = whenUp s (fun s => if pageOf s v n then f s else s)) (hup : up s = true) (hv : vswOn s v = true)
    (hn : instVsw s n = some v) : exec c s = .next (after (f s)) := by
  rw [hrow, whenUp_up hup, if_pos (by simp [pageOf, hv, hn])]

/-- To which vSwitch instances are bound is a matter of registers. -/
theorem instVsw_congr {s t : State} (h : s.regs = t.regs) (n : Nat) : instVsw s n = instVsw t n := by
  unfold instVsw isSet
  rw [mode_congr h, getF_congr h, getF_congr h]

theorem instState_congr {s t : State} (h : s.regs = t.regs) (n : Nat) : instState s n = instState t n := by
  simp only [instState, instVsw_congr h, getF_congr h]

/-! ### Doorbells (R243) -/

/-- A doorbell counts in a register of 64 bits. -/
theorem doorbell_word (count : BitVec 32) : BitVec.ofNat 64 (count.toNat % 2 ^ 32) = count.setWidth 64 := by
  rw [Nat.mod_eq_of_lt count.isLt, BitVec.ofNat_toNat]

section Doorbell
variable {s : State} {n : Nat} {count : BitVec 32}

/-- A doorbell within the ring moves TAIL, and the next slot is fetched. -/
theorem tailWrite_within (h : (count.toNat + 2 ^ 32 - headOf s n) % 2 ^ 32 ≤ 2 ^ (s.inst n).ringLog2) :
    tailWrite s n count.toNat = fetchNext (wr s (Reg.INST_TAIL n) (count.setWidth 64)) n := by
  rw [tailWrite, if_pos h, doorbell_word]

theorem tailWrite_beyond (h : 2 ^ (s.inst n).ringLog2 < (count.toNat + 2 ^ 32 - headOf s n) % 2 ^ 32) :
    tailWrite s n count.toNat = setF s (Reg.INST_STATUS n) Fld.INST_STATUS_DB_ERR 1 := by
  rw [tailWrite, if_neg (Nat.not_le.mpr h)]

end Doorbell

/-! ### Completions (R241, R243, R248) -/

/-- A ring read that fails while ENABLED leads to ERROR. -/
theorem fetchDone_failed {t : State} {n : Nat} (hf : (t.inst n).fetching = true) (he : instState t n = Im.enabled)
    (ho : aget t.mover.orphans (16 + n) = none) (bytes : List Byte) :
    fetchDone t n false bytes = ringFail (engineReadEnds (t.modInst n (fun i => { i with fetching := false })) (16 + n)) n := by
  have hstate : instState (engineReadEnds (t.modInst n (fun i => { i with fetching := false })) (16 + n)) n = Im.enabled :=
    (instState_congr rfl n).trans he
  simp only [fetchDone, ho, hf, hstate, Option.isSome_none, Bool.not_true, Bool.not_false, Bool.false_eq_true, if_false, if_true, ne_eq,
    not_true_eq_false]

/-- A source read that fails ends its descriptor. -/
theorem readDone_failed {t : State} {e m w pos len : Nat} {d : Desc} (hd : engDesc t e = some (m, d)) (hw : instVsw t m = some w)
    (hr : d.wait = .read pos len) (data : List Byte) :
    readDone t e false data = descEnd (setDesc (engineReadEnds t e) m { d with wait := .none }) m { d with wait := .none } Ds.readError := by
  simp only [readDone, hd, hr, hw, Bool.not_false, if_true]

/-- The completion of a read that no descriptor waits for is discarded and counted. -/
theorem readDone_orphan {t : State} {e m : Nat} (hd : engDesc t e = none) (ho : aget t.mover.orphans e = some m) (ok : Bool) (data : List Byte) :
    readDone t e ok data =
      bump (engineReadEnds { t with mover := { t.mover with orphans := adel t.mover.orphans e } } e) Reg.MV_DISCARD_CNT := by
  simp only [readDone, hd, ho]

/-! ### Dispatch (R246) -/

theorem dispatch_takes {s : State} {e m : Nat} {d : Desc} (hm : mode s ≠ 5) (he : engFree s e = true) (hd : nextDesc s = some (m, d)) :
    dispatch s e = (let t := setDesc s m { d with phase := .running e, wait := .none, stopping := 0, started := s.mover.order }
      engGo { t with mover := { t.mover with lastInst := m, order := t.mover.order + 1 } } e) := by
  simp only [dispatch, hd]
  exact if_pos (by simp [hm, he])

theorem dispatch_nothing {s : State} {e : Nat} (hd : nextDesc s = none) : dispatch s e = s := by
  simp only [dispatch, hd, ite_self]

/-- Settles O29: a doorbell is one test against the ring's size (`tailWrite_within`, `tailWrite_beyond`), a free engine takes what `nextDesc`
finds, and a completion meets the state in which the Mover's context for its tag has ended. -/
theorem moverEngines : Obligations.MoverEngines := by
  intro s v n e hup
  refine ⟨fun count hv hn => ?doorbell, ?fetched, ?dispatched, ?idle, ?read, ?disabled⟩
  case doorbell =>
    have hrun : exec (.instTailWrite v n count) s = .next (after (tailWrite s n.val count.toNat)) :=
      exec_page (fun s => tailWrite s n.val count.toNat) rfl hup hv hn
    exact ⟨fun h => by rw [hrun, tailWrite_within h], fun h => by rw [hrun, tailWrite_beyond h]⟩
  case fetched =>
    have hrun ok desc : exec (.descriptorFetchDone n ok desc) s = .next (after (fetchDone (mvCtxEnd s (16 + n.val)) n.val ok desc)) :=
      exec_up (fun s => fetchDone (mvCtxEnd s (16 + n.val)) n.val ok desc) rfl hup rfl
    exact ⟨hrun, fun hf he ho => by rw [hrun, fetchDone_failed hf he ho]⟩
  case dispatched => exact fun m d hm he hd => exec_up (fun s => dispatch s e.val) rfl hup (dispatch_takes hm he hd)
  case idle => exact fun hd => exec_up (fun s => dispatch s e.val) rfl hup (dispatch_nothing hd)
  case read =>
    have hrun ok data : exec (.moverReadCompletion e ok data) s = .next (after (readDone (mvCtxEnd s e.val) e.val ok data)) :=
      exec_up (fun s => readDone (mvCtxEnd s e.val) e.val ok data) rfl hup rfl
    exact ⟨hrun, fun m d w pos len hd hw hr data => by rw [hrun, readDone_failed hd hw hr],
      fun m hd ho ok data => by rw [hrun, readDone_orphan hd ho]⟩
  case disabled => exact exec_up (fun s => engineDisable s e.val) rfl hup rfl

end Sys2Proof.Machine
end

section
/-!
The Mover: translations, page requests and invalidations (O30).
-/
namespace Sys2Proof.Machine

/-- A command that a part carries out for a vSwitch, while both are on. -/
theorem exec_vswOn {c : Instr} {s : State} {v : Nat} (f : State → State) (hrow : exec c s = whenUp s (fun s => if vswOn s v then f s else s))
    (hup : up s = true) (hv : vswOn s v = true) : exec c s = .next (after (f s)) := by
  rw [hrow, whenUp_up hup, if_pos hv]

/-! ### Translations for an engine (R244) -/

section Engine
variable {s : State} {e m w iova : Nat} {d : Desc} {write : Bool} (hd : engDesc s e = some (m, d)) (hw : instVsw s m = some w)
  (hx : d.wait = .xlat iova write)
include hd hw hx

theorem xlatDone_error : xlatDone s e .error = descEnd s m { d with wait := .none } Ds.xlatFault := by
  simp only [xlatDone, hd, hx, hw]

/-- A translation that grants neither access denies the one that was asked for, but at a boundary where ABORT ends the descriptor. -/
theorem xlatDone_denied (hs : d.stopping ≠ 3 ∨ d.done ≠ 0) (size addr : Nat) :
    xlatDone s e (.granted size addr false false) = noAccess s w m d := by
  have hgoes : ¬(d.stopping = 3 ∧ d.done = 0) := by omega
  simp only [xlatDone, hd, hx, hw, if_neg hgoes, ite_self, Bool.false_eq_true, if_false]

end Engine

/-! ### Translations for a ring (R243, R244) -/

section Ring
variable {s : State} {n w iova : Nat} {write : Bool} (hx : (s.inst n).ringWait = .xlat iova write) (hw : instVsw s n = some w)
include hx hw

theorem ringXlatDone_granted (size addr : Nat) :
    ringXlatDone s n (.granted size addr true true) = ringGo (atcPut s w n iova size addr true true) w n := by
  simp only [ringXlatDone, hx, hw, ite_self, if_true]

variable (he : instState s n = Im.enabled)
include he

/-- While ENABLED a failure is one whatever the ring waited for. -/
theorem ringXlatDone_error : ringXlatDone s n .error = ringFail s n := by
  simp only [ringXlatDone, hx, hw, he, bne_self_eq_false, Bool.and_false, Bool.false_eq_true, if_false]

theorem ringXlatDone_denied (size addr : Nat) :
    ringXlatDone s n (.granted size addr false false) = ringDenied s w n iova write := by
  simp only [ringXlatDone, hx, hw, he, bne_self_eq_false, Bool.and_false, ite_self, Bool.false_eq_true, if_false]

end Ring

/-! ### PRG Responses (R244) -/

/-- A page request is answered: it is outstanding no longer. -/
def prgAnswered (s : State) (k : Nat) : State := { s with mover := { s.mover with prg := adel s.mover.prg k } }

theorem prgResponse_stale {s : State} {v index : Nat} (h : aget s.mover.prg (v * 512 + index) = none) (code : Nat) :
    prgResponse s v index code = bump s Reg.MV_PRG_STALE_CNT := by
  simp only [prgResponse, h]

section Answered
variable {s : State} {v index m slot : Nat} (hp : aget s.mover.prg (v * 512 + index) = some (m, slot))
include hp

/-- A descriptor whose pages are there is pending again. -/
theorem prgResponse_success {d : Desc} (hd : (s.inst m).descs.find? (fun d => d.slot == slot) = some d) :
    prgResponse s v index 0 = askPages (pended (setDesc (prgAnswered s (v * 512 + index)) m { d with phase := .pending, wait := .none }) m
      { d with phase := .pending, wait := .none }) v := by
  have hfind : ((prgAnswered s (v * 512 + index)).inst m).descs.find? (fun d => d.slot == slot) = some d := hd
  unfold prgAnswered at hfind ⊢
  simp only [prgResponse, hp, hfind, if_true, true_or]

theorem prgResponse_invalid {d : Desc} (hd : (s.inst m).descs.find? (fun d => d.slot == slot) = some d) :
    prgResponse s v index 1 = askPages (descEnd (prgAnswered s (v * 512 + index)) m { d with wait := .none } Ds.xlatFault) v := by
  have hfind : ((prgAnswered s (v * 512 + index)).inst m).descs.find? (fun d => d.slot == slot) = some d := hd
  unfold prgAnswered at hfind ⊢
  simp only [prgResponse, hp, hfind, Nat.one_ne_zero, if_false, or_true, if_true]

/-- The answer to the ring's own request lets it go on, or leads to ERROR. -/
theorem prgResponse_ring (hs : slot = ringSlot) (hd : (s.inst m).descs.find? (fun d => d.slot == slot) = none) {code : Nat} (hc : code ≤ 1) :
    prgResponse s v index code = askPages (if code = 0 then ringGo (prgAnswered s (v * 512 + index)) v m
      else ringFail (prgAnswered s (v * 512 + index)) m) v := by
  have hfind : ((prgAnswered s (v * 512 + index)).inst m).descs.find? (fun d => d.slot == slot) = none := hd
  have hcode : code = 0 ∨ code = 1 := by omega
  unfold prgAnswered at hfind ⊢
  simp only [prgResponse, hp, hfind, if_pos hs, if_pos hcode]

end Answered

/-! ### Invalidations (R245) -/

/-- No translation of the PASID that overlaps the range stays in the ATC. -/
theorem invalidate_drops {s : State} {v pasid iova size itag : Nat} {x : AtcEnt} (h : x ∈ (invalidate s v pasid iova size itag).mover.atc)
    (hv : x.vsw = v) (hp : x.pasid = pasid) : overlaps x.iova x.size iova size = false := by
  have hkept := (List.mem_filter.mp h).2
  simpa [hv, hp] using hkept

/-- The only invalidation left, with no read under it, completes. -/
theorem invalDone_last {s : State} {v itag : Nat} (h : s.mover.invals = [⟨v, itag, []⟩]) :
    invalDone s v itag = emit (bump { s with mover := { s.mover with invals := [] } } Reg.MV_INV_CNT) (.invalidateDone v itag) := by
  have hfind : s.mover.invals.find? (fun x => x.vsw == v && x.itag == itag && x.engines.isEmpty) = some ⟨v, itag, []⟩ := by
    rw [h]
    exact List.find?_cons_of_pos (by simp)
  simp only [invalDone, hfind]
  rw [h, List.erase_cons_head]

/-! ### Together -/

/-- Settles O30: what a completion does is told by what the engine or the ring waits for and what is granted, what a PRG Response does by
whose request it answers, and an invalidation keeps no translation that it covers (`invalidate_drops`). -/
theorem moverTranslation : Obligations.MoverTranslation := by
  intro s v e hup
  have hprg (hv : vswOn s v.val = true) index code :
      exec (.prgResponseRx v index code) s = .next (after (prgResponse s v.val index code)) :=
    exec_vswOn (fun s => prgResponse s v.val index code) rfl hup hv
  refine ⟨?engine, ?ring, ?stale, ?descriptor, ?ringPages, ?invalidation, ?completed, ?flush⟩
  case engine =>
    intro m d w iova write hd hw hx
    have hrun r : exec (.atsTranslationCompletion (.engine e) r) s = .next (after (xlatDone s e.val r)) :=
      exec_up (fun s => xlatDone s e.val r) rfl hup rfl
    exact ⟨by rw [hrun, xlatDone_error hd hw hx], fun size addr hs => by rw [hrun, xlatDone_denied hd hw hx hs]⟩
  case ring =>
    intro n w iova write hx hw
    have hrun r : exec (.atsTranslationCompletion (.ring n) r) s = .next (after (ringXlatDone s n.val r)) :=
      exec_up (fun s => ringXlatDone s n.val r) rfl hup rfl
    exact ⟨fun size addr => by rw [hrun, ringXlatDone_granted hx hw],
      fun he => ⟨by rw [hrun, ringXlatDone_error hx hw he], fun size addr => by rw [hrun, ringXlatDone_denied hx hw he]⟩⟩
  case stale => exact fun index code hv hp => by rw [hprg hv, prgResponse_stale hp]
  case descriptor =>
    exact fun m slot d index hv hp hd => ⟨by rw [hprg hv, prgResponse_success hp hd]; rfl, by rw [hprg hv, prgResponse_invalid hp hd]; rfl⟩
  case ringPages =>
    exact fun m index hv hp hd => ⟨by rw [hprg hv, prgResponse_ring hp rfl hd (by decide)]; rfl,
      by rw [hprg hv, prgResponse_ring hp rfl hd (by decide)]; rfl⟩
  case invalidation =>
    exact fun pasid iova size itag hv =>
      ⟨exec_vswOn (fun s => invalidate s v.val pasid iova size itag) rfl hup hv, fun x hx hxv hxp => invalidate_drops hx hxv hxp⟩
  case completed => exact fun itag h => exec_up (fun s => invalDone s v.val itag) rfl hup (invalDone_last h)
  case flush => exact exec_up atcFlush rfl hup rfl

end Sys2Proof.Machine
end

section
/-!
The Mover: its instances, and the waits that HARVEST and MOVER_QUIESCE end (O31).
-/
namespace Sys2Proof.Machine

/-! ### Which of its instances a Mover PF selects (R237) -/

theorem onSelected_selected {s : State} {v n : Nat} (hv : vswOn s v = true) (hn : instVsw s n = some v)
    (hsel : getF s (Reg.MVPF_INST_SEL v) Fld.MVPF_INST_SEL_INSTANCE = n) (f : State → Nat → State) : onSelected s v f = f s n := by
  simp only [onSelected, instSelected, hsel, hn, hv, if_true]

/-! ### ENABLE, DISABLE and QUIESCE (R235, R237, R254) -/

/-- A write of a register that neither sets the mode nor binds `n` leaves the binding of `n`. -/
theorem instVsw_wr {s : State} {n k : Nat} {w : Word} (hm : Reg.GLB_MODE_STATUS ≠ k) (hb : Reg.MV_INST_BIND n ≠ k) :
    instVsw (wr s k w) n = instVsw s n := by
  unfold instVsw isSet mode
  rw [getF_wr_ne _ hm, getF_wr_ne _ hb, getF_wr_ne _ hb]

/-- One of the bound instances is in the state that it is put into. -/
theorem instState_setInstState {s : State} {n x : Nat} (hb : (instVsw s n).isSome) (h1 : 1 ≤ x) (h5 : x ≤ 5) :
    instState (setInstState s n x) n = x := by
  have hbound : instVsw (setInstState s n x) n = instVsw s n :=
    instVsw_wr (by simp only [Reg.GLB_MODE_STATUS, Reg.INST_STATUS]; omega) (by simp only [Reg.MV_INST_BIND, Reg.INST_STATUS]; omega)
  have hstate : getF (setInstState s n x) (Reg.INST_STATUS n) Fld.INST_STATUS_STATE = x % 2 ^ Fld.INST_STATUS_STATE.width :=
    getF_setF_self _ _ _ (by decide)
  rw [instState, hbound, if_pos hb, hstate, Nat.mod_eq_of_lt (Nat.lt_of_le_of_lt h5 (by decide))]
  omega

/-- A write of a register that is none of those that show the state of `n` leaves that state. -/
theorem instState_wr {s : State} {n k : Nat} {w : Word} (hm : Reg.GLB_MODE_STATUS ≠ k) (hb : Reg.MV_INST_BIND n ≠ k)
    (hs : Reg.INST_STATUS n ≠ k) : instState (wr s k w) n = instState s n := by
  rw [instState, instVsw_wr hm hb, getF_wr_ne _ hs, instState]

/-- What ENABLE writes to the registers of `n`: its state, INIT_HEAD in HEAD and TAIL, and BYTES at 0. -/
theorem instEnable_regs {s : State} {n : Nat} (hst : instState s n = Im.disabled ∨ instState s n = Im.quiesced ∨ instState s n = Im.error)
    (hlo : 4 ≤ (s.inst n).ringLog2) (hhi : (s.inst n).ringLog2 ≤ 16) :
    let h := BitVec.ofNat 64 (num (s.inst n).setup 44 4)
    (instEnable s n).regs = (wr (wr (wr (setInstState s n Im.enabled) (Reg.INST_HEAD n) h) (Reg.INST_TAIL n) h) (Reg.INST_BYTES n) 0).regs := by
  rw [instEnable, if_pos ⟨hst, hlo, hhi⟩]
  cases (s.inst n).fetching <;> rfl

theorem instState_instEnable {s : State} {n : Nat} (hb : (instVsw s n).isSome)
    (hst : instState s n = Im.disabled ∨ instState s n = Im.quiesced ∨ instState s n = Im.error)
    (hlo : 4 ≤ (s.inst n).ringLog2) (hhi : (s.inst n).ringLog2 ≤ 16) : instState (instEnable s n) n = Im.enabled := by
  rw [instState_congr (instEnable_regs hst hlo hhi), instState_wr, instState_wr, instState_wr, instState_setInstState hb (by decide) (by decide)]
  all_goals
    simp only [Reg.GLB_MODE_STATUS, Reg.MV_INST_BIND, Reg.INST_STATUS, Reg.INST_HEAD, Reg.INST_TAIL, Reg.INST_BYTES]
    omega

theorem instDisable_stopped {s : State} {n : Nat} (h : instState s n = Im.quiesced ∨ instState s n = Im.error) :
    instDisable s n = setInstState s n Im.disabled := if_pos h

/-- QUIESCE without ABORT stops fetching, and leaves the descriptors fetched to end by themselves. -/
theorem instQuiesce_enabled {s : State} {n : Nat} (h : instState s n = Im.enabled) (byCtrl : Bool) : instQuiesce s n false byCtrl =
    ringQuiet ((setInstState s n Im.quiescing).modInst n (fun i => { i with byCtrl := i.byCtrl || byCtrl })) n := by
  rw [instQuiesce, if_pos (.inl h)]
  rfl

/-- What INST_CTRL did not quiesce becomes QUIESCED without an interrupt, once nothing of it is left in the part. -/
theorem instQuiesced_drained {s : State} {n : Nat} (hst : instState s n = Im.quiescing) (hd : (s.inst n).descs = []) (hr : (s.inst n).recs = [])
    (hreads : instReads s n = false) (hwrites : instWrites s n = false) (hc : (s.inst n).byCtrl = false) :
    instQuiesced s n = quiesceReplies ((setInstState s n Im.quiesced).modInst n (fun i => { i with byCtrl := false })) := by
  simp only [instQuiesced, hst, hd, hr, hreads, hwrites, hc, List.isEmpty_nil, Bool.not_false, and_self, if_true, Bool.false_eq_true, if_false]

/-! ### Mailboxes (R253) -/

theorem mbSend_free {s : State} {n : Nat} (h : isSet s (Reg.INST_STATUS n) Fld.INST_STATUS_MB_OUT_BUSY = false) :
    mbSend s n = mbTake (setF s (Reg.INST_STATUS n) Fld.INST_STATUS_MB_OUT_BUSY 1) n := if_neg (by simp [h])

theorem mbAck_nothingWaits {s : State} {n : Nat} (h : (s.inst n).mbWait = []) :
    mbAck s n = setF s (Reg.INST_STATUS n) Fld.INST_STATUS_MB_IN_FULL 0 := by
  have hwait : ((setF s (Reg.INST_STATUS n) Fld.INST_STATUS_MB_IN_FULL 0).inst n).mbWait = [] := h
  simp only [mbAck, hwait]

/-- The oldest reply that waits takes the mailbox freed. -/
theorem mbAck_next {s : State} {n : Nat} {p : List Byte} {rest : List (List Byte)} (h : (s.inst n).mbWait = p :: rest) :
    mbAck s n = deliver ((setF s (Reg.INST_STATUS n) Fld.INST_STATUS_MB_IN_FULL 0).modInst n (fun i => { i with mbWait := rest }))
      (Ch.mailbox n) 0 p := by
  have hwait : ((setF s (Reg.INST_STATUS n) Fld.INST_STATUS_MB_IN_FULL 0).inst n).mbWait = p :: rest := h
  simp only [mbAck, hwait]

theorem mbReply_relayed {s : State} {n : Nat} {r : IcpReq} (h : (s.inst n).relay = some r) (len : Nat) :
    mbReply s n len true = reply (s.modInst n (fun i => { i with relay := none })) r St.ok ((fit 64 (s.inst n).relayOut).take (min 48 len)) := by
  simp only [mbReply, h, if_true]

/-! ### Waits that end (R251, R255) -/

theorem harvestDone_replies {s : State} {n w : Nat} {d : Dirty} {r : IcpReq} (hd : (s.inst n).dirty = some d) (hh : d.harvest = some (r, w)) :
    harvestDone s n = reply (s.modInst n (fun i => { i with dirty := some { d with harvest := none, outOfRange := false } })) r St.ok
      (natLe 4 w ++ natLe 1 (b2n d.lost + 2 * b2n d.outOfRange) ++ zeros 3) := by
  simp only [harvestDone, hd, hh]

theorem moverQuiesceTimeout_oldest {s : State} {q : MvQuiesce} {rest : List MvQuiesce} (h : s.mover.quiesces = q :: rest) :
    moverQuiesceTimeout s = reply { s with mover := { s.mover with quiesces := rest } } q.req St.timeout
      (natLe 2 (notQuiet s q.first q.count) ++ zeros 2) := by
  simp only [moverQuiesceTimeout, h]

/-! ### Together -/

theorem moverInstances : Clauses.MoverInstances := by
  intro s v n hup hv hn hsel
  have hrun {c : Instr} (f : State → Nat → State) (hrow : exec c s = whenUp s (fun s => onSelected s v.val f)) :
      exec c s = .next (after (f s n.val)) := exec_up _ hrow hup (onSelected_selected hv hn hsel f)
  refine ⟨hrun instEnable rfl, ?enabled, ?disable, ?quiesce, ?quiesced, ?setup, ?send, ?ack, ?next, ?relayed⟩
  case enabled => exact instState_instEnable (by rw [hn]; rfl)
  case disable => exact fun h => by rw [hrun instDisable rfl, instDisable_stopped h]
  case quiesce => exact fun h => by rw [hrun (fun s n => instQuiesce s n false true) rfl, instQuiesce_enabled h]
  case quiesced =>
    exact fun hst hd hr hreads hwrites hc =>
      exec_up (fun s => instQuiesced s n.val) rfl hup (instQuiesced_drained hst hd hr hreads hwrites hc)
  case setup => exact fun offset bytes => hrun (fun s n => setupWrite s n offset bytes) rfl
  case send => exact fun h => by rw [exec_page (fun s => mbSend s n.val) rfl hup hv hn, mbSend_free h]
  case ack => exact fun h => by rw [exec_page (fun s => mbAck s n.val) rfl hup hv hn, mbAck_nothingWaits h]
  case next => exact fun p rest h => by rw [exec_page (fun s => mbAck s n.val) rfl hup hv hn, mbAck_next h]
  case relayed => exact fun r len h => by rw [hrun (fun s n => mbReply s n len true) rfl, mbReply_relayed h]

theorem moverWaitsEnd : Clauses.MoverWaitsEnd := by
  intro s hup
  exact ⟨fun n d r w hd hh => exec_up (fun s => harvestDone s n.val) rfl hup (harvestDone_replies hd hh),
    fun q rest h => exec_up moverQuiesceTimeout rfl hup (moverQuiesceTimeout_oldest h)⟩

/-- Settles O31: of its instances the commands of the set-up registers act on the selected one (`onSelected_selected`), those of a page on
its own (`exec_page`); what each does is a lemma about its operation (`instState_instEnable`, `instQuiesced_drained` and the others). -/
theorem moverInstancesAndWaits : Obligations.MoverInstancesAndWaits := ⟨moverInstances, moverWaitsEnd⟩

end Sys2Proof.Machine
end

section
/-!
The ICP commands of the Mover, and ORBIT_CONFIG (O38).
-/
namespace Sys2Proof.Machine

section Commands
variable {t : State} {r : IcpReq}

/-! ### MOVER_BIND and MOVER_QUIESCE (R255) -/

/-- `n` is bound to a vSwitch, its set-up cleared. -/
def boundTo (v : Nat) (s : State) (n : Nat) : State :=
  wr ((instClear s n Im.disabled).modInst n (fun _ => Inst.init)) (Reg.MV_INST_BIND n) (BitVec.ofNat 64 (2 ^ 31 + v))

/-- Instances of a vSwitch that is on, none of them at work or logging, are bound. -/
theorem moverBind_bound {first count v : Nat} (hf : num r.payload 0 2 = first) (hc : num r.payload 2 2 = count) (hv : num r.payload 4 1 = v)
    (hr : rangeBad first count = false) (hlt : v < 32) (hon : vswOn t v = true) (hun : bitAt r.payload 6 0 = false)
    (hidle : ∀ i, i < count → instState t (first + i) ≠ Im.enabled ∧ instState t (first + i) ≠ Im.quiescing ∧ (t.inst (first + i)).dirty = none) :
    moverBind r t = reply (((List.range count).map (fun i => first + i)).foldl (boundTo v) t) r St.ok (zeros 4) := by
  have hallowed : ¬((rangeBad first count || (!false && (decide (32 ≤ v) || !vswOn t v))) = true) := by simp [hr, hon, hlt]
  have hfind : ((List.range count).map (fun i => first + i)).find?
      (fun n => instState t n == Im.enabled || instState t n == Im.quiescing || (t.inst n).dirty.isSome) = none := by
    refine List.find?_eq_none.mpr fun n hn => ?_
    obtain ⟨i, hi, rfl⟩ := List.mem_map.mp hn
    obtain ⟨he, hq, hd⟩ := hidle i (List.mem_range.mp hi)
    simp [he, hq, hd]
  simp only [moverBind, hf, hc, hv, hun, if_neg hallowed, hfind]
  rfl

/-- With RESUME the instances of the range that are QUIESCED are enabled again. -/
theorem moverQuiesce_resumes {first count : Nat} (hf : num r.payload 0 2 = first) (hc : num r.payload 2 2 = count)
    (hr : rangeBad first count = false) (hresume : (num r.payload 4 1).testBit 1 = true) :
    moverQuiesce r t = reply ((((List.range count).map (fun i => first + i)).filter (fun n => instState t n == Im.quiesced)).foldl instEnable t)
      r St.ok (zeros 4) := by
  simp only [moverQuiesce, hf, hc, hr, hresume, Bool.false_eq_true, if_false, if_true, forEach]

/-! ### MOVER_DIRTY (R251, R252) -/

/-- The copy that a START asks for, at its place in the dirty region. -/
def dirtyAsked (r : IcpReq) (place : Nat) : Dirty :=
  { pages := num r.payload 4 4, iovaBase := num r.payload 8 8, ofs := place, lost := false, outOfRange := false, harvest := none }

theorem moverDirty_started {n place : Nat} (hop : num r.payload 0 1 = 0) (hspace : num r.payload 1 1 ≤ 1) (hn : num r.payload 2 2 = n) (hlt : n < 4096)
    (hbase : num r.payload 8 8 % 4096 = 0) (hmap : num r.payload 16 8 % 8 = 0) (hlo : 1 ≤ num r.payload 4 4) (hhi : num r.payload 4 4 ≤ 2 ^ 28)
    (hold : (t.inst n).dirty = none)
    (hplace : dirtyPlace (t.modInst n (fun i => { i with dirty := none })) (dirtyAsked r place).bytes = some place) :
    moverDirty r t = reply (setF (State.modInst { t.modInst n (fun i => { i with dirty := none }) with
      mem := memZero t.mem (dirtyBase t + place) (dirtyAsked r place).bytes } n (fun i => { i with dirty := some (dirtyAsked r place) }))
      (Reg.INST_STATUS n) Fld.INST_STATUS_DIRTY_ON 1) r St.ok (zeros 8) := by
  have hallowed : ¬(2 < 0 ∨ 1 < num r.payload 1 1 ∨ 4096 ≤ n ∨ num r.payload 8 8 % 4096 ≠ 0 ∨ num r.payload 16 8 % 8 ≠ 0 ∨
      (True ∧ (num r.payload 4 4 = 0 ∨ 2 ^ 28 < num r.payload 4 4))) := by omega
  change dirtyPlace _ (dirtyAsked r 0).bytes = some place at hplace
  unfold dirtyAsked at hplace ⊢
  simp only [moverDirty, hop, hn, hold, hplace, Bool.false_eq_true, if_false]
  exact if_neg hallowed

/-! ### The commands of a tenant (R253) -/

@[simp] theorem inst_modInst_self (s : State) (n : Nat) (f : Inst → Inst) : (s.modInst n f).inst n = f (s.inst n) := by
  rw [inst_modInst, if_pos rfl]

theorem msix_mover (s : State) (v fn vec : Nat) : (msix s v fn vec).mover = s.mover := by
  obtain ⟨h, o, hm⟩ := msix_changes s v fn vec
  rw [hm]

/-- A packet of a tenant waits for host software. -/
def relayWaits (r : IcpReq) (i : Inst) : Inst := { i with relay := some r, relayIn := fit 64 r.raw, relayOut := [] }

/-- A tenant's packet is held, and listed among the relays pending; the interrupt changes nothing of the Mover. -/
theorem moverTRelay_mover (h : (t.inst (r.chan - 128)).relay = none) :
    (moverTRelay r t).mover = { (t.modInst (r.chan - 128) (relayWaits r)).mover with
      relayPend := if t.mover.relayPend.contains (r.chan - 128) then t.mover.relayPend else t.mover.relayPend ++ [r.chan - 128] } := by
  simp only [moverTRelay, h]
  split
  · exact msix_mover _ _ _ _
  · rfl

theorem inst_moverTRelay (h : (t.inst (r.chan - 128)).relay = none) :
    (moverTRelay r t).inst (r.chan - 128) = relayWaits r (t.inst (r.chan - 128)) := by
  rw [State.inst, moverTRelay_mover h]
  exact inst_modInst_self t (r.chan - 128) (relayWaits r)

theorem mem_relayPend_moverTRelay (h : (t.inst (r.chan - 128)).relay = none) : r.chan - 128 ∈ (moverTRelay r t).mover.relayPend := by
  rw [moverTRelay_mover h]
  dsimp only
  split
  · next hlisted => exact List.contains_iff_mem.mp hlisted
  · exact List.mem_append_right _ (List.mem_singleton.mpr rfl)

/-! ### ORBIT_CONFIG (R340) -/

/-- PERIOD 0 stops ORBIT, whatever else is asked. -/
theorem orbitConfig_stops (hperiod : num r.payload 0 4 = 0) (hdest : num r.payload 4 1 ≤ 1) : orbitConfig r t = reply
    (let u := wr (wr (wr t Reg.ORBIT_CFG
      (BitVec.ofNat 64 (0 * 2 ^ 32 + num r.payload 4 1 * 2 ^ 29 + num r.payload 5 1 % 32 * 2 ^ 24 + num r.payload 16 1 % 32)))
      Reg.ORBIT_ADDR (BitVec.ofNat 64 (num r.payload 8 8 / 4096 * 4096))) Reg.ORBIT_SETS (BitVec.ofNat 64 (num r.payload 24 8))
     { u with bg := { u.bg with orbitSeq := 0, orbitOfs := 0, since := adel u.bg.since 17 } }) r St.ok [] := by
  have hallowed : decide (1 < num r.payload 4 1) = false := decide_eq_false (Nat.not_lt.mpr hdest)
  simp only [orbitConfig, hperiod, hallowed, bne_self_eq_false, Bool.false_and, Bool.or_self, Bool.false_eq_true, if_false, if_true]

end Commands

/-! ### Together -/

/-- Settles O38: a decoder that begins a request runs its command on the state in which it is outstanding (`whenUp_icpRun`), and what each
command does under the hypotheses of its clause is a lemma about it (`moverBind_bound`, `moverDirty_started`, `moverTRelay_mover` and the others). -/
theorem moverAndOrbitCommands : Obligations.MoverAndOrbitCommands := by
  intro s t r first count
  refine ⟨?bind, ?resume, ?dirty, ?status, ?relay, ?orbit⟩
  case bind =>
    exact fun h hr hlt hon hun hidle => (whenUp_icpRun h _).trans (by rw [moverBind_bound rfl rfl rfl hr hlt hon hun hidle]; rfl)
  case resume => exact fun h hr hresume => (whenUp_icpRun h _).trans (by rw [moverQuiesce_resumes rfl rfl hr hresume])
  case dirty =>
    exact fun place h hop hspace hlt hbase hmap hlo hhi hold hplace =>
      (whenUp_icpRun h _).trans (by rw [moverDirty_started hop hspace rfl hlt hbase hmap hlo hhi hold hplace]; rfl)
  case status => exact fun h => whenUp_icpRun h _
  case relay =>
    intro h hfree
    refine ⟨moverTRelay r t, whenUp_icpRun h _, ?_, ?_, ?_, mem_relayPend_moverTRelay hfree⟩
    all_goals rw [inst_moverTRelay hfree, relayWaits]
  case orbit => exact fun h hperiod hdest => (whenUp_icpRun h _).trans (by rw [orbitConfig_stops hperiod hdest])

end Sys2Proof.Machine
end

section
/-!
The slots of a tile and their lanes (O58).
-/
namespace Sys2Proof.Machine

/-! ### The slots of a split (R257) -/

/-- Every slot of every split with its width. -/
def splitSlots : List (Nat × Nat × Nat) :=
  (List.range 4).flatMap fun split => ((List.range 4).filter (slotExists split)).map fun i => (split, i, slotWidth split i)

theorem splitSlots_eq : splitSlots =
    [(0, 0, 16), (1, 0, 8), (1, 2, 8), (2, 0, 8), (2, 2, 4), (2, 3, 4), (3, 0, 4), (3, 1, 4), (3, 2, 4), (3, 3, 4)] := by decide

theorem mem_splitSlots {split i : Nat} (hsplit : split < 4) (hi : i < 4) (width : Nat) :
    (split, i, width) ∈ splitSlots ↔ slotExists split i = true ∧ slotWidth split i = width := by
  simp only [splitSlots, List.mem_flatMap, List.mem_map, List.mem_filter, List.mem_range, Prod.mk.injEq]
  constructor
  · rintro ⟨_, _, _, ⟨_, hexists⟩, rfl, rfl, rfl⟩
    exact ⟨hexists, rfl⟩
  · rintro ⟨hexists, rfl⟩
    exact ⟨split, hsplit, i, ⟨hi, hexists⟩, rfl, rfl, rfl⟩

/-- A slot ends within the 16 lanes of its tile. -/
theorem slot_within_tile : ∀ {split i : Nat}, slotExists split i = true → 4 * i + slotWidth split i ≤ 16
  | 0, i, h => by
    obtain rfl : i = 0 := beq_iff_eq.mp h
    decide
  | 1, i, h => by
    obtain rfl | rfl : i = 0 ∨ i = 2 := by simpa [slotExists] using h
    all_goals decide
  | 2, i, h => by
    obtain (rfl | rfl) | rfl : (i = 0 ∨ i = 2) ∨ i = 3 := by simpa [slotExists] using h
    all_goals decide
  | split + 3, i, h => by
    have hi : i < 4 := of_decide_eq_true h
    show 4 * i + 4 ≤ 16
    omega

theorem slotLanes_lt {s : State} {t i l : Nat} (hon : slotOn s t i = true) (hl : l ∈ slotLanes s t i) : l < 16 := by
  have hexists : slotExists (tileSplit s t) i = true := (Bool.and_eq_true_iff.mp hon).1
  have hend := slot_within_tile hexists
  obtain ⟨j, hj, rfl⟩ := List.mem_map.mp hl
  have hwidth := List.mem_range.mp hj
  omega

/-! ### A lane at CRITICAL (R401) -/

/-- The level that a lane has reached is recorded, and margining yields the lane's spare slice. -/
def levelReached (s : State) (t l n : Nat) : State := marginEnd (setF s (Reg.PRESS_LEVEL t) (Fld.PRESS_LEVEL_LEVEL l) n) t [l]

/-- A lane in use that comes to CRITICAL is a fault against the device lane. -/
theorem pressLevelChange_critical {s : State} {t l : Nat} (hl : l ∈ lanesInUse s t)
    (hnew : levelOf s (laneAge s t l) (pressPeriod s t) = 2) (hold : pressLevel s t l < 2) :
    pressLevelChange s t l =
      detect (levelReached s t l 2) 0x0300 .contained Uk.lane (16 * t + l) (laneAge (levelReached s t l 2) t l) := by
  have hused : (!(lanesInUse s t).contains l) = false := by rw [List.contains_iff_mem.mpr hl, Bool.not_true]
  have hyields : 1 ≤ 2 := by decide
  simp only [pressLevelChange, hused, hnew, hold, hyields, Bool.false_eq_true, if_false, and_self, if_true, levelReached]

/-- Settles O58: the slots of the splits are those of `splitSlots`, none reaches past its tile (`slot_within_tile`), and a lane that comes to
CRITICAL is named by its device number (`pressLevelChange_critical`). -/
theorem slotsOfTile : Obligations.SlotsOfTile := by
  refine ⟨?slots, fun _ _ _ => rfl, fun _ _ _ _ hon _ hl => slotLanes_lt hon hl, ?critical⟩
  case slots =>
    intro split i width hsplit hi
    rw [← splitSlots_eq, mem_splitSlots hsplit hi]
  case critical => exact fun s t l hl hnew hold => ⟨levelReached s t l 2, pressLevelChange_critical hl hnew hold⟩

end Sys2Proof.Machine
end

section
/-!
PCIe links: up, down, rate and power changes; data link layer packets and L1 (O22).
-/
namespace Sys2Proof.Machine

/-! ### Which vSwitches a port serves (R102, R284) -/

/-- The enabled vSwitches and their upstream ports are a matter of VSW_CTRL. -/
theorem vswitches_congr {s t : State} (h : ∀ v, rd t (Reg.VSW_CTRL v) = rd s (Reg.VSW_CTRL v)) : vswitches t = vswitches s := by
  have hon : vswOn t = vswOn s := funext fun v => by rw [vswOn, isSet, getF, h, vswOn, isSet, getF]
  rw [vswitches, hon, vswitches]

theorem upVsw_congr {s t : State} (h : ∀ v, rd t (Reg.VSW_CTRL v) = rd s (Reg.VSW_CTRL v)) (p : Nat) : upVsw t p = upVsw s p := by
  simp only [upVsw, vswitches_congr h, upPort, getF, h]

theorem bridges_congr {s t : State} (hmode : rd t Reg.GLB_MODE_STATUS = rd s Reg.GLB_MODE_STATUS)
    (hmap : ∀ v k, rd t (Reg.VBR_MAP v k) = rd s (Reg.VBR_MAP v k)) (v : Nat) : bridges t v = bridges s v := by
  have hin : mode t = mode s := congrArg Fld.GLB_MODE_STATUS_MODE.get hmode
  have hmapped : bridgesMapped t v = bridgesMapped s v := by simp only [bridgesMapped, isSet, getF, hmap]
  rw [bridges, hin, hmapped, bridges]

theorem directBridge_congr {s t : State} (hmode : rd t Reg.GLB_MODE_STATUS = rd s Reg.GLB_MODE_STATUS)
    (hmap : ∀ v k, rd t (Reg.VBR_MAP v k) = rd s (Reg.VBR_MAP v k)) (hvsw : ∀ v, rd t (Reg.VSW_CTRL v) = rd s (Reg.VSW_CTRL v)) (p : Nat) :
    directBridge t p = directBridge s p := by
  simp only [directBridge, vswitches_congr hvsw, bridges_congr hmode hmap, isDirect, bridgePort, isSet, getF, hmap]

theorem vswsOfPort_congr {s t : State} (hmode : rd t Reg.GLB_MODE_STATUS = rd s Reg.GLB_MODE_STATUS)
    (hmap : ∀ v k, rd t (Reg.VBR_MAP v k) = rd s (Reg.VBR_MAP v k)) (hvsw : ∀ v, rd t (Reg.VSW_CTRL v) = rd s (Reg.VSW_CTRL v))
    (hbind : t.hosts.bind = s.hosts.bind) (p : Nat) : vswsOfPort t p = vswsOfPort s p := by
  simp only [vswsOfPort, directBridge_congr hmode hmap hvsw, bindsOfPort, hbind]

section Detected
variable (s : State) (source : Nat) (cls : FaultClass) (kind index detail p : Nat)

@[simp] theorem upVsw_detect : upVsw (detect s source cls kind index detail) p = upVsw s p := rfl
@[simp] theorem directBridge_detect : directBridge (detect s source cls kind index detail) p = directBridge s p := rfl
@[simp] theorem portFn_detect : portFn (detect s source cls kind index detail) p = portFn s p := rfl

end Detected

theorem vswCtrl_ne_portEvent (v p : Nat) : Reg.VSW_CTRL v ≠ Reg.PORT_EVENT p := by
  simp only [Reg.VSW_CTRL, Reg.PORT_EVENT]
  omega

/-- An event of a port changes its own register alone. -/
theorem rd_portEvent_ne {s : State} {p i k : Nat} (h : k ≠ Reg.PORT_EVENT p) : rd (portEvent s p i) k = rd s k := by
  unfold portEvent
  dsimp only
  split
  · obtain ⟨hosts, out, hm⟩ := msixManagers_changes (wr s (Reg.PORT_EVENT p) (rd s (Reg.PORT_EVENT p) ||| BitVec.ofNat 64 (2 ^ i))) 4
    rw [hm]
    exact rd_wr_ne h
  · exact rd_wr_ne h

theorem clearPortCoef_regs (s : State) (p : Nat) : (clearPortCoef s p).regs = s.regs := by
  unfold clearPortCoef
  split <;> rfl

section Port
variable {s : State} {p : Nat}

/-! ### A PCIe link goes down (R287, R306) -/

/-- A link has left L0 for good only into Detect or a state from L2/L3 Ready on. -/
theorem pcieDown_stays {lt : Nat} (h1 : lt ≠ Lt.detect) (h7 : lt < Lt.l23) : pcieDown s p lt = s := by
  have hstays : (!(lt == Lt.detect || decide (Lt.l23 ≤ lt))) = true := by simp [h1, h7]
  simp only [pcieDown, hstays, Bool.or_true, if_true]

theorem pcieDown_lost {lt : Nat} (hp : isPcie s p = true) (hlt : lt = Lt.detect ∨ Lt.l23 ≤ lt) (hu : upVsw s p = none)
    (hc : servesComposed s p = false) : pcieDown s p lt = linkLost s p lt 0x0C := by
  have hdown : (!(lt == Lt.detect || decide (Lt.l23 ≤ lt))) = false := by
    rcases hlt with h1 | h7
    · rw [beq_iff_eq.mpr h1, Bool.true_or, Bool.not_true]
    · rw [decide_eq_true h7, Bool.or_true, Bool.not_true]
  simp only [pcieDown, hp, hdown, hu, hc, Bool.not_true, Bool.false_and, Bool.or_self, Bool.false_eq_true, if_false]

/-- Where the host had set Power Controller Control to Off nothing but the loss of the link is reported. -/
theorem surpriseDown_hostOff (hp : isPcie s p = true) (hoff : (s.port p).hostOff = true) : surpriseDown s p = pcieDown s p Lt.detect := by
  simp only [surpriseDown, hp, hoff, Bool.not_true, Bool.false_eq_true, if_false, if_true]

/-- What a Surprise Down reports (R123, R306): an event of the port and a fault; the coefficient records of its lanes are void. -/
def surpriseReported (s : State) (p : Nat) : State :=
  clearPortCoef (detect (portEvent s p Ev.surpriseDown) 0x0202 .contained Uk.port p (ltssm s p)) p

theorem upVsw_surpriseReported (s : State) (p : Nat) : upVsw (surpriseReported s p) p = upVsw s p :=
  by
  have hregs : (surpriseReported s p).regs = (portEvent s p Ev.surpriseDown).regs := clearPortCoef_regs _ p
  exact upVsw_congr (fun v => (rd_congr hregs _).trans (rd_portEvent_ne (vswCtrl_ne_portEvent v p))) p

theorem surpriseDown_upstream {v : Nat} (hp : isPcie s p = true) (hoff : (s.port p).hostOff = false) (hu : upVsw s p = some v) :
    surpriseDown s p = pcieDown (surpriseReported s p) p Lt.detect := by
  have hu' := (upVsw_surpriseReported s p).trans hu
  unfold surpriseReported ltssm at hu' ⊢
  simp only [surpriseDown, hp, hoff, hu', Bool.not_true, Bool.false_eq_true, if_false]

/-- The bit of AER, and detail of the fault, of an error that takes a link down (R306). -/
def fatalBit : LinkError → Nat
  | .receiverOverflow => Aer.overflow
  | .flowControl => Aer.flowControl
  | .dataLink => Aer.dlProtocol

/-- A port that no bridge of the part's own controls goes down and trains again. -/
theorem fatalError_noBridge (hp : isPcie s p = true) (hf : portFn s p = none) (hu : upVsw s p = none) (hd : directBridge s p = none) (e : LinkError) :
    fatalError s p e = trainFromDetect (pcieDown (detect s 0x0201 .contained Uk.port p (fatalBit e)) p Lt.detect) p := by
  cases e
  all_goals simp only [fatalError, hp, portFn_detect, hf, upVsw_detect, hu, directBridge_detect, hd, Bool.not_true, Bool.false_eq_true, if_false, fatalBit]

/-! ### States of a link that keeps training or stays up (R265, R306) -/

theorem ltssmMove_training {lt : Nat} (hp : isPcie s p = true) (hlt : 1 ≤ lt ∧ lt ≤ 5) (hold : 1 ≤ ltssm s p ∧ ltssm s p ≤ 5)
    (hd : isSet s (Reg.PORT_STATUS p) Fld.PORT_STATUS_DL_ACTIVE = false) : ltssmMove s p lt = setLtssm (pressAbandonPort s p) p lt := by
  unfold ltssm at hold
  simp only [ltssmMove, hp, hlt, hold, hd, and_self, decide_true, Bool.true_or, Bool.not_false, Bool.and_self, if_true]

theorem replayTimer_up (hp : isPcie s p = true) (hl : portUp s p = true) : replayTimer s p = pcieReplay (linkCorrectable s p 12) p := by
  rw [replayTimer, if_pos (by rw [hp, hl, Bool.and_self])]

/-! ### Data link layer packets and L1 (R283, R290, R297, R299) -/

section Dllps
variable (hp : isPcie s p = true)
include hp

theorem dllp_ack (seq : Nat) : dllp s p (.ack seq) = ackTo s p seq := if_neg (by simp [hp])

theorem dllp_nak (seq : Nat) : dllp s p (.nak seq) = pcieReplay (ackTo s p seq) p := if_neg (by simp [hp])

theorem dllp_feature (sc : Bool) :
    dllp s p (.feature sc) = s.modPort p (fun x => { x with scaled := sc || isSet s (Reg.PORT_STATUS p) Fld.PORT_STATUS_FLIT }) :=
  if_neg (by simp [hp])

theorem dllp_initFc (c : TlpClass) (hdr data hs ds : Nat) : dllp s p (.initFc c hdr data hs ds) = s.modPort p (fun x =>
    { x with fcLimit := aput x.fcLimit c.code (if hdr = 0 then 2 ^ 32 else hdr, if data = 0 then 2 ^ 32 else data) }) :=
  if_neg (by simp [hp])

/-- Credits granted add to the limit of their class. -/
theorem dllp_updateFc {c : TlpClass} {lim : Nat × Nat} (hl : aget (s.port p).fcLimit c.code = some lim) (vc hdr data : Nat) :
    dllp s p (.updateFc vc c hdr data) =
      s.modPort p (fun x => { x with fcLimit := aput x.fcLimit c.code (lim.1 + hdr, lim.2 + data) }) := by
  simp only [dllp, hp, State.modPort, hl, Option.getD_some, Bool.not_true, Bool.false_eq_true, if_false]

/-- A downstream port whose VOQs are empty acknowledges a request to enter ASPM L1 that is allowed. -/
theorem dllp_pmEnterL1_enters (hu : upVsw s p = none) (hl : ltssm s p = Lt.l0) (ha : l1Allowed s p = true) (hq : voqsEmpty s p = true) :
    dllp s p .pmEnterL1 = enterL1 (emit s (.dllp p .pmRequestAck)) p := by
  unfold ltssm at hl
  simp only [dllp, hp, hu, hl, ha, hq, Option.isSome_none, bne_self_eq_false, Bool.not_true, Bool.or_self, Bool.and_self, Bool.false_eq_true,
    if_false, if_true]

theorem dllp_pmEnterL1_refused (hu : upVsw s p = none) (hl : ltssm s p = Lt.l0) (ha : l1Allowed s p = false) :
    dllp s p .pmEnterL1 = emit s (.message p 0x14 0) := by
  unfold ltssm at hl
  simp only [dllp, hp, hu, hl, ha, Option.isSome_none, bne_self_eq_false, Bool.not_true, Bool.or_self, Bool.false_and, Bool.false_eq_true, if_false]

theorem dllp_pmEnterPciL1_enters (hu : upVsw s p = none) (hl : ltssm s p = Lt.l0) (ha : isSet s (Reg.PORT_PM p) Fld.PORT_PM_L1_ALLOW = true)
    (hq : voqsEmpty s p = true) : dllp s p .pmEnterPciL1 = enterL1 (emit s (.dllp p .pmRequestAck)) p := by
  unfold ltssm at hl
  simp only [dllp, hp, hu, hl, ha, hq, Option.isNone_none, beq_self_eq_true, Bool.not_true, Bool.and_self, Bool.false_eq_true, if_false, if_true]

theorem dllp_pmRequestAck_upstream (hu : (upVsw s p).isSome = true) (hl : ltssm s p = Lt.l0) : dllp s p .pmRequestAck = enterL1 s p := by
  unfold ltssm at hl
  simp only [dllp, hp, hu, hl, beq_self_eq_true, Bool.not_true, Bool.and_self, Bool.false_eq_true, if_false, if_true]

end Dllps

theorem l1Request_asks (hu : (upVsw s p).isSome = true) (ha : l1Allowed s p = true) (hl : ltssm s p = Lt.l0) (hq : voqsEmpty s p = true) :
    l1Request s p = emit s (.dllp p .pmEnterL1) := by
  unfold ltssm at hl
  simp only [l1Request, hu, ha, hl, hq, beq_self_eq_true, Bool.and_self, if_true]

theorem l1Request_notAllowed (ha : l1Allowed s p = false) : l1Request s p = s := by
  simp only [l1Request, ha, Bool.and_false, Bool.false_and, Bool.false_eq_true, if_false]

/-- A link leaves L1 through Recovery. -/
theorem exitL1_recovers (hl : ltssm s p = Lt.l1) :
    exitL1 s p = portWake (setPs (setLtssm (pressAbandonPort (clkreqDrive s p true) p) p Lt.recovery) p Fld.PORT_STATUS_L1_SUB 0) p := if_pos hl

/-- CLKREQ# deasserted leaves the substate as it is. -/
theorem clkreq_deasserted (hsub : 2 ≤ getF s (Reg.PORT_STATUS p) Fld.PORT_STATUS_L1_SUB) :
    clkreq s p false = s.modPort p (fun x => { x with clkreqIn := false }) := by
  simp only [clkreq, hsub, if_true, Bool.false_eq_true, if_false]

end Port

/-! ### Together -/

theorem pcieLinkCommands : Clauses.PcieLinkCommands := by
  intro s p hup hp
  refine ⟨?comes, ?stays, ?lost, ?off, ?surprise, ?fatal, ?rate, ?moves, ?replay⟩
  case comes =>
    exact fun rate width flit reversed partner _ _ _ _ => exec_up (pcieUp · p.val rate.val width flit reversed partner.val) rfl hup rfl
  case stays => exact fun lt h1 h7 => exec_up (pcieDown · p.val lt.val) rfl hup (pcieDown_stays h1 h7)
  case lost => exact fun lt hlt hu hc => exec_up (pcieDown · p.val lt.val) rfl hup (pcieDown_lost hp hlt hu hc)
  case off => exact fun hoff => exec_up (surpriseDown · p.val) rfl hup (surpriseDown_hostOff hp hoff)
  case surprise => exact fun v hoff hu => exec_up (surpriseDown · p.val) rfl hup (surpriseDown_upstream hp hoff hu)
  case fatal =>
    intro hf hu hd
    have hrun (e : LinkError) := exec_up (i := .linkFatalError p e) (fatalError · p.val e) rfl hup (fatalError_noBridge hp hf hu hd e)
    exact ⟨hrun .receiverOverflow, hrun .flowControl, hrun .dataLink⟩
  case rate => exact fun rate width _ => exec_up (rateChange · p.val rate.val width) rfl hup rfl
  case moves =>
    exact fun lt h1 h5 hold1 hold5 hd => exec_up (ltssmMove · p.val lt.val) rfl hup (ltssmMove_training hp ⟨h1, h5⟩ ⟨hold1, hold5⟩ hd)
  case replay => exact fun hl => exec_up (replayTimer · p.val) rfl hup (replayTimer_up hp hl)

theorem pcieDllpsAndL1 : Clauses.PcieDllpsAndL1 := by
  intro s p hup hp
  have hrun (d : Dllp) {t : State} (ht : dllp s p.val d = t) := exec_up (i := .dllpRx p d) (dllp · p.val d) rfl hup ht
  refine ⟨?ack, ?nak, ?feature, ?l1, ?refused, ?pciL1, ?acknowledged, ?initFc, ?updateFc, ?notAllowed, ?exit, ?clkreq⟩
  case ack => exact fun seq => hrun _ (dllp_ack hp seq)
  case nak => exact fun seq => hrun _ (dllp_nak hp seq)
  case feature => exact fun sc => hrun _ (dllp_feature hp sc)
  case l1 =>
    intro ha hl hq
    exact ⟨fun hu => exec_up (l1Request · p.val) rfl hup (l1Request_asks hu ha hl hq),
      fun hu => hrun _ (dllp_pmEnterL1_enters hp (Option.isNone_iff_eq_none.mp hu) hl ha hq)⟩
  case refused => exact fun ha hl hu => hrun _ (dllp_pmEnterL1_refused hp hu hl ha)
  case pciL1 => exact fun ha hl hq hu => hrun _ (dllp_pmEnterPciL1_enters hp hu hl ha hq)
  case acknowledged => exact fun hl hu => hrun _ (dllp_pmRequestAck_upstream hp hu hl)
  case initFc => exact fun c hdr data hs ds => hrun _ (dllp_initFc hp c hdr data hs ds)
  case updateFc => exact fun vc c hdr data lim hl => hrun _ (dllp_updateFc hp hl vc hdr data)
  case notAllowed => exact fun ha => exec_up (l1Request · p.val) rfl hup (l1Request_notAllowed ha)
  case exit => exact fun hl => exec_up (exitL1 · p.val) rfl hup (exitL1_recovers hl)
  case clkreq => exact fun hsub => exec_up (clkreq · p.val false) rfl hup (clkreq_deasserted hsub)

end Sys2Proof.Machine
end

section
/-!
Messages of PCIe ports: PTM, power management, LTR, INTx and errors (O22).
-/
namespace Sys2Proof.Machine

/-! ### PTM (R100, R296) -/

section Port
variable {s : State} {p v : Nat}

theorem ptmDialogue_valid (hu : upVsw s p = some v) (hen : (agetD (s.func v fnUp).other 178 0).testBit 0 = true)
    (hd : isSet s (Reg.PORT_STATUS p) Fld.PORT_STATUS_DL_ACTIVE = true) (offset : Word) :
    ptmDialogue s p offset = setF (wr s (Reg.HOST_TIME_OFS v) offset) (Reg.PORT_PTM p) Fld.PORT_PTM_VALID 1 := by
  simp only [ptmDialogue, hu, hen, hd, Bool.and_self, if_true]

/-- The answer gives the host time of the vSwitch to which the requester belongs. -/
theorem ptmRequest_answered {rid w i : Nat} {o : Origin} (hu : upVsw s p = none) (hr : resolve s p rid = some (w, o, i)) (hl : portUp s p = true) :
    ptmRequest s p rid = emit s (.message p 0x53 ((s.time + (rd s (Reg.HOST_TIME_OFS w)).toNat) % 2 ^ 64)) := by
  simp only [ptmRequest, hu, hr, hl, Option.isSome_none, Bool.false_eq_true, if_false, if_true]

/-! ### Power management (R300) -/

@[simp] theorem port_modPort_self (s : State) (p : Nat) (f : Port → Port) : (s.modPort p f).port p = f (s.port p) := by
  rw [port_modPort, if_pos rfl]

/-- Two changes of one port are one change. -/
theorem modPort_modPort (s : State) (p : Nat) (f g : Port → Port) : (s.modPort p f).modPort p g = s.modPort p (fun x => g (f x)) := by
  rw [State.modPort, port_modPort_self]
  simp only [State.modPort, aput_aput]

@[simp] theorem upPort_modPort (s : State) (q : Nat) (f : Port → Port) (v : Nat) : upPort (s.modPort q f) v = upPort s v := rfl
@[simp] theorem pmePorts_modPort (s : State) (q : Nat) (f : Port → Port) (v : Nat) : pmePorts (s.modPort q f) v = pmePorts s v := rfl

/-- With no port below it a vSwitch acknowledges PME_Turn_Off at once. -/
theorem pmeTurnOff_noneBelow (hb : portsBelow s v = []) : pmeTurnOff s v =
    linkLost (emit (s.modPort (upPort s v) (fun x => { x with pmeOff := [] })) (.message (upPort s v) 0x1B 0)) (upPort s v) Lt.l23 0x0C := by
  have hnone : pmePorts s v = [] := congrArg (List.map Prod.fst) hb
  simp only [pmeTurnOff, hnone, forEach, List.foldl_nil, pmeCollected, upPort_modPort, pmePorts_modPort, port_modPort_self, List.all_nil,
    List.contains_cons, beq_self_eq_true, Bool.true_or, Bool.and_self, if_true, modPort_modPort]

/-- The acknowledgement for the one vSwitch below which the port lies. -/
theorem pmeAck_collects {t : Nat} (hw : (s.port p).pmeWait = some t) (hv : vswsOfPort s p = [v]) :
    pmeAck s p = pmeCollected (linkLost (s.modPort p (fun x => { x with pmeWait := none })) p Lt.l23 0x0C) v := by
  simp only [pmeAck, hw, hv, forEach, List.foldl_cons, List.foldl_nil]

theorem pmeTimeout_collects {t : Nat} (hw : (s.port p).pmeWait = some t) (hv : vswsOfPort s p = [v]) :
    pmeTimeout s p = pmeCollected (s.modPort p (fun x => { x with pmeWait := none })) v := by
  simp only [pmeTimeout, hw, hv, forEach, List.foldl_cons, List.foldl_nil]

/-! ### LTR (R301) -/

/-- PORT_LTR says nothing of the vSwitches above a port. -/
theorem vswsOfPort_wr_ltr (s : State) (p q : Nat) (w : Word) : vswsOfPort (wr s (Reg.PORT_LTR p) w) q = vswsOfPort s q := by
  refine vswsOfPort_congr (rd_wr_ne ?mode) (fun u k => rd_wr_ne ?map) (fun u => rd_wr_ne ?vsw) rfl q
  all_goals simp only [Reg.GLB_MODE_STATUS, Reg.VBR_MAP, Reg.VSW_CTRL, Reg.PORT_LTR]
  all_goals omega

/-- Below no vSwitch an LTR message is recorded, and none follows from it. -/
theorem ltr_recorded {snoop nosnoop : Nat} (hp : isPcie s p = true) (hu : upVsw s p = none) (hs : snoop < 65536) (hn : nosnoop < 65536)
    (hv : vswsOfPort s p = []) : ltr s p snoop nosnoop =
    wr (s.modPort p (fun x => { x with ltrSeen := true })) (Reg.PORT_LTR p) (BitVec.ofNat 64 (nosnoop * 65536 + snoop)) := by
  have hnone (f : Port → Port) : vswsOfPort (s.modPort p f) p = [] := hv
  simp only [ltr, hp, hu, vswsOfPort_wr_ltr, hnone, Nat.mod_eq_of_lt hs, Nat.mod_eq_of_lt hn, forEach, List.foldl_nil, Option.isSome_none,
    Bool.not_true, Bool.or_self, Bool.false_eq_true, if_false]

end Port

/-! ### INTx (R295) -/

theorem func_modFunc (s : State) (v k j : Nat) (f : Func → Func) :
    (s.modFunc v k f).func v j = if j = k then f (s.func v k) else s.func v j := by
  simp only [State.func, State.modFunc, vsw_modVsw, if_pos]
  rw [agetD_aput]

/-- Of a list of messages those that are not left out are sent, in order. -/
theorem out_forEach_emit (l : List Nat) (skip : Nat → Bool) (m : Nat → Out) (s : State) :
    (forEach l s (fun x u => if skip u then x else emit x (m u))).out = s.out ++ (l.filter (fun u => !skip u)).map m := by
  unfold forEach
  induction l generalizing s with
  | nil => simp
  | cons u l ih =>
    rw [List.foldl_cons, ih]
    cases h : skip u <;> simp [h, emit]

/-- A wire that the state of a function drives: wire `j` of device and function number `d`, and no other. -/
theorem wireOn_one {s : State} {v k d j w : Nat} (h : (s.func v (fnBridge k)).intx = 2 ^ (4 * d + j)) (hd : d < 256) (hj : j < 4) (hw : w < 4) :
    wireOn s v k w = decide (w = j) := by
  rw [wireOn, h, Bool.eq_iff_iff, List.any_eq_true, decide_eq_true_iff]
  simp only [Nat.testBit_two_pow, decide_eq_true_iff, List.mem_range]
  constructor
  · rintro ⟨e, _, he⟩
    omega
  · rintro rfl
    exact ⟨d, hd, rfl⟩

theorem wireOn_zero {s : State} {v k : Nat} (h : (s.func v (fnBridge k)).intx = 0) (w : Nat) : wireOn s v k w = false := by
  simp [wireOn, h]

/-- While no function behind a bridge drives a wire, none of the upstream port's is on. -/
theorem wireUp_none {s : State} {v : Nat} (h : ∀ k ∈ bridges s v, (s.func v (fnBridge k)).intx = 0) (u : Nat) : wireUp s v u = false :=
  List.any_eq_false.mpr fun k hk => by simp [wireOn_zero (h k hk)]

/-- Where one bridge alone carries a wire, the upstream port's is that wire swizzled by the bridge's device number. -/
theorem wireUp_one {s : State} {v k d j u : Nat} (hk : k ∈ bridges s v) (hone : (s.func v (fnBridge k)).intx = 2 ^ (4 * d + j))
    (hrest : ∀ i ∈ bridges s v, i ≠ k → (s.func v (fnBridge i)).intx = 0) (hd : d < 256) (hj : j < 4) (hu : u < 4) :
    wireUp s v u = decide (u = (j + bridgeDevfn k / 8) % 4) := by
  have hw : (u + 4 - bridgeDevfn k / 8 % 4) % 4 < 4 := Nat.mod_lt _ (by decide)
  rw [wireUp, Bool.eq_iff_iff, List.any_eq_true, decide_eq_true_iff]
  constructor
  · rintro ⟨i, hi, hon⟩
    obtain rfl : i = k :=
      Decidable.byContradiction fun hne => Bool.false_ne_true ((wireOn_zero (hrest i hi hne) _).symm.trans hon)
    rw [wireOn_one hone hd hj hw, decide_eq_true_iff] at hon
    omega
  · intro h
    refine ⟨k, hk, ?_⟩
    rw [wireOn_one hone hd hj hw, decide_eq_true_iff]
    omega

/-- The wires of the functions behind a bridge as they become. -/
def wiresChanged (s : State) (v k new : Nat) : State := s.modFunc v (fnBridge k) (fun f => { f with intx := new })

/-- The upstream port sends a message for each of its wires that changes. -/
theorem intxSet_out {s : State} {v : Nat} (hl : portUp s (upPort s v) = true) (k new : Nat) : (intxSet s v k new).out = s.out ++
    ([0, 1, 2, 3].filter (fun u => !(wireUp s v u == wireUp (wiresChanged s v k new) v u))).map (fun u =>
      .message (upPort s v) ((if wireUp (wiresChanged s v k new) v u then 0x20 else 0x24) + u) (hostId s v fnUp)) := by
  simp only [intxSet, hl, Bool.not_true, Bool.or_false]
  exact out_forEach_emit _ _ _ _

/-- Where no function drove a wire and one behind bridge `k` now drives wire `j`, one wire of the upstream port is on. -/
theorem wireUp_wiresChanged {s : State} {v k d j u : Nat} (hnone : ∀ i ∈ bridges s v, (s.func v (fnBridge i)).intx = 0) (hk : k ∈ bridges s v)
    (hd : d < 256) (hj : j < 4) (hu : u < 4) :
    wireUp (wiresChanged s v k (2 ^ (4 * d + j))) v u = decide (u = (j + bridgeDevfn k / 8) % 4) := by
  refine wireUp_one (d := d) hk ?one ?rest hd hj hu
  case one => rw [wiresChanged, func_modFunc, if_pos rfl]
  case rest =>
    intro i hi hne
    rw [wiresChanged, func_modFunc, if_neg (by simpa [fnBridge] using hne)]
    exact hnone i hi

theorem filter_wire : ∀ w < 4, [0, 1, 2, 3].filter (fun u => decide (u = w)) = [w] := by decide

/-- The first wire behind the bridges of a vSwitch that is asserted goes up as one message. -/
theorem intxSet_asserts {s : State} {v k d pin : Nat} (hnone : ∀ i ∈ bridges s v, (s.func v (fnBridge i)).intx = 0) (hk : k ∈ bridges s v)
    (hl : portUp s (upPort s v) = true) (hd : d < 256) :
    (intxSet s v k (intxWith (s.func v (fnBridge k)) d pin true)).out =
      s.out ++ [.message (upPort s v) (0x20 + (pin + d / 8 + bridgeDevfn k / 8) % 4) (hostId s v fnUp)] := by
  have hnew : intxWith (s.func v (fnBridge k)) d pin true = 2 ^ (4 * d + (pin + d / 8) % 4) := by
    simp [intxWith, hnone k hk, setBit]
  have hup {u : Nat} (hu : u < 4) : wireUp (wiresChanged s v k (2 ^ (4 * d + (pin + d / 8) % 4))) v u =
      decide (u = (pin + d / 8 + bridgeDevfn k / 8) % 4) := by
    rw [wireUp_wiresChanged hnone hk hd (Nat.mod_lt _ (by decide)) hu, Nat.mod_add_mod]
  have hw : (pin + d / 8 + bridgeDevfn k / 8) % 4 < 4 := Nat.mod_lt _ (by decide)
  have hchanges : [0, 1, 2, 3].filter (fun u => !(wireUp s v u == wireUp (wiresChanged s v k (2 ^ (4 * d + (pin + d / 8) % 4))) v u)) =
      [(pin + d / 8 + bridgeDevfn k / 8) % 4] := by
    rw [← filter_wire _ hw]
    refine List.filter_congr fun u hu => ?_
    have hu4 : u < 4 := List.mem_range.mp hu
    rw [wireUp_none hnone, hup hu4, Bool.false_beq, Bool.not_not]
  rw [hnew, intxSet_out hl, hchanges, List.map_singleton, hup hw, decide_eq_true rfl, if_pos rfl]

section Direct
variable {s : State} {p v k : Nat} (hd : directBridge s p = some (v, k))
include hd

theorem intx_direct (rid pin : Nat) (on : Bool) :
    intx s p rid pin on = intxSet s v k (intxWith (s.func v (fnBridge k)) (rid % 256) pin on) := by
  simp only [intx, hd]

/-! ### Error messages (R121, R123) -/

/-- DPC at the direct bridge takes the place of an error message that DPC Trigger Enable takes. -/
theorem errorMessage_triggers {severity : Nat} (ht : dpcTakes (s.func v (fnBridge k)) severity = true) (rid : Nat) :
    errorMessage s p rid severity = dpcDirect s v k severity := by
  simp only [errorMessage, hd, ht, if_true]

/-- The code of the message of a severity (R121). -/
def errorCode (severity : Nat) : Nat := if severity = 0 then 0x30 else if severity = 1 then 0x31 else 0x33

theorem errorMessage_passes {severity : Nat} (ht : dpcTakes (s.func v (fnBridge k)) severity = false) (rid : Nat) :
    errorMessage s p rid severity = emit s (.message (upPort s v) (errorCode severity) rid) := by
  simp only [errorMessage, hd, ht, Bool.false_eq_true, if_false, errorCode]

end Direct

/-! ### Together -/

theorem pcieMessages : Clauses.PcieMessages := by
  intro s p v hup
  refine ⟨?ptm, ?ptmRequest, ?turnOff, ?acknowledged, ?ltr, ?intx, ?error⟩
  case ptm => exact fun offset hu hen hd => exec_up (ptmDialogue · p.val offset) rfl hup (ptmDialogue_valid hu hen hd offset)
  case ptmRequest => exact fun rid w o i hu hr hl => exec_up (ptmRequest · p.val rid) rfl hup (ptmRequest_answered hu hr hl)
  case turnOff => exact fun hb => exec_up (pmeTurnOff · v.val) rfl hup (pmeTurnOff_noneBelow hb)
  case acknowledged =>
    exact fun t hw hv => ⟨exec_up (pmeAck · p.val) rfl hup (pmeAck_collects hw hv), exec_up (pmeTimeout · p.val) rfl hup (pmeTimeout_collects hw hv)⟩
  case ltr => exact fun snoop nosnoop hp hu hs hn hv => exec_up (ltr · p.val snoop nosnoop) rfl hup (ltr_recorded hp hu hs hn hv)
  case intx =>
    intro rid pin on k hd _
    refine ⟨exec_up (intx · p.val rid pin on) rfl hup (intx_direct hd rid pin on), ?_⟩
    rintro rfl hnone hk hl
    exact intxSet_asserts hnone hk hl (Nat.mod_lt _ (by decide))
  case error =>
    intro rid k hd
    have hpasses (severity : Nat) (ht : dpcTakes (s.func v.val (fnBridge k)) severity = false) :=
      exec_up (i := .errorMessageRx p rid severity) (errorMessage · p.val rid severity) rfl hup (errorMessage_passes hd ht rid)
    have htriggers (severity : Nat) (ht : dpcTakes (s.func v.val (fnBridge k)) severity = true) :=
      exec_up (i := .errorMessageRx p rid severity) (errorMessage · p.val rid severity) rfl hup (errorMessage_triggers hd ht rid)
    refine ⟨hpasses 0 (by simp [dpcTakes]), fun h => hpasses 1 (by simp [dpcTakes, h]), fun h => htriggers 1 (by simp [dpcTakes, h]),
      fun h => hpasses 2 (by simp [dpcTakes, h]), fun h => htriggers 2 ?_⟩
    rcases h with h | h <;> simp [dpcTakes, h]

/-- Settles O22: each command runs its operation in a part that is up (`exec_up`), and what the operation does under the hypotheses of its
clause is a lemma about it; the longest is that of INTx, whose one wire comes up swizzled twice (`wireUp_one`, `intxSet_asserts`). -/
theorem pcieLinks : Obligations.PcieLinks := ⟨pcieLinkCommands, pcieDllpsAndL1, pcieMessages⟩

end Sys2Proof.Machine
end

section
/-!
How every command ends: in a sound state, and in a part that something holds in reset with nothing done but what the AON domain sees to (O5, O6, O49).
-/
namespace Sys2Proof.Machine
open Sys2Proof

/-! ### The end of a command is sound -/

/-- While the TERMINAL latch is set, every other domain is held and FAULT_N is low, whatever the state was. -/
theorem held351_conclude {s : State} (h : s.pwr.terminal = true) : Held351 (conclude s) := by
  rw [conclude, if_pos h]
  constructor <;> rfl

@[simp] theorem terminal_faultNDrive (s : State) : (faultNDrive s).pwr.terminal = s.pwr.terminal := by
  unfold faultNDrive
  split <;> rfl

@[simp] theorem faultNHeld_faultNDrive (s : State) : faultNHeld (faultNDrive s) = faultNHeld s := by
  unfold faultNDrive
  split <;> rfl

@[simp] theorem terminal_conclude (s : State) : (conclude s).pwr.terminal = s.pwr.terminal := by
  unfold conclude
  split
  · rfl
  · exact terminal_faultNDrive s

/-- What the AON domain sees to makes any state sound. -/
theorem sound_conclude (s : State) : Sound (conclude s) := by
  by_cases ht : s.pwr.terminal = true
  · have hheld := held351_conclude ht
    exact ⟨fun _ => hheld.faultN, fun _ => hheld⟩
  · rw [conclude, if_neg ht]
    exact ⟨fun h => faultNDrive_low (faultNHeld_faultNDrive s ▸ h), fun h => absurd (terminal_faultNDrive s ▸ h) ht⟩

/-- Every command is carried out, and ends with what follows from it inside the part and what the AON domain sees to. -/
theorem exec_ends (c : Instr) (s : State) : ∃ u, exec c s = .next (after u) := by
  cases c <;> exact ⟨_, rfl⟩

theorem tick_ends (s : State) : ∃ u, tick s = conclude u := by
  unfold tick
  dsimp only
  split <;> exact ⟨_, rfl⟩

/-- Settles O49: a step ends in `conclude` of some state (`exec_ends`, `tick_ends`), which is sound whatever that state is (`sound_conclude`). -/
theorem soundPreserved : Obligations.SoundPreserved := by
  intro s t _ h
  unfold step at h
  split at h
  · rename_i c rest _
    obtain ⟨u, hu⟩ := exec_ends c { s with pending := rest }
    obtain rfl : after u = t := by simpa [hu] using h
    exact sound_conclude _
  · obtain ⟨u, hu⟩ := tick_ends s
    obtain rfl : tick s = t := by simpa using h
    exact hu ▸ sound_conclude u

/-! ### In a held part nothing runs -/

/-- A command ends in what follows from its effect, whichever guard its row begins with. -/
theorem exec_effect {c : Instr} {s t u : State} (hrow : exec c s = finish u) (hu : u = t) : exec c s = .next (after t) := by
  rw [hrow, finish_eq, hu]

section Held
variable {s : State} (hp : powered s = false)
include hp

theorem fastUp_unpowered : fastUp s = false := by simp [fastUp, hp]
theorem up_unpowered : up s = false := by simp [up, fastUp_unpowered hp]
theorem spUp_unpowered : spUp s = false := by simp [spUp, hp]
theorem configured_unpowered : configured s = false := by simp [configured, hp]
theorem accessUp_unpowered (m : Master) : accessUp s m = false := by simp [accessUp, spUp_unpowered hp, fastUp_unpowered hp]
theorem ownWrite_unpowered (m : Master) (k : Nat) (w : Word) : ownWrite s m k w = s := by simp [ownWrite, accessUp_unpowered hp]
theorem pcWrite_unpowered (m : Master) (b : Nat) (w : Word) : pcWrite s m b w = s := by simp [pcWrite, accessUp_unpowered hp]
theorem rootStable_unpowered : rootStable s = s := by simp [rootStable, hp]
theorem firmwareReady_unpowered : firmwareReady s = s := by simp [firmwareReady, up_unpowered hp]
theorem bootConfig_unpowered : bootConfig s = s := by simp [bootConfig, fastUp_unpowered hp]
theorem dormantWake_unpowered (c : WakeCause) : dormantWake s c = s := by simp [dormantWake, hp]
theorem wakeTimer_unpowered : wakeTimer s = s := by simp [wakeTimer, hp]

theorem warmReset_unpowered : warmReset s = s := by
  unfold warmReset
  split
  · rfl
  · simp [fastUp_unpowered hp]

/-- A clock that fails in a held part changes nothing: the latch, the flush or the hold is already there. -/
theorem clockFail_unpowered (c : ClockSrc) : clockFail s c = s := by
  have hheld : s.pwr.terminal = true ∨ s.pwr.flushing = true ∨ s.pwr.phase = .held := by
    by_contra hno
    push Not at hno
    obtain ⟨ht, hf, hph⟩ := hno
    simp [powered, ht, hf, hph] at hp
  rw [clockFail, if_pos]
  rcases hheld with h | h | h <;> simp [h]

end Held

/-- The commands of the AON domain, of its supplies and of its pins, which a held part still carries out (R351, R394, R476, R484). -/
def actsHeld : Instr → Bool
  | .porNAssert | .porNDeassert _ | .xoStable | .pwrfailNRecognised | .powerFailFlushDone | .pwrfailNRise | .vddAonLoss | .supplyLoss _
  | .spWatchdogExpired | .aonRead | .faultNRelease | .hostPerstNAssert _ | .hostPerstNDeassert _ | .twinHbToggle => true
  | _ => false

/-- Every other command meets a guard that a held part fails. -/
theorem exec_ignored {s : State} {c : Instr} (hp : powered s = false) (hc : actsHeld c = false) : exec c s = .next (conclude s) := by
  rw [← after_unpowered hp]
  cases c
  case porNAssert | porNDeassert | xoStable | pwrfailNRecognised | powerFailFlushDone | pwrfailNRise | vddAonLoss | supplyLoss | spWatchdogExpired
    | aonRead | faultNRelease | hostPerstNAssert | hostPerstNDeassert | twinHbToggle => simp [actsHeld] at hc
  all_goals
    exact exec_effect rfl (by simp [hp, fastUp_unpowered hp, up_unpowered hp, spUp_unpowered hp, configured_unpowered hp, accessUp_unpowered hp,
      ownWrite_unpowered hp, pcWrite_unpowered hp, rootStable_unpowered hp, firmwareReady_unpowered hp, bootConfig_unpowered hp,
      dormantWake_unpowered hp, wakeTimer_unpowered hp, warmReset_unpowered hp, clockFail_unpowered hp])

theorem heldPartIgnoresCommands : Clauses.HeldPartIgnoresCommands := by
  intro s c hp hlist hstrap hrail hassert hdeassert hhb
  refine exec_ignored hp (Bool.eq_false_iff.mpr fun hacts => ?_)
  unfold actsHeld at hacts
  split at hacts <;> simp_all

/-! ### Before the configuration -/

theorem exec_tlpIngress_down {s : State} (h : up s = false) (p : Fin 64) (t : Tlp) (a : Arrival) :
    exec (.tlpIngress p t a) s = .next (after (if powered s && !configured s && a == .whole then earlyTlp s p.val t else s)) := by
  refine (finish_eq _).trans ?_
  rw [if_neg (by simp [h])]

theorem nothingRunsBeforeConfiguration : Clauses.NothingRunsBeforeConfiguration := by
  intro s n p f t a e hdown
  refine ⟨?rows, ?unanswered, ?early⟩
  case rows =>
    simp only [List.forall_mem_cons]
    refine ⟨?_, ?_, ?_, ?_, ?_, ?_, ?_, ?_, ?_, ?_, ?_, ?_, ?_, ?_, ?_, ?_, ?_, ?_, ?_, ?_, ?_, ?_, ?_, ?_, ?_, ?_, ?_, ?_, by simp⟩
    all_goals exact exec_effect rfl (by simp [hdown])
  case unanswered =>
    intro h
    rw [exec_tlpIngress_down hdown, if_neg]
    rcases h with h | h | h <;> simp [h]
  case early =>
    intro hp hc
    rw [exec_tlpIngress_down hdown, if_pos (by simp [hp, hc])]
    rfl

/-- Settles O6: every other command meets a guard that a held part fails (`exec_ignored`), and so do the rows listed before the configuration;
a TLP that comes whole before it takes `earlyTlp`. -/
theorem heldPart : Obligations.HeldPart := ⟨heldPartIgnoresCommands, nothingRunsBeforeConfiguration⟩

/-! ### The TERMINAL latch -/

theorem powered_of_terminal {s : State} (h : s.pwr.terminal = true) : powered s = false := by simp [powered, h]

theorem terminal_after {s : State} (h : s.pwr.terminal = true) : (after s).pwr.terminal = true := by
  rw [after_unpowered (powered_of_terminal h), terminal_conclude, h]

/-- A command whose effect keeps the latch set ends with it set. -/
theorem exec_keepsTerminal {c : Instr} {s t u : State} (hrow : exec c s = finish u) (hu : u.pwr.terminal = true) (h : exec c s = .next t) :
    t.pwr.terminal = true := by
  obtain rfl : after u = t := by simpa [hrow, finish_eq] using h
  exact terminal_after hu

/-- The reserve of the journal is followed by its age and its level. -/
theorem darnReserve_changes (s : State) : ∃ r b, darnReserve s = { s with regs := r, bg := b } := by
  unfold darnReserve
  split
  · split
    · exact ⟨s.regs, s.bg, rfl⟩
    · exact ⟨s.regs, _, rfl⟩
  · exact ⟨_, _, rfl⟩

theorem headReady_changes {s t : State} (h : headReady s = some t) : ∃ r b, t = { s with regs := r, bg := b } := by
  unfold headReady at h
  dsimp only at h
  split at h
  · exact ⟨s.regs, s.bg, (Option.some.inj h).symm⟩
  · split at h
    · rename_i k _
      obtain ⟨r, b, hd⟩ := darnReserve_changes (setF s Reg.JNL_STATUS Fld.JNL_STATUS_HEAD k)
      exact ⟨r, b, (Option.some.inj h).symm.trans hd⟩
    · cases h

theorem sectorHeader_changes (s : State) (k : Nat) : ∃ f, sectorHeader s k = { s with flash := f } := by
  unfold sectorHeader
  dsimp only
  split
  · exact ⟨s.flash, rfl⟩
  · exact ⟨_, rfl⟩

/-- A record that may be torn draws a free value, and changes a sector of the flash and what follows the journal's head. -/
theorem journalTear_changes (s : State) : ∃ r f n b, journalTear s = { s with regs := r, flash := f, free := n, bg := b } := by
  unfold journalTear
  split
  · rename_i u _ hu
    obtain ⟨r, b, rfl⟩ := headReady_changes hu
    dsimp only
    split
    · obtain ⟨f, hf⟩ := sectorHeader_changes (draw { s with regs := r, bg := b } 1).2 (jnlHead (draw { s with regs := r, bg := b } 1).2)
      rw [hf]
      exact ⟨_, _, _, _, rfl⟩
    · exact ⟨_, _, _, _, rfl⟩
  · exact ⟨s.regs, s.flash, s.free, s.bg, rfl⟩

theorem journalTear_pwr (s : State) : (journalTear s).pwr = s.pwr := by
  obtain ⟨r, f, n, b, h⟩ := journalTear_changes s
  rw [h]

section Latched
variable {s : State} (ht : s.pwr.terminal = true)
include ht

theorem terminal_porAssert : (porAssert s).pwr.terminal = true := by simp [porAssert, ht]

theorem terminal_porDeassert (strap : Nat) : (porDeassert s strap).pwr.terminal = true := by
  unfold porDeassert
  split
  · exact ht
  · simp [ht]

theorem terminal_xoStable : (xoStable s).pwr.terminal = true := by simp [xoStable, ht]
theorem terminal_pwrfail : (pwrfail s).pwr.terminal = true := by simp [pwrfail, ht]
theorem terminal_flushDone : (flushDone s).pwr.terminal = true := by simp [flushDone, ht]
theorem terminal_pwrfailRise : (pwrfailRise s).pwr.terminal = true := by simp [pwrfailRise, pwrfailBoot, ht]
theorem terminal_spWatchdog : (spWatchdog s).pwr.terminal = true := by simp [spWatchdog, ht]

theorem terminal_supplyLoss (r : Rail) : (supplyLoss s r).pwr.terminal = true := by
  rw [← ht, ← journalTear_pwr s]
  unfold supplyLoss
  dsimp only
  split <;> split <;> rfl

theorem terminal_aonRead : (aonRead s).pwr.terminal = true := ht

theorem terminal_heartbeatToggle : (heartbeatToggle s).pwr.terminal = true := by
  unfold heartbeatToggle
  split <;> exact ht

end Latched

/-- Settles O5: a part whose latch is set is held, so that only the commands of the AON domain, its supplies and its pins do anything
(`exec_ignored`), and each of these but the loss of VDD_AON keeps the latch. -/
theorem terminalLatchStays : Obligations.TerminalLatchStays := by
  intro s t c hc ht h
  have hp := powered_of_terminal ht
  cases hacts : actsHeld c
  case false =>
    obtain rfl : conclude s = t := by simpa [exec_ignored hp hacts] using h
    rw [terminal_conclude, ht]
  case true =>
    cases c
    case porNAssert => exact exec_keepsTerminal rfl (terminal_porAssert ht) h
    case porNDeassert => exact exec_keepsTerminal rfl (terminal_porDeassert ht _) h
    case xoStable => exact exec_keepsTerminal rfl (terminal_xoStable ht) h
    case pwrfailNRecognised => exact exec_keepsTerminal rfl (terminal_pwrfail ht) h
    case powerFailFlushDone => exact exec_keepsTerminal rfl (terminal_flushDone ht) h
    case pwrfailNRise => exact exec_keepsTerminal rfl (terminal_pwrfailRise ht) h
    case vddAonLoss => exact absurd rfl hc
    case supplyLoss => exact exec_keepsTerminal rfl (terminal_supplyLoss ht _) h
    case spWatchdogExpired => exact exec_keepsTerminal rfl (terminal_spWatchdog ht) h
    case aonRead => exact exec_keepsTerminal rfl (terminal_aonRead ht) h
    case faultNRelease => exact exec_keepsTerminal rfl (by split <;> exact ht) h
    case hostPerstNAssert => exact exec_keepsTerminal rfl (by rw [if_neg (by simp [configured_unpowered hp])]; exact ht) h
    case hostPerstNDeassert => exact exec_keepsTerminal rfl (by rw [if_neg (by simp [configured_unpowered hp])]; exact ht) h
    case twinHbToggle => exact exec_keepsTerminal rfl (terminal_heartbeatToggle ht) h
    all_goals exact Bool.noConfusion hacts

end Sys2Proof.Machine
end

section
/-!
Orders and codes: faults in the order of R356, the levels of an age, LPDDR4X as a canonical table, the check-value algorithms, what an ACK
frees and which replies are sent (O8, O23, O51, O54, O57, O59).
-/
namespace Sys2Proof.Machine
open Sys2Proof

/-! ### Faults in the order of R356 -/

/-- One fault may stand before another: a higher class, or the same and a unit code that is not higher. -/
def FaultLe (a b : FaultReq) : Prop := b.cls.code < a.cls.code ∨ (a.cls.code = b.cls.code ∧ a.unit.code ≤ b.unit.code)

theorem FaultLe.trans {a b c : FaultReq} (h : FaultLe a b) (h' : FaultLe b c) : FaultLe a c := by
  unfold FaultLe at *
  omega

theorem faultBefore_iff {a b : FaultReq} : faultBefore a b = true ↔ FaultLe a b := by simp [faultBefore, FaultLe]

theorem FaultLe.total (a b : FaultReq) : FaultLe a b ∨ FaultLe b a := by
  unfold FaultLe
  omega

theorem insertFault_perm (f : FaultReq) (l : List FaultReq) : (insertFault f l).Perm (f :: l) := by
  induction l with
  | nil => exact .rfl
  | cons g r ih =>
    unfold insertFault
    split
    · exact (ih.cons g).trans (.swap f g r)
    · exact .rfl

/-- A fault put into a list in order leaves it in order. -/
theorem insertFault_pairwise {f : FaultReq} {l : List FaultReq} (h : l.Pairwise FaultLe) : (insertFault f l).Pairwise FaultLe := by
  induction l with
  | nil => simp [insertFault]
  | cons g r ih =>
    obtain ⟨hg, hr⟩ := List.pairwise_cons.mp h
    unfold insertFault
    split
    · rename_i hgf
      refine List.pairwise_cons.mpr ⟨fun x hx => ?_, ih hr⟩
      rcases List.mem_cons.mp ((insertFault_perm f r).mem_iff.mp hx) with rfl | hx
      · exact faultBefore_iff.mp hgf
      · exact hg x hx
    · rename_i hgf
      have hfg : FaultLe f g := (FaultLe.total f g).resolve_right (fun h => hgf (faultBefore_iff.mpr h))
      refine List.pairwise_cons.mpr ⟨fun x hx => ?_, h⟩
      rcases List.mem_cons.mp hx with rfl | hx
      · exact hfg
      · exact hfg.trans (hg x hx)

theorem foldl_insertFault (l acc : List FaultReq) (h : acc.Pairwise FaultLe) :
    (l.foldl (fun acc f => insertFault f acc) acc).Perm (l ++ acc) ∧ (l.foldl (fun acc f => insertFault f acc) acc).Pairwise FaultLe := by
  induction l generalizing acc with
  | nil => exact ⟨.rfl, h⟩
  | cons f l ih =>
    obtain ⟨hp, hs⟩ := ih (insertFault f acc) (insertFault_pairwise h)
    exact ⟨hp.trans (((insertFault_perm f acc).append_left l).trans List.perm_middle), hs⟩

/-- Settles O54: insertion keeps the order and every fault (`insertFault_pairwise`, `insertFault_perm`); the rest is induction over the faults. -/
theorem faultOrder : Obligations.FaultOrder := by
  intro l
  obtain ⟨hp, hs⟩ := foldl_insertFault l [] .nil
  exact ⟨by rwa [List.append_nil] at hp, hs⟩

/-! ### Levels -/

theorem critMult_eq (s : State) : critMult s = max 2 (getF s Reg.BG_CTRL Fld.BG_CTRL_CRIT_MULT) := rfl

/-- A CRITICAL age is beyond the deadline too, as a deadline counts at least twice. -/
theorem deadline_lt_of_critical {s : State} {age deadline : Nat} (h : critMult s * deadline < age) : deadline < age := by
  have h2 : 2 ≤ critMult s := critMult_eq s ▸ Nat.le_max_left ..
  nlinarith

/-- Settles O8: of the three levels the two bounds leave one, the CRITICAL bound being the higher (`deadline_lt_of_critical`). -/
theorem levelsOfAge : Obligations.LevelsOfAge := by
  intro s age deadline
  rw [← critMult_eq]
  unfold levelOf
  split_ifs with hcritical hurgent
  · have := deadline_lt_of_critical hcritical
    simp [hcritical, this]
  · simp [hcritical, hurgent]
  · simp [hcritical, Nat.le_of_not_lt hurgent]

/-! ### LPDDR4X -/

theorem memGet_cons (a : Nat) (b : Byte) (m : List Host.Cell) (x : Nat) : memGet ((a, b) :: m) x = if a = x then b else memGet m x := by
  unfold memGet agetD
  rw [aget]
  split <;> rfl

theorem memGet_of_above {m : List Host.Cell} {x : Nat} (h : above x m) : memGet m x = 0#8 := by
  rw [memGet, agetD, aget_of_above h]
  rfl

/-- The lowest address that a canonical memory lists is the lowest that does not read 0. -/
theorem memGet_head {a : Nat} {b : Byte} {m : List Host.Cell} (h : Memory.wf ((a, b) :: m) = true) :
    memGet ((a, b) :: m) a ≠ 0#8 ∧ ∀ x, x < a → memGet ((a, b) :: m) x = 0#8 := by
  obtain ⟨hr, hd⟩ := memory_wf_iff.mp h
  obtain ⟨habove, -⟩ := rising_cons.mp hr
  rw [memGet_cons, if_pos rfl]
  refine ⟨hd (a, b) List.mem_cons_self, fun x hx => memGet_of_above fun e he => ?_⟩
  rcases List.mem_cons.mp he with rfl | he
  · exact hx
  · exact hx.trans (habove e he)

theorem memory_wf_tail {a : Nat} {b : Byte} {m : List Host.Cell} (h : Memory.wf ((a, b) :: m) = true) : Memory.wf m = true ∧ memGet m a = 0#8 := by
  obtain ⟨hr, hd⟩ := memory_wf_iff.mp h
  obtain ⟨habove, hr⟩ := rising_cons.mp hr
  exact ⟨memory_wf_iff.mpr ⟨hr, fun e he => hd e (List.mem_cons_of_mem _ he)⟩, memGet_of_above habove⟩

/-- Two canonical memories that read the same are equal: their lowest addresses are, and then the rest reads the same. -/
theorem memory_ext {m n : List Host.Cell} (hm : Memory.wf m = true) (hn : Memory.wf n = true) (h : ∀ x, memGet n x = memGet m x) : n = m := by
  induction m generalizing n with
  | nil =>
    cases n with
    | nil => rfl
    | cons f n => exact absurd (h f.1) (memGet_head hn).1
  | cons e m ih =>
    obtain ⟨a, b⟩ := e
    obtain ⟨hane, hbelow⟩ := memGet_head hm
    cases n with
    | nil => exact absurd (h a).symm hane
    | cons f n =>
      obtain ⟨c, d⟩ := f
      obtain ⟨hcne, hbelow'⟩ := memGet_head hn
      obtain rfl : a = c := by
        rcases Nat.lt_trichotomy a c with hlt | heq | hlt
        · exact absurd ((h a).symm.trans (hbelow' a hlt)) hane
        · exact heq
        · exact absurd ((h c).trans (hbelow c hlt)) hcne
      have hd : d = b := by simpa [memGet_cons] using h a
      obtain ⟨hwm, hma⟩ := memory_wf_tail hm
      obtain ⟨hwn, hna⟩ := memory_wf_tail hn
      refine hd ▸ congrArg _ (ih hwm hwn fun x => ?_)
      by_cases hx : a = x
      · rw [← hx, hma, hna]
      · simpa [memGet_cons, hx] using h x

/-- Settles O51: writes are told by `memWrite_wf`, `memRead_memWrite` and `memGet_memWrite_outside`, equality by `memory_ext`. -/
theorem memoryReadsWhatWasWritten : Obligations.MemoryReadsWhatWasWritten :=
  fun m hm => ⟨fun a bs => ⟨memWrite_wf a bs hm, memRead_memWrite m a bs, fun _ hx => memGet_memWrite_outside hx⟩, fun _ hn h => memory_ext hm hn h⟩

/-! ### Check values -/

theorem crcMsbBit_lt {w poly r : Nat} (hw : 1 ≤ w) (hp : poly < 2 ^ w) : crcMsbBit w poly r < 2 ^ w := by
  unfold crcMsbBit
  split
  · exact Nat.xor_lt_two_pow (Nat.mod_lt _ (by positivity)) hp
  · have : 2 ^ w = 2 ^ (w - 1) * 2 := by rw [← Nat.pow_succ, Nat.succ_eq_add_one, Nat.sub_add_cancel hw]
    omega

/-- A byte fed into a CRC that is not reflected leaves it within its width. -/
theorem crcMsbByte_lt {w poly r : Nat} (hw : 1 ≤ w) (hp : poly < 2 ^ w) (b : Byte) : crcMsbByte w poly r b < 2 ^ w :=
  crcMsbBit_lt hw hp

theorem cvByte_lt {alg r : Nat} (halg : alg < 4) (hr : r < 2 ^ cvWidth alg) (b : Byte) : cvByte alg r b < 2 ^ cvWidth alg := by
  match alg, halg with
  | 0, _ => exact crcByte_lt (by decide) (by decide) hr b
  | 1, _ => exact crcByte_lt (by decide) (by decide) hr b
  | 2, _ => exact crcMsbByte_lt (by decide) (by decide) b
  | 3, _ => exact crcMsbByte_lt (by decide) (by decide) b

/-- Settles O59: the polynomials and check values are computed; each byte leaves the running value within the width of its algorithm (`cvByte_lt`). -/
theorem checkValueAlgorithms : Obligations.CheckValueAlgorithms := by
  refine ⟨by decide +kernel, by decide +kernel, by decide +kernel, by decide +kernel, ?width, ?cut⟩
  case width =>
    intro alg r bs halg hr
    induction bs generalizing r with
    | nil => exact hr
    | cons b bs ih => exact ih _ (cvByte_lt halg hr b)
  case cut =>
    intro s n v
    rw [cvCut, BitVec.toNat_ofNat]
    exact lt_of_le_of_lt (Nat.mod_le _ _) (Nat.mod_lt _ (by positivity))

/-! ### What an ACK frees -/

/-- An ACK covers a sequence number that lies in the half of the numbers up to it. -/
def ackCovers (seq k : Nat) : Bool := decide ((seq + 4096 - k) % 4096 < 2048)

theorem port_ackTo (s : State) (p seq : Nat) : (ackTo s p seq).port p =
    if (s.port p).unacked.any (fun u => ackCovers seq u.1) then
      { s.port p with unacked := (s.port p).unacked.filter (fun u => !ackCovers seq u.1), replayNum := 0 } else s.port p :=
  port_modPort_self s p _

/-- Settles O23: the frames covered leave (`port_ackTo`); none leaves where none is covered. -/
theorem pcieAckClearsReplayStore : Obligations.PcieAckClearsReplayStore := by
  intro s p seq
  refine ⟨?store, ?number, ?same, fun q hq => (port_modPort s p q _).trans (if_neg hq), rfl, rfl⟩
  all_goals rw [port_ackTo]
  case store =>
    split
    · rfl
    · rename_i hnone
      exact (List.filter_eq_self.mpr fun u hu => by simpa [ackCovers] using fun h => hnone (List.any_eq_true.mpr ⟨u, hu, h⟩)).symm
  case number =>
    split
    · exact fun _ => rfl
    · exact fun h => absurd h (Nat.lt_irrefl _)
  case same =>
    split
    · rename_i hsome
      obtain ⟨u, hu, hc⟩ := List.any_eq_true.mp hsome
      intro h
      have := List.length_filter_eq_length_iff.mp h u hu
      simp [hc] at this
    · exact fun _ => rfl

/-! ### Which replies are sent -/

theorem wantReply_iff (r : IcpReq) : wantReply r = true ↔ r.flags.testBit 0 = true ∨ r.chan = Ch.twin ∨ r.chan = Ch.relay ∨ 128 ≤ r.chan := by
  simp [wantReply, or_assoc]

/-- Settles O57: `sendReply` sends unless the request wants no reply (`wantReply_iff`) and the status is OK or ACCEPTED. -/
theorem wantReply_sendReply : Obligations.WantReply := by
  intro s r status payload hses
  have hsend (h : wantReply r = true ∨ (status ≠ St.ok ∧ status ≠ St.accepted)) : sendReply s r status payload =
      deliver (setAlive s r.chan ⟨(alive s r.chan).exp, ((alive s r.chan).rep + 1) % 16⟩) r.chan r.tag
        (packet (r.opcode % 0x8000 + 0x8000) r.flags r.seq status (alive s r.chan).rep payload) :=
    if_pos (by simpa [hses] using h)
  refine ⟨fun hwant => hsend (.inl ((wantReply_iff r).mpr hwant)), fun hflag htwin hrelay hlow => ⟨fun hst => ?_, fun hok hacc => hsend (.inr ⟨hok, hacc⟩)⟩⟩
  have hno : wantReply r = false := Bool.eq_false_iff.mpr fun h => by
    rcases (wantReply_iff r).mp h with h | h | h | h
    · simp [hflag] at h
    · exact htwin h
    · exact hrelay h
    · omega
  exact if_neg (by rcases hst with rfl | rfl <;> simp [hno])

end Sys2Proof.Machine
end

section
/-!
A state in which nothing is due inside the part is the state in which a command ends (O50).
-/
namespace Sys2Proof.Machine
open Sys2Proof

/-- A pass over a list whose every step leaves the state as it is. -/
theorem forEach_fixed {α σ : Type} {l : List α} {s : σ} {f : σ → α → σ} (h : ∀ x ∈ l, f s x = s) : forEach l s f = s := by
  induction l with
  | nil => rfl
  | cons x l ih =>
    rw [forEach, List.foldl_cons, h x List.mem_cons_self]
    exact ih fun y hy => h y (List.mem_cons_of_mem _ hy)

theorem sbSweepBus_unblocked {s : State} {b : Nat} (h : ∀ x q, sbQ s b = x :: q → sbBlocked s b x.legacy = none) (n : Nat) : sbSweepBus n b s = s := by
  cases n with
  | zero => rfl
  | succ n =>
    unfold sbSweepBus
    split
    · rfl
    · rename_i x q hq
      rw [h x q hq]

theorem ringFetch_nothingWaits {s : State} {v : Nat} (h : ringOn s v = true → rd s (Reg.ICP_SQ_HEAD v) = rd s (Reg.ICP_SQ_TAIL v)) : ringFetch s v = s := by
  refine if_neg fun hc => ?_
  simp only [Bool.and_eq_true] at hc
  obtain ⟨⟨⟨⟨⟨⟨hon, -⟩, hne⟩, -⟩, -⟩, -⟩, -⟩ := hc
  simp [h hon] at hne

section Rests
variable {s : State} (hi : Idle s)
include hi

theorem sbSweep_idle : sbSweep s = s :=
  forEach_fixed fun b hb => sbSweepBus_unblocked (hi.buses b · · (List.mem_range.mp hb)) _

theorem slotHeld_idle : slotHeld s = s := by
  refine forEach_fixed fun p hp => ?_
  obtain ⟨e, he, rfl⟩ := List.mem_map.mp hp
  have hslot := hi.slots e he
  split
  · rename_i hcmd hheld
    simp [hcmd, hheld] at hslot
  · rfl

theorem unbindReady_idle : unbindReady s = s := by
  refine forEach_fixed fun i hmem => ?_
  obtain ⟨hmem, hoff⟩ := List.mem_filter.mp hmem
  split at hoff
  · rename_i e he
    exact absurd hoff (by simp [hi.unbinding i hmem e he])
  · cases hoff

theorem icpResume_idle : icpResume s = s := by
  have hmail : forEach ((s.mover.insts.map (fun e => e.1)).filter (fun n => isSet s (Reg.INST_STATUS n) Fld.INST_STATUS_MB_OUT_BUSY)) s mbTake = s := by
    refine forEach_fixed fun n hn => ?_
    obtain ⟨hn, hbusy⟩ := List.mem_filter.mp hn
    obtain ⟨e, he, rfl⟩ := List.mem_map.mp hn
    exact if_pos (hi.mailboxes e he hbusy)
  rw [icpResume, hmail]
  exact forEach_fixed fun v hv => ringFetch_nothingWaits (hi.rings v (List.mem_range.mp hv))

theorem retryCtx_idle : retryCtx s = s := by
  rw [retryCtx, hi.ctxWait]
  change { s with core := { s.core with ctxWait := [] } } = s
  rw [← hi.ctxWait]

theorem flushLocal_idle : flushLocal s = s := by
  rw [flushLocal, hi.localDue]
  change { s with core := { s.core with localDue := [] } } = s
  rw [← hi.localDue]

theorem moverDue_idle : moverDue s = s := by
  rw [moverDue, hi.moverDue]
  change { s with mover := { s.mover with due := [] } } = s
  rw [← hi.moverDue]

theorem moverIrqs_idle : moverIrqs s = s := by
  rw [moverIrqs, hi.moverIrqs]
  change { s with mover := { s.mover with irqs := [] } } = s
  rw [← hi.moverIrqs]

theorem flushTwin_idle : flushTwin s = s := by
  have hs : { s with icp := { s.icp with twinTx := [] } } = s := by rw [← hi.twinTx]
  simp only [flushTwin, hs, hi.twinTx]
  split
  · exact ite_self s
  · rfl

theorem flushFaults_idle : flushFaults s = s := by
  have hdue : { s with fcu := { s.fcu with due := [] } } = s := by rw [← hi.due]
  have hfence : { s with fcu := { s.fcu with fenceDue := [] } } = s := by rw [← hi.fenceDue]
  have htaken : forEach (sortFaults s.fcu.due) { s with fcu := { s.fcu with due := [] } } faultIn = s := by rw [hi.due, hdue]; rfl
  rw [flushFaults, htaken, hi.fenceDue, hfence]
  rfl

theorem settled_idle : settled s = true := by
  simp [settled, hi.localDue, hi.moverDue, hi.moverIrqs, hi.twinTx, hi.due, hi.fenceDue]

theorem settleLoop_idle (n : Nat) : settleLoop (n + 1) s = s := by
  refine settleLoop_fix ?_ (fun _ => ?_) ?_ (settled_idle hi)
  · rw [sbSweep_idle hi, slotHeld_idle hi, unbindReady_idle hi]
  · rw [icpResume_idle hi, retryCtx_idle hi]
  · rw [flushLocal_idle hi, moverDue_idle hi, moverIrqs_idle hi, flushTwin_idle hi, flushFaults_idle hi]
    exact if_pos hi.latch

theorem tilesOff_idle : tilesOff s = s := by
  have hnone : s.tiles.filter (fun e => e.2.offDue && (tilePorts s e.1).all (portIdle s)) = [] :=
    List.filter_eq_nil_iff.mpr fun e he h => by
      obtain ⟨hoff, hempty⟩ := (Bool.and_eq_true ..).mp h
      exact absurd hempty (by simp [hi.tiles e he hoff])
  rw [tilesOff, hnone]
  rfl

theorem slotInts_idle : slotInts s = s := by
  refine forEach_fixed fun x hx => ?_
  obtain ⟨e, he, hx⟩ := List.mem_flatMap.mp hx
  obtain ⟨f, hf, rfl⟩ := List.mem_map.mp hx
  refine if_pos ?_
  by_cases h8 : f.1 < 8
  · simp [h8]
  · simp [hi.slotInts e he f hf (Nat.le_of_not_lt h8)]

end Rests

/-- Settles O50: each of the passes that end a command leaves an idle state as it is, and no fault stands for the AON domain to show. -/
theorem idleStateRests : Obligations.IdleStateRests := by
  intro s hi
  have hsettle : settle s = s := by
    unfold settle
    split
    · rw [settleLoop_idle hi, tilesOff_idle hi, slotInts_idle hi]
    · rfl
  rw [after, hsettle, conclude_of_clear hi.faultN]

end Sys2Proof.Machine
end

section
/-!
The sideband bridge, the inputs of slots, the Energy Governor and polling (O25, O26, O60).
-/
namespace Sys2Proof.Machine
open Sys2Proof

/-! ### Locked accesses (R463) -/

theorem msixManagers_sb (s : State) (vec : Nat) : (msixManagers s vec).sb = s.sb := by
  obtain ⟨h, o, hm⟩ := msixManagers_changes s vec
  rw [hm]

/-- The bridge's error log is kept in registers: no bus and no queue changes. -/
theorem sbLog_sb (s : State) (offset master reason bus vsw : Nat) : (sbLog s offset master reason bus vsw).sb = s.sb := by
  unfold sbLog
  dsimp only
  split
  · exact bump_sb _ _
  · exact (msixManagers_sb _ _).trans ((setF_sb _ _ _ _).trans ((wr_sb _ _ _).trans (wr_sb _ _ _)))

theorem accessRead_locked {s : State} {a : Access} (hs : a.space = .crs) (hb : inBridge a.offset = true)
    (hc : crsCheck s a.by_ a.offset .read = (0, s)) : accessRead s { a with locked := true } = sbLocked s a := by
  simp only [accessRead, hs, hb, hc]
  rfl

/-- Settles O60: an access that is let through is logged and answered, and the log touches neither bus nor queue (`sbLog_sb`). -/
theorem lockedSidebandAccess : Obligations.LockedSidebandAccess := by
  intro s a hfast hs hb hc
  exact ⟨exec_effect rfl ((if_pos hfast).trans ((if_pos (by simp [hb, hs])).trans (accessRead_locked hs hb hc))), fun bus => sbLog_sb s _ _ _ bus _⟩

/-! ### The rows of the bridge -/

section Bus
variable {s : State} {b : Nat}

theorem busStuck_retried (h : s.sb.retried.contains b = true) (sda : Bool) :
    busStuck s b sda = emit (detect s 0x0800 .contained Uk.bus b (b2n sda)) (.busClear b) := if_pos h

theorem sclTimeout_legacy {x : SbXfer} {q : List SbXfer} (hq : sbQ s b = x :: q) (hx : x.legacy = true) :
    sclTimeout s b = sbFinish s b (.failed 0x03) := by
  simp only [sclTimeout, hq, hx, if_true]

end Bus

/-- Settles O26: each row meets its guard in a part that is up and then runs its operation. -/
theorem sidebandCommands : Obligations.SidebandCommands := by
  intro s b hup
  have hconf := up_configured hup
  have hfast := up_fastUp hup
  refine ⟨?done, ?enable, ?stuck, ?stretch, ?interrupt, ?window, ?locked⟩
  case done => exact fun r => exec_effect rfl (if_pos hconf)
  case enable => exact exec_up (fun s => busEnable s b.val true) rfl hup rfl
  case stuck =>
    exact fun sda hon hf hr => exec_effect rfl ((if_pos hup).trans ((if_pos (by simp [hon, hf])).trans (busStuck_retried hr sda)))
  case stretch => exact fun x q hq hx => exec_up (fun s => sclTimeout s b.val) rfl hup (sclTimeout_legacy hq hx)
  case interrupt => exact fun hon hf => exec_effect rfl ((if_pos hup).trans (if_pos (by simp [hon, hf])))
  case window =>
    intro a hw hs
    have hin : (inWindow a.offset && a.space == .crs) = true := by simp [hw, hs]
    exact ⟨fun _ => exec_effect rfl ((if_pos hfast).trans (if_pos hin)), exec_effect rfl ((if_pos hfast).trans (if_pos hin))⟩
  case locked =>
    exact fun a hb hs => exec_effect rfl ((if_pos hfast).trans (if_pos (by simp [hb, hs])))

/-! ### The inputs of a slot, the Energy Governor and polling -/

section Slot
variable {s : State} {p n : Nat}

theorem presenceChange_present (h : isSet s (Reg.PORT_STATUS p) Fld.PORT_STATUS_PRESENT = false) : presenceChange s p true =
    slotStatus (portEvent (clearPortCoef (setF s (Reg.PORT_STATUS p) Fld.PORT_STATUS_PRESENT 1) p) p Ev.presence) p Sl.presence := by
  rw [presenceChange, h]
  rfl

theorem mrlOpens_unpowered (h : slotPowered (slotStatus (portEvent s p Ev.mrl) p Sl.mrl) p = false) :
    mrlOpens s p = slotStatus (portEvent s p Ev.mrl) p Sl.mrl := if_neg (by simp [h])

theorem egvReading_ramping {mj : Nat} {r : Nat × Nat × Nat × Nat} (hr : s.egv.ramps.find? (fun r => r.1 == n) = some r)
    (hen : isSet s (Reg.EGV_SLOT_CFG n) Fld.EGV_SLOT_CFG_ACC_EN = true) : egvReading s n mj =
    if r.2.2.1 < mj then egvCut (setF s (Reg.EGV_SLOT_STATUS n) Fld.EGV_SLOT_STATUS_LAST_INRUSH (min mj 65535)) n 7 true
    else setF s (Reg.EGV_SLOT_STATUS n) Fld.EGV_SLOT_STATUS_LAST_INRUSH (min mj 65535) := by
  rw [egvReading, hr, hen]

theorem pollSample_failed {i : Nat} (hserved : pollServed s i = true) (hfew : agetD s.sb.fails i 0 < 2) :
    pollSample s i none = { s with sb := { s.sb with fails := aput s.sb.fails i (agetD s.sb.fails i 0 + 1) } } := by
  rw [pollSample, if_pos hserved]
  exact if_neg (by omega)

end Slot

theorem slotCommands : Clauses.SlotCommands := by
  intro s p hup
  refine ⟨?presence, ?mrl, ?fault, ?good, ?button, ?wake, ?delay⟩
  case presence => exact fun h => exec_up (fun s => presenceChange s p.val true) rfl hup (presenceChange_present h)
  case mrl => exact fun h => exec_up (fun s => mrlOpens s p.val) rfl hup (mrlOpens_unpowered h)
  case fault => exact fun h => exec_up (fun s => powerFaults s p.val) rfl hup (if_pos h)
  case good => exact fun _ => exec_up (fun s => powerGoods s p.val) rfl hup rfl
  case button => exact exec_up (fun s => sigChange s p.val Sig.attn true) rfl hup rfl
  case wake => exact exec_up (fun s => sigChange s p.val Sig.wake true) rfl hup rfl
  case delay => exact fun t ht => exec_effect rfl ((if_pos hup).trans (if_pos (by simp [ht])))

/-- A configured part that is not Dormant is awake already: a sample wakes nothing. -/
theorem dormant_of_up {s : State} (h : up s = true) : dormant s = false := by
  simp only [up, fastUp, Bool.and_eq_true, Bool.not_eq_true'] at h
  exact h.1.1.2

theorem energyAndPolling : Clauses.EnergyAndPolling := by
  intro s n hup
  have hconf := up_configured hup
  refine ⟨?admission, ?window, ?reading, ?ramp, ?missed, ?sample⟩
  case admission => exact exec_up egvReview rfl hup rfl
  case window => exact exec_up egvWindowExpiry rfl hup rfl
  case reading =>
    intro mj r hr hen
    have hread {t : State} := exec_up (i := .egvAccumulatorRead n mj) (t := t) (fun s => egvReading s n.val mj) rfl hup
    exact ⟨fun hle => hread ((egvReading_ramping hr hen).trans (if_neg (Nat.not_lt.mpr hle))),
      fun hlt => hread ((egvReading_ramping hr hen).trans (if_pos hlt))⟩
  case ramp => exact fun h => exec_up (fun s => egvRampTimeout s n.val) rfl hup (if_pos h)
  case missed => exact fun i hs hf => exec_effect rfl ((if_pos hconf).trans (pollSample_failed hs hf))
  case sample =>
    intro i v
    refine exec_effect rfl ((if_pos hconf).trans ?_)
    simp [forEach_fixed, dormant_of_up hup]

/-- Settles O25: each row meets its guard in a part that is up, where a sample has nothing to wake (`dormant_of_up`), and then runs its operation. -/
theorem slotsAndEnergy : Obligations.SlotsAndEnergy := ⟨slotCommands, energyAndPolling⟩

end Sys2Proof.Machine
end

section
/-!
Resets: what a cold reset clears, power failure, the loss of a supply, warm resets (O1, O3).
-/
namespace Sys2Proof.Machine
open Sys2Proof

/-! ### Cold reset -/

/-- Every domain but AON starts from reset; memories, the edge count and the commands that wait stand as before. -/
structure DomainsReset (s t : State) : Prop where
  core : t.core = Core.reset
  fab : t.fab = Fabric.reset
  links : t.links = []
  ports : t.ports = []
  tiles : t.tiles = []
  mover : t.mover = Mover.reset
  twin : t.twin = Twin.reset
  icp : t.icp = Icp.reset
  mem : t.mem = s.mem
  flash : t.flash = s.flash
  otp : t.otp = s.otp
  time : t.time = 0
  edge : t.edge = s.edge
  pending : t.pending = s.pending

theorem holdDomains_reset (s : State) : DomainsReset s (holdDomains s) := by constructor <;> rfl

/-- The heartbeat stops by its register, its pin and what is sent. -/
theorem heartbeatStop_changes (s : State) : ∃ r p o, heartbeatStop s = { s with regs := r, pwr := p, out := o } ∧
    p.terminal = s.pwr.terminal ∧ p.faultNLow = s.pwr.faultNLow ∧ p.warmReq = s.pwr.warmReq ∧ p.pwrfailLow = s.pwr.pwrfailLow ∧
    p.fatalTimes = s.pwr.fatalTimes := by
  unfold heartbeatStop
  dsimp only
  split <;> exact ⟨_, _, _, rfl, rfl, rfl, rfl, rfl, rfl⟩

theorem coldHold_reset (s : State) (cause : Nat) (phase : Phase) : DomainsReset s (coldHold s cause phase) := by
  obtain ⟨r, p, o, hb, -⟩ := heartbeatStop_changes s
  unfold coldHold
  rw [hb]
  dsimp only
  split <;> constructor <;> rfl

@[simp] theorem coldHold_cause (s : State) (cause : Nat) (phase : Phase) : (coldHold s cause phase).pwr.cause = some cause := rfl
@[simp] theorem coldHold_phase (s : State) (cause : Nat) (phase : Phase) : (coldHold s cause phase).pwr.phase = phase := rfl

theorem coldHold_pwr (s : State) (cause : Nat) (phase : Phase) : (coldHold s cause phase).pwr.hbRun = false ∧
    (coldHold s cause phase).pwr.terminal = s.pwr.terminal ∧ (coldHold s cause phase).pwr.pwrfailLow = s.pwr.pwrfailLow ∧ (coldHold s cause phase).fcu = Fcu.reset := by
  obtain ⟨r, p, o, hb, ht, -, -, hl, -⟩ := heartbeatStop_changes s
  unfold coldHold
  rw [hb]
  dsimp only
  split <;> exact ⟨rfl, ht, hl, rfl⟩

/-- A cold reset that no TERMINAL fault brought about releases FAULT_N. -/
theorem coldHold_faultN {s : State} (ht : s.pwr.terminal = false) (cause : Nat) (phase : Phase) : (coldHold s cause phase).pwr.faultNLow = false := by
  obtain ⟨r, p, o, hb, hpt, hpf, -⟩ := heartbeatStop_changes s
  unfold coldHold
  rw [hb]
  dsimp only
  split
  · rfl
  · rename_i h
    simpa [holdDomains, hpt, ht] using h

theorem powered_coldHold_held (s : State) (cause : Nat) : powered (coldHold s cause .held) = false := by simp [powered]

/-- Settles O1: POR_N and a watched clock that fails go through `coldHold`, whose parts are told by `coldHold_reset`, `coldHold_pwr` and
`coldHold_faultN`. -/
theorem coldResetCommands : Obligations.ColdResetCommands := by
  intro s ht
  refine ⟨?por, ?clock, ?cleared⟩
  case por =>
    intro hl
    rw [← after_unpowered (powered_coldHold_held _ _)]
    exact exec_effect rfl (if_neg (by simp [ht, hl]))
  case clock =>
    intro src hf hph hw
    exact exec_effect rfl (if_neg (by simp [ht, hf, hph, hw]))
  case cleared =>
    intro cause phase
    obtain ⟨hcore, hfab, hlinks, hports, htiles, hmover, htwin, hicp, hmem, hflash, hotp, htime, hedge, hpending⟩ := coldHold_reset s cause phase
    obtain ⟨hhb, -, -, hfcu⟩ := coldHold_pwr s cause phase
    exact ⟨rfl, rfl, coldHold_faultN ht cause phase, hhb, hcore, hfab, hlinks, hports, htiles, hmover, htwin, hicp, hfcu, hmem, hflash, hotp, htime, hedge, hpending⟩

/-! ### Power failure (R394, R397) -/

/-- A part that is up is held by nothing, awake, and configured. -/
theorem phase_of_up {s : State} (h : up s = true) : s.pwr.terminal = false ∧ s.pwr.flushing = false ∧ dormant s = false ∧
    (s.pwr.phase = .configured ∨ s.pwr.phase = .ready) := by
  simp only [up, fastUp, powered, Bool.and_eq_true, Bool.or_eq_true, Bool.not_eq_true', beq_iff_eq, bne_iff_ne, ne_eq] at h
  obtain ⟨⟨⟨⟨⟨ht, hf⟩, -⟩, hd⟩, hph⟩, hb⟩ := h
  exact ⟨ht, hf, hd, by tauto⟩

/-- In a running part PWRFAIL_N sheds everything (R394). -/
theorem pwrfail_up {s : State} (h : up s = true) : pwrfail s = shed { s with pwr := { s.pwr with pwrfailLow := true } } := by
  obtain ⟨ht, hf, hd, hph⟩ := phase_of_up h
  have hrunning : (s.pwr.terminal || s.pwr.flushing || s.pwr.phase == .held) = false := by rcases hph with hph | hph <;> simp [ht, hf, hph]
  have hawake : (dormant s || s.pwr.phase == .waitXo || s.pwr.phase == .romSlow) = false := by rcases hph with hph | hph <;> simp [hd, hph]
  exact (if_neg (Bool.eq_false_iff.mp hrunning)).trans (if_neg (Bool.eq_false_iff.mp hawake))

/-- The boot after a power failure waits for the pin, and begins with it. -/
theorem pwrfailRise_boots {s : State} (ht : s.pwr.terminal = false) (hd : s.pwr.pfDone = true) (hr : s.pwr.railsOk = true) (hl : s.pwr.porLow = false)
    (hph : s.pwr.phase = .held) : pwrfailRise s = setF { s with pwr := { s.pwr with
      pwrfailLow := false, phase := .waitXo, pfDone := false, bootStart := s.edge } } Reg.PWR_STATUS Fld.PWR_STATUS_STATE 0 :=
  if_pos (by simp [ht, hd, hr, hl, hph])

theorem powerFailure : Clauses.PowerFailure := by
  intro s ht
  refine ⟨?shed, fun _ => exec_effect rfl rfl, ?rise⟩
  case shed =>
    intro hup
    generalize hs : ({ s with pwr := { s.pwr with pwrfailLow := true } } : State) = u
    have hunpowered : powered (shed u) = false := by simp [shed, powered]
    obtain ⟨hcore, hfab, hlinks, hports, -, -, -, -, -, hflash, -⟩ := coldHold_reset u 0x0B .held
    obtain ⟨-, -, hlow, -⟩ := coldHold_pwr u 0x0B .held
    refine ⟨shed u, ?_, rfl, hlow.trans (hs ▸ rfl), rfl, rfl, hs ▸ rfl, hlinks, hcore, hports, hflash.trans (hs ▸ rfl)⟩
    rw [← after_unpowered hunpowered]
    exact exec_effect rfl ((pwrfail_up hup).trans (hs ▸ rfl))
  case rise =>
    intro hd hr hl hph
    exact ⟨_, exec_effect rfl (pwrfailRise_boots ht hd hr hl hph), rfl, rfl, rfl, getF_setF_self _ _ _ (by decide)⟩

/-! ### The loss of a supply (R479, R480) -/

theorem aonLoss_otp (s : State) : (aonLoss s).otp = s.otp := by
  obtain ⟨r, f, n, b, htear⟩ := journalTear_changes s
  rw [aonLoss, htear]

theorem aonLoss_pending (s : State) : (aonLoss s).pending = s.pending := by
  obtain ⟨r, f, n, b, htear⟩ := journalTear_changes s
  rw [aonLoss, htear]

/-- LPDDR4X loses its contents with its own supplies. -/
theorem supplyLoss_mem (s : State) (r : Rail) : (supplyLoss s r).mem = if r = .vdd2 ∨ r = .vddqLp then [] else s.mem := by
  obtain ⟨g, f, n, b, htear⟩ := journalTear_changes s
  unfold supplyLoss
  rw [htear]
  dsimp only
  split <;> split <;> rfl

/-- What every supply but VDD_AON takes with it. -/
theorem supplyLoss_holds (s : State) (r : Rail) : (supplyLoss s r).pwr.phase = .held ∧ (supplyLoss s r).pwr.railsOk = false ∧
    (supplyLoss s r).core = Core.reset ∧ (supplyLoss s r).links = [] ∧ (supplyLoss s r).fab = Fabric.reset ∧ (supplyLoss s r).otp = s.otp := by
  obtain ⟨g, f, n, b, htear⟩ := journalTear_changes s
  unfold supplyLoss
  rw [htear]
  dsimp only
  split <;> split <;> exact ⟨rfl, rfl, rfl, rfl, rfl, rfl⟩

theorem supplyLosses : Clauses.SupplyLosses := by
  intro s
  refine ⟨⟨aonLoss s, ?aon, rfl, rfl, rfl, aonLoss_otp s, rfl, rfl, rfl, rfl, aonLoss_pending s⟩, fun r _ => ?other⟩
  case aon =>
    rw [← after_unpowered (s := aonLoss s) rfl]
    exact exec_effect rfl rfl
  case other =>
    obtain ⟨hphase, hrails, hcore, hlinks, hfab, hotp⟩ := supplyLoss_holds s r
    refine ⟨supplyLoss s r, ?_, hphase, hrails, hcore, hlinks, hfab, hotp, fun h => ?_, fun h2 hq => ?_⟩
    · rw [← after_unpowered (s := supplyLoss s r) (by simp [powered, hphase])]
      exact exec_effect rfl rfl
    · rw [supplyLoss_mem, if_pos h]
    · rw [supplyLoss_mem, if_neg (by simp [h2, hq])]

/-! ### Warm resets (R359, R381) -/

/-- A warm reset as it is before the boot that follows it: its cause recorded, what is not sticky at reset. -/
def warmBegun (s : State) (cause source unit : Nat) : State :=
  let u := resetReason (heartbeatStop s) cause source unit
  let u := if cause = 0x08 then { u with pwr := { u.pwr with fatalTimes := u.pwr.fatalTimes ++ [aonTime u] } } else u
  let u := setF (wr (warmState u) Reg.FCU_SEQ (rd s Reg.FCU_SEQ)) Reg.PWR_STATUS Fld.PWR_STATUS_PF_LAST 0
  wr u Reg.FCU_FATAL_HIST (BitVec.ofNat 64 (min 255 (fatalRecent u)))

theorem resetReason_changes (s : State) (cause source unit : Nat) : ∃ r, resetReason s cause source unit = { s with regs := r } :=
  ⟨_, (wr_onlyRegs s _ _).trans (wr_onlyRegs _ _ _)⟩

theorem warmReset_runs {s : State} {cause source unit : Nat} (hreq : s.pwr.warmReq = some (cause, source, unit)) (hup : fastUp s = true) :
    warmReset s = romBoot (warmBegun s cause source unit) := by
  rw [warmReset, hreq]
  exact if_neg (by simp [hup])

/-- What outlasts a warm reset, and what starts anew. -/
theorem warmBegun_reset (s : State) (cause source unit : Nat) : DomainsReset s (warmBegun s cause source unit) := by
  obtain ⟨r, p, o, hb, -⟩ := heartbeatStop_changes s
  obtain ⟨q, hr⟩ := resetReason_changes { s with regs := r, pwr := p, out := o } cause source unit
  unfold warmBegun
  rw [hb, hr]
  dsimp only
  split <;> constructor <;> rfl

theorem warmBegun_jbuf (s : State) (cause source unit : Nat) : (warmBegun s cause source unit).bg.jbuf = s.bg.jbuf := by
  obtain ⟨r, p, o, hb, -⟩ := heartbeatStop_changes s
  obtain ⟨q, hr⟩ := resetReason_changes { s with regs := r, pwr := p, out := o } cause source unit
  unfold warmBegun
  rw [hb, hr]
  dsimp only
  split <;> rfl

/-- No fence by command outlasts a warm reset (R365). -/
theorem fcuRebuilt_unfenced (s : State) : ∀ u ∈ (fcuRebuilt s).units, u.cmdFenced = false := by
  intro u hu
  obtain ⟨x, -, rfl⟩ := List.mem_map.mp (List.mem_filter.mp hu).1
  rfl

theorem warmBegun_fcu (s : State) (cause source unit : Nat) : ∃ u, (warmBegun s cause source unit).fcu = fcuRebuilt u := ⟨_, rfl⟩

theorem rd_warmBegun_fcuSeq (s : State) (cause source unit : Nat) : rd (warmBegun s cause source unit) Reg.FCU_SEQ = rd s Reg.FCU_SEQ := by
  unfold warmBegun
  dsimp only
  rw [rd_wr_ne (by decide), rd_setF, if_neg (by decide), rd_wr_self]

/-- A FATAL reset adds its AON time to those within the last minute (R359). -/
theorem warmBegun_fatalTimes (s : State) (cause source unit : Nat) : (warmBegun s cause source unit).pwr.fatalTimes =
    if cause = 0x08 then s.pwr.fatalTimes ++ [s.edge / 16] else s.pwr.fatalTimes := by
  obtain ⟨r, p, o, hb, -, -, -, -, hp⟩ := heartbeatStop_changes s
  obtain ⟨q, hr⟩ := resetReason_changes { s with regs := r, pwr := p, out := o } cause source unit
  rw [← hp]
  unfold warmBegun
  rw [hb, hr]
  dsimp only
  split <;> rfl

theorem warmResetRuns : Clauses.WarmResetRuns := by
  intro s cause source unit hreq hup
  obtain ⟨hcore, hfab, hlinks, hports, htiles, hmover, htwin, hicp, hmem, hflash, hotp, htime, hedge, hpending⟩ := warmBegun_reset s cause source unit
  obtain ⟨u, hfcu⟩ := warmBegun_fcu s cause source unit
  refine ⟨warmBegun s cause source unit, exec_effect rfl (warmReset_runs hreq hup), hcore, hfab, hlinks, hports, htiles, hmover, htwin, hicp, hmem, hflash,
    hotp, warmBegun_jbuf s _ _ _, htime, hedge, hpending, hfcu ▸ fcuRebuilt_unfenced u, rd_warmBegun_fcuSeq s _ _ _, fun h => ?_, fun h => ?_⟩
  · rw [warmBegun_fatalTimes, if_pos h]
  · rw [warmBegun_fatalTimes, if_neg h]

/-- Settles O3: a warm reset boots from `warmBegun`, a power failure and the loss of a supply go through `holdDomains` (`coldHold_reset`,
`supplyLoss_holds`). -/
theorem resetsAndSupplies : Obligations.ResetsAndSupplies := ⟨warmResetRuns, powerFailure, supplyLosses⟩

end Sys2Proof.Machine
end

section
/-!
The boot, the watchdogs, the pins and Dormant (O2, O4).
-/
namespace Sys2Proof.Machine
open Sys2Proof

/-! ### The boot -/

theorem porDeassertStartsBoot : Clauses.PorDeassertStartsBoot := by
  intro s strap hl ht hp
  refine exec_effect rfl ?_
  simp [porDeassert, hl, ht, hp]

/-- The reset reason holds the cause and counts, and keeps the causes before it. -/
theorem rstReason_word {w cause : Nat} (hc : cause < 256) :
    let v := (BitVec.ofNat 64 (w % 256 * 16777216 + min 0xFFFF (w / 256 % 65536 + 1) * 256 + cause)).toNat
    v % 256 = cause ∧ v / 256 % 65536 = min 0xFFFF (w / 256 % 65536 + 1) := by
  intro v
  have hv : v = w % 256 * 16777216 + min 0xFFFF (w / 256 % 65536 + 1) * 256 + cause := by
    simp only [v, BitVec.toNat_ofNat]
    omega
  rw [hv]
  omega

theorem rd_resetReason_reason (s : State) (cause source unit : Nat) : rd (resetReason s cause source unit) Reg.RST_REASON =
    BitVec.ofNat 64 ((rd s Reg.RST_REASON).toNat % 256 * 16777216 + min 0xFFFF ((rd s Reg.RST_REASON).toNat / 256 % 65536 + 1) * 256 + cause) := by
  unfold resetReason
  dsimp only
  rw [rd_wr_ne (by decide), rd_wr_self]

theorem rd_resetReason_detail (s : State) (cause source unit : Nat) :
    rd (resetReason s cause source unit) Reg.RST_DETAIL = BitVec.ofNat 64 (unit * 4294967296 + source * 65536) := rd_wr_self _ _ _

/-- The state that a stable XO leaves where a cause waits. -/
def xoRecorded (s : State) (cause : Nat) : State :=
  wr (setF (resetReason { s with pwr := { s.pwr with phase := .romSlow, cause := none } } cause 0 0) Reg.PWR_STATUS Fld.PWR_STATUS_PF_LAST
    (b2n (cause == 0x0B || cause == 0x0D))) Reg.CLK_STATUS 0xC0000000

theorem xoStable_records {s : State} {cause : Nat} (hph : s.pwr.phase = .waitXo) (ht : s.pwr.terminal = false) (hc : s.pwr.cause = some cause) :
    xoStable s = xoRecorded s cause := by
  unfold xoStable
  rw [if_neg (by simp [hph, ht])]
  dsimp only
  rw [hc]
  rfl

theorem rd_xoRecorded_reason (s : State) (cause : Nat) : rd (xoRecorded s cause) Reg.RST_REASON =
    BitVec.ofNat 64 ((rd s Reg.RST_REASON).toNat % 256 * 16777216 + min 0xFFFF ((rd s Reg.RST_REASON).toNat / 256 % 65536 + 1) * 256 + cause) := by
  rw [xoRecorded, rd_wr_ne (by decide), rd_setF, if_neg (by decide), rd_resetReason_reason]
  rfl

theorem rd_xoRecorded_detail (s : State) (cause : Nat) : rd (xoRecorded s cause) Reg.RST_DETAIL = 0 := by
  rw [xoRecorded, rd_wr_ne (by decide), rd_setF, if_neg (by decide), rd_resetReason_detail]
  rfl

theorem isSet_xoRecorded_pfLast (s : State) (cause : Nat) :
    isSet (xoRecorded s cause) Reg.PWR_STATUS Fld.PWR_STATUS_PF_LAST = decide (cause = 0x0B ∨ cause = 0x0D) := by
  rw [isSet, xoRecorded, getF_wr_ne _ (by decide), getF_setF_self _ _ _ (by decide)]
  by_cases h : cause = 0x0B ∨ cause = 0x0D
  · rcases h with rfl | rfl <;> rfl
  · obtain ⟨h1, h2⟩ := not_or.mp h
    simp [b2n, h1, h2]

theorem xoStableRecordsCause : Clauses.XoStableRecordsCause := by
  intro s cause hph ht hc hlt
  obtain ⟨hcause, hcount⟩ := rstReason_word (w := (rd s Reg.RST_REASON).toNat) hlt
  rw [← rd_xoRecorded_reason] at hcause hcount
  exact ⟨xoRecorded s cause, exec_effect rfl (xoStable_records hph ht hc), rfl, rfl, rd_wr_self _ _ _, hcause, rd_xoRecorded_detail s cause, hcount,
    isSet_xoRecorded_pfLast s cause⟩

/-- The state of a part whose firmware has initialised, apart from what ends a trial boot. -/
def firmwareUp (s : State) : State :=
  wr (setF (setF { s with pwr := { s.pwr with phase := .ready } } Reg.BOOT_STATUS Fld.BOOT_STATUS_READY 1) Reg.BOOT_STATUS Fld.BOOT_STATUS_STAGE 9)
    Reg.BOOT_TIME (BitVec.ofNat 64 ((s.edge - s.pwr.bootStart) / 50 % 2 ^ 32))

/-- Where no trial boot is to be committed, the firmware's start changes neither flash nor OTP. -/
theorem firmwareReady_committed {s : State} (hph : s.pwr.phase = .configured) (hup : up s = true) (hcores : s.pwr.coresHeld = false)
    (htrial : (bankNow s).2.2 ≠ 2) : firmwareReady s = firmwareUp s := by
  unfold firmwareReady
  rw [if_neg (by simp [hph, hup, hcores])]
  exact if_neg htrial

theorem bootSteps : Clauses.BootSteps := by
  intro s
  refine ⟨?pll, ?config, ?ready, fun hup => exec_effect rfl (if_pos hup)⟩
  case pll => exact fun hph hp => ⟨exec_effect rfl (if_pos ⟨hph, hp⟩), rfl, rfl⟩
  case config => exact fun _ _ => exec_effect rfl rfl
  case ready =>
    intro hph hup hcores htrial
    refine ⟨firmwareUp s, exec_effect rfl (firmwareReady_committed hph hup hcores htrial), rfl, ?_, ?_, ?_, rfl, rfl⟩
    · rw [isSet, firmwareUp, getF_wr_ne _ (by decide), getF_setF_disjoint _ _ _ (by decide), getF_setF_self _ _ _ (by decide)]
      rfl
    · rw [firmwareUp, getF_wr_ne _ (by decide), getF_setF_self _ _ _ (by decide)]
      rfl
    · rw [firmwareUp, rd_wr_self, BitVec.toNat_ofNat]
      omega

theorem namedConfig_noOverlay (s : State) (m config : Nat) : (namedConfig s m config 0).2.2 = none := by
  unfold namedConfig
  split
  · rfl
  · split <;> rfl

theorem selNamed_noOverlay (s : State) (m config src : Nat) (once : Bool) : (selNamed s m config 0 src once).overlay = none := by
  unfold selNamed
  dsimp only
  split
  · exact namedConfig_noOverlay s m config
  · rfl

theorem selLowest_noOverlay (s : State) (m : Nat) (why : Option (Nat × Nat)) : (selLowest s m why).overlay = none := by
  unfold selLowest
  dsimp only
  split
  · split <;> rfl
  · rfl

theorem strapSelectsNoOverlay : Clauses.StrapSelectsNoOverlay := by
  intro s hstrap
  unfold bootSelect
  dsimp only
  split
  · exact ⟨by rw [if_pos hstrap]; exact selLowest_noOverlay _ _ _, rfl⟩
  · rw [if_pos hstrap]
    split
    all_goals
      split
      · exact ⟨selNamed_noOverlay _ _ _ _ _, rfl⟩
      · exact ⟨selLowest_noOverlay _ _ _, rfl⟩

/-- Settles O2: each step of the boot meets its place in the sequence; what it leaves in a register is read back field by field
(`rd_xoRecorded_reason`, `firmwareUp`), and a mode of 0 to 5 names no overlay (`selNamed_noOverlay`, `selLowest_noOverlay`). -/
theorem bootSequence : Obligations.BootSequence := ⟨porDeassertStartsBoot, xoStableRecordsCause, bootSteps, strapSelectsNoOverlay⟩

/-! ### Watchdogs -/

theorem aget_filter_key {α : Type} (P : Nat → Bool) (t : Assoc α) {k : Nat} (h : P k = true) : aget (t.filter (fun e => P e.1)) k = aget t k := by
  induction t with
  | nil => rfl
  | cons e t ih =>
    obtain ⟨a, v⟩ := e
    by_cases ha : a = k
    · subst ha
      simp [h, aget]
    · by_cases hp : P a = true <;> simp [hp, aget, ha, ih]

/-- A register that the AON domain retains reads through a cold reset as before (R13). -/
theorem rd_holdDomains {s : State} {k : Nat} (hk : retainedReg k = true) (hne : k ≠ Reg.PWR_STATUS) : rd (holdDomains s) k = rd s k := by
  have hfold : aget (holdDomains s).regs k = aget (s.regs.filter (fun e => retainedReg e.1)) k := by
    simp only [holdDomains, pfKept]
    split
    · rfl
    · exact aget_aput_ne hne
  rw [rd, agetD, hfold, aget_filter_key _ _ hk, rd, agetD]

theorem retainedReg_rstReason : retainedReg Reg.RST_REASON = true := by decide +kernel

/-- A TERMINAL fault holds every domain of a part whose FAULT_N is low and whose reset reason is 0x0C (R351, R382). -/
theorem terminalHold_holds (s : State) (source : Nat) (u : UnitId) : ∃ t,
    terminalHold s source u = { holdDomains t with pwr := { (holdDomains t).pwr with terminal := true } } ∧
    t.pwr.faultNLow = true ∧ (rd t Reg.RST_REASON).toNat % 256 = 0x0C := by
  have hdriven (x : State) : (faultNDrive { x with pwr := { x.pwr with terminal := true } }).pwr.faultNLow = true :=
    faultNDrive_low (by simp [faultNHeld])
  refine ⟨_, rfl, ?_, ?_⟩
  · obtain ⟨r, hr⟩ := resetReason_changes (faultNDrive { heartbeatStop s with pwr := { (heartbeatStop s).pwr with terminal := true } }) 0x0C source u.code
    rw [hr]
    exact hdriven _
  · rw [rd_resetReason_reason]
    exact (rstReason_word (by decide)).1

theorem spWatchdog_up {s : State} (hup : up s = true) (hl : s.pwr.porLow = false) (hd : s.pwr.pfDone = false) :
    spWatchdog s = terminalHold s 0x0003 ⟨Uk.sp, 0⟩ := by
  obtain ⟨ht, -, hdormant, hph⟩ := phase_of_up hup
  refine if_neg (Bool.eq_false_iff.mp ?_)
  rcases hph with hph | hph <;> simp [ht, hl, hd, hdormant, hph]

theorem watchdogs : Clauses.Watchdogs := by
  intro s hup hl hd
  refine ⟨?sp, ?firmware⟩
  case sp =>
    obtain ⟨t, ht, hlow, hcause⟩ := terminalHold_holds s 0x0003 ⟨Uk.sp, 0⟩
    rw [← rd_holdDomains retainedReg_rstReason (by decide)] at hcause
    refine ⟨{ holdDomains t with pwr := { (holdDomains t).pwr with terminal := true } }, ?_, rfl, rfl, hlow, hcause, rfl, rfl⟩
    rw [← ht, ← after_unpowered (powered_of_terminal (ht ▸ rfl))]
    exact exec_effect rfl (spWatchdog_up hup hl hd)
  case firmware =>
    exact fun hcores hf => exec_effect rfl ((if_pos hup).trans (if_neg (by simp [hcores, hf])))

/-! ### HOST_PERST_N -/

/-- Only a Dormant part is woken. -/
theorem dormantWake_awake {s : State} (h : dormant s = false) (c : WakeCause) : dormantWake s c = s := by
  refine if_pos (.inl fun h2 => ?_)
  simp [dormant, h2] at h

theorem hostPerst : Clauses.HostPerst := by
  intro s v
  refine ⟨fun hup => ?_, fun hc => ?_⟩
  · have hconf := up_configured hup
    have hawake := dormantWake_awake (dormant_of_up hup) .hostPerst
    exact ⟨exec_effect rfl ((if_pos hconf).trans (by rw [hawake])), exec_effect rfl ((if_pos hconf).trans (by rw [hawake])), exec_effect rfl (if_pos hconf)⟩
  · have hno := Bool.eq_false_iff.mp hc
    exact ⟨exec_effect rfl (if_neg hno), exec_effect rfl (if_neg hno)⟩

/-! ### AON_READ (R484) -/

theorem natLe_add (m n v : Nat) : natLe (m + n) v = natLe m v ++ natLe n (v / 256 ^ m) := by
  induction m generalizing v with
  | zero => simp [natLe]
  | succ m ih => rw [Nat.succ_add, natLe, natLe, ih, List.cons_append, Nat.div_div_eq_div_mul, ← Nat.pow_succ']

/-- The low bytes of a number are told by what it leaves modulo their range. -/
theorem natLe_mod (n v : Nat) : natLe n (v % 256 ^ n) = natLe n v := by
  induction n generalizing v with
  | zero => rfl
  | succ n ih =>
    have hlow : BitVec.ofNat 8 (v % 256 ^ (n + 1)) = BitVec.ofNat 8 v := by
      refine BitVec.eq_of_toNat_eq ?_
      simp only [BitVec.toNat_ofNat]
      exact Nat.mod_mod_of_dvd v ⟨256 ^ n, Nat.pow_succ'⟩
    rw [natLe, natLe, hlow, Nat.pow_succ', Nat.mod_mul_right_div_self, ih]

/-- The bytes of a number made of 32 bits, 64 bits and the rest. -/
theorem natLe_fields {a d x : Nat} (hd : d < 2 ^ 64) : natLe 16 (a % 2 ^ 32 + d * 2 ^ 32 + x * 2 ^ 96) = natLe 4 a ++ (natLe 8 d ++ natLe 4 x) := by
  have hlow : (a % 2 ^ 32 + d * 2 ^ 32 + x * 2 ^ 96) % 256 ^ 4 = a % 256 ^ 4 := by omega
  have hhigh : (a % 2 ^ 32 + d * 2 ^ 32 + x * 2 ^ 96) / 256 ^ 4 = d + x * 2 ^ 64 := by omega
  have hmid : (d + x * 2 ^ 64) % 256 ^ 8 = d := by omega
  have htop : (d + x * 2 ^ 64) / 256 ^ 8 = x := by omega
  rw [natLe_add 4 12, natLe_add 8 4, ← natLe_mod 4, hlow, natLe_mod, hhigh, ← natLe_mod 8 (d + x * 2 ^ 64), hmid, htop]

theorem aonReadShiftsOut : Clauses.AonReadShiftsOut := by
  intro s
  have hpins (b f : Bool) : (natLe 4 (b2n b + 2 * b2n f)).map (fun x => x.toNat) = [b2n b + 2 * b2n f, 0, 0, 0] := by cases b <;> cases f <;> rfl
  have hparts : natLe 16 ((rd s Reg.RST_REASON).toNat % 2 ^ 32 + (rd s Reg.RST_DETAIL).toNat * 2 ^ 32 + b2n s.pwr.terminal * 2 ^ 96 +
      b2n s.pwr.faultNLow * 2 ^ 97) = natLe 4 (rd s Reg.RST_REASON).toNat ++ (natLe 8 (rd s Reg.RST_DETAIL).toNat ++
      natLe 4 (b2n s.pwr.terminal + 2 * b2n s.pwr.faultNLow)) := by
    rw [← natLe_fields (rd s Reg.RST_DETAIL).isLt]
    congr 1
    omega
  refine ⟨_, exec_effect rfl rfl, by simp, ?_, ?_, ?_⟩
  all_goals rw [hparts]
  · simp
  · simp
  · simp [List.drop_append, hpins]

/-! ### Dormant (R386–R388) -/

/-- A Dormant part: the wake timer set, the fast clocks off, LPDDR4X in self-refresh, what averages and stages TLPs emptied. -/
def dormantEntered (s : State) (due : Nat) : State :=
  let u := setF (wr (wr s Reg.WAKE_TIMER (BitVec.ofNat 64 due)) Reg.CLK_STATUS 0x80000000) Reg.DDR_STATUS Fld.DDR_STATUS_SELF_REFRESH 1
  setF (bump { u with cong := { u.cong with voqAvg := [], staging := [] } } Reg.PWR_DORMANT_CNT) Reg.PWR_STATUS Fld.PWR_STATUS_STATE 2

theorem dormantEnter_noDeadline {s : State} (hm : dormantMay s = true) (hd : dormantDue s = none) : dormantEnter s = dormantEntered s 0 := by
  unfold dormantEnter
  rw [if_neg (by simp [hm]), hd]
  rfl

theorem rd_dormantEntered_clk (s : State) (due : Nat) : rd (dormantEntered s due) Reg.CLK_STATUS = 0x80000000 := by
  rw [dormantEntered, rd_setF, if_neg (by decide), bump, rd_bumpN, if_neg (by decide)]
  refine (rd_setF _ _ _ _ _).trans ?_
  rw [if_neg (by decide), rd_wr_self]

theorem rd_dormantEntered_timer (s : State) (due : Nat) : rd (dormantEntered s due) Reg.WAKE_TIMER = BitVec.ofNat 64 due := by
  rw [dormantEntered, rd_setF, if_neg (by decide), bump, rd_bumpN, if_neg (by decide)]
  refine (rd_setF _ _ _ _ _).trans ?_
  rw [if_neg (by decide), rd_wr_ne (by decide), rd_wr_self]

/-- A deadline that has come already abandons the entry. -/
theorem dormantEnter_abandoned {s : State} {d : Nat} (hm : dormantMay s = true) (hd : dormantDue s = some d) (hle : d ≤ s.time) :
    dormantEnter s = setF (bump (wr s Reg.WAKE_TIMER (BitVec.ofNat 64 d)) Reg.PWR_DORMANT_ABORT_CNT) Reg.PWR_STATUS Fld.PWR_STATUS_LAST_WAKE 5 := by
  unfold dormantEnter
  rw [if_neg (by simp [hm]), hd]
  exact if_pos (decide_eq_true hle)

/-- A Dormant part in which a wake cause is recognised. -/
def wakeBegun (s : State) (c : WakeCause) : State :=
  wr (setF (setF s Reg.PWR_STATUS Fld.PWR_STATUS_STATE 3) Reg.PWR_STATUS Fld.PWR_STATUS_LAST_WAKE c.code) Reg.CLK_STATUS 0xC0000000

theorem dormantWake_bmc {s : State} (hstate : getF s Reg.PWR_STATUS Fld.PWR_STATUS_STATE = 2) (hp : powered s = true) :
    dormantWake s .bmc = emit (wakeBegun s .bmc) .bmcNack := if_neg (by simp [hstate, hp])

theorem wakeTimer_dormant {s : State} (hstate : getF s Reg.PWR_STATUS Fld.PWR_STATUS_STATE = 2) (hp : powered s = true)
    (ht : rd s Reg.WAKE_TIMER ≠ 0) : wakeTimer s = dormantWake { s with
      time := s.time + 5120 * (((rd s Reg.WAKE_TIMER).toNat - s.time + 5119) / 5120),
      edge := s.edge + 16 * (((rd s Reg.WAKE_TIMER).toNat - s.time + 5119) / 5120) } .timer := if_neg (by simpa [hstate, hp] using ht)

theorem dormantMay_up {s : State} (h : dormantMay s = true) : up s = true := by
  simp only [dormantMay, Bool.and_eq_true] at h
  tauto

theorem dormantCommands : Clauses.DormantCommands := by
  intro s
  refine ⟨?entry, ?abandoned, ?wake⟩
  case entry =>
    intro hm hd
    exact ⟨dormantEntered s 0, exec_effect rfl ((if_pos (dormantMay_up hm)).trans (dormantEnter_noDeadline hm hd)), getF_setF_self _ _ _ (by decide),
      rd_dormantEntered_clk s 0, rd_dormantEntered_timer s 0, rfl⟩
  case abandoned =>
    intro d hm hd hle
    refine ⟨_, exec_effect rfl ((if_pos (dormantMay_up hm)).trans (dormantEnter_abandoned hm hd hle)), getF_setF_self _ _ _ (by decide), ?_⟩
    rw [getF_setF_disjoint _ _ _ (by decide), bump, getF, rd_bumpN, if_neg (by decide), rd_wr_ne (by decide), getF]
  case wake =>
    intro hstate hp
    refine ⟨fun c => exec_effect rfl rfl, fun ht => exec_effect rfl (wakeTimer_dormant hstate hp ht),
      _, exec_effect rfl (dormantWake_bmc hstate hp), ?_, (rd_emit _ _ _).trans (rd_wr_self _ _ _), rfl⟩
    rw [wakeBegun, getF, rd_emit, ← getF, getF_wr_ne _ (by decide), getF_setF_disjoint _ _ _ (by decide), getF_setF_self _ _ _ (by decide)]
    rfl

/-- Settles O4: the watchdogs and the pins meet their guards in a part that is up; what a TERMINAL fault, AON_READ and Dormant leave is read back from
`terminalHold_holds`, `natLe_fields` and `dormantEntered`. -/
theorem pinsAndDormant : Obligations.PinsAndDormant := ⟨watchdogs, hostPerst, aonReadShiftsOut, dormantCommands⟩

end Sys2Proof.Machine
end

section
/-!
The management transports: MCTP messages and control requests (O33), DOE discovery and SPDM (O34).
-/
namespace Sys2Proof.Machine
open Sys2Proof

/-! ### MCTP -/

theorem mctpParts_emptied {s : State} (h : s.icp.mctpParts = []) : { s with icp := { s.icp with mctpParts := [] } } = s := by
  rw [← h]

/-- The first packet of a message: it stands alone, and its EOM completes it at once. -/
theorem mctpRx_first {s : State} {c src tag type : Nat} {bytes : List Byte} (eom : Bool) (hc : mctpUp s c = true) (hp : s.icp.mctpParts = []) :
    mctpRx s c src tag true eom false type bytes =
      if eom then mctpMessage s c tag type bytes else { s with icp := { s.icp with mctpParts := [⟨c, src, tag, type, bytes, s.time⟩] } } := by
  unfold mctpRx
  rw [if_neg (by simp [hc])]
  have hnot : ¬ s.time + ms 100 < s.time := by omega
  cases eom <;> simp [hp, hnot, mctpParts_emptied hp]

/-- The last packet of the one message in reassembly completes it, within 100 ms of its first packet. -/
theorem mctpRx_last {s : State} {c src tag type : Nat} {bytes : List Byte} {p : McPart} (hc : mctpUp s c = true) (hp : s.icp.mctpParts = [p])
    (hchan : p.chan = c) (hsrc : p.src = src) (htag : p.tag = tag) (htime : s.time ≤ p.started + ms 100) :
    mctpRx s c src tag false true false type bytes =
      mctpMessage { s with icp := { s.icp with mctpParts := [] } } c tag p.type (p.bytes ++ bytes) := by
  subst hchan hsrc htag
  unfold mctpRx
  rw [if_neg (by simp [hc])]
  simp [hp, Nat.not_lt.mpr htime]

/-- An endpoint ID of 0 or 0xFF is refused with code 2. -/
theorem setEid_refused {s : State} {c tag eid : Nat} (hc : mctpUp s c = true) (he : eid % 256 = 0 ∨ eid % 256 = 255) :
    setEid s c tag eid = mctpAnswer s c tag 1 [2#8] := by
  unfold setEid
  rw [if_neg (by simp [hc]), if_pos he]

theorem setEid_taken {s : State} {c tag eid : Nat} (hc : mctpUp s c = true) (hlow : 0 < eid) (hhigh : eid < 255) :
    setEid s c tag eid = mctpAnswer (zeroAlive { s with icp := { s.icp with mctpEid := aput s.icp.mctpEid c eid } } c) c tag 1
      [0#8, 0#8, BitVec.ofNat 8 eid, 0#8] := by
  have hmod : eid % 256 = eid := Nat.mod_eq_of_lt (by omega)
  unfold setEid
  rw [if_neg (by simp [hc]), hmod, if_neg (by omega)]

/-- Settles O33. -/
theorem mctpCommands : Obligations.MctpCommands := by
  intro s c src tag hup hc
  have hdown : ¬ (!mctpUp s c.val) = true := by simp [hc]
  refine ⟨fun type bytes hp => ?_, fun type bytes hp => ?_, fun type bytes p hp hchan hsrc htag htime => ?_, ?_, fun eid hlow hhigh => ?_, ?_, ?_, ?_, ?_, ?_⟩
  · exact exec_up (fun s => mctpRx s c.val src tag true true false type bytes) rfl hup (mctpRx_first true hc hp)
  · exact exec_up (fun s => mctpRx s c.val src tag true false false type bytes) rfl hup (mctpRx_first false hc hp)
  · exact exec_up (fun s => mctpRx s c.val src tag false true false type bytes) rfl hup (mctpRx_last hc hp hchan hsrc htag htime)
  · exact exec_up (fun s => mctpTimeout s c.val src tag) rfl hup rfl
  · exact exec_up (fun s => setEid s c.val tag eid) rfl hup (setEid_taken hc hlow hhigh)
  · exact exec_up (fun s => setEid s c.val tag 0) rfl hup (setEid_refused hc (by decide))
  · exact exec_up (fun s => setEid s c.val tag 255) rfl hup (setEid_refused hc (by decide))
  · exact exec_up (fun s => getEid s c.val tag) rfl hup (if_neg hdown)
  · exact exec_up (fun s => mctpVersions s c.val tag) rfl hup (if_neg hdown)
  · exact exec_up (fun s => mctpTypes s c.val tag) rfl hup (if_neg hdown)

/-! ### SPDM -/

theorem spdmAt_reached {s : State} {via : SpdmVia} {need : Nat} (f : State → State) (hup : spdmUp s via = true)
    (hconn : need ≤ agetD s.icp.spdmConn (spdmKey via) 0) : spdmAt s via need f = f s := by
  unfold spdmAt
  rw [if_neg (by simp [hup]), if_neg (Nat.not_lt.mpr hconn)]

theorem spdmAt_down {s : State} {via : SpdmVia} {need : Nat} (f : State → State) (hup : spdmUp s via = false) : spdmAt s via need f = s := by
  unfold spdmAt
  rw [if_pos (by simp [hup])]

theorem spdmDigests_provisioned {s : State} {via : SpdmVia} (hup : spdmUp s via = true) (hconn : 3 ≤ agetD s.icp.spdmConn (spdmKey via) 0)
    (h0 : slot0 s = true) : spdmDigests s via = spdmSend s via (spdmMsg 0x01 1 1 (natLe 32 (Config.sha3 (certChain s)))) :=
  (spdmAt_reached _ hup hconn).trans (if_pos h0)

theorem spdmCert_portion {s : State} {via : SpdmVia} {ofs len : Nat} (hup : spdmUp s via = true) (hconn : 3 ≤ agetD s.icp.spdmConn (spdmKey via) 0)
    (h0 : slot0 s = true) (hofs : ofs < (certChain s).length) :
    spdmCert s via 0 ofs len = spdmSend s via (spdmMsg 0x02 0 0 (natLe 2 (((certChain s).drop ofs).take (min len 4088)).length ++
      natLe 2 ((certChain s).length - ofs - (((certChain s).drop ofs).take (min len 4088)).length) ++ ((certChain s).drop ofs).take (min len 4088))) := by
  have hok : ¬ (0 ≠ 0 ∨ (!slot0 s) = true ∨ (certChain s).length ≤ ofs) := by simp [h0, hofs]
  exact (spdmAt_reached _ hup hconn).trans (if_neg hok)

theorem certChain_free (s : State) (n : Nat) : certChain { s with free := n } = certChain s := rfl

theorem aliasSeed_free (s : State) (n : Nat) : aliasSeed { s with free := n } = aliasSeed s := rfl

theorem spdmChallenge_slot0 {s : State} {via : SpdmVia} {nonce : List Byte} (hup : spdmUp s via = true)
    (hconn : 3 ≤ agetD s.icp.spdmConn (spdmKey via) 0) (h0 : slot0 s = true) (hn : nonce.length = 32) :
    spdmChallenge s via 0 nonce = spdmSend { s with free := s.free + 3 } via
      (spdmMsg 0x03 0 1 (natLe 32 (Config.sha3 (certChain s)) ++ natLe 32 (Config.freeNat s.free % 2 ^ 256) ++ zeros 2 ++
        natLe 8 (Config.freeNat (s.free + 1) % 2 ^ 64) ++ fit 2420 (Config.mldsaSign (aliasSeed s) (natLe 32 (Config.freeNat (s.free + 2) % 2 ^ 256))))) := by
  have hok : ¬ (0 ≠ 0 ∨ (!slot0 s) = true ∨ nonce.length ≠ 32) := by simp [h0, hn]
  unfold spdmChallenge
  rw [spdmAt_reached _ hup hconn]
  dsimp only
  rw [if_neg hok]
  simp only [draw, spdmSign, certChain_free, aliasSeed_free]

theorem spdmMeasure_one {s : State} {via : SpdmVia} {op : Nat} {nonce : List Byte} (hup : spdmUp s via = true)
    (hconn : 3 ≤ agetD s.icp.spdmConn (spdmKey via) 0) (hlow : 1 ≤ op) (hhigh : op ≤ 6) :
    spdmMeasure s via op false nonce = spdmSend { s with free := s.free + 1 } via
      (spdmMsg 0x60 0 0 (natLe 1 1 ++ natLe 3 (measureBlock s op).length ++ measureBlock s op ++ natLe 32 (Config.freeNat s.free % 2 ^ 256) ++ zeros 2)) := by
  have hne : op ≠ 0 := by omega
  have hall : op ≠ 0xFF := by omega
  have hok : ¬ ((7 ≤ op ∧ op ≠ 0xFF) ∨ (false = true ∧ nonce.length ≠ 32)) := by
    rintro (⟨hbig, -⟩ | ⟨hsigned, -⟩)
    · omega
    · cases hsigned
  unfold spdmMeasure
  rw [spdmAt_reached _ hup hconn]
  dsimp only
  rw [if_neg hok, if_neg hne, if_neg hall]
  simp [hne, draw]

/-- Settles O34. -/
theorem spdmCommands : Obligations.SpdmCommands := by
  intro s via v hup conn
  refine ⟨fun hdoe => ⟨?_, ?_⟩, fun hvia => ⟨?_, fun h1 => ?_, fun h2 => ?_, fun h3 h0 => ⟨?_, fun offset len hofs => ?_, fun nonce hn => ?_⟩,
    fun h3 op nonce hlow hhigh => ?_, fun code => ?_⟩, fun hdown => ?_⟩
  · exact exec_up (fun s => doeDiscover s v 0) rfl hup (if_neg (by simp [hdoe]))
  · exact exec_up (fun s => doeDiscover s v 1) rfl hup (if_neg (by simp [hdoe]))
  · exact exec_up (fun s => spdmVersion s via) rfl hup (spdmAt_reached _ hvia (Nat.zero_le _))
  · exact exec_up (fun s => spdmCaps s via) rfl hup (spdmAt_reached _ hvia h1)
  · exact exec_up (fun s => spdmAlgs s via) rfl hup (spdmAt_reached _ hvia h2)
  · exact exec_up (fun s => spdmDigests s via) rfl hup (spdmDigests_provisioned hvia h3 h0)
  · exact exec_up (fun s => spdmCert s via 0 offset len) rfl hup (spdmCert_portion hvia h3 h0 hofs)
  · exact exec_up (fun s => spdmChallenge s via 0 nonce) rfl hup (spdmChallenge_slot0 hvia h3 h0 hn)
  · exact exec_up (fun s => spdmMeasure s via op false nonce) rfl hup (spdmMeasure_one hvia h3 hlow hhigh)
  · exact exec_up (fun s => spdmUnsupported s via code) rfl hup (spdmAt_reached _ hvia (Nat.zero_le _))
  · exact exec_up (fun s => spdmVersion s via) rfl hup (spdmAt_down _ hdown)

end Sys2Proof.Machine
end

section
/-!
The ICP rings (O32).
-/
namespace Sys2Proof.Machine
open Sys2Proof

theorem fit_of_length {n : Nat} {bs : List Byte} (h : bs.length = n) : fit n bs = bs := by
  simp [fit, ← h]

theorem ringEnable_managed {s : State} {v : Nat} (sq cq : Nat) (hm : (rd s Reg.ICP_MGR).getLsbD v = true) (ho : ringOn s v = false) :
    ringEnable s v sq cq =
      zeroAlive (wr (wr (wr (wr (wr (wr s (Reg.ICP_RING_CFG v) (BitVec.ofNat 64 (2 ^ 31 + max 2 (min 8 cq) * 256 + max 2 (min 8 sq))))
        (Reg.ICP_RING_STATUS v) 0) (Reg.ICP_SQ_TAIL v) 0) (Reg.ICP_SQ_HEAD v) 0) (Reg.ICP_CQ_TAIL v) 0) (Reg.ICP_CQ_HEAD v) 0) v := by
  unfold ringEnable
  rw [if_neg (by simp only [hm, ho]; decide)]
  rfl

@[simp] theorem rd_zeroAlive (s : State) (c k : Nat) : rd (zeroAlive s c) k = rd s k := rfl

/-- The registers of a ring that has just been enabled. -/
theorem rd_ringEnable {s : State} {v : Nat} (sq cq : Nat) (hm : (rd s Reg.ICP_MGR).getLsbD v = true) (ho : ringOn s v = false) :
    rd (ringEnable s v sq cq) (Reg.ICP_RING_CFG v) = BitVec.ofNat 64 (2 ^ 31 + max 2 (min 8 cq) * 256 + max 2 (min 8 sq)) ∧
    rd (ringEnable s v sq cq) (Reg.ICP_SQ_HEAD v) = 0 ∧ rd (ringEnable s v sq cq) (Reg.ICP_CQ_TAIL v) = 0 := by
  rw [ringEnable_managed sq cq hm ho]
  simp [rd_wr, Reg.ICP_RING_CFG, Reg.ICP_RING_STATUS, Reg.ICP_SQ_TAIL, Reg.ICP_SQ_HEAD, Reg.ICP_CQ_TAIL, Reg.ICP_CQ_HEAD]

/-- A ring's doorbell moves SQ_TAIL where the count is one that the ring can hold, and sets DB_ERR otherwise. -/
theorem sqTailWrite_eq (s : State) (v : Nat) (count : BitVec 32) :
    sqTailWrite s v count.toNat =
      if sqSize s v < diff32 count.toNat (rd s (Reg.ICP_SQ_HEAD v)).toNat then setF s (Reg.ICP_RING_STATUS v) Fld.ICP_RING_STATUS_DB_ERR 1
      else ringFetch (wr s (Reg.ICP_SQ_TAIL v) (count.setWidth 64)) v := by
  unfold sqTailWrite
  rw [BitVec.ofNat_toNat]

theorem cqHeadWrite_eq (s : State) (v : Nat) (count : BitVec 32) :
    cqHeadWrite s v count.toNat = wr s (Reg.ICP_CQ_HEAD v) (count.setWidth 64) := by
  unfold cqHeadWrite
  rw [BitVec.ofNat_toNat]

/-- The end of the one slot read under way. -/
theorem slotFetched_only {s : State} {v : Nat} (ok : Bool) (slot : List Byte) (hf : s.icp.fetching = [v]) (hl : slot.length = 4096) :
    slotFetched s v ok slot =
      if ok then
        ringFetch (icpArrive (wr { s with icp := { s.icp with fetching := [] } } (Reg.ICP_SQ_HEAD v)
          (BitVec.ofNat 64 (((rd s (Reg.ICP_SQ_HEAD v)).toNat + 1) % 2 ^ 32))) v 0 (16 + num slot 6 2) slot) v
      else
        msix (bump (setF { s with icp := { s.icp with fetching := [] } } (Reg.ICP_RING_STATUS v) Fld.ICP_RING_STATUS_FETCH_ERR 1)
          Reg.ICP_REFUSED_CNT) v 0 0 := by
  have hnone : s.icp.fetching.filter (fun x => x != v) = [] := by simp [hf]
  unfold slotFetched
  rw [if_neg (by simp [hf]), hnone]
  dsimp only
  rw [fit_of_length hl]
  cases ok <;> rfl

/-- The one reply that waits goes into the completion ring. -/
theorem ringReply_only {s : State} {v : Nat} {p : List Byte} (hp : agetD s.icp.cplWait v [] = [p]) (ho : ringOn s v = true)
    (hfull : cqFull s v = false) (hbm : (s.func v fnMgmt).command.testBit 2 = true) :
    ringReply s v =
      let tail := (rd s (Reg.ICP_CQ_TAIL v)).toNat
      let w := mgmtWrite s v ((rd s (Reg.ICP_CQ_BASE v)).toNat + 4096 * (tail % cqSize s v)) p
      ringFetch (msix (wr { w with icp := { w.icp with cplWait := adel w.icp.cplWait v } } (Reg.ICP_CQ_TAIL v) (BitVec.ofNat 64 ((tail + 1) % 2 ^ 32))) v 0 0) v := by
  unfold ringReply
  rw [hp]
  dsimp only
  rw [if_neg (by simp [ho, hfull, hbm])]
  rfl

/-- Settles O32. -/
theorem ringCommands : Obligations.RingCommands := by
  intro s v hup
  refine ⟨fun sq cq hv hm ho => ⟨?_, rd_ringEnable sq cq hm ho⟩, fun ho => ⟨?_, fun count hbeyond => ?_, fun count hheld => ?_, fun count => ?_⟩,
    fun slot hf hl => ⟨?_, ?_⟩, fun p hp ho hfull hbm => ?_⟩
  · refine exec_up (fun s => if vswOn s v.val && (rd s Reg.ICP_MGR).getLsbD v.val && !ringOn s v.val then ringEnable s v.val sq cq else s) rfl hup ?_
    exact if_pos (by rw [hv, hm, ho]; rfl)
  · exact exec_up (fun s => if ringOn s v.val then ringDisable s v.val else s) rfl hup ((if_pos ho).trans (if_pos ho))
  · refine exec_up (fun s => if ringOn s v.val then sqTailWrite s v.val count.toNat else s) rfl hup ((if_pos ho).trans ?_)
    rw [sqTailWrite_eq, if_pos hbeyond]
  · refine exec_up (fun s => if ringOn s v.val then sqTailWrite s v.val count.toNat else s) rfl hup ((if_pos ho).trans ?_)
    rw [sqTailWrite_eq, if_neg (Nat.not_lt.mpr hheld)]
  · exact exec_up (fun s => if ringOn s v.val then cqHeadWrite s v.val count.toNat else s) rfl hup ((if_pos ho).trans (cqHeadWrite_eq s v.val count))
  · exact exec_up (fun s => slotFetched s v.val false slot) rfl hup (slotFetched_only false slot hf hl)
  · exact exec_up (fun s => slotFetched s v.val true slot) rfl hup (slotFetched_only true slot hf hl)
  · exact exec_up (fun s => ringReply s v.val) rfl hup (ringReply_only hp ho hfull hbm)

end Sys2Proof.Machine
end

section
/-!
The ICP commands of the device, its ports and its services (O36), and those of energy and safety (O39).
-/
namespace Sys2Proof.Machine
open Sys2Proof

/-! ### Device, ports and services -/

theorem vswQuiesce_lifts {r : IcpReq} {t : State} (hop : num r.payload 4 1 = 1) :
    vswQuiesce r t = reply ((namedVsws t (num r.payload 0 4)).foldl (fun s v => s.modVsw v (fun x => { x with refusing := false })) t) r St.ok (zeros 8) := by
  unfold vswQuiesce
  dsimp only
  rw [if_neg (by omega), if_pos hop]
  rfl

theorem vswQuiesce_refuses {r : IcpReq} {t : State} (hop : num r.payload 4 1 = 0) (hmover : bitAt r.payload 5 0 = false) :
    vswQuiesce r t =
      let u := (namedVsws t (num r.payload 0 4)).foldl (fun s v => s.modVsw v (fun x => { x with refusing := true })) t
      { u with icp := { u.icp with quiesces := u.icp.quiesces ++ [⟨r, num r.payload 0 4⟩] } } := by
  unfold vswQuiesce
  dsimp only
  rw [if_neg (by omega), if_neg (by omega), if_neg (by simp [hmover])]
  rfl

/-- The one VSW_QUIESCE that waits is answered, OK where nothing is left. -/
theorem quiesceReply_only {s : State} {w : QuiesceWait} (hw : s.icp.quiesces = [w]) :
    quiesceReply s =
      let left := vswMask ((namedVsws s w.mask).filter (fun v => !vswQuiesced s v))
      reply { s with icp := { s.icp with quiesces := [] } } w.req (if left = 0 then St.ok else St.timeout) (natLe 4 left ++ zeros 4) := by
  unfold quiesceReply
  by_cases hleft : vswMask ((namedVsws s w.mask).filter (fun v => !vswQuiesced s v)) = 0
  · simp [hw, hleft]
  · simp [hw, hleft]

theorem portControl_retrains {r : IcpReq} {t : State} (hop : num r.payload 1 1 = 3) (hp : num r.payload 0 1 < 64)
    (hpcie : isPcie t (num r.payload 0 1) = true) (hf : isFenced t ⟨Uk.port, num r.payload 0 1⟩ = false)
    (hcmd : (t.port (num r.payload 0 1)).slotCmd = none) : portControl r t = reply (retrain t (num r.payload 0 1)) r St.ok [] := by
  unfold portControl
  dsimp only
  rw [hop, if_neg (by simp [hpcie]; omega), if_neg (by simp [hf]), if_neg (by omega), if_neg (by simp [hcmd])]
  rfl

theorem eyeScan_lane {r : IcpReq} {t : State} (hn : num r.payload 0 1 < 16) (hl : num r.payload 1 1 < 16) :
    eyeScan r t =
      let head := [BitVec.ofNat 8 (num r.payload 0 1), BitVec.ofNat 8 (num r.payload 1 1)]
      let u := sendReply t r St.accepted (head ++ zeros 2054)
      let m := Config.freeNat u.free % 2 ^ (8 * 2049)
      reply { u with free := u.free + 1 } r St.ok (head ++ natLe 1 m ++ zeros 5 ++ natLe 2048 (m / 256)) := by
  unfold eyeScan
  dsimp only
  rw [if_neg (by omega)]
  rfl

theorem bistRun_memory {r : IcpReq} {t : State} (hk : num r.payload 0 1 = 2) :
    bistRun r t =
      let u := sendReply t r St.accepted (zeros 16)
      let m := Config.freeNat u.free % 2 ^ 96
      reply { u with mem := [], ddr := { u.ddr with bad := [] }, free := u.free + 1 } r St.ok (natLe 4 m ++ zeros 4 ++ natLe 8 (m / 2 ^ 32)) := by
  unfold bistRun
  rw [hk]
  rfl

/-- Starting the PLLs of a tile changes registers alone. -/
theorem pllStart_tiles (s : State) (n : Nat) : (pllStart s n).tiles = s.tiles := by
  unfold pllStart
  dsimp only
  split <;> split <;> rfl

theorem tile_pllStart (s : State) (n m : Nat) : (pllStart s n).tile m = s.tile m := by
  unfold State.tile
  rw [pllStart_tiles]

/-- A tile with a port begins its power-up calibration, for the request, where no other waits for one. -/
theorem tileCalibrate_begins {r : IcpReq} {t : State} {n : Nat} (hpay : num r.payload 0 1 = n) (hn : n < 16) :
    let w := runAges (((List.range 4).filter (slotOn (sendReply t r St.accepted ([BitVec.ofNat 8 n] ++ zeros 7)) n)).foldl (fun s i => slotDown s n i)
      (sendReply t r St.accepted ([BitVec.ofNat 8 n] ++ zeros 7))) n
    let c := (setF w (Reg.TILE_STATUS n) Fld.TILE_STATUS_CAL_DONE 0).modTile n (fun x => { x with coef := [] })
    isFenced c ⟨Uk.tile, n⟩ = false → tilePorts c n ≠ [] → (w.tile n).calFor = none →
    tileCalibrate r t = (pllStart (setF c (Reg.TILE_STATUS n) Fld.TILE_STATUS_POWER 0) n).modTile n
      (fun x => { x with calRunning := true, calFor := some r }) := by
  intro w c hf hports hcal
  have hfor : ((pllStart (setF c (Reg.TILE_STATUS n) Fld.TILE_STATUS_POWER 0) n).tile n).calFor = none := by
    have htile : c.tile n = { w.tile n with coef := [] } := (tile_modTile _ n n _).trans (if_pos rfl)
    rw [tile_pllStart]
    exact (congrArg Tile.calFor htile).trans hcal
  have hgoes : ¬ (isFenced c ⟨Uk.tile, n⟩ || (tilePorts c n).isEmpty) = true := by simp [hf, hports]
  unfold tileCalibrate
  rw [hpay]
  refine (if_neg (by omega)).trans ((if_neg hgoes).trans ?_)
  dsimp only
  split
  next q hq => exact absurd (hfor.symm.trans hq) (by simp)
  next => rfl

/-- Settles O36. -/
theorem deviceCommands : Obligations.DeviceCommands := by
  intro s t r
  refine ⟨?info, ?lift, ?refuse, ?quiesced, ?retrain, ?eye, ?calibrate, ?bist⟩
  case info => exact fun h => whenUp_icpRun h _
  case lift => exact fun h hop => (whenUp_icpRun h _).trans (by rw [vswQuiesce_lifts hop])
  case refuse => exact fun h hop hmover => (whenUp_icpRun h _).trans (by rw [vswQuiesce_refuses hop hmover])
  case quiesced => exact fun w hup hw => exec_up quiesceReply rfl hup (quiesceReply_only hw)
  case retrain => exact fun h hop hp hpcie hf hcmd => (whenUp_icpRun h _).trans (by rw [portControl_retrains hop hp hpcie hf hcmd])
  case eye => exact fun h hn hl => (whenUp_icpRun h _).trans (by rw [eyeScan_lane hn hl])
  case calibrate =>
    intro n h hpay hn w c hf hports hcal
    exact (whenUp_icpRun h tileCalibrate).trans (congrArg (fun u => Host.Outcome.next (after u)) (tileCalibrate_begins hpay hn hf hports hcal))
  case bist => exact fun h hk => (whenUp_icpRun h _).trans (by rw [bistRun_memory hk])

/-! ### Energy and safety -/

theorem slotPowerCmd_off {r : IcpReq} {t : State} {n : Nat} (hpay : num r.payload 0 1 = n) (hn : n < 32) (hop : num r.payload 1 1 = 1)
    (hhost : hostOwned t n = false) (hstate : egvState t n ≠ 1) (hqueue : t.egv.queue.any (fun q => q.slot == n) = false) :
    slotPowerCmd r t = reply (egvOff t n) r St.ok (natLe 1 (egvState (egvOff t n) n) ++ zeros 7) := by
  have hlegal : ¬ (31 < n ∨ 1 < num r.payload 1 1) := by omega
  have hours : ¬ hostOwned t n = true := by simp [hhost]
  have hidle : ¬ (egvState t n = 1 ∨ t.egv.queue.any (fun q => q.slot == n) = true) := by rw [hqueue]; simp [hstate]
  unfold slotPowerCmd
  rw [hpay]
  exact (if_neg hlegal).trans ((if_neg hours).trans ((if_neg hidle).trans (if_pos hop)))

theorem energySet_window {r : IcpReq} {t : State} (hall : num r.payload 0 1 = 0xFF) (hlow : 1 ≤ num r.payload 1 1) (hhigh : num r.payload 1 1 ≤ 8)
    (hinr : num r.payload 2 2 = 0) (hstored : num r.payload 4 4 = 0) (hmin : 1000 ≤ num r.payload 8 4) (hmax : num r.payload 8 4 ≤ 4000000) :
    energySet r t = reply (wr (setF t Reg.EGV_CTRL Fld.EGV_CTRL_MAX_RAMPS (num r.payload 1 1)) Reg.EGV_WINDOW (BitVec.ofNat 64 (num r.payload 8 4)))
      r St.ok (zeros 8) := by
  unfold energySet
  dsimp only
  rw [if_pos hall, if_neg (by omega)]

theorem energyStatus_slot {r : IcpReq} {t : State} {n : Nat} (hpay : num r.payload 0 1 = n) (hn : n < 32) :
    energyStatus r t = reply t r St.ok (natLe 1 (egvState t n) ++ [0#8] ++
      natLe 2 (getF t (Reg.EGV_SLOT_STATUS n) Fld.EGV_SLOT_STATUS_LAST_INRUSH) ++ natLe 4 (declared t n) ++ natLe 4 (windowUsed t) ++
      natLe 1 t.egv.ramps.length ++ zeros 3) := by
  unfold energyStatus
  dsimp only
  rw [hpay, if_neg (by omega)]

/-- FAULT_READ of one class gives the records of that class. -/
theorem faultRead_class {r : IcpReq} {t : State} {n : Nat} (hpay : num r.payload 0 1 = n) (hn : n ≤ 4) :
    faultRead r t = reply t r St.ok (natLe 1 (t.fcu.recs.filter (fun e => e.1 == n)).length ++ zeros 7 ++
      (t.fcu.recs.filter (fun e => e.1 == n)).flatMap (fun e => e.2.bytes)) := by
  have hone : (n == 0xFF) = false := by simp; omega
  unfold faultRead
  dsimp only
  rw [hpay, if_neg (by omega), hone]
  rfl

/-- FAULT_CLEAR of a class that stands at a unit in service. -/
theorem faultClear_unfenced {r : IcpReq} {t : State} {n code : Nat} (hclass : num r.payload 0 1 = n) (hcode : num r.payload 4 4 = code) (hn : n < 4)
    (hunit : (UnitId.ofCode code).code = code) (hstands : (unitState t (UnitId.ofCode code)).classes.testBit n = true)
    (hf : isFenced t (UnitId.ofCode code) = false) :
    faultClear r t = reply (journalSafety (clearFaults t (UnitId.ofCode code) n) r n code) r St.ok (zeros 8) := by
  have hok : ¬ (4 ≤ n ∨ (UnitId.ofCode code).code ≠ code ∨ (!(unitState t (UnitId.ofCode code)).classes.testBit n) = true) := by
    simp [hunit, hstands, hn]
  unfold faultClear
  dsimp only
  rw [hclass, hcode, if_neg hok, hf]
  rfl

/-- FENCE of a unit that is fenced already. -/
theorem fenceCmd_again {r : IcpReq} {t : State} {code : Nat} (hop : num r.payload 0 1 = 0) (hcode : num r.payload 4 4 = code)
    (hunit : (UnitId.ofCode code).code = code) (hfen : fencible (UnitId.ofCode code) = true) (hf : isFenced t (UnitId.ofCode code) = true) :
    fenceCmd r t = reply (journalSafety (setUnit t { (unitState t (UnitId.ofCode code)) with cmdFenced := true }) r 0 code) r St.ok (zeros 8) := by
  have hok : ¬ ((UnitId.ofCode code).code ≠ code ∨ (!fencible (UnitId.ofCode code)) = true) := by simp [hunit, hfen]
  unfold fenceCmd
  dsimp only
  rw [hop, hcode, if_neg (by omega), if_neg hok, if_pos rfl, if_pos hf]
  rfl

theorem faultInject_crc {r : IcpReq} {t : State} (hunit : (UnitId.ofCode (num r.payload 0 4)).code = num r.payload 0 4)
    (hsite : hasSite (UnitId.ofCode (num r.payload 0 4)) 2 = true) (hkind : num r.payload 4 2 / 4096 = 2) :
    faultInject r t = reply { t with fcu := { t.fcu with injections := t.fcu.injections ++
      [⟨UnitId.ofCode (num r.payload 0 4), 2, num r.payload 4 2 % 4096, max 1 (num r.payload 6 1)⟩] } } r St.ok (zeros 8) := by
  have hok : ¬ ((UnitId.ofCode (num r.payload 0 4)).code ≠ num r.payload 0 4 ∨ (!hasSite (UnitId.ofCode (num r.payload 0 4)) 2) = true) := by
    simp [hunit, hsite]
  unfold faultInject
  dsimp only
  rw [hkind, if_neg hok]
  rfl

/-- Settles O39. -/
theorem energyAndSafetyCommands : Obligations.EnergyAndSafetyCommands := by
  intro s t r n code u
  refine ⟨?power, ?window, ?status, ?read, ?clear, ?fence, ?reset, ?inject⟩
  case power =>
    exact fun h hn hop hhost hstate hqueue => (whenUp_icpRun h _).trans (by rw [slotPowerCmd_off rfl hn hop hhost hstate hqueue])
  case window =>
    exact fun h hall hlow hhigh hinr hstored hmin hmax => (whenUp_icpRun h _).trans (by rw [energySet_window hall hlow hhigh hinr hstored hmin hmax])
  case status => exact fun h hn => (whenUp_icpRun h _).trans (by rw [energyStatus_slot rfl hn])
  case read => exact fun h hn => (whenUp_icpRun h _).trans (by rw [faultRead_class rfl hn])
  case clear => exact fun h hn hunit hstands hf => (whenUp_icpRun h _).trans (by rw [faultClear_unfenced rfl rfl hn hunit hstands hf])
  case fence => exact fun h hop hunit hfen hf => (whenUp_icpRun h _).trans (by rw [fenceCmd_again hop rfl hunit hfen hf])
  case reset =>
    intro h hkind hmode
    have hlegal : ¬ (1 < n ∨ (n = 1 ∧ 15 < num r.payload 1 1)) := by omega
    have hagrees : ¬ (mode t = 4 ∧ (!bitAt r.payload 2 0) = true ∧ (twinState t = 2 ∨ twinState t = 3)) := fun h4 => hmode h4.1
    refine (whenUp_icpRun h resetCmd).trans (congrArg (fun u => Host.Outcome.next (after u)) ?_)
    exact (if_neg hlegal).trans ((if_pos hkind).trans (if_neg hagrees))
  case inject => exact fun h hunit hsite hkind => (whenUp_icpRun h _).trans (by rw [faultInject_crc hunit hsite hkind])

end Sys2Proof.Machine
end

section
/-!
Lane tiles: their power, their PLLs and calibration, PRESS, margining, lane tests and levels (O7).
-/
namespace Sys2Proof.Machine
open Sys2Proof

/-- A command of a part that keeps its configuration takes effect while the part is up. -/
theorem exec_configured {i : Instr} {s t : State} (f : State → State) (hrow : exec i s = whenConfigured s f) (hup : up s = true) (ht : f s = t) :
    exec i s = .next (after t) :=
  exec_effect hrow ((if_pos (up_configured hup)).trans ht)

/-! ### Power states -/

theorem tileWake_parked {s : State} {t : Nat} (hoff : (s.tile t).offDue = false) (hp : tilePower s t = 1) :
    tileWake s t = setF (runAges (pressAbandon s t) t) (Reg.TILE_STATUS t) Fld.TILE_STATUS_POWER 0 := by
  unfold tileWake
  rw [hoff, if_pos (by simp)]
  dsimp only
  rw [hp]
  rfl

theorem tileWake_dark {s : State} {t : Nat} (hoff : (s.tile t).offDue = false) (hp : tilePower s t = 2) :
    tileWake s t = pllStart (setF (runAges (pressAbandon s t) t) (Reg.TILE_STATUS t) Fld.TILE_STATUS_POWER 0) t := by
  unfold tileWake
  rw [hoff, if_pos (by simp)]
  dsimp only
  rw [hp]
  rfl

/-- A tile that is OFF begins its power-up calibration. -/
theorem tileWake_off {s : State} {t : Nat} (hoff : (s.tile t).offDue = false) (hp : tilePower s t = 3) (hf : isFenced s ⟨Uk.tile, t⟩ = false)
    (hports : tilePorts s t ≠ []) :
    tileWake s t = (pllStart (setF s (Reg.TILE_STATUS t) Fld.TILE_STATUS_POWER 0) t).modTile t (fun x => { x with calRunning := true, offDue := false }) := by
  have hon : ¬ (isFenced s ⟨Uk.tile, t⟩ || (tilePorts s t).isEmpty) = true := by simp [hf, hports]
  unfold tileWake
  rw [hoff, if_pos (by simp)]
  dsimp only
  rw [hp]
  exact if_neg hon

/-- A tile that only waits to go OFF waits no longer. -/
theorem tileWake_waits {s : State} {t : Nat} (hoff : (s.tile t).offDue = true) (hf : isFenced s ⟨Uk.tile, t⟩ = false) :
    tileWake s t = tileWake (s.modTile t (fun x => { x with offDue := false })) t := by
  have hnow : ((s.modTile t (fun x => { x with offDue := false })).tile t).offDue = false := by rw [tile_modTile, if_pos rfl]
  unfold tileWake
  rw [hoff, hnow, if_neg (by simp [hf]), if_pos (by simp)]

/-- R383, R384, R77, R203, R281. -/
theorem tilePowerCommands : Clauses.TilePowerCommands := by
  intro s t hup
  refine ⟨?park, ?dark, ?parked, ?woken, ?off, ?waits, ?beacon⟩
  case park => exact fun hp hmay => exec_up (fun s => tilePark s t.val) rfl hup (if_pos ⟨hp, hmay⟩)
  case dark => exact fun hp hmay => exec_up (fun s => tileDark s t.val) rfl hup (if_pos ⟨hp, by omega⟩)
  case parked => exact fun hp hoff => exec_up (fun s => tileWake s t.val) rfl hup (tileWake_parked hoff hp)
  case woken => exact fun hp hoff => exec_up (fun s => tileWake s t.val) rfl hup (tileWake_dark hoff hp)
  case off => exact fun hp hf hports hoff => exec_up (fun s => tileWake s t.val) rfl hup (tileWake_off hoff hp hf hports)
  case waits =>
    intro hoff hf
    have hup' : up (s.modTile t.val (fun x => { x with offDue := false })) = true := hup
    exact (exec_up (fun s => tileWake s t.val) rfl hup (tileWake_waits hoff hf)).trans
      (exec_up (fun s => tileWake s t.val) rfl hup' rfl).symm
  case beacon =>
    have hawake : (if tilePower s t.val = 2 then dormantWake s (.line t) else s) = s := by
      rw [dormantWake_awake (dormant_of_up hup), ite_self]
    refine exec_configured (fun s => beacon (if tilePower s t.val = 2 then dormantWake s (.line t) else s) t.val) rfl hup ?_
    rw [hawake]
    rfl

/-! ### PLLs and the power-up calibration -/

theorem slotOn_setF_status (s : State) (t i : Nat) (f : Field) (v : Nat) : slotOn (setF s (Reg.TILE_STATUS t) f v) t i = slotOn s t i := by
  have hne : Reg.TILE_CFG t ≠ Reg.TILE_STATUS t := by simp [Reg.TILE_CFG, Reg.TILE_STATUS]
  simp only [slotOn, tileSplit, isSet, getF_setF_ne _ hne]

theorem slotOn_bump_unlock (s : State) (t i : Nat) : slotOn (bump s (Reg.TILE_PLL_UNLOCK_CNT t)) t i = slotOn s t i := by
  have hne : Reg.TILE_CFG t ≠ Reg.TILE_PLL_UNLOCK_CNT t := by simp [Reg.TILE_CFG, Reg.TILE_PLL_UNLOCK_CNT]
  simp only [slotOn, tileSplit, isSet, bump, bumpN, getF_wr_ne _ hne]

/-- The LC PLL of a tile without an enabled slot takes no link down. -/
theorem pllLost_alone {s : State} {t : Nat} (hon : isSet s (Reg.TILE_STATUS t) Fld.TILE_STATUS_LC_ON = true)
    (hslots : ∀ i, i < 4 → slotOn s t i = false) :
    pllLost s t true = detect (setF (bump s (Reg.TILE_PLL_UNLOCK_CNT t)) (Reg.TILE_STATUS t) Fld.TILE_STATUS_LC_STABLE 0) 0x0220 .contained Uk.tile t 1 := by
  have hnone : ∀ uses : Nat → Bool, (List.range 4).filter (fun i =>
      slotOn (setF (bump s (Reg.TILE_PLL_UNLOCK_CNT t)) (Reg.TILE_STATUS t) Fld.TILE_STATUS_LC_STABLE 0) t i && uses i) = [] := by
    intro uses
    refine List.filter_eq_nil_iff.mpr fun i hi => ?_
    rw [slotOn_setF_status, slotOn_bump_unlock, hslots i (List.mem_range.mp hi)]
    simp
  unfold pllLost
  rw [if_pos rfl, if_neg (by simp [hon])]
  dsimp only
  rw [if_pos rfl, hnone]
  rfl

/-- The end of a power-up calibration that no TILE_CALIBRATE waits for. -/
theorem calibrated_unasked {s : State} {t : Nat} (hrun : (s.tile t).calRunning = true) (hp : tilePower s t = 0) (hfor : (s.tile t).calFor = none) :
    calibrated s t =
      let c := (setF s (Reg.TILE_STATUS t) Fld.TILE_STATUS_CAL_DONE 1).modTile t (fun x =>
        { x with passAt := (List.range 16).map (fun l => (l, s.time)), ageHeld := [], calRunning := false, calFor := none })
      ((tilePorts c t).filter (isPcie c)).foldl (fun s p => if isSet s (Reg.PORT_STATUS p) Fld.PORT_STATUS_DL_ACTIVE then s else trainFromDetect s p) c := by
  have hdown : (fun (s : State) p => if (!isSet s (Reg.PORT_STATUS p) Fld.PORT_STATUS_DL_ACTIVE) = true then trainFromDetect s p else s) =
      fun s p => if isSet s (Reg.PORT_STATUS p) Fld.PORT_STATUS_DL_ACTIVE then s else trainFromDetect s p := by
    funext s p
    cases isSet s (Reg.PORT_STATUS p) Fld.PORT_STATUS_DL_ACTIVE <;> rfl
  unfold calibrated
  dsimp only
  rw [if_neg (by simp [hrun, hp]), hfor, hdown]
  rfl

theorem pllStable_lc {s : State} {t : Nat} (hon : isSet s (Reg.TILE_STATUS t) Fld.TILE_STATUS_LC_ON = true) :
    pllStable s t true = setF s (Reg.TILE_STATUS t) Fld.TILE_STATUS_LC_STABLE 1 := by
  unfold pllStable
  rw [if_pos rfl, if_pos hon]

theorem pllStable_ring {s : State} {t : Nat} (hon : isSet s (Reg.TILE_STATUS t) Fld.TILE_STATUS_RING_ON = true) :
    pllStable s t false = setF s (Reg.TILE_STATUS t) Fld.TILE_STATUS_RING_STABLE 1 := by
  unfold pllStable
  rw [if_neg Bool.false_ne_true, if_pos hon]

/-- R261, R263, R280. -/
theorem tilePllsAndCalibration : Clauses.TilePllsAndCalibration := by
  intro s t hup
  refine ⟨?lc, ?ring, ?alone, ?lost, ?calibrated⟩
  case lc => exact fun hon => exec_configured (fun s => pllStable s t.val true) rfl hup (pllStable_lc hon)
  case ring => exact fun hon => exec_configured (fun s => pllStable s t.val false) rfl hup (pllStable_ring hon)
  case alone => exact fun hon hslots => exec_up (fun s => pllLost s t.val true) rfl hup (pllLost_alone hon hslots)
  case lost => exact fun _ => exec_up (fun s => pllLost s t.val true) rfl hup rfl
  case calibrated => exact fun hrun hp hfor => exec_up (fun s => calibrated s t.val) rfl hup (calibrated_unasked hrun hp hfor)

/-! ### PRESS -/

/-- What the end of a quiet step writes, before its SNR is judged. -/
def quietPass (s : State) (t l snr : Nat) : State :=
  setF (setF (setF (setF
    (bump (s.modTile t (fun x => { x with press := none, passAt := aput x.passAt l s.time })) (Reg.TILE_PRESS_PASS_CNT t))
    (Reg.LANE_STATUS t l) Fld.LANE_STATUS_SNR snr) (Reg.LANE_STATUS t l) Fld.LANE_STATUS_PRESS_STATE 0)
    (Reg.TILE_STATUS t) Fld.TILE_STATUS_PRESS_LANE l) (Reg.PRESS_LEVEL t) (Fld.PRESS_LEVEL_LEVEL l) 0

/-- The criterion of a lane is a matter of the lane's rate and of the tile's criteria. -/
theorem laneCrit_congr {a b : State} {t l : Nat} (hrate : getF a (Reg.LANE_STATUS t l) Fld.LANE_STATUS_RATE = getF b (Reg.LANE_STATUS t l) Fld.LANE_STATUS_RATE)
    (hcrit : rd a (Reg.TILE_EQ_CRIT t) = rd b (Reg.TILE_EQ_CRIT t)) : laneCrit a t l = laneCrit b t l := by
  unfold laneCrit
  simp only [hrate]
  simp only [getF, hcrit]

theorem laneCrit_quietPass (s : State) (t l snr : Nat) : laneCrit (quietPass s t l snr) t l = laneCrit s t l := by
  have hstatus : Reg.LANE_STATUS t l ≠ Reg.TILE_STATUS t := by simp only [Reg.LANE_STATUS, Reg.TILE_STATUS]; omega
  have hlevel : Reg.LANE_STATUS t l ≠ Reg.PRESS_LEVEL t := by simp only [Reg.LANE_STATUS, Reg.PRESS_LEVEL]; omega
  have hpass : Reg.LANE_STATUS t l ≠ Reg.TILE_PRESS_PASS_CNT t := by simp only [Reg.LANE_STATUS, Reg.TILE_PRESS_PASS_CNT]; omega
  refine laneCrit_congr ?_ ?_
  · rw [quietPass, getF_setF_ne _ hlevel, getF_setF_ne _ hstatus, getF_setF_disjoint _ _ _ (by decide), getF_setF_disjoint _ _ _ (by decide),
      bump, bumpN, getF_wr_ne _ hpass]
    rfl
  · have hlane : Reg.TILE_EQ_CRIT t ≠ Reg.LANE_STATUS t l := by simp only [Reg.LANE_STATUS, Reg.TILE_EQ_CRIT]; omega
    have hown : ∀ k, k ≠ 158 → Reg.TILE_EQ_CRIT t ≠ k + 512 * t := fun k hk => by simp only [Reg.TILE_EQ_CRIT]; omega
    rw [quietPass, rd_setF, if_neg (hown 242 (by decide)), rd_setF, if_neg (hown 156 (by decide)), rd_setF, if_neg hlane, rd_setF, if_neg hlane,
      bump, rd_bumpN, if_neg (hown 159 (by decide)), rd_modTile]

/-- A quiet step of the lane under PRESS ends with an SNR that its criterion allows. -/
theorem pressDone_quiet {s : State} {t l snr : Nat} (hstep : pressStep s t l = some false) (hpress : (s.tile t).press = some (l, false))
    (hsnr : laneCrit s t l ≤ snr) : pressDone s t l snr = pressStart (quietPass s t l snr) t := by
  have henough : ¬ snr < laneCrit (quietPass s t l snr) t l := by rw [laneCrit_quietPass]; omega
  unfold pressDone
  dsimp only
  rw [hstep, hpress]
  dsimp only
  rw [if_neg (by simp), if_neg Bool.false_ne_true]
  exact congrArg (pressStart · t) (if_neg henough)

/-! ### Margining -/

/-- What a margin command does to a lane of a PCIe port in L0. -/
theorem margin_l0 {s : State} {t l i : Nat} (hlane : (List.range 4).find? (fun i => slotOn s t i && (slotLanes s t i).contains l) = some i)
    (hpcie : slotCalez s t i = false) (hl0 : ltssm s (slotPort s t i) = Lt.l0) :
    (∀ c v, marginValue s t i c = some v → margin s t l c = emit s (.marginReport t l v)) ∧
    margin s t l .normal = emit (marginEnd s t [l]) (.margin t l true 0) ∧
    margin s t l .clearErrors = emit s (.margin t l true 0) ∧
    (∀ c, (∃ left n, c = .stepTiming left n ∧ n ≤ 32) ∨ (∃ down n, c = .stepVoltage down n ∧ n ≤ 64) →
      margin s t l c = if 1 ≤ pressLevel s t l then emit (marginEnd s t [l]) (.margin t l false 0) else marginStep s t l) := by
  have hgo : ¬ (slotCalez s t i || ltssm s (slotPort s t i) != Lt.l0) = true := by simp [hpcie, hl0]
  refine ⟨fun c v hv => ?_, ?_, ?_, fun c hc => ?_⟩
  · unfold margin
    rw [hlane]
    dsimp only
    rw [if_neg hgo, hv]
  · unfold margin
    rw [hlane]
    exact if_neg hgo
  · unfold margin
    rw [hlane]
    exact if_neg hgo
  · rcases hc with ⟨left, n, rfl, hn⟩ | ⟨down, n, rfl, hn⟩
    · have hok : marginStepOk (.stepTiming left n) = true := decide_eq_true hn
      unfold margin
      rw [hlane]
      refine (if_neg hgo).trans ?_
      show (if 1 ≤ pressLevel s t l then _ else if marginStepOk (.stepTiming left n) = true then _ else _) = _
      rw [if_pos hok]
    · have hok : marginStepOk (.stepVoltage down n) = true := decide_eq_true hn
      unfold margin
      rw [hlane]
      refine (if_neg hgo).trans ?_
      show (if 1 ≤ pressLevel s t l then _ else if marginStepOk (.stepVoltage down n) = true then _ else _) = _
      rw [if_pos hok]

/-- A first step of margining takes the lane's spare slice; PRESS is idle. -/
theorem marginStep_first {s : State} {t l : Nat} (hpress : (s.tile t).press = none) (hm : (s.tile t).margined.contains l = false) :
    marginStep s t l = emit (setF { s.modTile t (fun x => { x with margined := x.margined ++ [l] }) with free := s.free + 1 }
      (Reg.LANE_STATUS t l) Fld.LANE_STATUS_PRESS_STATE 3) (.margin t l true (Config.freeNat s.free % 2 ^ 6)) := by
  unfold marginStep State.modTile
  dsimp only
  rw [hpress, hm]
  rfl

/-! ### Levels -/

/-- The level of an activity is no part of its age. -/
theorem bgAge_setBgLevel (s : State) (key n : Nat) : bgAge (setBgLevel s key n) key = bgAge s key := by
  have hperiod : key = 17 → orbitPeriod (setBgLevel s key n) = orbitPeriod s := by
    rintro rfl
    exact getF_setF_disjoint s Reg.ORBIT_CFG n (by decide)
  have hstopped : (key = 17 ∧ orbitPeriod (setBgLevel s key n) = 0) ↔ (key = 17 ∧ orbitPeriod s = 0) :=
    and_congr_right fun h => by rw [hperiod h]
  unfold bgAge
  simp only [hstopped]
  rfl

theorem backgroundLevel_eq {s : State} {key : Nat} (hkey : key < 6 ∨ key = 16 ∨ key = 17) :
    backgroundLevel s key =
      if levelOf s (bgAge s key) (ms (bgDeadline s key)) = 2 ∧ bgLevel s key < 2 then
        detect (setBgLevel s key (levelOf s (bgAge s key) (ms (bgDeadline s key)))) 0x0301 .contained Uk.background (bgIndex key)
          ((if key < 6 then key else 0) * 2 ^ 56 + bgAge s key / ms 1 % 2 ^ 56)
      else setBgLevel s key (levelOf s (bgAge s key) (ms (bgDeadline s key))) := by
  unfold backgroundLevel
  dsimp only
  rw [if_neg (by omega), if_neg (by omega), bgAge_setBgLevel]

/-- R273, R278, R279, R401. -/
theorem pressAndMargining : Clauses.PressAndMargining := by
  intro s t lane snr hup
  refine ⟨?press, ?margin, ?test, ?level, ?critical⟩
  case press =>
    exact fun hstep hpress hsnr => exec_up (fun s => pressDone s t.val lane.val snr.toNat) rfl hup (pressDone_quiet hstep hpress hsnr)
  case margin =>
    intro i hlane hpcie hl0
    obtain ⟨hreport, hnormal, hclear, hsteps⟩ := margin_l0 hlane hpcie hl0
    have hrow : ∀ {c u}, margin s t.val lane.val c = u → exec (.marginCommand t ⟨lane, c⟩) s = .next (after u) :=
      fun {c _} h => exec_up (fun s => margin s t.val lane.val c) rfl hup h
    refine ⟨fun c v hv => hrow (hreport c v hv), hrow hnormal, hrow hclear, fun c hc => ⟨fun hlevel => ?_, fun hlevel hpress hm => ?_⟩⟩
    · exact hrow ((hsteps c hc).trans (if_pos hlevel))
    · exact ⟨_, hrow ((hsteps c hc).trans ((if_neg (by omega)).trans (marginStep_first hpress hm)))⟩
  case test =>
    intro mask hmask
    refine exec_up (fun s => laneTest s t.val mask) rfl hup ?_
    unfold laneTest
    rw [Nat.mod_eq_of_lt hmask]
    rfl
  case level =>
    intro key hkey hlevel
    exact exec_up (fun s => backgroundLevel s key) rfl hup ((backgroundLevel_eq hkey).trans (if_neg (by omega)))
  case critical =>
    intro key hkey hlevel hold
    refine exec_up (fun s => backgroundLevel s key) rfl hup ?_
    rw [backgroundLevel_eq hkey, hlevel, if_pos ⟨rfl, hold⟩]

/-- Settles O7: its three clauses. -/
theorem tileCommands : Obligations.TileCommands := ⟨tilePowerCommands, tilePllsAndCalibration, pressAndMargining⟩

end Sys2Proof.Machine
end

section
/-!
Background work: the fill of LPDDR4X, LAUNDER, the scrub of the SP's SRAM, the journal and the record sectors.
-/
namespace Sys2Proof.Machine
open Sys2Proof

/-- A command of the SP takes effect while the SP runs. -/
theorem exec_sp {i : Instr} {s t : State} (f : State → State) (hrow : exec i s = whenSp s f) (hsp : spUp s = true) (ht : f s = t) :
    exec i s = .next (after t) :=
  exec_effect hrow ((if_pos hsp).trans ht)

/-! ### LAUNDER -/

theorem launder_off {s : State} (r : Nat) (e : EccResult) (hoff : isSet s Reg.BG_CTRL Fld.BG_CTRL_LD_EN = false) : launder s r e = s :=
  if_pos (by simp [hoff])

/-- A granted access takes its region one word on, or ends the pass. -/
theorem launder_on {s : State} {r : Nat} (e : EccResult) (hon : isSet s Reg.BG_CTRL Fld.BG_CTRL_LD_EN = true) (hddr : r = 5 → ddrOk s = true) :
    ∃ u : State, launder s r e =
      if launderWords r ≤ agetD s.bg.ldPos r 0 + 1 then
        setBgLevel { u with bg := { u.bg with ldPos := adel u.bg.ldPos r, since := aput u.bg.since r u.time } } r 0
      else { u with bg := { u.bg with ldPos := aput u.bg.ldPos r (agetD s.bg.ldPos r 0 + 1) } } := by
  have hruns : ¬ (!isSet s Reg.BG_CTRL Fld.BG_CTRL_LD_EN) = true := by simp [hon]
  have hready : ¬ (r = 5 ∧ (!ddrOk s) = true) := fun h => by simp [hddr h.1] at h
  exact ⟨_, (if_neg hruns).trans (if_neg hready)⟩

theorem bgLevel_setBgLevel_zero (s : State) (key : Nat) : bgLevel (setBgLevel s key 0) key = 0 := by
  have hfits : (bgField key).2.lsb + (bgField key).2.width ≤ 64 := by
    unfold bgField
    split
    · exact Nat.le_refl 64
    · split <;> decide
  exact (getF_setF_self _ _ _ hfits).trans (Nat.zero_mod _)

/-- A word that is not the last of its pass. -/
theorem launder_next {s : State} {r : Nat} (e : EccResult) (hon : isSet s Reg.BG_CTRL Fld.BG_CTRL_LD_EN = true) (hddr : r = 5 → ddrOk s = true)
    (hmore : agetD s.bg.ldPos r 0 + 1 < launderWords r) : agetD (launder s r e).bg.ldPos r 0 = agetD s.bg.ldPos r 0 + 1 := by
  obtain ⟨u, hu⟩ := launder_on e hon hddr
  rw [hu, if_neg (by omega)]
  exact (agetD_aput _ _ _ _ _).trans (if_pos rfl)

/-- The last word of a pass. -/
theorem launder_last {s : State} {r : Nat} (e : EccResult) (hon : isSet s Reg.BG_CTRL Fld.BG_CTRL_LD_EN = true) (hddr : r = 5 → ddrOk s = true)
    (hlast : launderWords r ≤ agetD s.bg.ldPos r 0 + 1) : agetD (launder s r e).bg.ldPos r 0 = 0 ∧ bgLevel (launder s r e) r = 0 := by
  obtain ⟨u, hu⟩ := launder_on e hon hddr
  rw [hu, if_pos hlast]
  refine ⟨?_, bgLevel_setBgLevel_zero _ _⟩
  show agetD (adel u.bg.ldPos r) r 0 = 0
  rw [agetD, aget_adel_self]
  rfl

/-! ### The SP's SRAM -/

theorem spScrub_uncorrectable {s : State} (hi : s.fcu.injections = []) :
    spScrub s .uncorrectable = { s with
      free := s.free + 1, fcu := { s.fcu with due := s.fcu.due ++ [⟨0x0002, .terminal, ⟨Uk.sp, 0⟩, Config.freeNat s.free % 2 ^ 20, false⟩] } } := by
  unfold spScrub
  dsimp only
  rw [takeInjection_none hi]
  rfl

/-! ### The journal -/

/-- DARN erases the sector that its search finds. -/
theorem darnErase_found {s : State} {k : Nat} (hidle : s.bg.erasing = none) (hlow : jnlReserve s < 4)
    (hk : jnlFind s (fun x => !x.erased) (jnlSectors - 1) (jnlHead s + 1) = some k) :
    darnErase s = modSector { s with bg := { s.bg with erasing := some k } } k (fun x => { x with recs := [], torn := 0 }) := by
  unfold darnErase
  rw [hidle]
  dsimp only
  rw [if_pos hlow, hk]

/-- The erase in progress ends while no record waits. -/
theorem eraseDone_unhurried {s : State} {k : Nat} (ok : Bool) (hk : s.bg.erasing = some k) (hj : s.bg.jbuf = []) :
    eraseDone s ok =
      if ok then darnReserve (modSector { s with bg := { s.bg with erasing := none } } k
        (fun x => { x with erased := true, headed := false, recs := [], torn := 0 }))
      else sectorRetire { s with bg := { s.bg with erasing := none } } k 0 := by
  unfold eraseDone
  rw [hk]
  exact if_neg (by simp [hj])

/-- The page program of the oldest record ends in a head sector that stands ready and headed. -/
theorem journalCommit_headed {s : State} {r : JRec} {rest : List JRec} (ok : Bool) (hj : s.bg.jbuf = r :: rest) (hr : headReady s = some s)
    (hh : (jSector s (jnlHead s)).headed = true) :
    journalCommit s ok = if ok then recordCommit s r else sectorRetire s (jnlHead s) 1 := by
  have hheader : sectorHeader s (jnlHead s) = s := if_pos hh
  unfold journalCommit
  rw [hj]
  dsimp only
  rw [hr]
  dsimp only
  rw [hh, hheader]
  cases ok <;> rfl

theorem recordErase_bankRecord {s : State} (hr : isSet s Reg.BOOT_STATUS Fld.BOOT_STATUS_READY = true) :
    recordErase s 0 = { s with flash := { s.flash with bankRec := s.flash.bankRec.tidy bankGen } } := by
  unfold recordErase
  rw [if_neg (by simp [hr]), if_pos rfl]

theorem recordErase_selection {s : State} (hr : isSet s Reg.BOOT_STATUS Fld.BOOT_STATUS_READY = true) :
    recordErase s 1 = { s with flash := { s.flash with bank0 := { s.flash.bank0 with sel := s.flash.bank0.sel.tidy selGen } } } := by
  unfold recordErase
  rw [if_neg (by simp [hr]), if_neg (by decide)]
  rfl

/-- R403, R404, R407 to R410, R431, R459. -/
theorem backgroundCommands : Clauses.BackgroundCommands := by
  intro s hup
  have hfast : fastUp s = true := up_fastUp hup
  have hsp : spUp s = true := fastUp_spUp hfast
  refine ⟨?fill, ?launder, ?off, ?clean, ?scrub, ?erase, ?erased, ?commit, ?bank, ?selection⟩
  case fill =>
    intro hready hmore
    exact exec_effect rfl ((if_pos hfast).trans (if_pos (by simp [hready, hmore])))
  case launder =>
    intro r e hon hddr pos
    refine ⟨fun hmore => ?_, fun hlast => ?_⟩
    · exact ⟨launder s r.val e, exec_up (fun s => launder s r.val e) rfl hup rfl, launder_next e hon hddr hmore⟩
    · exact ⟨launder s r.val e, exec_up (fun s => launder s r.val e) rfl hup rfl, launder_last e hon hddr hlast⟩
  case off => exact fun r e hoff => exec_up (fun s => launder s r.val e) rfl hup (launder_off r.val e hoff)
  case clean => exact exec_sp (fun s => spScrub s .clean) rfl hsp rfl
  case scrub => exact fun hi => exec_sp (fun s => spScrub s .uncorrectable) rfl hsp (spScrub_uncorrectable hi)
  case erase => exact fun k hidle hlow hk => exec_up darnErase rfl hup (darnErase_found hidle hlow hk)
  case erased =>
    intro k hk hj
    exact ⟨exec_sp (fun s => eraseDone s true) rfl hsp (eraseDone_unhurried true hk hj),
      exec_sp (fun s => eraseDone s false) rfl hsp (eraseDone_unhurried false hk hj)⟩
  case commit =>
    intro r rest hj hr hh
    exact ⟨exec_sp (fun s => journalCommit s true) rfl hsp (journalCommit_headed true hj hr hh),
      exec_sp (fun s => journalCommit s false) rfl hsp (journalCommit_headed false hj hr hh)⟩
  case bank => exact fun hr => exec_up (fun s => recordErase s 0) rfl hup (recordErase_bankRecord hr)
  case selection => exact fun hr => exec_up (fun s => recordErase s 1) rfl hup (recordErase_selection hr)

end Sys2Proof.Machine
end

section
/-!
Writes of one's own register: the check-value units and the MPUs' commits; faults reported and FAULT_N (O46).
-/
namespace Sys2Proof.Machine
open Sys2Proof

/-! ### A whole register of the CRS -/

/-- The offset of a register leads to that register, of this width, outside the sideband bridge and what ECLIPSE hands out. -/
def ownPlace (k width : Nat) : Bool :=
  (crsAt (crsOffset k)).any (fun h => h.key == k && h.fam.width == width && !h.high && reaches h (crsOffset k) (width / 8)) &&
  (famOf k).any (fun f => f.width == width) && !inBridge (crsOffset k) && !(decide (0x0800A000 ≤ crsOffset k) && decide (crsOffset k < 0x0800E000))

theorem ownPlace_iff {k width : Nat} (h : ownPlace k width = true) :
    (∃ x, crsAt (crsOffset k) = some x ∧ x.key = k ∧ x.fam.width = width ∧ x.high = false ∧ reaches x (crsOffset k) (width / 8) = true) ∧
    (∃ f, famOf k = some f ∧ f.width = width) ∧ inBridge (crsOffset k) = false ∧ ∀ (s : State) n, exportRead s (crsOffset k) n = none := by
  simp only [ownPlace, Bool.and_eq_true, Option.any_eq_true, beq_iff_eq, Bool.not_eq_true', Bool.and_eq_false_iff, decide_eq_false_iff_not] at h
  obtain ⟨⟨⟨⟨x, hx, ⟨⟨hkey, hwidth⟩, hhigh⟩, hreach⟩, f, hf, hfam⟩, hbridge⟩, hexport⟩ := h
  refine ⟨⟨x, hx, hkey, hwidth, hhigh, hreach⟩, ⟨f, hf, hfam⟩, hbridge, fun s n => if_neg fun hin => ?_⟩
  rcases hexport with h | h
  · exact h hin.1
  · exact h hin.2

/-- The bits of a 32-bit value, of which a write carries the low half. -/
theorem low32_written (w : Word) : BitVec.ofNat 64 (w.toNat % 2 ^ (8 * 4) % 2 ^ 32) = low32 w := by
  unfold low32
  rw [Nat.mod_mod]

section Landing
variable {s : State} {m : Master} {k : Nat} {w : Word}

/-- A write of a 32-bit register that lands is the commit of its low half. -/
theorem ownWrite_32 (hp : ownPlace k 32 = true) (hl : Lands s m k (low32 w)) :
    ownWrite s m k w = regCommit s m.id.val k (low32 w) 0xFFFFFFFF#64 (crsOffset k) := by
  obtain ⟨⟨haccess, hhalf, hcheck⟩, -, -⟩ := hl
  obtain ⟨⟨x, hx, hkey, hwidth, -, hreach⟩, ⟨f, hf, hfam⟩, hbridge, -⟩ := ownPlace_iff hp
  unfold ownWrite
  rw [if_pos haccess, hf]
  dsimp only
  rw [hfam]
  refine (accessWrite_register rfl hbridge hcheck hx hreach w).trans ((regPut_32 hhalf hwidth _ _ _).trans ?_)
  rw [hkey]
  exact congrArg (regCommit s m.id.val k · 0xFFFFFFFF#64 (crsOffset k)) (low32_written w)

theorem ownWrite_64 (hp : ownPlace k 64 = true) (hl : Lands s m k w) :
    ownWrite s m k w = regCommit s m.id.val k w (BitVec.allOnes 64) (crsOffset k) := by
  obtain ⟨⟨haccess, hhalf, hcheck⟩, -, -⟩ := hl
  obtain ⟨⟨x, hx, hkey, hwidth, -, hreach⟩, ⟨f, hf, hfam⟩, hbridge, -⟩ := ownPlace_iff hp
  unfold ownWrite
  rw [if_pos haccess, hf]
  dsimp only
  rw [hfam]
  refine (accessWrite_register rfl hbridge hcheck hx hreach w).trans ((regPut_64_whole hhalf hwidth _ _).trans ?_)
  have hw : BitVec.ofNat 64 (w.toNat % 2 ^ (8 * 8)) = w := by
    rw [Nat.mod_eq_of_lt w.isLt, BitVec.ofNat_toNat, BitVec.setWidth_eq]
  rw [hkey]
  exact congrArg (regCommit s m.id.val k · (BitVec.allOnes 64) (crsOffset k)) hw

theorem wholeMask_eq {width : Nat} (hp : ownPlace k width = true) : wholeMask k = if width = 32 then 0xFFFFFFFF#64 else BitVec.allOnes 64 := by
  obtain ⟨-, ⟨f, hf, hfam⟩, -⟩ := ownPlace_iff hp
  unfold wholeMask
  rw [hf, ← hfam]

/-- Of a write that lands nothing is recorded as an attempt. -/
theorem lands_unlocked (hl : Lands s m k w) : ¬ (mpuLocked s k && m.id.val != 0) = true := by
  obtain ⟨-, hlock, -⟩ := hl
  rcases hlock with h | h <;> simp [h]

/-- A write that lands in a register of a check-value unit. -/
theorem regCommit_cvu {n : Nat} {mask : Word} (off : Nat) (hl : Lands s m k w) (hmask : wholeMask k = mask) (hn : cvuOf k = some n) :
    regCommit s m.id.val k w mask off = cvWrite s n m.id.val k w (regPlain s m.id.val k w mask) := by
  have hfree := lands_unlocked hl
  obtain ⟨-, -, hspw⟩ := hl
  rw [hmask] at hspw
  rw [regCommit, if_neg hfree]
  simp only [hspw, Bool.false_eq_true, if_false, hn]

/-- A write that lands in a register of a check-value unit, of 32 bits. -/
theorem ownWrite_cvu {n : Nat} (hp : ownPlace k 32 = true) (hn : cvuOf k = some n) (hl : Lands s m k (low32 w)) :
    ownWrite s m k w = cvWrite s n m.id.val k (low32 w) (regPlain s m.id.val k (low32 w) 0xFFFFFFFF#64) :=
  (ownWrite_32 hp hl).trans (regCommit_cvu _ hl (wholeMask_eq hp) hn)

/-- What the owner writes into a unit in service is stored as the unit's registers do. -/
theorem cvWrite_owned {n : Nat} {v : Word} {plain : State} (ho : cvOwner s n m.id.val = true) (hf : isFenced s ⟨Uk.cvu, n⟩ = false) :
    cvWrite s n m.id.val k v plain = cvStore s n k v plain := by
  unfold cvWrite
  rw [if_neg (by simp [ho]), if_neg (by simp [hf])]

end Landing

/-! ### The registers of the check-value units -/

theorem ownPlace_cvu : ∀ n : Fin 8, ownPlace (Reg.CV_CTRL n) 32 = true ∧ ownPlace (Reg.CV_DATA8 n) 32 = true ∧ ownPlace (Reg.CV_DATA16 n) 32 = true ∧
    ownPlace (Reg.CV_DATA32 n) 32 = true ∧ ownPlace (Reg.CV_END n) 32 = true ∧ ownPlace (Reg.CV_STATE n) 64 = true := by
  decide +kernel

/-- The register of a check-value unit with this family number. -/
theorem cvuOf_register (n : Fin 8) {f : Nat} (hf : 206 ≤ f ∧ f ≤ 216) : cvuOf (f + 512 * n.val) = some n.val := by
  have hlt := n.isLt
  have hfam : (f + 512 * n.val) % 512 = f := by omega
  have hinst : (f + 512 * n.val) / 512 % 4096 = n.val := by omega
  unfold cvuOf
  rw [hfam, hinst]
  exact if_pos (by simp only [Reg.CV_CTRL, Reg.CV_STATUS, Reg.CV_ALIVE, Reg.CV_DATA8, Reg.CV_DATA16, Reg.CV_DATA32, Reg.CV_END, Reg.CV_EXPECT,
    Reg.CV_STATE, Reg.CV_RESULT, Reg.CV_MSG_CNT]; omega)

/-! What a write stores, register by register. -/

section Stores
variable (s : State) (n : Nat) (v : Word) (plain : State)

theorem cvStore_ctrl : cvStore s n (Reg.CV_CTRL n) v plain = if Fld.CV_CTRL_INIT.get v = 1 then cvInit plain n else plain := by
  simp [cvStore, Reg.CV_CTRL]

theorem cvStore_data8 : cvStore s n (Reg.CV_DATA8 n) v plain = cvFeed s n (natLe 1 v.toNat) := by
  simp [cvStore, Reg.CV_CTRL, Reg.CV_DATA8]

theorem cvStore_data16 : cvStore s n (Reg.CV_DATA16 n) v plain = cvFeed s n (natLe 2 v.toNat) := by
  simp [cvStore, Reg.CV_CTRL, Reg.CV_DATA8, Reg.CV_DATA16]

theorem cvStore_data32 : cvStore s n (Reg.CV_DATA32 n) v plain = cvFeed s n (natLe 4 v.toNat) := by
  simp [cvStore, Reg.CV_CTRL, Reg.CV_DATA8, Reg.CV_DATA16, Reg.CV_DATA32]

theorem cvStore_end : cvStore s n (Reg.CV_END n) v plain = cvEnd s n v := by
  simp [cvStore, Reg.CV_CTRL, Reg.CV_DATA8, Reg.CV_DATA16, Reg.CV_DATA32, Reg.CV_END]

theorem cvStore_state : cvStore s n (Reg.CV_STATE n) v plain = wr plain (Reg.CV_STATE n) (cvCut plain n (rd plain (Reg.CV_STATE n)).toNat) := by
  simp [cvStore, Reg.CV_CTRL, Reg.CV_DATA8, Reg.CV_DATA16, Reg.CV_DATA32, Reg.CV_END, Reg.CV_STATE]

end Stores

section Units
variable {s : State} {n : Nat}

theorem cvFeed_on (bs : List Byte) (hen : isSet s (Reg.CV_CTRL n) Fld.CV_CTRL_EN = true) :
    cvFeed s n bs = wr s (Reg.CV_STATE n) (BitVec.ofNat 64 (bs.foldl (cvByte (cvAlg s n)) (rd s (Reg.CV_STATE n)).toNat)) := if_pos hen

theorem cvFeed_off (bs : List Byte) (hen : isSet s (Reg.CV_CTRL n) Fld.CV_CTRL_EN = false) : cvFeed s n bs = s := if_neg (by simp [hen])

/-- INIT gives the running CRC the initial value of the algorithm. -/
theorem rd_cvInit_state : rd (cvInit s n) (Reg.CV_STATE n) = BitVec.ofNat 64 (cvInitial (cvAlg (cvInit s n) n)) := by
  have hne : Reg.CV_CTRL n ≠ Reg.CV_STATE n := by simp [Reg.CV_CTRL, Reg.CV_STATE]
  have halg : cvAlg (cvInit s n) n = cvAlg s n := by rw [cvAlg, cvInit, getF_wr_ne _ hne, cvAlg]
  rw [halg, cvInit, rd_wr_self]

/-- The end of a message that is neither compared nor counted. -/
theorem cvEnd_plain {v : Word} (hcheck : Fld.CV_END_CHECK.get v = 0) (halive : isSet s (Reg.CV_CTRL n) Fld.CV_CTRL_ALIVE_EN = false) :
    cvEnd s n v = bump (cvInit (setF (wr s (Reg.CV_RESULT n) (cvCut s n ((rd s (Reg.CV_STATE n)).toNat ^^^ cvFinal (cvAlg s n))))
      (Reg.CV_STATUS n) Fld.CV_STATUS_ALIVE_LAST (Fld.CV_END_ALIVE.get v)) n) (Reg.CV_MSG_CNT n) := by
  have hne : Reg.CV_CTRL n ≠ Reg.CV_RESULT n := by simp [Reg.CV_CTRL, Reg.CV_RESULT]
  have hstill : isSet (wr s (Reg.CV_RESULT n) (cvCut s n ((rd s (Reg.CV_STATE n)).toNat ^^^ cvFinal (cvAlg s n)))) (Reg.CV_CTRL n)
      Fld.CV_CTRL_ALIVE_EN = false := by rw [isSet, getF_wr_ne _ hne]; exact halive
  unfold cvEnd
  dsimp only
  generalize wr s (Reg.CV_RESULT n) (cvCut s n ((rd s (Reg.CV_STATE n)).toNat ^^^ cvFinal (cvAlg s n))) = t at hstill ⊢
  have hunasked : ¬ (decide (Fld.CV_END_CHECK.get v = 1) && isSet t (Reg.CV_CTRL n) Fld.CV_CTRL_CMP_EN) = true := by simp [hcheck]
  rw [if_neg hunasked]
  dsimp only
  rw [hstill]
  rfl

end Units

section Rows
variable {s : State} {m : Master} {w : Word} {n : Fin 8}

/-- A write that its owner makes of a 32-bit register of a unit in service. -/
theorem ownWrite_owned {k : Nat} (hp : ownPlace k 32 = true) (hn : cvuOf k = some n.val) (hl : Lands s m k (low32 w))
    (ho : cvOwner s n m.id.val = true) (hf : isFenced s ⟨Uk.cvu, n⟩ = false) :
    ownWrite s m k w = cvStore s n k (low32 w) (regPlain s m.id.val k (low32 w) 0xFFFFFFFF#64) :=
  (ownWrite_cvu hp hn hl).trans (cvWrite_owned ho hf)

theorem exec_cvData8 (ho : cvOwner s n m.id.val = true) (hf : isFenced s ⟨Uk.cvu, n⟩ = false) (hl : Lands s m (Reg.CV_DATA8 n) (low32 w)) :
    exec (.cvDataWrite n m 0 w) s = .next (after (cvFeed s n (natLe 1 (low32 w).toNat))) := by
  obtain ⟨-, hp, -⟩ := ownPlace_cvu n
  exact exec_effect rfl ((ownWrite_owned hp (cvuOf_register n (by decide)) hl ho hf).trans (cvStore_data8 ..))

theorem exec_cvData16 (ho : cvOwner s n m.id.val = true) (hf : isFenced s ⟨Uk.cvu, n⟩ = false) (hl : Lands s m (Reg.CV_DATA16 n) (low32 w)) :
    exec (.cvDataWrite n m 1 w) s = .next (after (cvFeed s n (natLe 2 (low32 w).toNat))) := by
  obtain ⟨-, -, hp, -⟩ := ownPlace_cvu n
  exact exec_effect rfl ((ownWrite_owned hp (cvuOf_register n (by decide)) hl ho hf).trans (cvStore_data16 ..))

theorem exec_cvData32 (ho : cvOwner s n m.id.val = true) (hf : isFenced s ⟨Uk.cvu, n⟩ = false) (hl : Lands s m (Reg.CV_DATA32 n) (low32 w)) :
    exec (.cvDataWrite n m 2 w) s = .next (after (cvFeed s n (natLe 4 (low32 w).toNat))) := by
  obtain ⟨-, -, -, hp, -⟩ := ownPlace_cvu n
  exact exec_effect rfl ((ownWrite_owned hp (cvuOf_register n (by decide)) hl ho hf).trans (cvStore_data32 ..))

/-- A field of the low half is read from it. -/
theorem get_low32 {f : Field} (x : Word) (h : f.lsb + f.width ≤ 32) : f.get (low32 x) = f.get x := by
  refine Nat.eq_of_testBit_eq fun i => ?_
  rw [Field.testBit_get, Field.testBit_get]
  by_cases hi : i < f.width
  · have hlow : f.lsb + i < 32 := by omega
    have hbit : (low32 x).getLsbD (f.lsb + i) = x.getLsbD (f.lsb + i) := by
      rw [low32, BitVec.getLsbD_ofNat, Nat.testBit_mod_two_pow, BitVec.getLsbD]
      simp [hlow, Nat.lt_trans hlow (by decide : 32 < 64)]
    rw [hbit]
  · simp [hi]

/-- The INIT that the write carries stands in its low half. -/
theorem init_low32 (x : Word) : Fld.CV_CTRL_INIT.get (low32 (Fld.CV_CTRL_INIT.set x 1)) = 1 := by
  rw [get_low32 _ (by decide), Field.get_set_self _ _ (by decide)]
  rfl

theorem exec_cvInit (ho : cvOwner s n m.id.val = true) (hf : isFenced s ⟨Uk.cvu, n⟩ = false)
    (hl : Lands s m (Reg.CV_CTRL n) (low32 (Fld.CV_CTRL_INIT.set (rd s (Reg.CV_CTRL n)) 1))) :
    ∃ plain : State, exec (.cvInit n m) s = .next (after (cvInit plain n)) := by
  obtain ⟨hp, -⟩ := ownPlace_cvu n
  exact ⟨_, exec_effect rfl ((ownWrite_owned hp (cvuOf_register n (by decide)) hl ho hf).trans
    ((cvStore_ctrl ..).trans (if_pos (init_low32 _))))⟩

theorem exec_cvEnd (ho : cvOwner s n m.id.val = true) (hf : isFenced s ⟨Uk.cvu, n⟩ = false) (hl : Lands s m (Reg.CV_END n) (low32 w)) :
    exec (.cvEndWrite n m w) s = .next (after (cvEnd s n (low32 w))) := by
  obtain ⟨-, -, -, -, hp, -⟩ := ownPlace_cvu n
  exact exec_effect rfl ((ownWrite_owned hp (cvuOf_register n (by decide)) hl ho hf).trans (cvStore_end ..))

/-- A master that is not the owner ends no message. -/
theorem exec_cvEnd_foreign (ho : cvOwner s n m.id.val = false) (hl : Lands s m (Reg.CV_END n) (low32 w)) :
    exec (.cvEndWrite n m w) s = .next (after (setF s (Reg.CV_STATUS n) Fld.CV_STATUS_FOREIGN 1)) := by
  obtain ⟨-, -, -, -, hp, -⟩ := ownPlace_cvu n
  exact exec_effect rfl ((ownWrite_cvu hp (cvuOf_register n (by decide)) hl).trans (if_pos (by simp [ho])))

theorem exec_cvState (ho : cvOwner s n m.id.val = true) (hf : isFenced s ⟨Uk.cvu, n⟩ = false) (hl : Lands s m (Reg.CV_STATE n) w) :
    exec (.cvStateWrite n m w) s = .next (after (let p := regPlain s m.id.val (Reg.CV_STATE n) w (BitVec.allOnes 64)
      wr p (Reg.CV_STATE n) (cvCut p n (rd p (Reg.CV_STATE n)).toNat))) := by
  obtain ⟨-, -, -, -, -, hp⟩ := ownPlace_cvu n
  exact exec_effect rfl ((ownWrite_64 hp hl).trans ((regCommit_cvu _ hl (wholeMask_eq hp) (cvuOf_register n (by decide))).trans
    ((cvWrite_owned ho hf).trans (cvStore_state ..))))

end Rows

/-! ### The MPUs -/

theorem ownPlace_mpu : ∀ u : Fin 23, ownPlace (Reg.MPU_COMMIT u) 32 = true ∧ ownPlace (Reg.MPU_DRAIN u) 32 = true := by decide +kernel

section Mpu
variable {s : State} {m : Master} {u : Fin 23}

/-- MPU_COMMIT is none of the registers with another rule. -/
theorem mpuCommit_noOther (m : Nat) (w mask : Word) :
    cvuOf (Reg.MPU_COMMIT u) = none ∧ accWrite s m (Reg.MPU_COMMIT u) w = none ∧ ringWrite s m (Reg.MPU_COMMIT u) w mask = none ∧
    barRegWrite s (Reg.MPU_COMMIT u) w mask = none := by
  refine ⟨?_, ?_, ?_, ?_⟩
  · simp [cvuOf, Reg.MPU_COMMIT, Reg.CV_CTRL, Reg.CV_STATUS, Reg.CV_ALIVE, Reg.CV_DATA8, Reg.CV_DATA16, Reg.CV_DATA32, Reg.CV_END, Reg.CV_EXPECT,
      Reg.CV_STATE, Reg.CV_RESULT, Reg.CV_MSG_CNT]
  · simp [accWrite, famNo, Reg.MPU_COMMIT, Reg.TILE_COEF_ACC]
  · simp [ringWrite, famNo, Reg.MPU_COMMIT, Reg.PFL_PTR]
  · simp [barRegWrite, famNo, Reg.MPU_COMMIT, Reg.ICP_RING_CFG, Reg.ICP_SQ_TAIL, Reg.ICP_CQ_HEAD, Reg.ICP_SQ_BASE, Reg.ICP_CQ_BASE, Reg.INST_TAIL,
      Reg.INST_MB_CTRL, Reg.INST_CTRL]

theorem unitWrite_mpuCommit (m : Nat) (w mask : Word) : unitWrite s m (Reg.MPU_COMMIT u) w mask = some (mpuCommit s u) := by
  have hinst : (286 + 512 * u.val) / 512 % 4096 = u.val := by have hlt := u.isLt; omega
  simp [unitWrite, famNo, inst1, hinst, Reg.MPU_COMMIT, Reg.CZ_CTRL, Reg.CZ_TIMER, Reg.CZ_STORED, Reg.PORT_CFG, Reg.PORT_CTRL, Reg.PC_CTRL]

theorem regCommit_mpuCommit {w mask : Word} (off : Nat) (hl : Lands s m (Reg.MPU_COMMIT u) w) (hmask : wholeMask (Reg.MPU_COMMIT u) = mask) :
    regCommit s m.id.val (Reg.MPU_COMMIT u) w mask off = mpuCommit s u := by
  have hfree := lands_unlocked hl
  obtain ⟨-, -, hspw⟩ := hl
  obtain ⟨hcvu, hacc, hring, hbar⟩ := mpuCommit_noOther (s := s) (u := u) m.id.val w mask
  rw [hmask] at hspw
  rw [regCommit, if_neg hfree]
  simp only [hspw, Bool.false_eq_true, if_false, hcvu, hacc, hring, hbar, unitWrite_mpuCommit]

theorem exec_mpuCommit (hl : Lands s m (Reg.MPU_COMMIT u) 1) : exec (.mpuCommitWrite u m) s = .next (after (mpuCommit s u)) := by
  obtain ⟨hp, -⟩ := ownPlace_mpu u
  have hone : low32 1 = 1 := by decide
  exact exec_effect rfl ((ownWrite_32 hp (hone.symm ▸ hl)).trans (regCommit_mpuCommit _ (hone.symm ▸ hl) (wholeMask_eq hp)))

theorem gen_mpuCommit (s : State) (n : Nat) : getF (mpuCommit s n) (Reg.MPU_STATUS n) Fld.MPU_STATUS_GEN =
    (getF s (Reg.MPU_STATUS n) Fld.MPU_STATUS_GEN + 1) % 65536 := by
  unfold mpuCommit
  exact (getF_setF_self _ _ _ (by decide)).trans (Nat.mod_mod _ _)

/-- A read of MPU_DRAIN answers the register as it shows itself. -/
theorem exec_mpuDrain (hr : Reaches s m (Reg.MPU_DRAIN u) .read) :
    exec (.mpuDrainRead u m) s = .next (after (emit (clearOnRead s (Reg.MPU_DRAIN u)) (.readData m (low32 (regView s (Reg.MPU_DRAIN u))) false))) := by
  obtain ⟨haccess, hhalf, hcheck⟩ := hr
  obtain ⟨-, hp⟩ := ownPlace_mpu u
  obtain ⟨⟨x, hx, hkey, hwidth, -, hreach⟩, -, hbridge, hexport⟩ := ownPlace_iff hp
  refine exec_effect rfl ((if_pos haccess).trans ((accessRead_register rfl hbridge (hexport s 4) hcheck hx hreach).trans ?_))
  dsimp only
  rw [regGet_32 hhalf hwidth, hkey]
  rfl

end Mpu

/-! ### Faults and FAULT_N -/

/-- R354, R362, R369 to R373, R455. -/
theorem safetyRegisters : Clauses.SafetyRegisters := by
  intro s m w
  refine ⟨fun hsp => ⟨?raised, ?window⟩, ?release, ?cvu, ?foreign, ?commit, ?drain⟩
  case raised => exact fun f => exec_sp (fun s => { s with fcu := { s.fcu with due := s.fcu.due ++ [f] } }) rfl hsp rfl
  case window =>
    exact fun u group => exec_sp (fun s => { s with fcu := { s.fcu with
      windows := s.fcu.windows.filter (fun x => !(x.unit == u && x.group == group)) } }) rfl hsp rfl
  case release => exact fun hlow hfree hlong => exec_effect rfl (if_pos (by simp [hlow, hfree, hlong]))
  case cvu =>
    intro n state ho hf
    refine ⟨fun hl hen => ?_, fun hl hen => ?_, fun r hl hen => ?_, fun hl => ?_, fun hl hcheck halive => ?_, fun hl => exec_cvState ho hf hl⟩
    · rw [exec_cvData8 ho hf hl, cvFeed_on _ hen]
      rfl
    · rw [exec_cvData32 ho hf hl, cvFeed_on _ hen]
    · match r with
      | 0 => rw [exec_cvData8 ho hf hl, cvFeed_off _ hen]
      | 1 => rw [exec_cvData16 ho hf hl, cvFeed_off _ hen]
      | 2 => rw [exec_cvData32 ho hf hl, cvFeed_off _ hen]
    · obtain ⟨plain, hplain⟩ := exec_cvInit ho hf hl
      exact ⟨_, hplain, rd_cvInit_state⟩
    · rw [exec_cvEnd ho hf hl, cvEnd_plain hcheck halive]
  case foreign => exact fun n ho hl => exec_cvEnd_foreign ho hl
  case commit => exact fun u hl => ⟨_, exec_mpuCommit hl, gen_mpuCommit s u, rfl, rfl⟩
  case drain => exact fun u hr => exec_mpuDrain hr

/-- Settles O46: its two clauses. -/
theorem safetyAndBackground : Obligations.SafetyAndBackground := ⟨safetyRegisters, backgroundCommands⟩

end Sys2Proof.Machine
end

section
/-!
Meters and pacing (O18).
-/
namespace Sys2Proof.Machine

/-! ### The colours of a meter (R79) -/

section Meter
variable {m : Meter} {now payload : Nat}

theorem Meter.take_red (h : (m.refilled now).tp < (payload + 32) * 16000) :
    m.take now payload = (2, { m.refilled now with red := m.red + (payload + 32) }) := if_pos h

theorem Meter.take_yellow (hp : ¬(m.refilled now).tp < (payload + 32) * 16000) (hc : (m.refilled now).tc < (payload + 32) * 16000) :
    m.take now payload = (1, { m.refilled now with
      tp := (m.refilled now).tp - (payload + 32) * 16000, yellow := m.yellow + (payload + 32) }) := (if_neg hp).trans (if_pos hc)

theorem Meter.take_green (hp : ¬(m.refilled now).tp < (payload + 32) * 16000) (hc : ¬(m.refilled now).tc < (payload + 32) * 16000) :
    m.take now payload = (0, { m.refilled now with
      tp := (m.refilled now).tp - (payload + 32) * 16000, tc := (m.refilled now).tc - (payload + 32) * 16000,
      green := m.green + (payload + 32) }) := (if_neg hp).trans (if_neg hc)

theorem Meter.refilled_tc_le (m : Meter) (now : Nat) : (m.refilled now).tc ≤ m.cbs * 16000 := Nat.min_le_left _ _

theorem Meter.refilled_tp_le (m : Meter) (now : Nat) : (m.refilled now).tp ≤ m.pbs * 16000 := Nat.min_le_left _ _

end Meter

/-- R79: the two comparisons of `Meter.take` leave three colours, and a bucket only loses what the TLP costs. -/
theorem meterColours : Clauses.MeterColours := by
  intro m m' now payload c h b tc tp
  have htc : tc ≤ m.cbs * 16000 := m.refilled_tc_le now
  have htp : tp ≤ m.pbs * 16000 := m.refilled_tp_le now
  by_cases hp : tp < b
  · obtain ⟨rfl, rfl⟩ := Prod.mk.inj ((Meter.take_red hp).symm.trans h)
    exact ⟨by omega, by omega, by omega, htc, htp, rfl, nofun, fun _ => ⟨rfl, rfl⟩⟩
  · by_cases hc : tc < b
    · obtain ⟨rfl, rfl⟩ := Prod.mk.inj ((Meter.take_yellow hp hc).symm.trans h)
      exact ⟨by omega, by omega, by omega, htc, Nat.le_trans (Nat.sub_le tp b) htp, rfl, nofun, nofun⟩
    · obtain ⟨rfl, rfl⟩ := Prod.mk.inj ((Meter.take_green hp hc).symm.trans h)
      exact ⟨by omega, by omega, by omega, Nat.le_trans (Nat.sub_le tc b) htc, Nat.le_trans (Nat.sub_le tp b) htp, rfl, fun _ => ⟨rfl, rfl⟩, nofun⟩

/-! ### Pacing tokens (R85) -/

/-- Tokens that do not exceed the burst are capped at it. -/
theorem capped_eq_min {cap old new : Int} (h : old ≤ cap) : (if cap < new then max cap old else new) = min cap new := by
  split <;> omega

theorem pacingTokensBounded : Clauses.PacingTokensBounded := by
  intro s f cap hcap hat
  have hgain : 0 ≤ (f.rate : Int) * (s.time - f.tokensAt) := Int.mul_nonneg (Int.natCast_nonneg _) (by omega)
  have htokens : (refill s f).tokens = min cap (f.tokens + f.rate * (s.time - f.tokensAt)) := capped_eq_min hcap
  exact ⟨htokens, by rw [htokens]; exact le_min hcap (by omega), rfl⟩

/-- Settles O18: a meter's three colours are the three outcomes of its two comparisons (`Meter.take_red`, `Meter.take_yellow`,
`Meter.take_green`), and a context's tokens grow by a gain that is not negative, capped at the burst (`capped_eq_min`). -/
theorem metersAndPacing : Obligations.MetersAndPacing := ⟨meterColours, pacingTokensBounded⟩

end Sys2Proof.Machine
end

section
/-!
Timers of flow-rate contexts, transaction contexts, tags, fences and Fabric Error Reports (O19).
-/
namespace Sys2Proof.Machine

/-! ### Flow-rate contexts (R84–R88) -/

section Frc
variable {s : State} {i : Nat} {f : Frc} (hf : aget s.cong.frcs i = some f)
include hf

theorem frc_of_aget : frc s i = some f := hf

/-- A period without a mark raises RATE by AI, and counts the increase. -/
theorem incPeriod_early (hm : f.periodMarked = false) (hd : f.decreased = true) (hk : f.k < 4) :
    incPeriod s i = setFrc s i { refill s f with
      periodMarked := false, rate := min f.rmax (f.rate + profB s f.vc f.lastc Fld.RED_PROF_B_AI), k := f.k + 1 } := by
  unfold incPeriod
  rw [frc_of_aget hf]
  exact (if_neg (by simp [refill, hm, hd])).trans (if_pos hk)

/-- After the fourth increase a period without a mark raises RATE by 4 × AI. -/
theorem incPeriod_late (hm : f.periodMarked = false) (hd : f.decreased = true) (hk : 4 ≤ f.k) :
    incPeriod s i = setFrc s i { refill s f with
      periodMarked := false, rate := min f.rmax (f.rate + 4 * profB s f.vc f.lastc Fld.RED_PROF_B_AI) } := by
  unfold incPeriod
  rw [frc_of_aget hf]
  exact (if_neg (by simp [refill, hm, hd])).trans (if_neg (Nat.not_lt.mpr hk))

theorem incPeriod_marked (hm : f.periodMarked = true) : incPeriod s i = setFrc s i { refill s f with periodMarked := false } := by
  unfold incPeriod
  rw [frc_of_aget hf]
  exact if_pos (by simp [refill, hm])

theorem sprayClear_counting {path : Nat} (hp : agetD f.spray path 0 ≠ 0) :
    sprayClear s i path =
      bump (setFrc s i { f with spray := adel f.spray path, sprayAt := aput f.sprayAt path s.time }) Reg.CC_FENCE_TO_CNT := by
  unfold sprayClear
  rw [frc_of_aget hf]
  exact if_neg hp

theorem frcRetire_idle (hs : f.settled = true) (hq : f.queue = []) :
    frcRetire s i = { s with cong := { s.cong with frcs := adel s.cong.frcs i } } := by
  unfold frcRetire
  rw [frc_of_aget hf]
  exact if_pos (by simp [hs, hq])

/-- The whole head of a pacing queue for this node, whose port is up, passes to its VOQ and pays its tokens (R85). -/
theorem pacingRelease_here {h : Held} {q : List Held} {x : FabHdr} (hq : f.queue = h :: q) (hwhole : h.rest = false) (hx : h.fab = some x)
    (hd : x.destNode = nodeId s) (hp : portFault s h.outPort = none) (ht : 0 ≤ (refill s f).tokens) (hr : f.rate < f.rmax) :
    pacingRelease s i = toVoq (setFrc s i { refill s f with
      queue := q, tokens := (refill s f).tokens - (h.tlp.payload + 32) * 1600, lastTlp := s.time }) h := by
  have hgo : ¬(h.rest = true ∨ ((refill s f).tokens < 0 ∧ (refill s f).rate < (refill s f).rmax)) := by
    simp [hwhole, Int.not_lt.mpr ht]
  have hpaid : (refill s f).rate < (refill s f).rmax := hr
  have hhere (g : Frc) : fabHere (setFrc s i g) x.destNode = true := by
    have hnode : x.destNode = nodeId (setFrc s i g) := hd
    simp [fabHere, hnode]
  have hfault (g : Frc) : portFault (setFrc s i g) h.outPort = none := hp
  unfold pacingRelease
  rw [frc_of_aget hf]
  dsimp only
  rw [hq]
  dsimp only
  rw [if_neg hgo, hx]
  simp only [hhere, hfault, if_true, if_pos hpaid]

end Frc

/-- Of one feedback frame that waits, that frame leaves (R88). -/
theorem feedbackHold_single {s : State} {e : FbEntry} (h : s.cong.feedback = [e]) : feedbackHold s = fbSend s e.node := by
  simp only [feedbackHold, h, List.foldl_nil]

/-- R84 to R88. -/
theorem flowRateTimers : Clauses.FlowRateTimers := by
  intro s i f hup hf put g ai
  refine ⟨?early, ?late, ?marked, ?spray, ?retire, ?feedback, ?release⟩
  case early => exact fun hm hd hk => exec_up (fun s => incPeriod s i) rfl hup (incPeriod_early hf hm hd hk)
  case late => exact fun hm hd hk => exec_up (fun s => incPeriod s i) rfl hup (incPeriod_late hf hm hd hk)
  case marked => exact fun hm => exec_up (fun s => incPeriod s i) rfl hup (incPeriod_marked hf hm)
  case spray => exact fun path hp => exec_up (fun s => sprayClear s i path) rfl hup (sprayClear_counting hf hp)
  case retire => exact fun hs hq => exec_up (fun s => frcRetire s i) rfl hup (frcRetire_idle hf hs hq)
  case feedback => exact fun e he => exec_up feedbackHold rfl hup (feedbackHold_single he)
  case release =>
    exact fun h q x hq hwhole hx hd hp ht hr => exec_up (fun s => pacingRelease s i) rfl hup (pacingRelease_here hf hq hwhole hx hd hp ht hr)

/-! ### Contexts, tags and move fences (R144, R149, R150) -/

theorem moveEnd_moves (s : State) (d : Nat) : (moveEnd s d).cong.moves = adel s.cong.moves d := rfl

section Sweep
variable {s : State} {i : Nat} {c : CtxEnt} (hc : aget s.fab.ctxs i = some c)
include hc

theorem sweep_of_ctx : sweep s i =
    if c.deadline < timeUs s then
      if c.source then ctxKill (bump s Reg.CTO_CNT) i false else ctxFree (unqueueCtx s i) i false
    else s := by
  have hctx : ctx s i = some c := hc
  unfold sweep
  rw [hctx]

theorem sweep_source (hd : c.deadline < timeUs s) (hs : c.source = true) : sweep s i = ctxKill (bump s Reg.CTO_CNT) i false := by
  rw [sweep_of_ctx hc, if_pos hd, if_pos hs]

theorem sweep_destination (hd : c.deadline < timeUs s) (hs : c.source = false) : sweep s i = ctxFree (unqueueCtx s i) i false := by
  rw [sweep_of_ctx hc, if_pos hd, if_neg (by simp [hs])]

theorem sweep_inTime (hd : timeUs s ≤ c.deadline) : sweep s i = s := by
  rw [sweep_of_ctx hc, if_neg (Nat.not_lt.mpr hd)]

end Sweep

/-- R144, R149, R150. -/
theorem contextTimers : Clauses.ContextTimers := by
  intro s hup
  refine ⟨?fence, ?late, ?inTime, ?tag⟩
  case fence =>
    intro node
    refine ⟨exec_up (fun s => moveEnd s node.val) rfl hup rfl, ?_, fun d hd => ?_⟩
    · rw [moveEnd_moves, aget_adel_self]
    · rw [moveEnd_moves, aget_adel_ne hd]
  case late =>
    exact fun i c hc hd => ⟨fun hs => exec_up (fun s => sweep s i) rfl hup (sweep_source hc hd hs),
      fun hs => exec_up (fun s => sweep s i) rfl hup (sweep_destination hc hd hs)⟩
  case inTime => exact fun i c hc hd => exec_up (fun s => sweep s i) rfl hup (sweep_inTime hc hd)
  case tag => exact fun p tag => exec_up (fun s => quarantineEnd s p.val tag) rfl hup rfl

/-! ### Fabric Error Reports (R155, R156) -/

/-- While a frame towards a node is unacknowledged no other leaves for it. -/
theorem ferSend_waits {s : State} {node : Nat} (h : ∃ x ∈ s.fab.ferSent, x.node = node) : ferSend s node = s := by
  obtain ⟨x, hx, hn⟩ := h
  have hany : s.fab.ferSent.any (fun x => x.node == node) = true := List.any_eq_true.mpr ⟨x, hx, beq_iff_eq.mpr hn⟩
  unfold ferSend
  exact if_pos (by simp [hany])

section Retry
variable {s : State} {node : Nat} {x : FerSent} (hx : s.fab.ferSent = [x]) (hn : x.node = node)
include hx hn

theorem ferRetry_again (hr : x.resends < 3) :
    ferRetry s node = ferEmit { s with fab := { s.fab with ferSent := [{ x with resends := x.resends + 1 }] } } node x.seq x.entries := by
  unfold ferRetry
  simp [hx, hn, hr]

/-- The fourth time the frame is lost, counted and a fault, and the next one leaves if it is due. -/
theorem ferRetry_lost (hr : 3 ≤ x.resends) :
    ferRetry s node =
      let t := detect (bump { s with fab := { s.fab with ferSent := [] } } Reg.FER_LOST_CNT) 0x0213 .contained Uk.fabric 0 node
      if ferDue t node then ferSend t node else t := by
  have hgone : s.fab.ferSent.filter (fun y => y.node != node) = [] := by simp [hx, hn]
  have hfound : s.fab.ferSent.find? (fun y => y.node == node) = some x := by simp [hx, hn]
  unfold ferRetry
  rw [hfound]
  refine (if_neg (Nat.not_lt.mpr hr)).trans ?_
  have hsent : ({ detect (bump s Reg.FER_LOST_CNT) 0x0213 .contained Uk.fabric 0 node with
      fab := { s.fab with ferSent := s.fab.ferSent.filter (fun y => y.node != node) } } : State) =
      detect (bump { s with fab := { s.fab with ferSent := [] } } Reg.FER_LOST_CNT) 0x0213 .contained Uk.fabric 0 node := by
    rw [hgone]
    rfl
  exact congrArg (fun t => if ferDue t node then ferSend t node else t) hsent

end Retry

/-- R155, R156. -/
theorem ferTimers : Clauses.FerTimers := by
  intro s node hup
  refine ⟨?waits, ?sends, ?retry⟩
  case waits => exact fun _ h => exec_up (fun s => ferSend s node.val) rfl hup (ferSend_waits h)
  case sends => exact fun _ => exec_up (fun s => ferSend s node.val) rfl hup rfl
  case retry =>
    exact fun x hx hn => ⟨fun hr => exec_up (fun s => ferRetry s node.val) rfl hup (ferRetry_again hx hn hr),
      fun hr => exec_up (fun s => ferRetry s node.val) rfl hup (ferRetry_lost hx hn hr)⟩

/-- Settles O19: each timer runs its operation in a part that is up, on the context, frame or tag that it names (`incPeriod_early`, `sweep_of_ctx`,
`ferRetry_lost` and the others). -/
theorem fabricTimers : Obligations.FabricTimers := ⟨flowRateTimers, contextTimers, ferTimers⟩

end Sys2Proof.Machine
end

section
/-!
Writes that land in a register: the place of the register, and the rule that takes the write (O43, O44).
-/
namespace Sys2Proof.Machine
open Sys2Proof

/-! ### The key of a register -/

theorem famNo_register {f : Nat} (n : Nat) (hf : f < 512) : famNo (f + 512 * n) = f := by
  unfold famNo
  omega

theorem inst1_register {f n : Nat} (hf : f < 512) (hn : n < 4096) : inst1 (f + 512 * n) = n := by
  unfold inst1
  omega

theorem famOf_register {f : Nat} (n : Nat) (hf : f < 512) : famOf (f + 512 * n) = famTable[f]? := congrArg (famTable[·]?) (famNo_register n hf)

theorem toNat_low32 (w : Word) : (low32 w).toNat = w.toNat % 2 ^ 32 :=
  (BitVec.toNat_ofNat _ _).trans (Nat.mod_eq_of_lt (Nat.lt_trans (Nat.mod_lt _ (by decide)) (by decide)))

/-! ### The field of a written value -/

/-- What a field of the low half was set to is what the register is written with. -/
theorem get_low32_set {f : Field} (w : Word) {v : Nat} (h : f.lsb + f.width ≤ 32) (hv : v < 2 ^ f.width) : f.get (low32 (f.set w v)) = v := by
  rw [get_low32 _ h, Field.get_set_self _ _ (Nat.le_trans h (by decide)), Nat.mod_eq_of_lt hv]

/-- A field of one bit is that bit. -/
theorem Field.get_bit {f : Field} (h : f.width = 1) (w : Word) : f.get w = b2n (w.getLsbD f.lsb) := by
  have hlt : f.get w < 2 ^ f.width := Nat.mod_lt _ (Nat.two_pow_pos _)
  have hbit : (f.get w).testBit 0 = w.getLsbD f.lsb := by
    rw [Field.testBit_get, h]
    rfl
  rw [h] at hlt
  rw [← hbit]
  generalize f.get w = x at hlt ⊢
  interval_cases x <;> rfl

/-! ### Which rule takes a write

`regCommit` asks the rules one after another: those of the check-value units, of the table access registers, of rings and logs, of the BARs, of the
units. A register is taken by one of them by its family. -/

/-- The families that `cvuOf` knows. -/
def cvuFamilies : List Nat :=
  [Reg.CV_CTRL 0, Reg.CV_STATUS 0, Reg.CV_ALIVE 0, Reg.CV_DATA8 0, Reg.CV_DATA16 0, Reg.CV_DATA32 0, Reg.CV_END 0, Reg.CV_EXPECT 0, Reg.CV_STATE 0,
   Reg.CV_RESULT 0, Reg.CV_MSG_CNT 0]

/-- The families that `accWrite` takes. -/
def accFamilies : List Nat :=
  [Reg.FAM_ACC, Reg.BIND_ACC, Reg.ROUTE_ACC, Reg.TBL_ACC, Reg.CTX_ACC, Reg.TWIN_SHADOW_ACC, Reg.TILE_COEF_ACC 0]

/-- The families that `ringWrite` takes. -/
def ringFamilies : List Nat :=
  [Reg.COMET_CTRL, Reg.SMP_CTRL, Reg.COMET_RING_BASE, Reg.COMET_RING_SIZE, Reg.SMP_RING_BASE, Reg.SMP_RING_SIZE, Reg.COMET_RD_PTR, Reg.SMP_RING_RD,
   Reg.PFL_PTR 0, Reg.SB_ERR_PTR]

/-- The families that `barRegWrite` takes. -/
def barFamilies : List Nat :=
  [Reg.ICP_RING_CFG 0, Reg.ICP_SQ_TAIL 0, Reg.ICP_CQ_HEAD 0, Reg.ICP_SQ_BASE 0, Reg.ICP_CQ_BASE 0, Reg.INST_TAIL 0, Reg.INST_MB_CTRL 0, Reg.INST_CTRL 0]

/-- The families that `unitWrite` takes. -/
def unitFamilies : List Nat :=
  [Reg.CZ_CTRL 0, Reg.CZ_TIMER 0, Reg.CZ_STORED 0, Reg.PORT_CFG 0, Reg.PORT_CTRL 0, Reg.MV_CTRL, Reg.PC_CTRL 0, Reg.MPU_COMMIT 0, Reg.SB_POLL 0]

section Rules
variable {s : State} {m k : Nat} {w mask : Word}

theorem cvuOf_none (h : famNo k ∉ cvuFamilies) : cvuOf k = none := by
  simp only [cvuFamilies, List.mem_cons, List.not_mem_nil, or_false] at h
  exact if_neg h

theorem accWrite_none (h : famNo k ∉ accFamilies) : accWrite s m k w = none := by
  simp only [accFamilies, List.mem_cons, List.not_mem_nil, or_false, not_or] at h
  simp only [accWrite, h, if_false]

theorem ringWrite_none (h : famNo k ∉ ringFamilies) : ringWrite s m k w mask = none := by
  simp only [ringFamilies, List.mem_cons, List.not_mem_nil, or_false, not_or] at h
  simp only [ringWrite, h, or_false, if_false]

theorem barRegWrite_none (h : famNo k ∉ barFamilies) : barRegWrite s k w mask = none := by
  simp only [barFamilies, List.mem_cons, List.not_mem_nil, or_false, not_or] at h
  simp only [barRegWrite, h, or_false, if_false]

theorem unitWrite_none (h : famNo k ∉ unitFamilies) : unitWrite s m k w mask = none := by
  simp only [unitFamilies, List.mem_cons, List.not_mem_nil, or_false, not_or] at h
  simp only [unitWrite, h, if_false]

end Rules

/-- Nothing of a write is recorded as an attempt on what only the SP may change (R349, R456). -/
def Unattempted (s : State) (m k : Nat) (w mask : Word) : Prop := (mpuLocked s k = false ∨ m = 0) ∧ spwAttempt s m k w mask = false

theorem Lands.unattempted {s : State} {m : Master} {k : Nat} {w : Word} (h : Lands s m k w) : Unattempted s m.id.val k w (wholeMask k) := h.2

section Taken
variable {s t : State} {m k : Nat} {w mask : Word} {off : Nat} (hu : Unattempted s m k w mask)
include hu

theorem regCommit_acc (hfirst : famNo k ∉ cvuFamilies) (ht : accWrite s m k w = some t) : regCommit s m k w mask off = t := by
  obtain ⟨hlock, hspw⟩ := hu
  have hfree : ¬(mpuLocked s k && m != 0) = true := by rcases hlock with h | h <;> simp [h]
  rw [regCommit, if_neg hfree]
  simp only [hspw, Bool.false_eq_true, if_false, cvuOf_none hfirst, ht]

theorem regCommit_ring (hfirst : famNo k ∉ cvuFamilies ++ accFamilies) (ht : ringWrite s m k w mask = some t) : regCommit s m k w mask off = t := by
  obtain ⟨hlock, hspw⟩ := hu
  simp only [List.mem_append, not_or] at hfirst
  obtain ⟨hcvu, hacc⟩ := hfirst
  have hfree : ¬(mpuLocked s k && m != 0) = true := by rcases hlock with h | h <;> simp [h]
  rw [regCommit, if_neg hfree]
  simp only [hspw, Bool.false_eq_true, if_false, cvuOf_none hcvu, accWrite_none hacc, ht]

theorem regCommit_unit (hfirst : famNo k ∉ cvuFamilies ++ accFamilies ++ ringFamilies ++ barFamilies) (ht : unitWrite s m k w mask = some t) :
    regCommit s m k w mask off = t := by
  obtain ⟨hlock, hspw⟩ := hu
  simp only [List.mem_append, not_or] at hfirst
  obtain ⟨⟨⟨hcvu, hacc⟩, hring⟩, hbar⟩ := hfirst
  have hfree : ¬(mpuLocked s k && m != 0) = true := by rcases hlock with h | h <;> simp [h]
  rw [regCommit, if_neg hfree]
  simp only [hspw, Bool.false_eq_true, if_false, cvuOf_none hcvu, accWrite_none hacc, ringWrite_none hring, barRegWrite_none hbar, ht]

/-- A register that no rule takes stores its fields. -/
theorem regCommit_fields (hnone : famNo k ∉ cvuFamilies ++ accFamilies ++ ringFamilies ++ barFamilies ++ unitFamilies) :
    regCommit s m k w mask off = regPlain s m k w mask := by
  obtain ⟨hlock, hspw⟩ := hu
  simp only [List.mem_append, not_or] at hnone
  obtain ⟨⟨⟨⟨hcvu, hacc⟩, hring⟩, hbar⟩, hunit⟩ := hnone
  exact regCommit_plain (by simp [hspw]) (cvuOf_none hcvu) (accWrite_none hacc) (ringWrite_none hring) (barRegWrite_none hbar)
    (unitWrite_none hunit) hlock

end Taken

/-! ### Writes of the registers of the sideband bridge and of the counter banks -/

/-- A write that is not locked and not to the transfer window reaches the register found there, the bridge's own registers too. -/
theorem accessWrite_unlocked {s : State} {a : Access} {h : RegHit} (hs : a.space = .crs) (hl : a.locked = false) (hw : inWindow a.offset = false)
    (hc : crsCheck s a.by_ a.offset .write = (0, s)) (ha : crsAt a.offset = some h) (hr : reaches h a.offset a.bytes = true) (w : Word) :
    accessWrite s a w = regPut s a.by_.id.val h a.bytes (w.toNat % 2 ^ (8 * a.bytes)) a.offset := by
  rw [accessWrite_crs hs]
  simp [crsPut, hc, ha, hr, hl, hw]

/-- The offset leads to this register, of this width, outside the transfer window. -/
def leadsTo (off k width : Nat) : Bool :=
  (crsAt off).any (fun h => h.key == k && h.fam.width == width && reaches h off (width / 8)) && (famOf k).any (fun f => f.width == width) && !inWindow off

theorem leadsTo_iff {off k width : Nat} (h : leadsTo off k width = true) :
    (∃ x, crsAt off = some x ∧ x.key = k ∧ x.fam.width = width ∧ reaches x off (width / 8) = true) ∧
    (∃ f, famOf k = some f ∧ f.width = width) ∧ inWindow off = false := by
  simp only [leadsTo, Bool.and_eq_true, Option.any_eq_true, beq_iff_eq, Bool.not_eq_true'] at h
  obtain ⟨⟨⟨x, hx, ⟨hkey, hwidth⟩, hreach⟩, f, hf, hfam⟩, hwindow⟩ := h
  exact ⟨⟨x, hx, hkey, hwidth, hreach⟩, ⟨f, hf, hfam⟩, hwindow⟩

section Written
variable {s : State} {m : Master} {off k : Nat} {w : Word}

theorem accessWrite_leads_32 (hp : leadsTo off k 32 = true) (hn : s.half = []) (hc : crsCheck s m off .write = (0, s)) :
    accessWrite s ⟨m, .crs, off, 4, false⟩ w = regCommit s m.id.val k (low32 w) 0xFFFFFFFF#64 off := by
  obtain ⟨⟨x, hx, hkey, hwidth, hreach⟩, -, hwindow⟩ := leadsTo_iff hp
  refine (accessWrite_unlocked rfl rfl hwindow hc hx hreach w).trans ((regPut_32 hn hwidth _ _ _).trans ?_)
  rw [hkey]
  exact congrArg (regCommit s m.id.val k · 0xFFFFFFFF#64 off) (low32_written w)

theorem accessWrite_leads_64 (hp : leadsTo off k 64 = true) (hn : s.half = []) (hc : crsCheck s m off .write = (0, s)) :
    accessWrite s ⟨m, .crs, off, 8, false⟩ w = regCommit s m.id.val k w (BitVec.allOnes 64) off := by
  obtain ⟨⟨x, hx, hkey, hwidth, hreach⟩, -, hwindow⟩ := leadsTo_iff hp
  refine (accessWrite_unlocked rfl rfl hwindow hc hx hreach w).trans ((regPut_64_whole hn hwidth _ _).trans ?_)
  have hw : BitVec.ofNat 64 (w.toNat % 2 ^ (8 * 8)) = w := by rw [Nat.mod_eq_of_lt w.isLt, BitVec.ofNat_toNat, BitVec.setWidth_eq]
  rw [hkey]
  exact congrArg (regCommit s m.id.val k · (BitVec.allOnes 64) off) hw

/-- The whole of a register, by its width. -/
theorem wholeMask_leads {width : Nat} (hp : leadsTo off k width = true) : wholeMask k = if width = 32 then 0xFFFFFFFF#64 else BitVec.allOnes 64 := by
  obtain ⟨-, ⟨f, hf, hfam⟩, -⟩ := leadsTo_iff hp
  unfold wholeMask
  rw [hf, ← hfam]

/-- A write of a 32-bit register that lands is the commit of its low half, with nothing recorded as an attempt. -/
theorem ownWrite_leads_32 (hp : leadsTo (crsOffset k) k 32 = true) (hl : Lands s m k (low32 w)) :
    ownWrite s m k w = regCommit s m.id.val k (low32 w) 0xFFFFFFFF#64 (crsOffset k) ∧ Unattempted s m.id.val k (low32 w) 0xFFFFFFFF#64 := by
  obtain ⟨-, ⟨f, hf, hfam⟩, -⟩ := leadsTo_iff hp
  have hmask := wholeMask_leads hp
  have hu := hl.unattempted
  obtain ⟨⟨haccess, hhalf, hcheck⟩, -⟩ := hl
  refine ⟨?_, by rwa [hmask] at hu⟩
  unfold ownWrite
  rw [if_pos haccess, hf]
  dsimp only
  rw [hfam]
  exact accessWrite_leads_32 hp hhalf hcheck

theorem ownWrite_leads_64 (hp : leadsTo (crsOffset k) k 64 = true) (hl : Lands s m k w) :
    ownWrite s m k w = regCommit s m.id.val k w (BitVec.allOnes 64) (crsOffset k) ∧ Unattempted s m.id.val k w (BitVec.allOnes 64) := by
  obtain ⟨-, ⟨f, hf, hfam⟩, -⟩ := leadsTo_iff hp
  have hmask := wholeMask_leads hp
  have hu := hl.unattempted
  obtain ⟨⟨haccess, hhalf, hcheck⟩, -⟩ := hl
  refine ⟨?_, by rwa [hmask] at hu⟩
  unfold ownWrite
  rw [if_pos haccess, hf]
  dsimp only
  rw [hfam]
  exact accessWrite_leads_64 hp hhalf hcheck

end Written

/-! A write of a 32-bit register that lands, by the rule that takes it. -/

section Landed
variable {s t : State} {m : Master} {k : Nat} {w : Word} (hp : leadsTo (crsOffset k) k 32 = true) (hl : Lands s m k (low32 w))
include hp hl

theorem ownWrite_acc (hfirst : famNo k ∉ cvuFamilies) (ht : accWrite s m.id.val k (low32 w) = some t) : ownWrite s m k w = t := by
  obtain ⟨hwrite, hu⟩ := ownWrite_leads_32 hp hl
  exact hwrite.trans (regCommit_acc hu hfirst ht)

theorem ownWrite_ring (hfirst : famNo k ∉ cvuFamilies ++ accFamilies) (ht : ringWrite s m.id.val k (low32 w) 0xFFFFFFFF#64 = some t) :
    ownWrite s m k w = t := by
  obtain ⟨hwrite, hu⟩ := ownWrite_leads_32 hp hl
  exact hwrite.trans (regCommit_ring hu hfirst ht)

theorem ownWrite_unit (hfirst : famNo k ∉ cvuFamilies ++ accFamilies ++ ringFamilies ++ barFamilies)
    (ht : unitWrite s m.id.val k (low32 w) 0xFFFFFFFF#64 = some t) : ownWrite s m k w = t := by
  obtain ⟨hwrite, hu⟩ := ownWrite_leads_32 hp hl
  exact hwrite.trans (regCommit_unit hu hfirst ht)

theorem ownWrite_fields (hnone : famNo k ∉ cvuFamilies ++ accFamilies ++ ringFamilies ++ barFamilies ++ unitFamilies) :
    ownWrite s m k w = regPlain s m.id.val k (low32 w) 0xFFFFFFFF#64 := by
  obtain ⟨hwrite, hu⟩ := ownWrite_leads_32 hp hl
  exact hwrite.trans (regCommit_fields hu hnone)

end Landed

end Sys2Proof.Machine
end

section
/-!
The place of a register of a one-dimensional array: its own offset leads to it (O43, O44).
-/
namespace Sys2Proof.Machine
open Sys2Proof

/-- No register of the family lies at an offset from `lo` up to `hi`: another space, or all of it above or below. -/
def Family.avoids (f : Family) (lo hi : Nat) : Bool :=
  f.space != .crs || decide (hi ≤ f.base) || decide (f.base + (f.dim1.1 - 1) * f.dim1.2 + (f.dim2.1 - 1) * f.dim2.2 + 4 < lo)

/-- An offset within a family is that of a register of it and what is left. -/
theorem Family.place_sum (f : Family) (d : Nat) : (f.place d).1 * f.dim1.2 + ((f.place d).2.1 * f.dim2.2 + (f.place d).2.2) = d := by
  have hsplit (x a : Nat) : (if a = 0 then 0 else x / a) * a ≤ x := by
    split
    · simp
    · exact Nat.div_mul_le_self x a
  have h1 := hsplit d f.dim1.2
  have h2 := hsplit (d - (if f.dim1.2 = 0 then 0 else d / f.dim1.2) * f.dim1.2) f.dim2.2
  unfold Family.place
  dsimp only
  omega

theorem Family.hit_of_avoids {f : Family} {lo hi o : Nat} (n : Nat) (h : f.avoids lo hi = true) (hcrs : f.space = .crs) (hlo : lo ≤ o) (hhi : o < hi) :
    f.hit n o = none := by
  have hsum := f.place_sum (o - f.base)
  simp only [Family.avoids, hcrs, bne_self_eq_false, Bool.false_or, Bool.or_eq_true, decide_eq_true_eq] at h
  obtain ⟨i, j, x, hp⟩ : ∃ i j x, f.place (o - f.base) = (i, j, x) := ⟨_, _, _, rfl⟩
  rw [hp] at hsum
  unfold Family.hit
  rw [hp]
  dsimp only at hsum ⊢
  by_cases hbase : o < f.base
  · exact if_pos hbase
  rw [if_neg hbase]
  by_cases hcount : f.dim1.1 ≤ i ∨ f.dim2.1 ≤ j
  · exact if_pos hcount
  have hrow : i * f.dim1.2 ≤ (f.dim1.1 - 1) * f.dim1.2 := Nat.mul_le_mul_right _ (by omega)
  have hcol : j * f.dim2.2 ≤ (f.dim2.1 - 1) * f.dim2.2 := Nat.mul_le_mul_right _ (by omega)
  have hx : 4 < x := by omega
  rw [if_neg hcount, if_neg (by omega), if_neg (by omega)]

/-- Families that avoid the offset are passed over. -/
theorem famSearch_skip {lo hi o : Nat} {l : List Family} (h : l.all (·.avoids lo hi) = true) (hlo : lo ≤ o) (hhi : o < hi) (n : Nat) (rest : List Family) :
    famSearch .crs o n (l ++ rest) = famSearch .crs o (n + l.length) rest := by
  induction l generalizing n with
  | nil => rfl
  | cons f l ih =>
    simp only [List.all_cons, Bool.and_eq_true] at h
    obtain ⟨hf, hl⟩ := h
    have hnext : famSearch .crs o (n + 1) (l ++ rest) = famSearch .crs o (n + (l.length + 1)) rest := by
      rw [ih hl, Nat.add_assoc, Nat.add_comm 1]
    rw [List.cons_append, List.length_cons, famSearch]
    split
    next hcrs => rw [Family.hit_of_avoids n hf hcrs hlo hhi, hnext]
    · exact hnext

/-- A register of an array stands at its own offset. -/
theorem Family.hit_own {f : Family} {i : Nat} (n : Nat) (hi : i < f.dim1.1) (hstride : 0 < f.dim1.2) (hone : f.dim2 = (1, 0)) :
    f.hit n (f.base + i * f.dim1.2) = some ⟨n + 512 * i, f, false⟩ := by
  have hplace : f.place (f.base + i * f.dim1.2 - f.base) = (i, 0, 0) := by
    simp [Family.place, hone, Nat.ne_of_gt hstride, Nat.mul_div_cancel _ hstride]
  unfold Family.hit
  rw [hplace, hone]
  simp [Nat.not_le.mpr hi]

/-- Family `n` is an array of `count` registers of this width in Chip Register Space, outside the transfer window, on aligned offsets that no family
before it names, and none of those of which memory protection units have different numbers. -/
def arrayAt (n count width : Nat) : Bool :=
  (famTable[n]?).any (fun f => f.space == .crs && f.width == width && decide (0 < f.dim1.2) && f.dim1.1 == count && f.dim2 == (1, 0) &&
    f.base % (width / 8) == 0 && f.dim1.2 % (width / 8) == 0 &&
    (decide (f.base + count * f.dim1.2 ≤ 0x0B100000) || decide (0x0B200000 ≤ f.base)) &&
    (famTable.take n).all (·.avoids f.base (f.base + count * f.dim1.2))) &&
  decide (n < 512) && decide (count ≤ 4096) && !(n == Reg.MPU_RBASE 0 0 || n == Reg.MPU_RATTR 0 0)

theorem famSearch_own {n i : Nat} {f : Family} (hf : famTable[n]? = some f) (hcrs : f.space = .crs) (hi : i < f.dim1.1) (hstride : 0 < f.dim1.2)
    (hone : f.dim2 = (1, 0)) (hbefore : (famTable.take n).all (·.avoids f.base (f.base + f.dim1.1 * f.dim1.2)) = true) :
    famSearch .crs (f.base + i * f.dim1.2) 0 famTable = some ⟨n + 512 * i, f, false⟩ := by
  obtain ⟨hn, hget⟩ := List.getElem?_eq_some_iff.mp hf
  have hlt : i * f.dim1.2 < f.dim1.1 * f.dim1.2 := Nat.mul_lt_mul_of_pos_right hi hstride
  have hsplit : famTable = famTable.take n ++ f :: famTable.drop (n + 1) := by
    rw [← hget, List.cons_getElem_drop_succ, List.take_append_drop]
  have hlen : (famTable.take n).length = n := List.length_take_of_le (Nat.le_of_lt hn)
  rw [hsplit, famSearch_skip hbefore (Nat.le_add_right _ _) (by omega), hlen, famSearch, if_pos hcrs, Nat.zero_add, Family.hit_own n hi hstride hone]

/-- The registers of such an array are found at their own offsets. -/
theorem leadsTo_array {n count width i : Nat} (h : arrayAt n count width = true) (hwidth : width = 32 ∨ width = 64) (hi : i < count) :
    leadsTo (crsOffset (n + 512 * i)) (n + 512 * i) width = true := by
  simp only [arrayAt, Option.any_eq_true, Bool.and_eq_true, Bool.or_eq_true, beq_iff_eq, decide_eq_true_eq, Bool.not_eq_true', Bool.or_eq_false_iff,
    beq_eq_false_iff_ne] at h
  obtain ⟨⟨⟨⟨f, hf, ⟨⟨⟨⟨⟨⟨⟨hcrs, hfw⟩, hstride⟩, rfl⟩, hone⟩, hbase⟩, hstep⟩, hout⟩, hbefore⟩, hn⟩, hlen⟩, hbaseReg, hattrReg⟩ := h
  have hmpu : mpuRegionOk (n + 512 * i) = true := by
    have hfam : (n + 512 * i) % 512 = n := famNo_register i hn
    unfold mpuRegionOk
    rw [hfam]
    exact if_neg (not_or.mpr ⟨hbaseReg, hattrReg⟩)
  have hfam : famOf (n + 512 * i) = some f := (famOf_register i hn).trans hf
  have hinst : inst1 (n + 512 * i) = i := inst1_register hn (by omega)
  have hplace : crsOffset (n + 512 * i) = f.base + i * f.dim1.2 := by
    simp [crsOffset, hfam, hinst, hone]
  have hat : crsAt (f.base + i * f.dim1.2) = some ⟨n + 512 * i, f, false⟩ := by
    simp only [crsAt, famSearch_own hf hcrs hi hstride hone hbefore, hmpu, if_true]
  have haligned : (f.base + i * f.dim1.2) % (width / 8) = 0 :=
    Nat.mod_eq_zero_of_dvd ((Nat.dvd_of_mod_eq_zero hbase).add ((Nat.dvd_of_mod_eq_zero hstep).mul_left i))
  have hreach : reaches ⟨n + 512 * i, f, false⟩ (f.base + i * f.dim1.2) (width / 8) = true := by
    rcases hwidth with rfl | rfl
    · simpa [reaches] using haligned
    · simpa [reaches, hfw] using haligned
  have hlt : i * f.dim1.2 < f.dim1.1 * f.dim1.2 := Nat.mul_lt_mul_of_pos_right hi hstride
  have hwindow : inWindow (f.base + i * f.dim1.2) = false := by
    simp only [inWindow, Bool.and_eq_false_iff, decide_eq_false_iff_not]
    omega
  simp [leadsTo, hplace, hat, hfam, hfw, hreach, hwindow]

end Sys2Proof.Machine
end

section
/-!
Tables read and written through their access registers (O44).
-/
namespace Sys2Proof.Machine
open Sys2Proof

/-! ### The operation and the index of an access -/

theorem bitsAt_zero (v n : Nat) : bitsAt v 0 n = v % 2 ^ n := by
  unfold bitsAt
  rw [Nat.pow_zero, Nat.div_one]

/-- OP of the value written: the field of bits 27:26 that the row sets. -/
theorem accOp_set (w : Word) {op : Nat} (h : op ≤ 1) : accOp (low32 ((⟨26, 2⟩ : Field).set w op)) = op :=
  get_low32_set (f := ⟨26, 2⟩) w (by decide) (Nat.lt_of_le_of_lt h (by decide))

section Pass
variable {s : State} {m ofs : Nat}

theorem tblRead_pass {key : Nat → Nat} {b : List Byte} (h : mpuAllows s 0 (0x8000000000 + ofs) .read m 1 = true) :
    tblRead s m ofs key b = putData s key b := by
  have hpass : tblPass s m false ofs 0 = (true, s) := if_pos (by simpa using h)
  rw [tblRead, hpass]

theorem tblWrite_pass {f : State → State} (h : mpuAllows s 0 (0x8000000000 + ofs) .write m 1 = true) : tblWrite s m false ofs f = f s := by
  have hpass : tblPass s m false ofs 1 = (true, s) := if_pos (by simpa using h)
  rw [tblWrite, hpass]

end Pass

/-! A write of a register leaves what the tables hold. -/

section Wr
variable (s : State) (k : Nat) (w : Word) (i : Nat)

theorem famBytes_wr : famBytes (wr s k w) i = famBytes s i := rfl
theorem bindBytes_wr : bindBytes (wr s k w) i = bindBytes s i := rfl
theorem routeBytes_wr : routeBytes (wr s k w) i = routeBytes s i := rfl
theorem meterBytes_wr : meterBytes (wr s k w) i = meterBytes s i := rfl
theorem ctxBytesAt_wr : ctxBytesAt (wr s k w) i = ctxBytesAt s i := rfl
theorem shadowFamBytes_wr : shadowFamBytes (wr s k w) i = shadowFamBytes s i := rfl
theorem coefOf_wr (l c : Nat) : coefOf (wr s k w) i l c = coefOf s i l c := rfl

end Wr

/-- The masters that may write an entry outside a configuration: the management cores and the twin mirror agent. -/
theorem accMay_iff (m : Nat) : accMay m false = true ↔ (1 ≤ m ∧ m ≤ 4) ∨ m = 11 := by simp [accMay]

/-! ### FAM entries (R132, R135) -/

/-- The state in which an access register holds what was written to it. -/
abbrev famStored (s : State) (v : Word) : State := accStore s Reg.FAM_ACC v 0x0C01FFFF

/-- The FAM entry that the data registers hold. -/
abbrev famHeld (u : State) : List Byte := getData u (fun k => Reg.FAM_DATA k) 4

section Fam
variable {s : State} {m : Nat} {v : Word}

theorem famAcc_read (hop : accOp v = 0) (hp : mpuAllows (famStored s v) 0 (0x8000000000 + 32 * (v.toNat % 131072)) .read m 1 = true) :
    famAcc s m false v = putData (famStored s v) (fun k => Reg.FAM_DATA k) (famBytes s (v.toNat % 131072)) := by
  unfold famAcc
  simp only [hop, if_true, bitsAt_zero, Nat.reducePow]
  exact (tblRead_pass (by simpa [Tbl.fam] using hp)).trans (congrArg _ (famBytes_wr ..))

section Owned
variable (hop : accOp v = 1) (hm : (1 ≤ m ∧ m ≤ 4) ∨ m = 11)
  (ho : ownerTable (famStored s v) (famRead (famHeld (famStored s v))).owner = some true)
include hop hm ho

/-- A master that may write, an owner that is this node's: the entry is written where it may stand. -/
theorem famAcc_written
    (hlive : (famLiveStep (famStored s v) (famNext (famStored s v)) (v.toNat % 131072, famHeld (famStored s v))).isSome)
    (hp : mpuAllows (famStored s v) 0 (0x8000000000 + 32 * (v.toNat % 131072)) .write m 1 = true) :
    famAcc s m false v = famApply (famStored s v) [(v.toNat % 131072, famRead (famHeld (famStored s v)))] := by
  obtain ⟨x, hx⟩ := Option.isSome_iff_exists.mp hlive
  unfold famAcc
  simp only [hop, (accMay_iff m).mpr hm, ho, bitsAt_zero, Nat.reducePow, Nat.one_ne_zero, if_false, beq_self_eq_true, decide_true, Bool.and_true,
    if_true]
  rw [hx]
  exact tblWrite_pass (by simpa [Tbl.fam] using hp)

theorem famAcc_misplaced
    (hlive : famLiveStep (famStored s v) (famNext (famStored s v)) (v.toNat % 131072, famHeld (famStored s v)) = none) :
    famAcc s m false v = accRefuse (famStored s v) Reg.FAM_ACC := by
  unfold famAcc
  simp only [hop, (accMay_iff m).mpr hm, ho, bitsAt_zero, Nat.reducePow, Nat.one_ne_zero, if_false, beq_self_eq_true, decide_true, Bool.and_true,
    if_true]
  rw [hlive]

end Owned

theorem famAcc_refused (hop : accOp v = 1)
    (h : ownerTable (famStored s v) (famRead (famHeld (famStored s v))).owner ≠ some true ∨ ¬((1 ≤ m ∧ m ≤ 4) ∨ m = 11)) :
    famAcc s m false v = accRefuse (famStored s v) Reg.FAM_ACC := by
  have hno : (accMay m false && ownerTable (famStored s v) (famRead (famHeld (famStored s v))).owner == some true) = false := by
    rw [← accMay_iff] at h
    rcases h with h | h <;> simp [h]
  unfold famAcc
  simp only [hop, hno, Bool.and_assoc, Bool.and_false, Bool.false_eq_true, if_false]
  rfl

end Fam

/-! ### Binding entries (R113, R114) -/

abbrev bindStored (s : State) (v : Word) : State := accStore s Reg.BIND_ACC v 0x0C003FFF

abbrev bindHeld (u : State) : List Byte := getData u (fun k => Reg.BIND_DATA k) 2

section Bind
variable {s : State} {m : Nat} {v : Word}

theorem bindAcc_read (hop : accOp v = 0) (hp : mpuAllows (bindStored s v) 0 (0x8000000000 + (0xC00000 + 16 * (v.toNat % 16384))) .read m 1 = true) :
    bindAcc s m false v = putData (bindStored s v) (fun k => Reg.BIND_DATA k) (bindBytes s (v.toNat % 16384)) := by
  unfold bindAcc
  simp only [hop, if_true, bitsAt_zero, Nat.reducePow]
  exact (tblRead_pass hp).trans (congrArg _ (bindBytes_wr ..))

theorem bindAcc_written (hop : accOp v = 1) (hm : (1 ≤ m ∧ m ≤ 4) ∨ m = 11) (hlow : 2 ≤ mode (bindStored s v)) (hhigh : mode (bindStored s v) ≤ 4)
    (hp : mpuAllows (bindStored s v) 0 (0x8000000000 + (0xC00000 + 16 * (v.toNat % 16384))) .write m 1 = true)
    (ho : ownerTable (bindStored s v) (bindRead (bindHeld (bindStored s v))).owner = some true)
    (hl : (bindLiveStep (bindStored s v) true (bindNext (bindStored s v)) (v.toNat % 16384, bindHeld (bindStored s v))).isSome) :
    bindAcc s m false v = bindApply (bindStored s v) [(v.toNat % 16384, bindRead (bindHeld (bindStored s v)))] := by
  obtain ⟨x, hx⟩ := Option.isSome_iff_exists.mp hl
  unfold bindAcc
  simp only [hop, (accMay_iff m).mpr hm, hlow, hhigh, ho, bitsAt_zero, Nat.reducePow, Nat.one_ne_zero, if_false, beq_self_eq_true, decide_true,
    Bool.and_true, Bool.false_or, if_true]
  rw [hx]
  exact tblWrite_pass hp

/-- In modes 0 and 1 the table changes by the base configuration alone. -/
theorem bindAcc_refused (hop : accOp v = 1) (hmode : mode (bindStored s v) ≤ 1) : bindAcc s m false v = accRefuse (bindStored s v) Reg.BIND_ACC := by
  have hlow : ¬ 2 ≤ mode (bindStored s v) := by omega
  unfold bindAcc
  simp [hop, hlow]

end Bind

/-! ### Route entries (R137), meters (R79), contexts (R148), shadow entries (R209) -/

section Others
variable {s : State} {m : Nat} {v : Word}

theorem routeAcc_read (hop : accOp v = 0)
    (hp : mpuAllows (accStore s Reg.ROUTE_ACC v 0x0C000FFF) 0 (0x8000000000 + (0xC40000 + 64 * (v.toNat % 4096))) .read m 1 = true) :
    routeAcc s m false v = putData (accStore s Reg.ROUTE_ACC v 0x0C000FFF) (fun k => Reg.ROUTE_DATA k) (routeBytes s (v.toNat % 4096)) := by
  unfold routeAcc
  simp only [hop, if_true, bitsAt_zero, Nat.reducePow]
  exact (tblRead_pass hp).trans (congrArg _ (routeBytes_wr ..))

theorem routeAcc_written (hop : accOp v = 1) (hm : (1 ≤ m ∧ m ≤ 4) ∨ m = 11)
    (hp : mpuAllows (accStore s Reg.ROUTE_ACC v 0x0C000FFF) 0 (0x8000000000 + (0xC40000 + 64 * (v.toNat % 4096))) .write m 1 = true) :
    routeAcc s m false v = routeWrite (accStore s Reg.ROUTE_ACC v 0x0C000FFF) (v.toNat % 4096)
      (getData (accStore s Reg.ROUTE_ACC v 0x0C000FFF) (fun k => Reg.ROUTE_DATA k) 8) := by
  unfold routeAcc
  simp only [hop, (accMay_iff m).mpr hm, bitsAt_zero, Nat.reducePow, Nat.one_ne_zero, if_false, decide_true, Bool.true_and, if_true]
  exact tblWrite_pass hp

theorem tblAcc_meterRead (hop : accOp v = 0) (ht : bitsAt v.toNat 28 2 = 0) (hi : v.toNat % 65536 < 16384)
    (hp : mpuAllows (accStore s Reg.TBL_ACC v 0x3C00FFFF) 0 (0x8000000000 + (0xF00000 + 64 * (v.toNat % 65536))) .read m 1 = true) :
    tblAcc s m false v = putData (accStore s Reg.TBL_ACC v 0x3C00FFFF) (fun k => Reg.TBL_DATA k) (meterBytes s (v.toNat % 65536)) := by
  unfold tblAcc
  simp only [bitsAt_zero, Nat.reducePow]
  exact (if_pos ⟨ht, hi, hop⟩).trans ((tblRead_pass hp).trans (congrArg _ (meterBytes_wr ..)))

theorem tblAcc_meterWritten {x : Meter} (hop : accOp v = 1) (ht : bitsAt v.toNat 28 2 = 0) (hi : v.toNat % 65536 < 16384)
    (hx : meterWritten (accStore s Reg.TBL_ACC v 0x3C00FFFF) (getData (accStore s Reg.TBL_ACC v 0x3C00FFFF) (fun k => Reg.TBL_DATA k) 8) = some x)
    (hp : mpuAllows (accStore s Reg.TBL_ACC v 0x3C00FFFF) 0 (0x8000000000 + (0xF00000 + 64 * (v.toNat % 65536))) .write m 1 = true) :
    tblAcc s m false v = (let u := accStore s Reg.TBL_ACC v 0x3C00FFFF
      { u with cong := { u.cong with meters := aput u.cong.meters (v.toNat % 65536) x } }) := by
  have hread : ¬(bitsAt v.toNat 28 2 = 0 ∧ v.toNat % 2 ^ 16 < 16384 ∧ accOp v = 0) := by simp [hop]
  unfold tblAcc
  simp only [bitsAt_zero, Nat.reducePow]
  refine (if_neg hread).trans ((if_pos ⟨ht, hi, hop⟩).trans ?_)
  rw [hx]
  exact tblWrite_pass hp

theorem ctxAcc_read (hop : accOp v = 0) (hi : v.toNat % 262144 ≠ 0x3FFFF)
    (hp : mpuAllows (accStore s Reg.CTX_ACC v 0x0C03FFFF) 0 (0x8000000000 + (0x400000 + 24 * (v.toNat % 262144))) .read m 1 = true) :
    ctxAcc s m v = putData (accStore s Reg.CTX_ACC v 0x0C03FFFF) (fun k => Reg.CTX_DATA k) (ctxBytesAt s (v.toNat % 262144)) := by
  unfold ctxAcc
  simp only [bitsAt_zero, Nat.reducePow]
  exact (if_pos ⟨hop, hi⟩).trans ((tblRead_pass hp).trans (congrArg _ (ctxBytesAt_wr ..)))

theorem ctxAcc_refused (hop : accOp v ≠ 0) : ctxAcc s m v = accRefuse (accStore s Reg.CTX_ACC v 0x0C03FFFF) Reg.CTX_ACC :=
  if_neg fun h => hop h.1

theorem shadowAcc_famRead (hop : accOp v = 0) (ht : bitsAt v.toNat 28 2 = 0)
    (hp : mpuAllows (accStore s Reg.TWIN_SHADOW_ACC v 0x3C01FFFF) 0 (0x8000000000 + (0x1000000 + 32 * (v.toNat % 131072))) .read m 1 = true) :
    shadowAcc s m v = putData (accStore s Reg.TWIN_SHADOW_ACC v 0x3C01FFFF) (fun k => Reg.TWIN_SHADOW_DATA k)
      (fit 64 (shadowFamBytes s (v.toNat % 131072))) := by
  unfold shadowAcc
  simp only [hop, ht, bitsAt_zero, Nat.reducePow, ne_eq, not_true_eq_false, if_false]
  exact (tblRead_pass hp).trans (congrArg (fun b => putData _ _ (fit 64 b)) (shadowFamBytes_wr ..))

end Others

/-! ### Coefficient records (R271) -/

section Coef
variable {s : State} {t : Nat} {v : Word}

theorem coefAcc_clear (hc : Fld.TILE_COEF_ACC_CLR.get v = 1) :
    coefAcc s t v = (accStore s (Reg.TILE_COEF_ACC t) v 0xF7).modTile t (fun x =>
      { x with coef := x.coef.filter (fun e => e.1 / 8 != bitsAt v.toNat 4 4) }) := by
  rw [Field.get_bit rfl] at hc
  cases hb : v.getLsbD 8
  · exact absurd (hb ▸ hc) (by decide)
  · exact if_pos hb

theorem coefAcc_read (hc : Fld.TILE_COEF_ACC_CLR.get v = 0) (hclass : bitsAt v.toNat 0 3 ≤ 5) :
    coefAcc s t v = putData (accStore s (Reg.TILE_COEF_ACC t) v 0xF7) (fun i => Reg.TILE_COEF_DATA t i)
      (fit 64 (coefOf s t (bitsAt v.toNat 4 4) (bitsAt v.toNat 0 3))) := by
  rw [Field.get_bit rfl] at hc
  cases hb : v.getLsbD 8
  · exact (if_neg (by rw [hb]; decide)).trans ((if_neg (by omega)).trans (congrArg (fun b => putData _ _ (fit 64 b)) (coefOf_wr ..)))
  · exact absurd (hb ▸ hc) (by decide)

end Coef

/-! ### The rows -/

theorem leadsTo_access : leadsTo (crsOffset Reg.FAM_ACC) Reg.FAM_ACC 32 = true ∧ leadsTo (crsOffset Reg.BIND_ACC) Reg.BIND_ACC 32 = true ∧
    leadsTo (crsOffset Reg.ROUTE_ACC) Reg.ROUTE_ACC 32 = true ∧ leadsTo (crsOffset Reg.TBL_ACC) Reg.TBL_ACC 32 = true ∧
    leadsTo (crsOffset Reg.CTX_ACC) Reg.CTX_ACC 32 = true ∧ leadsTo (crsOffset Reg.TWIN_SHADOW_ACC) Reg.TWIN_SHADOW_ACC 32 = true := by
  decide +kernel

theorem leadsTo_meterMap : ∀ p : Fin 64, leadsTo (crsOffset (Reg.METER_MAP p)) (Reg.METER_MAP p) 32 = true := fun i =>
  leadsTo_array (by decide +kernel) (.inl rfl) i.isLt

theorem leadsTo_tileCoefAcc : ∀ t : Fin 16, leadsTo (crsOffset (Reg.TILE_COEF_ACC t)) (Reg.TILE_COEF_ACC t) 32 = true := by decide +kernel

section Rows
variable {s : State} {m : Master} {w : Word}

theorem ownWrite_famAcc (hl : Lands s m Reg.FAM_ACC (low32 w)) : ownWrite s m Reg.FAM_ACC w = famAcc s m.id.val false (low32 w) := by
  obtain ⟨hp, -⟩ := leadsTo_access
  exact ownWrite_acc hp hl (by decide) rfl

theorem ownWrite_bindAcc (hl : Lands s m Reg.BIND_ACC (low32 w)) : ownWrite s m Reg.BIND_ACC w = bindAcc s m.id.val false (low32 w) := by
  obtain ⟨-, hp, -⟩ := leadsTo_access
  exact ownWrite_acc hp hl (by decide) rfl

theorem ownWrite_routeAcc (hl : Lands s m Reg.ROUTE_ACC (low32 w)) : ownWrite s m Reg.ROUTE_ACC w = routeAcc s m.id.val false (low32 w) := by
  obtain ⟨-, -, hp, -⟩ := leadsTo_access
  exact ownWrite_acc hp hl (by decide) rfl

theorem ownWrite_tblAcc (hl : Lands s m Reg.TBL_ACC (low32 w)) : ownWrite s m Reg.TBL_ACC w = tblAcc s m.id.val false (low32 w) := by
  obtain ⟨-, -, -, hp, -⟩ := leadsTo_access
  exact ownWrite_acc hp hl (by decide) rfl

theorem ownWrite_ctxAcc (hl : Lands s m Reg.CTX_ACC (low32 w)) : ownWrite s m Reg.CTX_ACC w = ctxAcc s m.id.val (low32 w) := by
  obtain ⟨-, -, -, -, hp, -⟩ := leadsTo_access
  exact ownWrite_acc hp hl (by decide) rfl

theorem ownWrite_shadowAcc (hl : Lands s m Reg.TWIN_SHADOW_ACC (low32 w)) :
    ownWrite s m Reg.TWIN_SHADOW_ACC w = shadowAcc s m.id.val (low32 w) := by
  obtain ⟨-, -, -, -, -, hp⟩ := leadsTo_access
  exact ownWrite_acc hp hl (by decide) rfl

theorem ownWrite_coefAcc {t : Fin 16} (hl : Lands s m (Reg.TILE_COEF_ACC t) (low32 w)) :
    ownWrite s m (Reg.TILE_COEF_ACC t) w = coefAcc s t (low32 w) := by
  have hfam : famNo (Reg.TILE_COEF_ACC t) = 163 := famNo_register _ (by decide)
  have hinst : inst1 (Reg.TILE_COEF_ACC t) = t := inst1_register (by decide) (Nat.lt_trans t.isLt (by decide))
  refine ownWrite_acc (leadsTo_tileCoefAcc t) hl (hfam ▸ by decide) ?_
  unfold accWrite
  rw [hfam, hinst]
  rfl

theorem ownWrite_meterMap {p : Fin 64} (hl : Lands s m (Reg.METER_MAP p) (low32 w)) :
    ownWrite s m (Reg.METER_MAP p) w = regPlain s m.id.val (Reg.METER_MAP p) (low32 w) 0xFFFFFFFF#64 := by
  have hfam : famNo (Reg.METER_MAP p) = 30 := famNo_register _ (by decide)
  exact ownWrite_fields (leadsTo_meterMap p) hl (hfam ▸ by decide)

end Rows

/-- Settles O44: a write that lands is the access of its register (`ownWrite_famAcc` and the others), which the large MPU lets through to the table
(`tblRead_pass`, `tblWrite_pass`) or which its rule refuses. -/
theorem tableAccessRegisters : Obligations.TableAccessRegisters := by
  intro s m w pass
  refine ⟨?fam, ?bind, ?route, ?meter, ?meterMap, ?ctx, ?shadow, ?coef⟩
  case fam =>
    intro op hop v u i hl
    have hrow := ownWrite_famAcc hl
    have hv : accOp v = op := accOp_set w hop
    refine ⟨fun h0 hp => ?_, fun h1 hm => ?_, fun h1 ho => ?_, fun h1 hm => ?_⟩
    · subst h0
      exact exec_effect rfl (hrow.trans (famAcc_read hv hp))
    · subst h1
      intro b ho
      exact ⟨fun hlive hp => exec_effect rfl (hrow.trans (famAcc_written hv hm ho hlive hp)),
        fun hlive => exec_effect rfl (hrow.trans (famAcc_misplaced hv hm ho hlive))⟩
    · subst h1
      exact exec_effect rfl (hrow.trans (famAcc_refused hv (.inl ho)))
    · subst h1
      exact exec_effect rfl (hrow.trans (famAcc_refused hv (.inr (by omega))))
  case bind =>
    intro op hop v u i hl
    have hrow := ownWrite_bindAcc hl
    have hv : accOp v = op := accOp_set w hop
    refine ⟨fun h0 hp => ?_, fun h1 hm hlow hhigh hp ho hlive => ?_, fun h1 hmode => ?_⟩
    · subst h0
      exact exec_effect rfl (hrow.trans (bindAcc_read hv hp))
    · subst h1
      exact exec_effect rfl (hrow.trans (bindAcc_written hv hm hlow hhigh hp ho hlive))
    · subst h1
      exact exec_effect rfl (hrow.trans (bindAcc_refused hv hmode))
  case route =>
    intro op hop v u i hl
    have hrow := ownWrite_routeAcc hl
    have hv : accOp v = op := accOp_set w hop
    refine ⟨fun h0 hp => ?_, fun h1 hm hp => ?_⟩
    · subst h0
      exact exec_effect rfl (hrow.trans (routeAcc_read hv hp))
    · subst h1
      exact exec_effect rfl (hrow.trans (routeAcc_written hv hm hp))
  case meter =>
    intro op hop v u i hl ht hi
    have hrow := ownWrite_tblAcc hl
    have hv : accOp v = op := accOp_set w hop
    refine ⟨fun h0 hp => ?_, fun h1 x hx hp => ?_⟩
    · subst h0
      exact exec_effect rfl (hrow.trans (tblAcc_meterRead hv ht hi hp))
    · subst h1
      exact exec_effect rfl (hrow.trans (tblAcc_meterWritten hv ht hi hx hp))
  case meterMap => exact fun p hl => exec_effect rfl (ownWrite_meterMap hl)
  case ctx =>
    exact fun hl => ⟨fun hop hi hp => exec_effect rfl ((ownWrite_ctxAcc hl).trans (ctxAcc_read hop hi hp)),
      fun hop => exec_effect rfl ((ownWrite_ctxAcc hl).trans (ctxAcc_refused hop))⟩
  case shadow => exact fun hl hop ht hp => exec_effect rfl ((ownWrite_shadowAcc hl).trans (shadowAcc_famRead hop ht hp))
  case coef =>
    intro t
    refine ⟨fun hl hclass => ?_, fun hl => ?_⟩
    · exact exec_effect rfl ((ownWrite_coefAcc hl).trans (coefAcc_read (get_low32_set w (by decide) (by decide)) hclass))
    · exact exec_effect rfl ((ownWrite_coefAcc hl).trans (coefAcc_clear (get_low32_set w (by decide) (by decide))))

end Sys2Proof.Machine
end

section
/-!
Writes of the control registers of counters, rings and logs (O43).
-/
namespace Sys2Proof.Machine
open Sys2Proof

/-! ### What a plain write leaves in a field of one bit (R9) -/

/-- A field of one bit in the low half of a register that is no log, which a written 1 clears (RW1C) or, where `w1c` is false, which takes what is
written (RW), whoever writes. -/
def bitOf (w1c : Bool) (k : Nat) (f : Field) : Bool :=
  (famOf k).any (fun x => (x.maskOf (fun a => a == .rw1c)).getLsbD f.lsb == w1c &&
    [true, false].all (fun sp => (x.maskOf (fun a => a == .rw || a == .rws || (a == .spw && sp))).getLsbD f.lsb == !w1c)) &&
    f.width == 1 && decide (f.lsb < 32) && !isLog k

theorem getLsbD_lowMask {i : Nat} (h : i < 32) : (0xFFFFFFFF#64 : Word).getLsbD i = true := by
  interval_cases i <;> rfl

section Plain
variable {s : State} {m k : Nat} {w : Word} {f : Field} (hstored : ∀ v, stored k v = v)
include hstored

/-- What a plain write leaves in such a field. -/
theorem getF_regPlain_bit {w1c : Bool} (hf : bitOf w1c k f = true) : getF (regPlain s m k w 0xFFFFFFFF#64) k f =
    if w1c then (if f.get w = 1 then 0 else getF s k f) else f.get w := by
  simp only [bitOf, Bool.and_eq_true, Option.any_eq_true, beq_iff_eq, decide_eq_true_eq, Bool.not_eq_true', List.all_cons, List.all_nil] at hf
  obtain ⟨⟨⟨⟨x, hx, hclear, htrue, hfalse, -⟩, hwidth⟩, hlow⟩, hlog⟩ := hf
  have hrw : (x.maskOf (fun a => a == .rw || a == .rws || (a == .spw && m == 0))).getLsbD f.lsb = !w1c := by
    cases m == 0
    · exact hfalse
    · exact htrue
  have hstep : (rd (regPlain s m k w 0xFFFFFFFF#64) k).getLsbD f.lsb =
      if w1c && w.getLsbD f.lsb then false else if w1c then (rd s k).getLsbD f.lsb else w.getLsbD f.lsb := by
    rw [regPlain_of_family hx hlog, rd_wr_self, hstored, getLsbD_storedBits, hclear, hrw, getLsbD_lowMask hlow]
    cases w1c <;> simp
  simp only [getF, Field.get_bit hwidth, hstep]
  cases w1c <;> cases w.getLsbD f.lsb <;> rfl

theorem getF_regPlain_clears (hf : bitOf true k f = true) :
    getF (regPlain s m k w 0xFFFFFFFF#64) k f = if f.get w = 1 then 0 else getF s k f := getF_regPlain_bit hstored hf

theorem getF_regPlain_stores (hf : bitOf false k f = true) : getF (regPlain s m k w 0xFFFFFFFF#64) k f = f.get w :=
  getF_regPlain_bit hstored hf

end Plain

/-! ### ECL_STATUS (R417) -/

theorem eclRelease_fields : leadsTo (crsOffset Reg.ECL_STATUS) Reg.ECL_STATUS 32 = true ∧ bitOf true Reg.ECL_STATUS Fld.ECL_STATUS_VALID_A = true ∧
    bitOf true Reg.ECL_STATUS Fld.ECL_STATUS_VALID_B = true := by decide +kernel

/-- The value that a release writes: VALID_A by bit 0 of the mask, VALID_B by bit 1. -/
theorem get_eclRelease (mask : Fin 4) :
    let v := low32 (Fld.ECL_STATUS_VALID_B.set (Fld.ECL_STATUS_VALID_A.set 0 (mask.val % 2)) (mask.val / 2))
    Fld.ECL_STATUS_VALID_A.get v = mask.val % 2 ∧ Fld.ECL_STATUS_VALID_B.get v = mask.val / 2 := by
  revert mask
  decide

theorem ownWrite_eclStatus {s : State} {m : Master} {w : Word} (hl : Lands s m Reg.ECL_STATUS (low32 w)) :
    ownWrite s m Reg.ECL_STATUS w = regPlain s m.id.val Reg.ECL_STATUS (low32 w) 0xFFFFFFFF#64 := by
  obtain ⟨hp, -⟩ := eclRelease_fields
  exact ownWrite_fields hp hl (by decide)

/-! ### PC_CTRL of a counter bank (R423) -/

theorem leadsTo_bank : ∀ bank ∈ allBanks, bank ≠ 13 → leadsTo (bankBase bank) (Reg.PC_CTRL bank) 32 = true := by decide +kernel

section Bank
variable {s : State} {m : Master} {bank : Nat}

theorem famNo_pcCtrl : famNo (Reg.PC_CTRL bank) = 260 := famNo_register _ (by decide)

/-- PC_CTRL holds nothing that only the SP may change. -/
theorem unattempted_pcCtrl (s : State) (m : Nat) (w mask : Word) : Unattempted s m (Reg.PC_CTRL bank) w mask := by
  have hfam : Reg.PC_CTRL bank % 512 = 260 := famNo_pcCtrl
  have hof : famOf (Reg.PC_CTRL bank) = famTable[260]? := famOf_register _ (by decide)
  refine ⟨.inl ?_, ?_⟩
  · unfold mpuLocked
    rw [hfam]
    rfl
  · unfold spwAttempt
    rw [hof]
    have hnone : ∀ f, famTable[260]? = some f → f.maskOf (fun a => a == .spw) = 0 := by
      intro f hf
      obtain rfl := Option.some.inj hf
      decide
    cases hf : famTable[260]? with
    | none => exact Bool.and_false _
    | some f => simp [hnone f hf]

theorem pcWrite_lands {w : Word} (hb : bank ∈ allBanks) (h13 : bank ≠ 13) (hup : accessUp s m = true) (hn : s.half = [])
    (hc : crsCheck s m (bankBase bank) .write = (0, s)) (hbank : bank < 4096) :
    pcWrite s m bank w = pcCtrlWrite s bank m.id.val (low32 w) 0xFFFFFFFF#64 := by
  have hfam : famNo (Reg.PC_CTRL bank) = 260 := famNo_pcCtrl
  have hinst : inst1 (Reg.PC_CTRL bank) = bank := inst1_register (by decide) hbank
  unfold pcWrite
  rw [List.contains_iff_mem.mpr hb, hup]
  refine (accessWrite_leads_32 (leadsTo_bank bank hb h13) hn hc).trans (regCommit_unit (unattempted_pcCtrl ..) (hfam ▸ by decide) ?_)
  unfold unitWrite
  rw [hfam, hinst]
  rfl

theorem bank_lt : ∀ bank ∈ allBanks, bank < 4096 := by decide +kernel

theorem pcCycle_ne_pcCtrl : Reg.PC_CTRL bank ≠ Reg.PC_CYCLE bank := by
  simp only [Reg.PC_CTRL, Reg.PC_CYCLE]
  omega

theorem pcCycle_ne_pcCnt (i : Nat) : Reg.PC_CYCLE bank ≠ Reg.PC_CNT bank i := by
  simp only [Reg.PC_CYCLE, Reg.PC_CNT]
  omega

/-- FREEZE is written alone. -/
theorem isSet_pcFreeze (s : State) (on : Bool) : isSet (pcFreeze s bank on) (Reg.PC_CTRL bank) Fld.PC_CTRL_FREEZE = on := by
  rw [isSet, pcFreeze, getF_setF_self _ _ _ (by decide)]
  cases on <;> rfl

theorem rd_pcFreeze_ne {k : Nat} (on : Bool) (h : k ≠ Reg.PC_CTRL bank) : rd (pcFreeze s bank on) k = rd s k := by
  rw [pcFreeze, rd_setF, if_neg h]

/-- The counts of a list of counters are 0 and no other register has changed. -/
theorem rd_clearCounts (l : List Nat) (s : State) (k : Nat) :
    rd (forEach l s (fun s i => wr s (Reg.PC_CNT bank i) 0)) k = if ∃ i ∈ l, k = Reg.PC_CNT bank i then 0 else rd s k := by
  unfold forEach
  induction l generalizing s with
  | nil => simp
  | cons i l ih =>
    rw [List.foldl_cons, ih, rd_wr]
    by_cases hl : ∃ j ∈ l, k = Reg.PC_CNT bank j
    · simp [hl]
    · by_cases hi : k = Reg.PC_CNT bank i
      · simp [hi]
      · simp [hl, hi]

/-- What CLEAR leaves: counts 0, OVF 0, every other register as it was. -/
theorem rd_pcClear (s : State) (k : Nat) : rd (pcClear s bank) k =
    if ∃ i ∈ List.range 8, k = Reg.PC_CNT bank i then 0
    else if k = Reg.PC_CYCLE bank then 0
    else if k = Reg.PC_CTRL bank then Fld.PC_CTRL_OVF.set (rd s (Reg.PC_CTRL bank)) 0 else rd s k := by
  unfold pcClear
  rw [rd_clearCounts, rd_wr, rd_setF]

theorem rd_pcClear_pcCtrl (s : State) : rd (pcClear s bank) (Reg.PC_CTRL bank) = Fld.PC_CTRL_OVF.set (rd s (Reg.PC_CTRL bank)) 0 := by
  rw [rd_pcClear, if_neg fun ⟨i, _, hi⟩ => pcCtrl_ne_pcCnt bank i hi, if_neg pcCycle_ne_pcCtrl, if_pos rfl]

theorem rd_pcClear_pcCycle (s : State) : rd (pcClear s bank) (Reg.PC_CYCLE bank) = 0 := by
  rw [rd_pcClear, if_neg fun ⟨i, _, hi⟩ => pcCycle_ne_pcCnt i hi, if_pos rfl]

theorem rd_pcClear_pcCnt (s : State) (i : Fin 8) : rd (pcClear s bank) (Reg.PC_CNT bank i) = 0 := by
  rw [rd_pcClear, if_pos ⟨i, List.mem_range.mpr i.isLt, rfl⟩]

theorem getF_pcClear_ovf (s : State) : getF (pcClear s bank) (Reg.PC_CTRL bank) Fld.PC_CTRL_OVF = 0 := by
  rw [getF, rd_pcClear_pcCtrl, Field.get_set_self _ _ (by decide), Nat.zero_mod]

theorem isSet_pcClear_freeze (s : State) :
    isSet (pcClear s bank) (Reg.PC_CTRL bank) Fld.PC_CTRL_FREEZE = isSet s (Reg.PC_CTRL bank) Fld.PC_CTRL_FREEZE := by
  rw [isSet, getF, rd_pcClear_pcCtrl, Field.get_set_disjoint _ _ (by decide), isSet, getF]

/-- A write of CLEAR carries FREEZE as it stands. -/
theorem get_pcClear_freeze (s : State) :
    (Fld.PC_CTRL_FREEZE.get (low32 (Fld.PC_CTRL_CLEAR.set (Fld.PC_CTRL_FREEZE.set 0 (getF s (Reg.PC_CTRL bank) Fld.PC_CTRL_FREEZE)) 1)) == 1) =
      isSet s (Reg.PC_CTRL bank) Fld.PC_CTRL_FREEZE := by
  have hlt : getF s (Reg.PC_CTRL bank) Fld.PC_CTRL_FREEZE < 2 := Nat.mod_lt _ (by decide)
  rw [get_low32 _ (by decide), Field.get_set_disjoint _ _ (by decide), Field.get_set_self _ _ (by decide), isSet]
  generalize getF s (Reg.PC_CTRL bank) Fld.PC_CTRL_FREEZE = x at hlt ⊢
  interval_cases x <;> rfl

/-- A write of PC_CTRL without CLEAR leaves the counts. -/
theorem pcCtrlWrite_freeze {m : Nat} {w mask : Word} (h : Fld.PC_CTRL_CLEAR.get w = 0) :
    pcCtrlWrite s bank m w mask = pcFreeze (regPlain s m (Reg.PC_CTRL bank) w mask) bank (Fld.PC_CTRL_FREEZE.get w == 1) :=
  if_neg (by rw [h]; decide)

theorem pcCtrlWrite_clear {m : Nat} {w mask : Word} (h : Fld.PC_CTRL_CLEAR.get w = 1) :
    pcCtrlWrite s bank m w mask = pcClear (pcFreeze (regPlain s m (Reg.PC_CTRL bank) w mask) bank (Fld.PC_CTRL_FREEZE.get w == 1)) bank :=
  if_pos h

end Bank

/-! ### Control registers and read pointers of the rings of COMET and the sampler (R95, R427) -/

theorem ringCtrl_fields : leadsTo (crsOffset Reg.COMET_CTRL) Reg.COMET_CTRL 32 = true ∧ bitOf false Reg.COMET_CTRL Fld.COMET_CTRL_EN = true ∧
    leadsTo (crsOffset Reg.SMP_CTRL) Reg.SMP_CTRL 32 = true ∧ bitOf false Reg.SMP_CTRL Fld.SMP_CTRL_EN = true ∧
    leadsTo (crsOffset Reg.COMET_RD_PTR) Reg.COMET_RD_PTR 32 = true ∧ leadsTo (crsOffset Reg.SMP_RING_RD) Reg.SMP_RING_RD 32 = true := by
  decide +kernel

section Rings
variable {s : State} {m : Master} {w : Word}

theorem ownWrite_cometCtrl (hl : Lands s m Reg.COMET_CTRL (low32 w)) :
    ownWrite s m Reg.COMET_CTRL w = ringCtrl s cometRing (regPlain s m.id.val Reg.COMET_CTRL (low32 w) 0xFFFFFFFF#64) := by
  obtain ⟨hp, -⟩ := ringCtrl_fields
  exact ownWrite_ring hp hl (by decide) rfl

theorem ownWrite_smpCtrl (hl : Lands s m Reg.SMP_CTRL (low32 w)) :
    ownWrite s m Reg.SMP_CTRL w = ringCtrl s smpRing (regPlain s m.id.val Reg.SMP_CTRL (low32 w) 0xFFFFFFFF#64) := by
  obtain ⟨-, -, hp, -⟩ := ringCtrl_fields
  exact ownWrite_ring hp hl (by decide) rfl

theorem ownWrite_cometRdPtr (hl : Lands s m Reg.COMET_RD_PTR (low32 w)) :
    ownWrite s m Reg.COMET_RD_PTR w = ringRead s cometRing (w.toNat % 2 ^ 32) := by
  obtain ⟨-, -, -, -, hp, -⟩ := ringCtrl_fields
  refine (ownWrite_ring hp hl (by decide) rfl).trans ?_
  rw [toNat_low32, Nat.mod_mod]

theorem ownWrite_smpRingRd (hl : Lands s m Reg.SMP_RING_RD (low32 w)) :
    ownWrite s m Reg.SMP_RING_RD w = ringRead s smpRing (w.toNat % 2 ^ 32) := by
  obtain ⟨-, -, -, -, -, hp⟩ := ringCtrl_fields
  refine (ownWrite_ring hp hl (by decide) rfl).trans ?_
  rw [toNat_low32, Nat.mod_mod]

/-- What EN from 0 to 1 does to a ring (R95): its pointers are 0 and it is not STOPPED, and it stays enabled. -/
theorem ringCtrl_enabled {r : RingRegs} {plain : State} (hr : [r.ctrl, r.wrPtr, r.rdPtr, r.status].Nodup)
    (hon : isSet plain r.ctrl Fld.COMET_CTRL_EN = true) (hoff : isSet s r.ctrl Fld.COMET_CTRL_EN = false) :
    isSet (ringCtrl s r plain) r.ctrl Fld.COMET_CTRL_EN = true ∧ rd (ringCtrl s r plain) r.wrPtr = 0 ∧ rd (ringCtrl s r plain) r.rdPtr = 0 ∧
      getF (ringCtrl s r plain) r.status Fld.COMET_STATUS_STOPPED = 0 := by
  have hrun : ringCtrl s r plain = setF (wr (wr plain r.wrPtr 0) r.rdPtr 0) r.status Fld.COMET_STATUS_STOPPED 0 :=
    if_pos (by simp [hon, hoff])
  simp only [List.nodup_cons, List.mem_cons, List.not_mem_nil, or_false, not_or] at hr
  obtain ⟨⟨hcw, hcr, hcs⟩, ⟨hwr, hws⟩, hrs, -⟩ := hr
  rw [hrun]
  refine ⟨?_, ?_, ?_, getF_setF_self _ _ 0 (by decide)⟩
  · rw [isSet, getF_setF_ne _ hcs, getF_wr_ne _ hcr, getF_wr_ne _ hcw]
    exact hon
  · rw [rd_setF, if_neg hws, rd_wr_ne hwr, rd_wr_self]
  · rw [rd_setF, if_neg hrs, rd_wr_self]

/-- A ring writer that stays disabled, or is disabled, keeps its pointers. -/
theorem ringCtrl_disabled {r : RingRegs} {plain : State} (hoff : isSet plain r.ctrl Fld.COMET_CTRL_EN = false) : ringCtrl s r plain = plain :=
  if_neg (by simp [hoff])

end Rings

section RingRead
variable {s : State} {r : RingRegs} {v : Nat}

/-- RD_PTR moves within the unread records, and a ring that has room again is not STOPPED (R95). -/
theorem ringRead_frees (hv : v < r.cap s) (hu : (v + r.cap s - (rd s r.rdPtr).toNat % r.cap s) % r.cap s ≤ r.unread s)
    (hfull : r.full (wr s r.rdPtr (BitVec.ofNat 64 v)) = false) :
    ringRead s r v = setF (wr s r.rdPtr (BitVec.ofNat 64 v)) r.status Fld.COMET_STATUS_STOPPED 0 :=
  (if_pos ⟨hv, hu⟩).trans (if_neg (by simp [hfull]))

theorem ringRead_outside (h : r.cap s ≤ v ∨ r.unread s < (v + r.cap s - (rd s r.rdPtr).toNat % r.cap s) % r.cap s) :
    ringRead s r v = setF s r.status Fld.COMET_STATUS_CFG_ERR 1 := if_neg (by omega)

end RingRead

/-! ### Read pointers of the logs (R158, R464) -/

theorem leadsTo_pflPtr : ∀ v : Fin 32, leadsTo (crsOffset (Reg.PFL_PTR v)) (Reg.PFL_PTR v) 32 = true := fun i =>
  leadsTo_array (by decide +kernel) (.inl rfl) i.isLt

section Logs
variable {s : State} {m : Master} {w : Word}

theorem ownWrite_pflPtr {v : Fin 32} (hl : Lands s m (Reg.PFL_PTR v) (low32 w)) :
    ownWrite s m (Reg.PFL_PTR v) w = pflRead s v (w.toNat % 2 ^ 32) := by
  have hfam : famNo (Reg.PFL_PTR v) = 83 := famNo_register _ (by decide)
  have hinst : inst1 (Reg.PFL_PTR v) = v := inst1_register (by decide) (Nat.lt_trans v.isLt (by decide))
  refine ownWrite_ring (leadsTo_pflPtr v) hl (hfam ▸ by decide) ?_
  unfold ringWrite
  rw [hfam, hinst, toNat_low32]
  rfl

theorem ownWrite_sbErrPtr (hl : Lands s m Reg.SB_ERR_PTR (low32 w)) : ownWrite s m Reg.SB_ERR_PTR w = sbErrRead s (w.toNat % 2 ^ 32) := by
  have hp : leadsTo (crsOffset Reg.SB_ERR_PTR) Reg.SB_ERR_PTR 32 = true := by decide +kernel
  refine (ownWrite_ring hp hl (by decide) rfl).trans ?_
  rw [toNat_low32]

end Logs

/-! ### Poll entries (R465) -/

theorem leadsTo_sbPoll : ∀ i : Fin 256, leadsTo (crsOffset (Reg.SB_POLL i)) (Reg.SB_POLL i) 64 = true := fun i =>
  leadsTo_array (by decide +kernel) (.inr rfl) i.isLt

section Poll
variable {s : State} {w : Word}

theorem ownWrite_sbPoll {m : Master} {i : Fin 256} (hl : Lands s m (Reg.SB_POLL i) w) : ownWrite s m (Reg.SB_POLL i) w = pollWrite s i w := by
  have hfam : famNo (Reg.SB_POLL i) = 301 := famNo_register _ (by decide)
  have hinst : inst1 (Reg.SB_POLL i) = i := inst1_register (by decide) (Nat.lt_trans i.isLt (by decide))
  have hwhole : (rd s (Reg.SB_POLL i) &&& ~~~BitVec.allOnes 64) ||| (w &&& BitVec.allOnes 64) = w := by
    rw [BitVec.not_allOnes, BitVec.and_zero, BitVec.zero_or, BitVec.and_allOnes]
  obtain ⟨hwrite, hu⟩ := ownWrite_leads_64 (leadsTo_sbPoll i) hl
  refine hwrite.trans (regCommit_unit hu (hfam ▸ by decide) ?_)
  unfold unitWrite
  rw [hfam, hinst, hwhole]
  rfl

/-- An entry that is off, or that its bus can carry, is stored, and its value is not valid yet. -/
theorem pollWrite_stored {i : Nat} (h : Fld.SB_POLL_EN.get w = 0 ∨
      (busLoad s (Fld.SB_POLL_BUS.get w) i w ≤ 800000000 ∧ s.sb.legacyBus.contains (Fld.SB_POLL_BUS.get w) = false))
    (hoff : isSet s (Reg.SB_POLL i) Fld.SB_POLL_EN = false) :
    pollWrite s i w = setF (wr s (Reg.SB_POLL i) (Fld.SB_POLL_PERIOD.set (w &&& 0xDFFCFFFF00FFFFFF#64) (pollPeriod w))) (Reg.SB_POLL_VAL i)
      Fld.SB_POLL_VAL_VALID 0 := by
  refine (if_neg ?_).trans (if_neg (by simp [hoff]))
  rcases h with h | ⟨hload, hbus⟩
  · simp [h]
  · rw [hbus]
    simp [Nat.not_lt.mpr hload]

theorem pollWrite_overload {i : Nat} (hon : Fld.SB_POLL_EN.get w = 1) (hload : 800000000 < busLoad s (Fld.SB_POLL_BUS.get w) i w) :
    pollWrite s i w = setF s Reg.SB_STATUS Fld.SB_STATUS_ERR 1 := if_pos (by simp [hon, hload])

end Poll

/-- R94, R95, R158, R417, R423, R427, R464, R465. -/
theorem logAndRingRegisters : Clauses.LogAndRingRegisters := by
  intro s m w
  refine ⟨?release, ?banks, ?cometOn, ?cometOff, ?cometRd, ?smpOn, ?smpRd, ?read, ?pfl, ?sbErr, ?poll⟩
  case release =>
    intro mask hl
    obtain ⟨-, ha, hb⟩ := eclRelease_fields
    obtain ⟨hgetA, hgetB⟩ := get_eclRelease mask
    refine ⟨_, exec_effect rfl (ownWrite_eclStatus hl), ?_, ?_, (regPlain_onlyRegs ..).mem⟩
    · rw [getF_regPlain_clears (fun _ => rfl) ha, hgetA]
    · rw [getF_regPlain_clears (fun _ => rfl) hb, hgetB]
      have hlt := mask.isLt
      exact if_congr (by omega) rfl rfl
  case banks =>
    intro bank hb h13 hup hn hc
    have hwrite (v : Word) := pcWrite_lands (w := v) hb h13 hup hn hc (bank_lt bank hb)
    refine ⟨fun on => ?_, ?_⟩
    · have hfreeze : Fld.PC_CTRL_FREEZE.get (low32 (Fld.PC_CTRL_FREEZE.set 0 (b2n on))) = b2n on := by cases on <;> decide
      have hclear : Fld.PC_CTRL_CLEAR.get (low32 (Fld.PC_CTRL_FREEZE.set 0 (b2n on))) = 0 := by cases on <;> decide
      refine ⟨_, exec_effect rfl ((hwrite _).trans (pcCtrlWrite_freeze hclear)), ?_, fun i => ?_⟩
      · rw [isSet_pcFreeze, hfreeze]
        cases on <;> rfl
      · have hne := (pcCtrl_ne_pcCnt bank i).symm
        rw [rd_pcFreeze_ne _ hne, rd_regPlain_ne hne]
    · have hclear : Fld.PC_CTRL_CLEAR.get (low32 (Fld.PC_CTRL_CLEAR.set (Fld.PC_CTRL_FREEZE.set 0 (getF s (Reg.PC_CTRL bank) Fld.PC_CTRL_FREEZE)) 1)) = 1 :=
        get_low32_set _ (by decide) (by decide)
      refine ⟨_, exec_effect rfl ((hwrite _).trans (pcCtrlWrite_clear hclear)), rd_pcClear_pcCycle _, rd_pcClear_pcCnt _, getF_pcClear_ovf _, ?_⟩
      rw [isSet_pcClear_freeze, isSet_pcFreeze, get_pcClear_freeze]
  case cometOn =>
    intro hl hoff
    obtain ⟨-, hen, -⟩ := ringCtrl_fields
    refine ⟨_, exec_effect rfl (ownWrite_cometCtrl hl), ringCtrl_enabled (by decide) ?_ hoff⟩
    show (getF _ Reg.COMET_CTRL Fld.COMET_CTRL_EN != 0) = true
    rw [getF_regPlain_stores (fun _ => rfl) hen, get_low32_set _ (by decide) (by decide)]
    rfl
  case cometOff =>
    intro hl
    obtain ⟨-, hen, -⟩ := ringCtrl_fields
    have hoff : isSet (regPlain s m.id.val Reg.COMET_CTRL (low32 (Fld.COMET_CTRL_EN.set w 0)) 0xFFFFFFFF#64) Reg.COMET_CTRL Fld.COMET_CTRL_EN = false := by
      rw [isSet, getF_regPlain_stores (fun _ => rfl) hen, get_low32_set _ (by decide) (by decide)]
      rfl
    exact ⟨_, exec_effect rfl ((ownWrite_cometCtrl hl).trans (ringCtrl_disabled hoff)), hoff, rd_regPlain_ne (by decide), rd_regPlain_ne (by decide)⟩
  case cometRd => exact fun hl => exec_effect rfl (ownWrite_cometRdPtr hl)
  case smpOn =>
    intro hl hoff
    obtain ⟨-, -, -, hen, -⟩ := ringCtrl_fields
    refine ⟨_, exec_effect rfl (ownWrite_smpCtrl hl), ringCtrl_enabled (by decide) ?_ hoff⟩
    show (getF _ Reg.SMP_CTRL Fld.SMP_CTRL_EN != 0) = true
    rw [getF_regPlain_stores (fun _ => rfl) hen, get_low32_set _ (by decide) (by decide)]
    rfl
  case smpRd => exact fun hl => exec_effect rfl (ownWrite_smpRingRd hl)
  case read => exact fun r v => ⟨ringRead_frees, ringRead_outside⟩
  case pfl => exact fun v hl => exec_effect rfl (ownWrite_pflPtr hl)
  case sbErr => exact fun hl => exec_effect rfl (ownWrite_sbErrPtr hl)
  case poll =>
    exact fun i hl => ⟨fun h hoff => exec_effect rfl ((ownWrite_sbPoll hl).trans (pollWrite_stored h hoff)),
      fun hon hload => exec_effect rfl ((ownWrite_sbPoll hl).trans (pollWrite_overload hon hload))⟩

end Sys2Proof.Machine
end

section
/-!
Writes of the control registers of links and ports (O43).
-/
namespace Sys2Proof.Machine
open Sys2Proof

/-! ### CZ_CTRL and CZ_STORED of a link (R189, R194, R200) -/

theorem leadsTo_czCtrl : ∀ n : Fin 32, leadsTo (crsOffset (Reg.CZ_CTRL n)) (Reg.CZ_CTRL n) 32 = true := fun i =>
  leadsTo_array (by decide +kernel) (.inl rfl) i.isLt

theorem leadsTo_czStored : ∀ n : Fin 32, leadsTo (crsOffset (Reg.CZ_STORED n)) (Reg.CZ_STORED n) 32 = true := by decide +kernel

/-- CZ_CTRL after the offer of a written value was taken: the other fields but TRAIN_EN are stored. -/
def czOffered (s : State) (n m : Nat) (v : Word) : State :=
  offerWrite (regPlain s m (Reg.CZ_CTRL n) v
    (0xFFFFFFFF#64 &&& ~~~(Fld.CZ_CTRL_TRAIN_EN.mask ||| Fld.CZ_CTRL_OFFER_W.mask ||| Fld.CZ_CTRL_OFFER_R.mask)))
    n (Fld.CZ_CTRL_OFFER_W.get v) (Fld.CZ_CTRL_OFFER_R.get v)

section Link
variable {s : State} {m : Master} {n : Fin 32} {w : Word}

theorem ownWrite_czCtrl (hl : Lands s m (Reg.CZ_CTRL n) (low32 w)) :
    ownWrite s m (Reg.CZ_CTRL n) w = czCtrlWrite s n m.id.val (low32 w) 0xFFFFFFFF#64 := by
  have hfam : famNo (Reg.CZ_CTRL n) = 98 := famNo_register _ (by decide)
  have hinst : inst1 (Reg.CZ_CTRL n) = n := inst1_register (by decide) (Nat.lt_trans n.isLt (by decide))
  refine ownWrite_unit (leadsTo_czCtrl n) hl (hfam ▸ by decide) ?_
  unfold unitWrite
  rw [hfam, hinst]
  rfl

theorem ownWrite_czStored (hl : Lands s m (Reg.CZ_STORED n) (low32 w)) :
    ownWrite s m (Reg.CZ_STORED n) w = if Fld.CZ_STORED_CLEAR.get (low32 w) = 1 then storedClear s n else s := by
  have hfam : famNo (Reg.CZ_STORED n) = 104 := famNo_register _ (by decide)
  have hinst : inst1 (Reg.CZ_STORED n) = n := inst1_register (by decide) (Nat.lt_trans n.isLt (by decide))
  refine ownWrite_unit (leadsTo_czStored n) hl (hfam ▸ by decide) ?_
  unfold unitWrite
  rw [hfam, hinst]
  rfl

end Link

section LinkControl
variable {s : State} {n m : Nat} {v : Word}

/-- A write of the whole of CZ_CTRL: the offers, then TRAIN_EN where it changes, then RESET_REQ. -/
theorem czCtrlWrite_whole : czCtrlWrite s n m v 0xFFFFFFFF#64 =
    let on := Fld.CZ_CTRL_TRAIN_EN.get v = 1
    let was := isSet s (Reg.CZ_CTRL n) Fld.CZ_CTRL_TRAIN_EN
    let t := if on && !was then trainEnSet (czOffered s n m v) n else if !on && was then trainEnClear (czOffered s n m v) n else czOffered s n m v
    if Fld.CZ_CTRL_RESET_REQ.get v = 1 then czResetReq t n else t := by
  have hoffer : (0xFFFFFFFF#64 &&& (Fld.CZ_CTRL_OFFER_W.mask ||| Fld.CZ_CTRL_OFFER_R.mask) != 0) = true := by decide
  simp only [czCtrlWrite, hoffer, if_true]
  rfl

/-- TRAIN_EN written as it stands is neither set nor cleared. -/
theorem czCtrlWrite_trainKept (h : getF s (Reg.CZ_CTRL n) Fld.CZ_CTRL_TRAIN_EN = Fld.CZ_CTRL_TRAIN_EN.get v) :
    czCtrlWrite s n m v 0xFFFFFFFF#64 =
      if Fld.CZ_CTRL_RESET_REQ.get v = 1 then czResetReq (czOffered s n m v) n else czOffered s n m v := by
  have hbit : Fld.CZ_CTRL_TRAIN_EN.get v < 2 := Nat.mod_lt _ (by decide)
  have hwas : isSet s (Reg.CZ_CTRL n) Fld.CZ_CTRL_TRAIN_EN = decide (Fld.CZ_CTRL_TRAIN_EN.get v = 1) := by
    rw [isSet, h]
    generalize Fld.CZ_CTRL_TRAIN_EN.get v = x at hbit
    interval_cases x <;> rfl
  rw [czCtrlWrite_whole, hwas]
  simp

theorem czCtrlWrite_trainClear (h : Fld.CZ_CTRL_TRAIN_EN.get v = 0) (hwas : isSet s (Reg.CZ_CTRL n) Fld.CZ_CTRL_TRAIN_EN = true)
    (hreset : Fld.CZ_CTRL_RESET_REQ.get v = 0) : czCtrlWrite s n m v 0xFFFFFFFF#64 = trainEnClear (czOffered s n m v) n := by
  rw [czCtrlWrite_whole, h, hwas, hreset]
  rfl

theorem czCtrlWrite_trainSet (h : Fld.CZ_CTRL_TRAIN_EN.get v = 1) (hwas : isSet s (Reg.CZ_CTRL n) Fld.CZ_CTRL_TRAIN_EN = false)
    (hreset : Fld.CZ_CTRL_RESET_REQ.get v = 0) : czCtrlWrite s n m v 0xFFFFFFFF#64 = trainEnSet (czOffered s n m v) n := by
  rw [czCtrlWrite_whole, h, hwas, hreset]
  rfl

end LinkControl

/-! ### PORT_CTRL (R305, R307, R308, R309) -/

theorem leadsTo_port : ∀ p : Fin 64, leadsTo (crsOffset (Reg.PORT_CTRL p)) (Reg.PORT_CTRL p) 32 = true := by decide +kernel

theorem ownWrite_portCtrl {s : State} {m : Master} {p : Fin 64} {w : Word} (hl : Lands s m (Reg.PORT_CTRL p) (low32 w)) :
    ownWrite s m (Reg.PORT_CTRL p) w = portCtrlWrite s p (low32 w) := by
  have hfam : famNo (Reg.PORT_CTRL p) = 171 := famNo_register _ (by decide)
  have hinst : inst1 (Reg.PORT_CTRL p) = p := inst1_register (by decide) (Nat.lt_trans p.isLt (by decide))
  refine ownWrite_unit (leadsTo_port p) hl (hfam ▸ by decide) ?_
  unfold unitWrite
  rw [hfam, hinst]
  rfl

/-! PERST_FORCE leaves the other fields of PORT_CTRL: the signal goes out through the sideband bridge. -/

theorem rd_sbPush (s : State) (b : Nat) (x : SbXfer) (k : Nat) : rd (sbPush s b x) k = rd s k := by
  have hstart (t : State) : rd (sbStart t b) k = rd t k := by
    unfold sbStart
    split <;> rfl
  unfold sbPush
  dsimp only
  split
  · exact hstart _
  · rfl

theorem getF_setShadow {s t : State} {q e i n value : Nat} {f : Field} (p : Nat) (h : setShadow s q i n value = some (e, t)) :
    getF t (Reg.PORT_CTRL p) f = getF s (Reg.PORT_CTRL p) f := by
  unfold setShadow at h
  split at h
  · cases h
  next entry bit inv _ =>
    obtain ⟨rfl, rfl⟩ := Prod.mk.inj (Option.some.inj h)
    exact getF_setF_ne _ (by simp only [Reg.PORT_CTRL, Reg.SB_POLL_VAL]; omega)

theorem getF_notePerst (s : State) (q : Nat) (on : Bool) (p : Nat) (f : Field) : getF (notePerst s q on) (Reg.PORT_CTRL p) f = getF s (Reg.PORT_CTRL p) f :=
  getF_setF_ne _ (by simp only [Reg.PORT_CTRL, Reg.PORT_STATUS]; omega)

theorem getF_sigWrite (s : State) (q i n value : Nat) (counted : Bool) (p : Nat) (f : Field) :
    getF (sigWrite s q i n value counted).2 (Reg.PORT_CTRL p) f = getF s (Reg.PORT_CTRL p) f := by
  unfold sigWrite
  split
  · rfl
  next e t hset =>
    have hshadow := getF_setShadow (f := f) p hset
    show getF (sbPush _ _ _) _ _ = _
    rw [getF, rd_sbPush]
    split
    · exact (getF_notePerst ..).trans hshadow
    · exact hshadow

theorem getF_perstForce (s : State) (p : Nat) (on : Bool) :
    getF (perstForce s p on) (Reg.PORT_CTRL p) Fld.PORT_CTRL_DISABLE = getF s (Reg.PORT_CTRL p) Fld.PORT_CTRL_DISABLE := by
  have hforced : getF (setF s (Reg.PORT_CTRL p) Fld.PORT_CTRL_PERST_FORCE (b2n on)) (Reg.PORT_CTRL p) Fld.PORT_CTRL_DISABLE =
      getF s (Reg.PORT_CTRL p) Fld.PORT_CTRL_DISABLE := getF_setF_disjoint _ _ _ (by decide)
  unfold perstForce
  dsimp only
  split
  · exact (getF_sigWrite ..).trans hforced
  · unfold perstRelease
    split
    · exact (getF_sigWrite ..).trans hforced
    · exact hforced

section PortControl
variable {s : State} {p : Nat} {v : Word} (hdis : getF s (Reg.PORT_CTRL p) Fld.PORT_CTRL_DISABLE = Fld.PORT_CTRL_DISABLE.get v)

section Kept
variable (hforce : getF s (Reg.PORT_CTRL p) Fld.PORT_CTRL_PERST_FORCE = Fld.PORT_CTRL_PERST_FORCE.get v)
include hdis hforce

theorem portCtrlWrite_retrain (hrel : Fld.PORT_CTRL_RELEASE.get v = 0) (h : Fld.PORT_CTRL_RETRAIN.get v = 1) : portCtrlWrite s p v = retrain s p := by
  simp [portCtrlWrite, hforce, hdis, hrel, h]

theorem portCtrlWrite_release (hret : Fld.PORT_CTRL_RETRAIN.get v = 0) (h : Fld.PORT_CTRL_RELEASE.get v = 1) :
    portCtrlWrite s p v = portRelease s p := by simp [portCtrlWrite, hforce, hdis, hret, h]

end Kept

section Alone
variable (hrel : Fld.PORT_CTRL_RELEASE.get v = 0) (hret : Fld.PORT_CTRL_RETRAIN.get v = 0)
include hrel hret

include hdis in
theorem portCtrlWrite_force (h : getF s (Reg.PORT_CTRL p) Fld.PORT_CTRL_PERST_FORCE ≠ Fld.PORT_CTRL_PERST_FORCE.get v) :
    portCtrlWrite s p v = perstForce s p (Fld.PORT_CTRL_PERST_FORCE.get v == 1) := by
  have hdis' := (getF_perstForce s p (Fld.PORT_CTRL_PERST_FORCE.get v == 1)).trans hdis
  simp [portCtrlWrite, h, hdis', hrel, hret]

theorem portCtrlWrite_disable (hforce : getF s (Reg.PORT_CTRL p) Fld.PORT_CTRL_PERST_FORCE = Fld.PORT_CTRL_PERST_FORCE.get v)
    (h : getF s (Reg.PORT_CTRL p) Fld.PORT_CTRL_DISABLE ≠ Fld.PORT_CTRL_DISABLE.get v) :
    portCtrlWrite s p v = setDisable s p (Fld.PORT_CTRL_DISABLE.get v == 1) := by
  simp [portCtrlWrite, hforce, h, hrel, hret]

end Alone
end PortControl

/-- R189, R194, R200, R305, R307, R308, R309. -/
theorem linkAndPortRegisters : Clauses.LinkAndPortRegisters := by
  refine fun s m w => ⟨fun n => ⟨?reset, ?clear, ?set, ?offer, ?stored⟩, fun p => ⟨?retrain, ?release, ?force, ?disable⟩⟩
  case reset =>
    intro v hl hkept
    have hreset : Fld.CZ_CTRL_RESET_REQ.get v = 1 := get_low32_set _ (by decide) (by decide)
    exact exec_effect rfl ((ownWrite_czCtrl hl).trans ((czCtrlWrite_trainKept hkept).trans (if_pos hreset)))
  case clear =>
    exact fun hl hreset hwas =>
      exec_effect rfl ((ownWrite_czCtrl hl).trans (czCtrlWrite_trainClear (get_low32_set _ (by decide) (by decide)) hwas hreset))
  case set =>
    exact fun hl hreset hwas =>
      exec_effect rfl ((ownWrite_czCtrl hl).trans (czCtrlWrite_trainSet (get_low32_set _ (by decide) (by decide)) hwas hreset))
  case offer =>
    exact fun hl hreset hkept =>
      exec_effect rfl ((ownWrite_czCtrl hl).trans ((czCtrlWrite_trainKept hkept).trans (if_neg (by rw [hreset]; decide))))
  case stored =>
    exact fun hl => exec_effect rfl ((ownWrite_czStored hl).trans (if_pos (get_low32_set _ (by decide) (by decide))))
  case retrain =>
    intro v hl ⟨hforce, hdis⟩ hrel
    exact exec_effect rfl ((ownWrite_portCtrl hl).trans (portCtrlWrite_retrain hdis hforce hrel (get_low32_set _ (by decide) (by decide))))
  case release =>
    intro v hl ⟨hforce, hdis⟩ hret
    exact exec_effect rfl ((ownWrite_portCtrl hl).trans (portCtrlWrite_release hdis hforce hret (get_low32_set _ (by decide) (by decide))))
  case force =>
    intro v hl hdis h
    have hrel : Fld.PORT_CTRL_RELEASE.get v = 0 := get_low32_set _ (by decide) (by decide)
    have hret : Fld.PORT_CTRL_RETRAIN.get v = 0 := by
      rw [get_low32 _ (by decide), Field.get_set_disjoint _ _ (by decide), Field.get_set_self _ _ (by decide), Nat.zero_mod]
    exact exec_effect rfl ((ownWrite_portCtrl hl).trans (portCtrlWrite_force hdis hrel hret h))
  case disable =>
    exact fun hl hforce h hrel hret => exec_effect rfl ((ownWrite_portCtrl hl).trans (portCtrlWrite_disable hrel hret hforce h))

/-- Settles O43: what a write of each control register does follows from the rule that takes it (`logAndRingRegisters`, `linkAndPortRegisters`). -/
theorem controlRegisters : Obligations.ControlRegisters := ⟨logAndRingRegisters, linkAndPortRegisters⟩

end Sys2Proof.Machine
end
